-- ==== Sys2Proof/Word.lean ====
section
/-! DEFINITION. The word types of the Rangar and the one shape in which its numbered items are held. -/

namespace Sys2Proof

/-- A register word: R5 of 00_scope gives every register 24 bits. -/
abbrev Word := BitVec 24

/-- A byte of a packet, a buffer or a flash. -/
abbrev Byte := BitVec 8

/-- A 32-bit word as a PCIe write carries it. -/
abbrev Word32 := BitVec 32

/-- A sparse table of numbered items: pairs of a number and a value, the numbers strictly rising.
What a number that is not listed holds is said by whoever reads the table. -/
abbrev Tab (α : Type) := List (Nat × α)

end Sys2Proof
end

