-- ==== Sys2Proof/Syntax.lean ====
section
/-! DEFINITION. The commands the Rangar takes and the events that reach it, with their operands. -/

namespace Sys2Proof

/-- A consumer of configuration (R49): a bar's line pacer with the raster path that feeds it, by 2 x die + pacer; the camera of
a die; or a block of a die by its number in the die view (R31), package blocks standing with D0. -/
inductive Consumer
  | bar (p : Nat)
  | cam (d : Nat)
  | block (d blk : Nat)
  deriving DecidableEq, Repr

/-- A block, or a numbered one within a block, that is switched on and off under R36. -/
inductive Block
  | spw (d : Nat) | tkl (d : Nat) | ring (q : Nat) | zip (d : Nat) | ras (p : Nat) | lnp (p : Nat) | lan (g : Nat)
  | cam (d : Nat) | mot (a : Nat) | fbk (f : Nat) | emu (x : Nat) | led (c : Nat) | eng (e : Nat) | trg (k : Nat)
  | hlth | cal | disp
  deriving DecidableEq, Repr

/-- What a received Ethernet frame carries (R198): an ARP request for an IPv4 address, an ICMP echo request, or anything else.
`mac` and `ip` are the sender's. -/
inductive FrameBody
  | arp (mac ip target : Nat)
  | echo (mac ip target : Nat) (data : List Nat)
  | other
  deriving DecidableEq, Repr

/-- A LINE frame of the head link (R348, R349): the lane position whose slots it carries, CODE, TICKLE, the die line, the delay of
row 1, the drive voltage, and the slots whose value is not 0. -/
structure LineFrame where
  lane : Nat
  code : Nat
  tickle : Bool
  line : Nat
  row1 : Nat
  volt : Nat
  slots : List (Nat × Nat)
  deriving DecidableEq, Repr

/-- An operand and the SENSE time of the command. -/
structure Timed (α : Type) where
  val : α
  t : Nat
  deriving DecidableEq, Repr

/-- A level that a feedback input accepts (R289): the SENSE time, and the FIRE clock at which the level first appeared. -/
structure Accepted where
  t : Nat
  stamp : Nat
  deriving DecidableEq, Repr

/-- A stall of a compressor unit that ends at a SENSE time (R248, R250): that of a full chain, or (`busy`) one because the SDRAM write path
took nothing. -/
structure Stall where
  unit : Nat
  busy : Bool
  t : Nat
  deriving DecidableEq, Repr

/-- The characters of a set as an adapter receives them on a physical lane (R349, R359). -/
structure LaneSet where
  phys : Nat
  chars : List Nat
  deriving DecidableEq, Repr

/-- An uncorrectable read (R463): its die address, and the compressor unit that reads its input there, if one does (R244). -/
structure UncRead where
  addr : Nat
  comp : Option Nat
  deriving DecidableEq, Repr

/-- A Sync of a master (R495, R497): its domain, the identity of the port that sent it, and its origin time in ns. -/
structure PtpSync where
  domain : Nat
  port : Nat
  origin : Nat
  deriving DecidableEq, Repr

/-- The fields of a Sync fit their widths. -/
def PtpSync.formed (m : PtpSync) : Bool := decide (m.domain < 128 ∧ m.port < 2 ^ 80 ∧ m.origin < 2 ^ 64)

/-- A Delay_Resp of a master (R495): its domain, the identity of the port that sent it, the time base that the Delay_Req's claim latched,
and the time at which the master received that request. -/
structure PtpDelay where
  domain : Nat
  port : Nat
  latched : Nat
  received : Nat
  deriving DecidableEq, Repr

/-- The fields of a Delay_Resp fit their widths. -/
def PtpDelay.formed (m : PtpDelay) : Bool := decide (m.domain < 128 ∧ m.port < 2 ^ 80 ∧ m.latched < 2 ^ 64 ∧ m.received < 2 ^ 64)

/-- What the request classes of a die's SDRAM asked for over the last millisecond (R458, R459), in 0.01 GB/s, and the RT requests that were
served after their deadline. -/
structure MemLoad where
  rt : Nat
  maint : Nat
  zip : Nat
  bulk : Nat
  late : Nat
  deriving DecidableEq, Repr

/-- What an Announce message tells (R495, R499): its domain, the identity of the port that sent it, the identity of the grandmaster, what the
default algorithm compares, the steps to the grandmaster, and the announce interval in microseconds. -/
structure PtpAnnounce where
  domain : Nat
  port : Nat
  gm : Nat
  prio1 : Nat
  clockClass : Nat
  accuracy : Nat
  variance : Nat
  prio2 : Nat
  steps : Nat
  interval : Nat
  deriving DecidableEq, Repr

/-- The fields of an Announce fit their widths. -/
def PtpAnnounce.formed (m : PtpAnnounce) : Bool :=
  decide (m.domain < 128 ∧ m.port < 2 ^ 80 ∧ m.gm < 2 ^ 64 ∧ m.prio1 < 256 ∧ m.clockClass < 256 ∧ m.accuracy < 256 ∧ m.variance < 65536 ∧
    m.prio2 < 256 ∧ m.steps < 65536 ∧ 0 < m.interval)

/-- A PCIe request that no other row carries (R151, R152, R154, R156): a 4-byte read or write of BAR4, a write of MSI-X message control (enable,
function mask), of device control (max payload size, ECRC generation and checking), of the power state (D3hot or D0), and an AtomicOp. -/
inductive PcieRequest
  | bar4Read
  | bar4Write (value : Nat)
  | msixControl (enable mask : Bool)
  | device (payload : Nat) (gen check : Bool)
  | power (d3hot : Bool)
  | atomicOp (bar : Nat)
  deriving DecidableEq, Repr

/-- BAR4 holds 8 KiB in aligned words; the max payload size is 128, 256 or 512 B (R151, R152). -/
def PcieRequest.formed (offset : Nat) : PcieRequest → Bool
  | .bar4Read => decide (offset < 0x2000 ∧ offset % 4 = 0)
  | .bar4Write value => decide (offset < 0x2000 ∧ offset % 4 = 0 ∧ value < 2 ^ 32)
  | .device payload _ _ => decide (payload = 128 ∨ payload = 256 ∨ payload = 512)
  | .atomicOp bar => decide (bar = 0 ∨ bar = 2 ∨ bar = 4)
  | _ => true

/-- The commands and events of the Rangar: one constructor for each row of the table of commands (opcode_table.json). -/
inductive Instr
  /-- R10 REGISTER_WRITE: A BAR0 write to a register that has no row of its own sets RW fields, clears W1C bits or is discarded. -/
  | registerWrite (a : Nat) (whole : Bool) (slot : Word32)
  /-- R7 PAIR_LOW_READ: A read of the low word of a pair latches the higher words, so that the following reads return the latched value. -/
  | pairLowRead (a : Nat)
  /-- R10 RC_READ: A read of an RC field returns its value and clears it, except in the SNAPSHOT view. -/
  | rcRead (a : Nat) (len : Nat)
  /-- R645 RATE_WINDOW_END: A one-second rate window closes and one event is recorded with the first item and the count of occurrences. -/
  | rateWindowEnd (code : Nat) (key : Timed Nat)
  /-- R362 EPISODE_QUIET_END: The quiet time that ends an episode expires, and the next occurrence may record the event again. -/
  | episodeQuietEnd (code : Nat) (key : Timed Nat)
  /-- R38 EN_WRITE: An EN request, written in the package view or applied at a commit's epoch, moves a block through the transitions of R38. -/
  | enWrite (b : Block) (en : Bool)
  /-- R38 START_COMPLETE: A block's start completes; the block goes ON, or to STOPPING when PEND_DIS is set. -/
  | startComplete (b : Block) (found : List Nat) (t : Nat)
  /-- R39 START_BOUND_EXCEEDED: A start that has not completed within its bound fails: START_FAIL is set and the block returns to OFF. -/
  | startBoundExceeded (b : Block) (t : Nat)
  /-- R38 SHUTDOWN_COMPLETE: A shut-down and its flush complete; the block goes OFF, or starts again when PEND_EN is set. -/
  | shutdownComplete (b : Block) (t : Nat)
  /-- R38 STOP_BOUND_EXCEEDED: A stop exceeds its bound: unflushed data are discarded, STOP_TIMEOUT is set and event xxF1 is recorded. -/
  | stopBoundExceeded (b : Block) (t : Nat)
  /-- R24 FIRE_CLOCK_LOST: SENSE finds the die's FIRE clock absent for 100 ns, forces all strobes low, sends NOFIRE and records 0x0803. -/
  | fireClockLost (d : Nat) (t : Nat)
  /-- R42 IAREOD_LANE_FAIL: An Iareod lane fails; the port substitutes a spare and retrains, or drops to 16 lanes. -/
  | iareodLaneFail (d : Nat) (p : Nat) (lane : Nat) (replays : Nat) (t : Nat)
  /-- R48 EPOCH_ZERO: A write of the key to EPOCH_ZERO zeroes the line number on every die when its conditions hold. -/
  | epochZero (key : Word)
  /-- R51 STAGED_WRITE: A write to an ST field stages the value in the staging buffer of the field's die. -/
  | stagedWrite (a : Nat) (w : Word)
  /-- R54 EPOCH_COMMIT: A write to EPOCH_COMMIT captures the staged writes as a commit with the next ID, or rejects it. -/
  | epochCommit (safe : Bool) (snap : Bool)
  /-- R55 COMMIT_APPLY: A consumer reaches a commit's apply line or its safe point and applies the commit's fields. -/
  | commitApply (id : Nat) (k : Consumer) (print : Bool) (t : Nat)
  /-- R64 COMMIT_COMPLETE: Once every consumer has applied a commit, its completion record is posted, EPOCH_LAST is updated and source 16 is raised. -/
  | commitComplete (id : Nat) (t : Nat)
  /-- R63 EPOCH_CANCEL: A write of an ID to EPOCH_CANCEL cancels that commit if no consumer has applied it yet. -/
  | epochCancel (id : Nat)
  /-- R70 SNAP_REQ: A SNAP_REQ write arms a snapshot at line S, or for NOW at the package line plus 2. -/
  | snapReq (now : Bool)
  /-- R70 SNAPSHOT_LATCH: A die crosses the snapshot line and latches its status fields and its effective fields. -/
  | snapshotLatch (d : Nat) (t : Nat)
  /-- R73 SNAPSHOT_TIMED: At standstill, every die latches 10 µs after the request; TIMED is set and 0x0244 is recorded. -/
  | snapshotTimed (t : Nat)
  /-- R74 ENC_ROUND_OPEN: D0's WEB count crosses a multiple of 4,096, and D0 broadcasts a latch instant 2 µs later. -/
  | encRoundOpen (t : Nat)
  /-- R74 ENC_ROUND_LATCH: At the latch instant, every die latches its WEB count and reports it to D0. -/
  | encRoundLatch (silent : List Nat) (t : Nat)
  /-- R75 ENC_ROUND_JUDGE: D0 takes the median of the reported counts and corrects the dies in the minority. -/
  | encRoundJudge (t : Nat)
  /-- R79 ENC_ROUND_DEADLINE: The 20 µs report window of a round ends without a die's report. -/
  | encRoundDeadline (t : Nat)
  /-- R107 STRUCT_LOAD: The authenticated STRUCT_LOAD command is judged and opens its source for a full load or an overlay. -/
  | structLoad
  /-- R116 STRUCT_FIFO_WRITE: A write to STRUCT_FIFO passes an image word to a SRC 0 load, or is discarded and counted outside RECEIVING. -/
  | structFifoWrite (w : Word)
  /-- R110 IMAGE_WORD_RECEIVED: An image word arrives from its source; it is checked and written into the inactive bank, and after LENGTH words the tag is checked. -/
  | imageWordReceived (t : Nat)
  /-- R118 STRUCT_VERIFY_DONE: Verification of the tag and the signatures ends, and the loader activates, stores, captures an overlay commit or rejects. -/
  | structVerifyDone (t : Nat)
  /-- R111 STRUCT_BANKS_SWITCHED: All dies make the new bank active; the SI fields are set, staged writes are discarded and 0x0201 is recorded. -/
  | structBanksSwitched (t : Nat)
  /-- R109 STRUCT_STORE_DONE: Writing the image to an event flash slot ends; success records 0x0204, and a failure rejects with FLASH. -/
  | structStoreDone (written : Bool) (t : Nat)
  /-- R116 STRUCT_FIFO_TIMEOUT: A STRUCT_FIFO load that receives no word for 1 s is abandoned with TIMEOUT. -/
  | structFifoTimeout (t : Nat)
  /-- R125 RESET_ASSERT: RESET_N asserts; outputs take their reset states, and staged writes, commits, banks and buffers are discarded. -/
  | resetAssert (t : Nat)
  /-- R123 RAIL_FAULT: A rail falls below 90 % while RESET_N is high and resets the Rangar. -/
  | railFault (t : Nat)
  /-- R127 RESET_RELEASE: RESET_N rises; the ROM step, port training and die census begin, and the power-cycle count increments. -/
  | resetRelease (t : Nat)
  /-- R127 DIE_CENSUS_DONE: Port training and the die census end, and reading of the OTP key slots and the boot block begins. -/
  | dieCensusDone (failed : List Nat) (t : Nat)
  /-- R135 BOOT_FLASH_READ_DONE: The key slots, counter marks and boot block have been read from event flash. -/
  | bootFlashReadDone (bad : List Nat) (t : Nat)
  /-- R134 SPEEDWELL_ENTRY: Speedwell service begins: head identity reads, tickle if enabled, and the automatic structure load when AUTO_LOAD is 1. -/
  | speedwellEntry (t : Nat)
  /-- R128 SDRAM_TRAINING_DONE: SDRAM training of a die ends at the OP set-point, and ECC initialisation begins. -/
  | sdramTrainingDone (d : Nat) (trained : Nat) (failed : List Nat) (stale : List Nat) (t : Nat)
  /-- R129 ECC_INIT_DONE: ECC initialisation of every rank of a die completes, and the die reaches INIT. -/
  | eccInitDone (d : Nat) (bad : List Nat) (t : Nat)
  /-- R127 FIRE_COUNT_RESTORE_DONE: The per-nozzle fire counts are restored from event flash, and the boot agreement round opens. -/
  | fireCountRestoreDone (ok : Bool) (t : Nat)
  /-- R131 BOOT_AGREE_RETRY: A boot agreement round that is incomplete is repeated every 10 ms, up to five rounds. -/
  | bootAgreeRetry (t : Nat)
  /-- R132 FULL_SERVICE: Every boot step has ended: the line number is zeroed, STAGE becomes FULL, the blocks start, source 20 is raised and 0x0102 is recorded. -/
  | fullService (t : Nat)
  /-- R146 BOOT_RETRY: BOOT_CTL.RETRY repeats the failed boot step and every later step without a reset. -/
  | bootRetry
  /-- R148 BOOT_RESUME: BOOT_CTL.RESUME, accepted after PWR_WARN has been low for 10 ms, clears HELD and records 0x010E. -/
  | bootResume
  /-- R136 BOOT_BB_SAVE: BOOT_BB_CTL.SAVE checks the boot block and starts writing copy B and then copy A, or sets BB_ERR. -/
  | bootBbSave
  /-- R136 BOOT_BB_SAVE_DONE: Writing of both boot block copies completes. -/
  | bootBbSaveDone (t : Nat)
  /-- R138 TICKLE_BURST: Every TKL_INTERVAL, Speedwell tickle sends TKL_LINES lines from the tickle store to the identified groups. -/
  | tickleBurst (d : Nat) (f : Nat)
  /-- R139 SPEEDWELL_LINE: The Speedwell ratchet triggers a line, and the die sends line i mod SPW_LEN of the page store, or NOFIRE. -/
  | speedwellLine (d : Nat) (f : Nat)
  /-- R140 SPW_DATA_ACCESS: An SPW_DATA access reads or writes a 16-bit store unit and advances SPW_ADDR. -/
  | spwDataAccess (write : Bool) (w : Word)
  /-- R147 PWR_WARN_ASSERT: PWR_WARN asserts: bars fence, axes stop, the open record closes, loads are abandoned and persistence begins. -/
  | pwrWarnAssert (t : Nat)
  /-- R147 POWER_DOWN: The power-down steps end: PWR_SAFE asserts, PD_DONE is set and 0x010D is recorded. -/
  | powerDown (t : Nat)
  /-- R148 PWR_WARN_DEASSERT: PWR_WARN deasserts before power is lost, and the Rangar stays held with HELD set. -/
  | pwrWarnDeassert (t : Nat)
  /-- R149 BOOT_RESET: A write of the key to BOOT_RESET runs the power-down steps, records 0x010F and resets every die. -/
  | bootReset (w : Word)
  /-- R154 PCIE_RESET: A PCIe FLR, hot reset, link down or D3hot entry resets only the configuration space and the MSI-X table. -/
  | pcieReset
  /-- R156 BAR2_WRITE: A BAR2 write is applied to HOST-owned buffers, judged per 4-byte unit, and is otherwise discarded and counted. -/
  | bar2Write (addr : Nat) (data : List (Option Byte))
  /-- R163 BAR2_READ: A BAR2 read returns buffer data, 0 for unbacked or undefined areas, or a poisoned TLP. -/
  | bar2Read (addr : Nat) (len : Nat) (poisoned : Bool)
  /-- R161 WIN_DEFINE: WIN_CMD DEFINE gives an UNDEF buffer a range and a new generation and makes it HOST. -/
  | winDefine (i : Nat)
  /-- R161 WIN_GIVE: WIN_CMD GIVE passes a HOST buffer of the current generation to DEVICE. -/
  | winGive (i : Nat) (gen : Nat)
  /-- R161 WIN_RECLAIM: WIN_CMD RECLAIM moves a DEVICE buffer to RECLAIMING. -/
  | winReclaim (i : Nat) (gen : Nat)
  /-- R161 WIN_UNDEFINE: WIN_CMD UNDEFINE returns a HOST buffer to UNDEF. -/
  | winUndefine (i : Nat) (gen : Nat)
  /-- R161 WIN_BAD_OP: A window operation code other than 1–4 ends with BAD_OP. -/
  | winBadOp (i : Nat) (op : Nat)
  /-- R162 GIVE_EFFECTIVE: A GIVE takes effect at the home die once the earlier BAR2 writes to the buffer have reached SDRAM. -/
  | giveEffective (i : Nat)
  /-- R164 BUFFER_RELEASE: A buffer's release point is reached; it returns to HOST with a new generation and a release record. -/
  | bufferRelease
  /-- R164 RELEASE_SCAN: Within 100 µs of a RECLAIM, the release scan releases an unreferenced DEVICE buffer. -/
  | releaseScan
  /-- R174 DOORBELL: A write to QUE_DB_n moves the host's producer or consumer index, or is refused as DB_ERR. -/
  | doorbell (q : Nat) (v : Nat)
  /-- R175 RING_ENTRY_READ: The Rangar reads a host-to-device entry in one operation and acts on it according to its kind. -/
  | ringEntryRead (q : Nat)
  /-- R176 NOP: A NOP entry is answered with DONE once every earlier entry of the ring has been answered. -/
  | nop (q : Nat)
  /-- R179 RECORD_POST: A device-to-host record is written into its ring, or held in the reserve, or dropped and counted in LOST. -/
  | recordPost
  /-- R186 AUTH_SUBMIT: AUTH_SUBMIT copies the envelope, checks it in order and posts an AUTH_RESULT record. -/
  | authSubmit (t : Nat)
  /-- R189 AUTH_LOCK_END: The 1 s lock of AUTH ends. -/
  | authLockEnd
  /-- R188 AUTH_HWM_WRITTEN: The new stored mark has been written to both copies, and AUTH acts on the command. -/
  | authHwmWritten
  /-- R195 KEY_ROTATE: KEY_ROTATE unwraps a new key, burns it into the next generation of the target slot and records 0x0305. -/
  | keyRotate
  /-- R196 FACTORY_RESET: FACTORY_RESET erases the structure slots, boot block and training results and then resets the package. -/
  | factoryReset
  /-- R191 MARK_SET: MARK_SET writes new counter marks for every K-slot, clears HWM_BAD and records 0x0307. -/
  | markSet (written : Bool)
  /-- R336 HEAD_LIMITS: HEAD_LIMITS stores new drive voltage limits for a head or for every head, and records 0x080F. -/
  | headLimits (written : Bool)
  /-- R199 MGMT_READ: A UDP READ request returns BAR0 words of the permitted blocks, or REFUSED or RATE. -/
  | mgmtRead (seq : Nat) (off : Nat) (count : Nat)
  /-- R199 MGMT_ENVELOPE: A UDP ENVELOPE request submits an envelope with SOURCE 1 and replies with the AUTH_RESULT words. -/
  | mgmtEnvelope (seq : Nat) (slots : List Nat)
  /-- R33 ETH_LINK_DOWN: LINK falls while ETH_EN is 1, and 0x1007 is recorded. -/
  | ethLinkDown (t : Nat)
  /-- R33 ETH_LINK_UP: LINK rises, and 0x1008 is recorded. -/
  | ethLinkUp (t : Nat)
  /-- R209 CTX_LOAD: CTX_LOAD checks the context and buffer and begins validation of the context block. -/
  | ctxLoad (q : Nat)
  /-- R209 CTX_VALIDATED: Validation ends; the context becomes READY with 0x0501, or FREE with its buffer released and 0x0506. -/
  | ctxValidated (j : Nat) (noMem : Option Nat)
  /-- R212 CTX_ARM: CTX_ARM captures the job's apply-line commit at its start line, answers with S_J and records 0x0502. -/
  | ctxArm (q : Nat)
  /-- R215 CTX_STOP: CTX_STOP captures a commit that sets the job's end line. -/
  | ctxStop (q : Nat)
  /-- R211 CTX_UNLOAD: CTX_UNLOAD releases a READY context's buffer and frees the context. -/
  | ctxUnload (q : Nat)
  /-- R217 JOB_RETIRED: The package line reaches E + D_max; the context buffer, rings and page slots are released and 0x0505 is recorded. -/
  | jobRetired (j : Nat)
  /-- R222 PAGE_DESCRIPTOR: A page descriptor read from a STREAM ring is checked and queued for its bar's pages. -/
  | pageDescriptor (q : Nat)
  /-- R224 PAGE_DONE: After its last page has been fired or replaced on the bar, the descriptor's DONE record is posted. -/
  | pageDone (q : Nat)
  /-- R238 PAGE_STREAM_START: A page stream takes the lowest idle decompressor once its descriptor passes and the filling slot is free, and its header is checked. -/
  | pageStreamStart (q : Nat)
  /-- R238 WORK_STREAM_START: A waiting WORK stream takes an idle unit when fewer than WORK_MAX units are on WORK. -/
  | workStreamStart (d : Nat)
  /-- R241 STAGING_SPACE: Space appears in a suspended unit's staging buffer, and the unit resumes decoding. -/
  | stagingSpace (d : Nat) (u : Nat)
  /-- R240 STAGING_WRITTEN: Staged output reaches SDRAM, and the page lines whose bytes are complete count as produced. -/
  | stagingWritten (d : Nat) (u : Nat) (dec : Nat) (n : Nat)
  /-- R236 DECOMP_STREAM_ERROR: Decoding finds a stream error, exceeds OUT_SIZE or reads uncorrectable input, and aborts the stream. -/
  | decompStreamError (d : Nat) (u : Nat) (ecc : Bool)
  /-- R240 DECOMP_STREAM_END: The final block ends; the size, trailing bytes and CRC are checked, and the stream finishes or aborts. -/
  | decompStreamEnd (d : Nat) (u : Nat)
  /-- R252 WORK_DECOMP: A DECOMP WORK entry queues the expansion of a packet into an output buffer. -/
  | workDecomp (q : Nat)
  /-- R252 WORK_COMP: A COMP WORK entry starts a compression of an input range at a level. -/
  | workComp (q : Nat)
  /-- R252 WORK_COMP_MORE: A COMP_MORE entry adds the next output buffer to an open compression's chain. -/
  | workCompMore (q : Nat)
  /-- R251 PRODUCER_COMPRESS_START: A compressor unit takes its next waiting work from the Rangar's producers or from a WORK ring. -/
  | producerCompressStart (d : Nat) (u : Nat)
  /-- R248 COMP_OUTPUT_SPACE: Output space appears for a stalled compressor; the held element is written and the search resumes. -/
  | compOutputSpace (d : Nat) (u : Nat)
  /-- R250 COMP_STALL_TIMEOUT: A compressor stall lasting STALL_TO aborts the compression with OUT_FULL. -/
  | compStallTimeout (d : Nat) (u : Stall)
  /-- R247 COMP_CLOSE: A compression ends; the packet header is written and the buffer chain is released. -/
  | compClose (d : Nat) (u : Nat)
  /-- R264 RAS_LINE_BEGIN: A pacer's raster pipeline begins substrate line L and writes its delay-line record. -/
  | rasLineBegin (p : Nat) (t : Nat)
  /-- R267 RAS_NZ_DATA_ACCESS: A RAS_NZ_DATA access reads an entry of the selected view, or stages one, and advances the address. -/
  | rasNzDataAccess (d : Nat) (data : Option Word)
  /-- R289 FBK_EDGE: A filtered level change is accepted on a feedback input, updating the count, the speed history and every consumer of the count. -/
  | fbkEdge (f : Nat) (a : Bool) (b : Bool) (t : Nat) (stamp : Nat)
  /-- R288 Z_EDGE: A filtered rising edge of Z latches the position into FBK_IDX and, with ZMODE 2, zeroes an F input. -/
  | zEdge (f : Nat) (t : Accepted)
  /-- R294 STANDSTILL_TIMEOUT: No edge for STILL_TO sets STILL and a speed of 0, and empties the stamp history. -/
  | standstillTimeout (f : Nat) (t : Nat)
  /-- R297 LOS_SET: Amplitude below threshold for 1 µs sets LOS, records 0x0D02 and raises source 28. -/
  | losSet (f : Nat) (t : Nat)
  /-- R297 LOS_CLEAR: Amplitude above threshold for 1 ms clears LOS and records 0x0D03. -/
  | losClear (f : Nat) (t : Nat)
  /-- R299 EMU_EMIT: An encoder-emulation output emits one count of its backlog after GAP × 5 ns. -/
  | emuEmit (x : Nat) (t : Nat)
  /-- R320 LINE_TRIGGER: The trigger of die line F steps the band, reads the record of F and starts the group's frame. -/
  | lineTrigger (g : Nat) (f : Nat) (sof : Nat) (bad : List Nat)
  /-- R315 STROBE_FIRE: A group's strobe reaches its placed instant and fires, or is withheld when its frame is late or FLOOR is broken. -/
  | strobeFire (g : Nat) (f : Nat)
  /-- R315 STROBE_WITHDRAW: With no edge for 2 × T1, a pending strobe is withdrawn and placed again at the next edge. -/
  | strobeWithdraw (g : Nat) (f : Nat)
  /-- R328 REJECT_SPAN_START: The package line reaches S + REJ_DELAY of a pending span, and the reject output goes high. -/
  | rejectSpanStart
  /-- R328 REJECT_SPAN_END: The package line passes E + REJ_DELAY + REJ_EXT, and the reject output falls. -/
  | rejectSpanEnd
  /-- R331 STROBE_CUT: A pulse longer than 1.1 PMAX_eff is cut by the watchdog, the group is fenced and 0x0807 is recorded. -/
  | strobeCut (g : Nat) (width : Nat)
  /-- R331 STROBE_STUCK: A strobe ball high for 100 ns while driven low fences the group and records 0x0808. -/
  | strobeStuck (g : Nat)
  /-- R331 PERIOD_GUARD: Leading edges closer than FLOOR cut the second pulse, fence the group and record 0x0809. -/
  | periodGuard (g : Nat) (interval : Nat)
  /-- R334 GROUP_FAULT_CLEAR: A write of 1 to FAULT returns a FENCED group to FIRING, or records 0x0808 again when the ball is still stuck. -/
  | groupFaultClear (g : Nat) (high : Bool)
  /-- R337 PACER_TICKLE: A FIRING group that has been idle for TKL_IDLE sends a tickle burst. -/
  | pacerTickle (g : Nat) (f : Nat)
  /-- R355 LINK_RETRY_TIMER: A group in OFF starts K at its rate set on start or after the 1 ms retry timer, entering CLOCK. -/
  | linkRetryTimer (g : Nat) (t : Nat)
  /-- R355 CLOCK_SETTLED: After 20 µs in CLOCK, TRAIN sets go out on all nine data lanes. -/
  | clockSettled (g : Nat) (t : Nat)
  /-- R355 TRAINED_RECEIVED: A TRAINED packet covering the lanes in service moves the link to IDENT and sends the identity READ. -/
  | trainedReceived (g : Nat) (aligned : Nat) (rate : Nat) (t : Nat)
  /-- R355 TRAIN_TIMEOUT: 500 µs in TRAIN without a full TRAINED returns the link to OFF with the retry timer. -/
  | trainTimeout (g : Nat) (t : Nat)
  /-- R353 MEMDATA_RECEIVED: A MEMDATA packet answers an identity or host memory read. -/
  | memdataReceived (g : Nat) (addr : Nat) (data : List Byte) (t : Nat)
  /-- R355 IDENT_TIMEOUT: No MEMDATA within 200 µs three times, or an invalid record, leaves the link UP with IDV 0 and records 0x0904. -/
  | identTimeout (g : Nat) (t : Nat)
  /-- R355 IDENT_REREAD: Every 100 ms, a group UP without identity reads the identity again. -/
  | identReread (g : Nat) (t : Nat)
  /-- R353 STATUS_RECEIVED: An adapter STATUS packet updates temperatures, epochs and lane error counts. -/
  | statusReceived (g : Nat) (st : Nat) (flags : Nat) (headT : Int) (adaptT : Int) (epoch : Nat) (lcrc : List Nat) (t : Nat)
  /-- R355 STATUS_TIMEOUT: No valid STATUS for 1 ms takes the link down, clears IDV and records 0x0902. -/
  | statusTimeout (g : Nat) (t : Nat)
  /-- R355 RETURN_CODE_VIOLATIONS: Eight code violations on U within 1,000 characters take the link down. -/
  | returnCodeViolations (g : Nat) (n : Timed Nat)
  /-- R353 RETURN_PACKET_BAD: A return packet with a code violation or wrong CRC is discarded and counted in LAN_RERR. -/
  | returnPacketBad (g : Nat)
  /-- R352 ACTIVE_SEND: An ACTIVE set goes out on every data lane at least once every 64 µs, in a permitted slot. -/
  | activeSend (g : Nat) (t : Nat)
  /-- R366 MEM_READ: LAN_MRD_CTL GO sends a READ of adapter memory to the named group. -/
  | memRead (d : Nat) (count : Nat)
  /-- R366 MEM_READ_RETRY: A read with no reply after 200 µs is retried, and after three tries ends TIMEOUT. -/
  | memReadRetry (d : Nat) (t : Nat)
  /-- R359 ADAPTER_LINE_FRAME: The adapter accepts a valid LINE frame and files it under its LANE field, replacing the one held. -/
  | adapterLineFrame (g : Nat) (inB : Bool) (phys : Nat) (violation : Bool) (chars : List Nat)
  /-- R359 ADAPTER_NOFIRE_FRAME: A NOFIRE frame makes the adapter discard the frames held from that lane. -/
  | adapterNofireFrame (g : Nat) (inB : Bool) (x : LaneSet)
  /-- R359 ADAPTER_STROBE: At a strobe edge, the adapter fires the held frames with the highest LINE, row 1 after ROW1, then discards them. -/
  | adapterStrobe (g : Nat) (inB : Bool)
  /-- R360 ADAPTER_ACTIVE: The adapter receives an ACTIVE set and selects the eligible input with the highest epoch. -/
  | adapterActive (g : Nat) (inB : Bool) (first : Nat) (chars : List Nat) (t : Nat)
  /-- R360 ADAPTER_INPUT_LAPSE: An input whose last HOLD 1 ACTIVE is older than 250 µs stops being eligible. -/
  | adapterInputLapse (g : Nat) (inB : Bool) (t : Nat)
  /-- R358 ADAPTER_READ: The adapter answers a CMD READ with MEMDATA within 100 µs. -/
  | adapterRead (g : Nat) (first : Nat) (chars : List Nat)
  /-- R358 ADAPTER_TRAIN: The adapter aligns on TRAIN sets, sends TRAINED and enters UP at the first IDLE or frame. -/
  | adapterTrain (g : Nat) (aligned : Nat)
  /-- R358 ADAPTER_FAULT_ENTRY: An adapter fault or head removal puts the adapter in FAULT, firing nothing. -/
  | adapterFaultEntry (g : Nat) (flags : Nat)
  /-- R377 CAM_TRIGGER: A POSITION or TIME trigger issues: CAM_TRIG pulses, the frame number advances and following LED chains gate. -/
  | camTrigger (d : Nat) (t : Nat)
  /-- R378 CAM_FLASH_PULSE: FLASH_DLY after the trigger, CAM_FLASH goes high for FLASH_W. -/
  | camFlashPulse (d : Nat) (t : Nat)
  /-- R378 FRAME_START: A Frame Start opens a frame matched to the pending trigger, or an ORPHAN frame. -/
  | frameStart (d : Nat) (vc : Nat) (t : Nat)
  /-- R370 CSI_PACKET: A CSI-2 line packet is received, checked and passed to the pipeline as a valid or invalid line. -/
  | csiPacket (d : Nat) (vc : Nat) (dt : Nat) (hdrBad : Bool) (crcBad : Bool) (pixels : List Nat)
  /-- R371 FRAME_END: A frame closes; statistics, histogram, VISION record and archive decisions follow. -/
  | frameEnd (d : Nat) (vc : Nat) (t : Nat)
  /-- R374 CCI_TRANSFER_DONE: A CCI transfer or settings set ends, and the governing frame t + LAT is fixed or a NACK is handled. -/
  | cciTransferDone (d : Nat) (nack : Option Nat) (data : Byte) (t : Nat)
  /-- R376 CAM_RAW_GO: CAM_RAW_CTL GO starts a single CCI transfer while the block is OFF, or is refused with NACK. -/
  | camRawGo (d : Nat) (rd : Bool)
  /-- R391 CAM_ARCH_REQ: ARCH_REQ GO asks that the next closed frame be archived. -/
  | camArchReq (d : Nat)
  /-- R391 CAM_ARCH_Q_WRITE: A write to CAM_ARCH_Q queues an archive output buffer, or refuses it. -/
  | camArchQWrite (d : Nat) (buf : Nat) (gen : Nat)
  /-- R393 CAM_TBL_DATA_READ: A read of CAM_TBL_DATA returns an entry of the active bank and advances the address. -/
  | camTblDataRead (d : Nat)
  /-- R376 CAM_INIT_DATA_ACCESS: A CAM_INIT_DATA access reads or stages an init table entry and advances the address. -/
  | camInitDataAccess (d : Nat) (data : Option Word)
  /-- R392 CAM_STOP_FRAME_TIMEOUT: During a stop, an open frame without Frame End after 100 ms is closed as SHORT. -/
  | camStopFrameTimeout (d : Nat) (t : Nat)
  /-- R405 FRAME_DECODE: The decoders finish a frame's ladder spots and strips, and send PASS or FAIL verdicts to the driving dies. -/
  | frameDecode (d : Nat) (t : Nat)
  /-- R407 NOZZLE_VERDICT: A verdict arrives at the driving die and runs the k-of-m rule for its nozzle. -/
  | nozzleVerdict
  /-- R409 HLTH_CLEAR_NOZZLE: HLTH_NZ_CMD CLEAR 1 empties one nozzle's history and clears its EB_OUT. -/
  | hlthClearNozzle
  /-- R409 HLTH_CLEAR_HEAD: HLTH_NZ_CMD CLEAR 2 empties the histories of one head and clears their EB_OUT. -/
  | hlthClearHead
  /-- R409 HLTH_CLEAR_ALL: HLTH_NZ_CMD CLEAR 3 empties every history and clears every EB_OUT. -/
  | hlthClearAll
  /-- R426 HLTH_NZ_DATA_READ: A read of HLTH_NZ_DATA returns a nozzle's history and advances SLOT. -/
  | hlthNzDataRead
  /-- R414 CAL_REQ: A CAL_REQ write starts density runs of bars and camera runs of cameras. -/
  | calReq (bars : Nat) (cams : Nat)
  /-- R421 CAL_EXPORT: CAL_XFER_CMD EXPORT compresses the calibration values in effect into a D0 buffer. -/
  | calExport
  /-- R421 CAL_IMPORT: CAL_XFER_CMD IMPORT expands a calibration packet for validation. -/
  | calImport
  /-- R423 CAL_IMPORT_VALIDATED: Import validation ends; the values are committed with 0x0B13, or refused with 0x0B14. -/
  | calImportValidated
  /-- R432 MOTION_TICK: At each 10 µs tick an axis updates its profile, emits step pulses and checks lag, stall and gear changes. -/
  | motionTick (a : Nat) (t : Nat)
  /-- R444 STALL_CLEAR: A write of 1 to STALL clears it, re-anchors the deviation and lets the axis move to its target. -/
  | stallClear (a : Nat)
  /-- R441 FOLLOW_LAG_CLEAR: A write of 1 to FOLLOW_LAG clears it and re-anchors the reference at the present position. -/
  | followLagClear (a : Nat)
  /-- R456 MEM_REFRESH: A bank's refresh falls due and is issued as REFsb, or as REFab after four postponements. -/
  | memRefresh (d : Nat) (r : Nat) (b : Nat) (busy : Bool)
  /-- R457 MR4_POLL: Every 1 ms, the MR4 refresh-rate indication of each rank is read. -/
  | mr4Poll (d : Nat) (codes : List Nat) (temps : List Nat) (load : Timed MemLoad)
  /-- R462 FREQ_SWITCH: Once no pacer is ON and no frame is open, the die switches set-point and records 0x0E06. -/
  | freqSwitch (d : Nat) (t : Nat)
  /-- R464 SCRUB_HOUR: A rank's hourly correction count is judged against CE_LIM. -/
  | scrubHour (d : Nat) (r : Nat) (corrected : Nat)
  /-- R463 SDRAM_UNCORRECTABLE: An uncorrectable read is returned poisoned and, with SPARE_AUTO, starts retirement of the rank. -/
  | sdramUncorrectable (d : Nat) (r : Nat) (a : UncRead)
  /-- R465 MEM_CMD_RETIRE: MEM_CMD GO retires the named rank. -/
  | memCmdRetire (d : Nat) (r : Nat)
  /-- R465 MIGRATE_DONE: The copy ends, the spare takes the rank's place and 0x0E04 is recorded. -/
  | migrateDone (d : Nat) (poison : Nat)
  /-- R470 ENGINE_WATCHDOG_EXPIRE: An engine gives no watchdog kick within WD_MS and faults with cause WATCHDOG. -/
  | engineWatchdogExpire (d : Nat) (e : Nat) (pc : Nat) (t : Nat)
  /-- R470 ENGINE_FAULT: An engine faults; it halts, 0x0F01 is recorded and it is spared or restarted. -/
  | engineFault (d : Nat) (e : Nat) (cause : Nat) (pc : Nat) (t : Nat)
  /-- R474 IRQ_CAUSE: A cause of a source counts one event and raises the source when COUNT is reached. -/
  | irqCause (sig : Option Nat)
  /-- R474 IRQ_COAL_TIMEOUT: TIME µs after the first counted event, the source is raised. -/
  | irqCoalTimeout (g : Timed Nat)
  /-- R477 IRQ_RAISE_ARRIVAL: A raise reaches IRQH or the die's engines; the source becomes pending, is assigned and may send an MSI-X message. -/
  | irqRaiseArrival (d : Nat)
  /-- R480 IRQH_CLAIM: A read of IRQH_CLAIM takes the highest eligible source, pushes it and latches CTIME. -/
  | irqhClaim (t : Nat)
  /-- R483 IRQH_DONE: A write to IRQH_DONE completes an active source and tail-chains the next message. -/
  | irqhDone (t : Nat) (src : Nat)
  /-- R481 IRQH_MASK_SET: IRQH_MASK_SET masks one source on arrival at IRQH. -/
  | irqhMaskSet (src : Nat)
  /-- R481 IRQH_MASK_CLR: IRQH_MASK_CLR unmasks one source on arrival at IRQH. -/
  | irqhMaskClr (src : Nat)
  /-- R485 IRQH_FLUSH: FLUSH empties a target's stack and deactivates its sources without completion. -/
  | irqhFlush (t : Nat)
  /-- R476 IRQH_ACCEPT: A change of ACCEPT enables or disables a host target, and pending sources may be assigned. -/
  | irqhAccept (t : Nat) (accept : Bool)
  /-- R473 IRQ_SET: A write to IRQ_SET raises software source 96–127 of the die. -/
  | irqSet (d : Nat) (src : Nat)
  /-- R492 DIE_TIME_SYNC: Every 1 ms D0 synchronises each die's time base copy. -/
  | dieTimeSync (d : Nat) (off : Int) (t : Nat)
  /-- R497 PTP_SYNC: A Sync from the selected master gives an offset that the servo slews or steps. -/
  | ptpSync (m : PtpSync) (t : Nat)
  /-- R499 PTP_SYNC_TIMEOUT: No Sync for three announce intervals enters HOLDOVER and records 0x1002. -/
  | ptpSyncTimeout (t : Nat)
  /-- R498 TIME_SET: A write of TIME_SET word 2 decides a step of the time base, or is refused with SRC 1. -/
  | timeSet (v : Nat) (t : Nat)
  /-- R500 TIME_ADJ: A write to TIME_ADJ sets the rate correction, or is refused with SRC 1. -/
  | timeAdj (v : Nat) (t : Nat)
  /-- R494 TIME_SRC_WRITE: A change of SRC selects FREE, PTP or HOST discipline and moves the clock's state. -/
  | timeSrcWrite (v : Nat) (t : Nat)
  /-- R498 TIME_STEP_APPLY: 20 µs after a step decision, every die steps its time base and large steps record 0x1001. -/
  | timeStepApply (t : Nat)
  /-- R502 TRG_FIRE: A time trigger reaches its compare and fires to its target dies. -/
  | trgFire (k : Nat) (t : Nat)
  /-- R534 PAIR_CONFIG: PAIR_CONFIG stores the pair configuration in event flash, records 0x110E and changes the role. -/
  | pairConfig (written : Bool)
  /-- R532 PAIR_TAKEOVER_HANDOVER: PAIR_TAKEOVER HANDOVER schedules a planned handover at line H. -/
  | pairTakeoverHandover
  /-- R532 PAIR_TAKEOVER_FORCE: PAIR_TAKEOVER FORCE takes over at once and sends CONTROL FENCE. -/
  | pairTakeoverForce (t : Nat)
  /-- R510 PAIR_LINK_UP: The pair link trains, its latency is measured and 0x1103 is recorded. -/
  | pairLinkUp (latency : Nat) (aligned : Nat) (t : Nat)
  /-- R513 PAIR_LINK_DOWN: A message unacknowledged for 200 µs or a second lane failure takes the link down and records 0x1102. -/
  | pairLinkDown (lanes : Bool) (replays : Nat) (t : Nat)
  /-- R510 PAIR_LINK_RETRY: Every 100 ms while down, the pair link retries training. -/
  | pairLinkRetry (t : Nat)
  /-- R510 PAIR_LANE_FAIL: A failed pair-link lane is replaced by the spare within 20 µs, and 0x110C is recorded. -/
  | pairLaneFail (lane : Nat) (t : Nat)
  /-- R518 RENEW_SEND: Every 0.5 ms the ACTIVE sends RENEW. -/
  | renewSend (t : Nat)
  /-- R518 RENEW_RECEIVED: The STANDBY answers RENEW with ACK and restarts its lease. -/
  | renewReceived (line : Nat) (epoch : Nat) (number : Nat) (t : Nat)
  /-- R518 ACK_RECEIVED: An ACK arrives, and the renewal counts for the ACTIVE. -/
  | ackReceived (epoch : Nat) (number : Nat) (t : Nat)
  /-- R519 LEASE_FENCE: 1.0 ms after the last acknowledged renewal, the ACTIVE fences itself and records 0x1105. -/
  | leaseFence (t : Nat)
  /-- R520 LEASE_EXPIRY: 1.5 ms after the last RENEW, the STANDBY takes over with a new epoch and records 0x1104. -/
  | leaseExpiry (t : Nat)
  /-- R514 PAIR_STATUS_RECEIVED: A partner STATUS message updates the partner's role, class, image and epoch, and drives role transitions. -/
  | pairStatusReceived (dclass : Nat) (image : Nat) (role : Nat) (ready : Bool) (detached : Bool) (prefer : Bool) (seen : Nat) (t : Nat)
  /-- R525 LINE_SYNC_RECEIVED: The standby latches its count at LINE_SYNC arrival and aligns or checks its zero count. -/
  | lineSyncReceived (line : Nat) (count : Nat) (t : Nat)
  /-- R514 CONTROL_READY: CONTROL READY makes an ALONE unit ACTIVE with its first RENEW. -/
  | controlReady (t : Nat)
  /-- R514 CONTROL_UNREADY: CONTROL UNREADY ends the ACTIVE's lease and makes it ALONE. -/
  | controlUnready (t : Nat)
  /-- R514 CONTROL_LEAVE: CONTROL LEAVE ends the ACTIVE's lease and makes it ALONE. -/
  | controlLeave (t : Nat)
  /-- R520 CONTROL_DROP: CONTROL DROP makes the STANDBY take over. -/
  | controlDrop (t : Nat)
  /-- R514 CONTROL_FENCE: CONTROL FENCE fences an ACTIVE, or makes a STANDBY take over. -/
  | controlFence (t : Nat)
  /-- R532 CONTROL_HANDOVER: CONTROL HANDOVER tells the standby to fire from H + d_b with the next epoch. -/
  | controlHandover (h : Nat) (t : Nat)
  /-- R523 PAIR_COMMIT_RECEIVED: A COMMIT message is matched to the standby's next capture, or applied directly when SELF. -/
  | pairCommitReceived (part : Nat) (line : Nat) (id : Nat) (status : Nat) (self : Bool) (crc : Nat) (count : Nat) (t : Nat)
  /-- R524 PAIR_CANCEL_RECEIVED: A CANCEL message cancels the matched commit on the standby. -/
  | pairCancelReceived (id : Nat)
  /-- R229 PAIR_CTX_RECEIVED: A CTX message is checked against the standby's context, and CTX_MISMATCH is recorded when it differs. -/
  | pairCtxReceived (part : Nat) (line : Nat) (id : Nat) (ctx : Nat) (stop : Bool) (crc : Nat) (t : Nat)
  /-- R230 PAIR_UNDER_RECEIVED: An UNDER message makes the standby replace the same lines as the active. -/
  | pairUnderReceived (line : Nat) (bar : Nat) (page : Nat)
  /-- R529 PAIR_VERDICT_RECEIVED: In STEP, a forwarded verdict feeds the standby's k-of-m histories. -/
  | pairVerdictReceived (nozzle : Nat) (bar : Nat) (fail : Bool) (page : Nat)
  /-- R526 PAIR_DECISION_RECEIVED: A DECISION message sets EB_OUT on the standby from line L_e. -/
  | pairDecisionReceived (line : Nat) (nozzle : Nat) (out : Bool)
  /-- R512 PAIR_REG_RECEIVED: A REG message delivers the active's registration offsets. -/
  | pairRegReceived (bar : Nat) (along : Nat) (across : Nat)
  /-- R523 PAIR_BULK_RECEIVED: A BULK message delivers the next five words of a calibration or health block. -/
  | pairBulkReceived (part : Nat) (words : List Word) (t : Nat)
  /-- R514 JOIN_WAIT_EXPIRE: No partner STATUS within WAIT of reset makes a JOINING unit ALONE. -/
  | joinWaitExpire (t : Nat)
  /-- R514 FOLLOW_FENCE_TIMER: Half or more UP groups following the other input for 1 ms fence a leading unit. -/
  | followFenceTimer (t : Nat)
  /-- R514 RETAKE_TIMER: A FENCED unit with the link down and all groups NO_ACTIVE for 2.0 ms becomes ALONE and records 0x110A. -/
  | retakeTimer (t : Nat)
  /-- R533 CATCH_UP_SEND: The active sends a catch-up at L_j with LINE_SYNC, calibration, health, contexts and pending commits. -/
  | catchUpSend (t : Nat)
  /-- R533 CATCH_UP_RETRY: After a context mismatch, the catch-up is repeated every 1 s. -/
  | catchUpRetry (t : Nat)
  /-- R532 HANDOVER_COMPLETE: At die line H + D_max the roles exchange, the lease passes and 0x1107 is recorded. -/
  | handoverComplete (t : Nat)
  /-- R562 METER_POWER_UP: VDD_MTR rises and the meter runs its self-test and reads its flash. -/
  | meterPowerUp (t : Nat)
  /-- R562 METER_BOOT_DONE: The meter's reads complete, counting starts and 0x1208 is recorded, or the meter enters FAULT. -/
  | meterBootDone (selfTest : Bool) (bad : List Nat) (totals : List Nat) (patch : Bool) (t : Nat)
  /-- R563 METER_SUPPLY_FALL: VDD_MTR falls below 95 %, and the totals are written within 1.5 ms. -/
  | meterSupplyFall (written : Bool) (t : Nat)
  /-- R563 METER_TOTALS_WRITE: Every 10 s the meter writes its totals to meter flash. -/
  | meterTotalsWrite (t : Nat)
  /-- R564 METER_HOURLY_SNAPSHOT: Every hour of operating time the meter takes a snapshot. -/
  | meterHourlySnapshot (t : Nat)
  /-- R541 METER_EDGE: A meter encoder transition updates the count, the mark and the web length. -/
  | meterEdge (a : Bool) (b : Bool) (t : Nat)
  /-- R551 MTR_MARK_EDGE: A rising edge of MTR_MARK starts or ends the count of an open LEN_CAL window. -/
  | mtrMarkEdge (written : Bool) (t : Nat)
  /-- R545 TAP_SEND: Every 25 µs each die sends COUNT records for its firing groups, or an IDLE record. -/
  | tapSend (d : Nat) (t : Nat)
  /-- R543 TAP_COUNT_RECORD: A COUNT record updates printed length, drops, area, mass and volume. -/
  | tapCountRecord (d : Nat) (t : Nat)
  /-- R549 TAP_SNAP_RECORD: A SNAP record makes the meter latch its totals as a snapshot. -/
  | tapSnapRecord (t : Nat)
  /-- R549 TAP_TIME_RECORD: A TIME record gives the meter its network time. -/
  | tapTimeRecord (t : Nat)
  /-- R548 TAP_IDLE_RECORD: An IDLE record keeps the die's tap up. -/
  | tapIdleRecord (d : Nat) (t : Nat)
  /-- R548 TAP_BAD_RECORD: A tap record with a code violation or wrong CRC is discarded. -/
  | tapBadRecord (d : Nat) (t : Nat)
  /-- R548 TAP_DOWN: A tap without a good record for 1 ms is down, UP_n clears and 0x1205 is recorded. -/
  | tapDown (d : Nat) (t : Nat)
  /-- R558 MTR_SUBMIT: MTR_SUBMIT passes an envelope to the meter, which checks it and writes MTR_RES. -/
  | mtrSubmit (t : Nat)
  /-- R554 SEAL_BREAK: SEAL_BREAK moves the meter to OPEN and writes an audit entry. -/
  | sealBreak (written : Bool)
  /-- R554 SEAL: SEAL moves the meter to SEALED, aborts calibration windows and writes an audit entry. -/
  | sealMeter (written : Bool)
  /-- R550 SET_CHANNEL: SET_CHANNEL sets a channel's enable, name, cell area, density and sources. -/
  | setChannel (written : Bool)
  /-- R550 SET_MASS: SET_MASS sets a mass entry's rank, validity and drop masses. -/
  | setMass (written : Bool)
  /-- R550 SET_PARAM: SET_PARAM sets one metrology parameter by id. -/
  | setParam (written : Bool)
  /-- R551 LEN_CAL_OPEN: LEN_CAL MODE 0 opens a length calibration window between two marks. -/
  | lenCalOpen
  /-- R551 LEN_CAL_ABORT: LEN_CAL MODE 1 aborts an open length calibration window. -/
  | lenCalAbort
  /-- R551 LEN_CAL_TIMEOUT: No second mark within 3,600 s closes the window with DETAIL 7. -/
  | lenCalTimeout (t : Nat)
  /-- R552 MASS_CAL_OPEN: MASS_CAL OPEN starts counting a channel's drop mass into a window. -/
  | massCalOpen
  /-- R552 MASS_CAL_CLOSE: MASS_CAL CLOSE computes a new MFACT from the weighed mass. -/
  | massCalClose (written : Bool)
  /-- R552 MASS_CAL_ABORT: MASS_CAL ABORT discards the mass window. -/
  | massCalAbort
  /-- R557 PATCH_BEGIN: PATCH_BEGIN starts receiving a meter patch of C words. -/
  | patchBegin
  /-- R558 PATCH_DATA: PATCH_DATA adds code words at the next offset, or discards the patch on a sequence error. -/
  | patchData
  /-- R560 PATCH_END: PATCH_END verifies the patch signature and stores the patch for the next power-up. -/
  | patchEnd (written : Bool)
  /-- R560 PATCH_REMOVE: PATCH_REMOVE removes the stored patch from the next power-up. -/
  | patchRemove (written : Bool)
  /-- R558 MTR_KEY_ROTATE: MTR_KEY_ROTATE installs a new generation of the metrology key. -/
  | mtrKeyRotate (written : Bool)
  /-- R558 MTR_MARK_SET: MTR_MARK_SET sets the meter's counter mark against MTR_NONCE. -/
  | mtrMarkSet (written : Bool)
  /-- R556 TRAIL_CLEAR: TRAIL_CLEAR starts a new audit trail whose first entry records the old one. -/
  | trailClear (written : Bool)
  /-- R565 IND_REDRAW: The meter redraws a changed indication at most every 100 ms, increments ISEQ and computes its CRC. -/
  | indRedraw (t : Nat)
  /-- R566 IND_REPORT: The display's CRC report for a frame is compared with the meter's CRC for that ISEQ. -/
  | indReport (t : Nat)
  /-- R566 IND_STALE_TIMEOUT: No report for 1 s without a self-refresh hold sets IND_STALE. -/
  | indStaleTimeout (t : Nat)
  /-- R575 EVENT_ARRIVAL: An event reaches the recorder and merges into the open record or closes it and opens a new one. -/
  | eventArrival (d : Nat) (t : Nat)
  /-- R576 RECORD_AGE_CLOSE: An open record is closed 10 s after it opened. -/
  | recordAgeClose (t : Nat)
  /-- R576 EVT_FLUSH: A FLUSH write closes the open record. -/
  | evtFlush
  /-- R578 RECORD_WRITTEN: The flash writer finishes programming a record slot and frees a FIFO entry. -/
  | recordWritten (verified : Bool)
  /-- R573 EVENT_FLASH_RETURN: The event flash returns; counts are re-read, held records are rekeyed and written, and 0x1302 is recorded. -/
  | eventFlashReturn
  /-- R573 OPSEC_TICK: Each operating second increments counter 39 and the per-second histograms. -/
  | opsecTick (t : Nat)
  /-- R586 LIFETIME_SAVE: Every hour of operating time the lifetime counters and histograms are written to the older copy. -/
  | lifetimeSave
  /-- R588 FIRE_COUNT_SAVE: Every hour the fire counts are copied at one instant and written to the older flash copy. -/
  | fireCountSave
  /-- R586 EVT_PERSIST_SAVE: EVT_PERSIST SAVE writes the lifetime area and the fire counts at once. -/
  | evtPersistSave
  /-- R589 DUMP_RECORDS: EVT_DUMP_CMD OP 1 dumps every valid record slot through C-unit 0 of D0. -/
  | dumpRecords
  /-- R589 DUMP_LIFETIME: EVT_DUMP_CMD OP 2 dumps the lifetime counters and histograms. -/
  | dumpLifetime
  /-- R589 DUMP_FIRE_COUNTS: EVT_DUMP_CMD OP 3 dumps the per-nozzle fire counts. -/
  | dumpFireCounts
  /-- R591 EVT_RD_SEL_WRITE: A write to EVT_RD_SEL loads a record slot into EVT_RD_DATA within 20 µs. -/
  | evtRdSelWrite (slot : Nat)
  /-- R596 LED_FRAME_SEND: A chain sends a frame of effective levels and phases on a pending change, a level change or after 100 ms. -/
  | ledFrameSend (c : Nat) (t : Nat)
  /-- R595 LED_RETURN_FRAME: The return frame's status words update the devices' factors and faults. -/
  | ledReturnFrame (c : Nat) (words : List Word) (t : Nat)
  /-- R601 LED_RETURN_TIMEOUT: No return frame within 100 µs sets BREAK and records 0x1402. -/
  | ledReturnTimeout (c : Nat) (t : Nat)
  /-- R601 LED_STATUS_STALE: A device without valid status for 1 s takes a factor of at most 512 and sets HALF. -/
  | ledStatusStale (c : Nat) (dev : Nat) (t : Nat)
  /-- R599 LED_UV_UPDATE: Every 1 ms a UV chain recomputes its scale from the line rate. -/
  | ledUvUpdate (c : Nat) (t : Nat)
  /-- R600 LED_GATE_RISE: A FOLLOW chain cuts its frame and raises the gate, lighting its gated channels. -/
  | ledGateRise (c : Nat) (t : Nat)
  /-- R600 LED_GATE_FALL: The gate falls after FLASH_W, and the lights go off. -/
  | ledGateFall (c : Nat) (t : Nat)
  /-- R614 LED_DATA_ACCESS: An LED_DATA access reads or stages a channel's level and phase and advances CH, then DEV. -/
  | ledDataAccess (d : Nat) (data : Option Word)
  /-- R609 DISP_VBLANK: At vertical blank, DISP commits that met the window apply, and later ones wait a frame. -/
  | dispVblank (t : Nat)
  /-- R610 DISP_FRAME_END: A scanned frame ends; check rectangles are judged, the indication is reported and replaced layers are released. -/
  | dispFrameEnd (indCrc : Option Nat) (late : List Nat) (t : Nat)
  /-- R612 DISP_PSR_EXIT: A commit, new preview or ISEQ change ends the self-refresh hold. -/
  | dispPsrExit (t : Nat)
  /-- R612 DISP_PSR_REPORT: While held, the display reports the held ISEQ to the meter every 100 ms. -/
  | dispPsrReport (t : Nat)
  /-- R613 DISP_LINK_LOST: A display link lost while ON records 0x1501 and retrains. -/
  | dispLinkLost (found : List Nat) (t : Nat)
  /-- R638 MON_CONVERSION: A conversion of every sensor and rail updates MON and judges the thermal and supply limits. -/
  | monConversion (d : Nat) (temps : List Int) (mv : List Nat) (t : Nat)
  /-- R640 HOT_FENCE_CLEAR: A write of 1 to HOT_FENCE below TWARN clears it, restores the groups and chains, and records 0x1605. -/
  | hotFenceClear (d : Nat) (stuck : List Nat)
  /-- R195 KEY_BURN_DONE: The burn of a rotated key into the next OTP generation completes, the generation becomes current and AUTH leaves BUSY. -/
  | keyBurnDone (ok : Bool)
  /-- R358 ADAPTER_FAULT_CLEARED: Every adapter fault has cleared and the adapter leaves FAULT for TRAINING. -/
  | adapterFaultCleared (g : Nat)
  /-- R358 ADAPTER_K_ABSENT: The adapter sees K absent for 1 µs, or loses comma alignment on a lane in service, and enters TRAINING, firing nothing. -/
  | adapterKAbsent (g : Nat)
  /-- R198 ETH_FRAME_RECEIVED: A frame that is not a management request arrives on the Ethernet port and is answered as ARP or ICMP echo, or discarded and counted in DROPPED. -/
  | ethFrameReceived (good : Bool) (frame : List Byte)
  /-- R499 PTP_ANNOUNCE: A PTP Announce message is received and the best master selection chooses among the masters heard, possibly changing grandmaster. -/
  | ptpAnnounce (m : Timed PtpAnnounce)
  /-- R495 PTP_DELAY_RESP: A Delay_Resp message completes an end-to-end delay measurement used by the servo. -/
  | ptpDelayResp (m : PtpDelay)
  /-- R479 MSIX_MASK_WRITE: A write to the MSI-X per-vector or function mask masks a vector or unmasks it, sending any pending message. -/
  | msixMaskWrite (offset : Nat) (q : PcieRequest)
  /-- R580 SECTOR_ERASE_DONE: The erase of the next 64 KiB event flash sector completes, and a flash writer waiting on it resumes from the staging FIFO. -/
  | sectorEraseDone
  /-- R588 PERSIST_DONE: The writing of the lifetime area or the fire counts to event flash completes, clearing EVT_PERSIST BUSY and resetting AGE. -/
  | persistDone (fires : Bool)
  /-- R558 MTR_LOCK_END: The meter's own 1 s tag-failure lock ends and the meter accepts envelopes again. -/
  | mtrLockEnd
  deriving DecidableEq, Repr

end Sys2Proof
end

