-- ==== Sys2Proof/Config.lean ====
section
/-! DEFINITION. What an implementation fixes and what the spec leaves open: constants without a body, so that no proof can
see a value, and a claim holds whatever the value is. -/

namespace Sys2Proof.Config

/-- A value the spec leaves open, one for each number drawn (DESIGN CHOICE, notes/assumptions/2). -/
opaque freeValue : Nat → BitVec 256

/-- Verification of an ECDSA P-256 signature under the Molpimar key of the ROM (R105, R560): signed words and signature words. -/
opaque signatureValid : List Nat → List Nat → Bool

/-- The match a compressor would take at a position of its input, as length and distance: the spec bounds the matches and leaves open which
one is taken (R246; log 139). -/
opaque matchChoice (level : Nat) (input : List Nat) (i : Nat) : Nat × Nat

/-- The code lengths a compressor would give an alphabet of a size for the symbols of a block (R247; log 139). -/
opaque codeLengths (size : Nat) (syms : List Nat) : List (BitVec 4)

/-- How many equal code lengths a compressor would join into one repeat code at a position (R248; log 139). -/
opaque repeatChoice (lens : List Nat) (i : Nat) : Nat

/-- The bank (rank, bank group and bank, lowest bits last) and the row of a die address: the spec gives the address mapping without its
widths (R454; log 141). -/
opaque bankOf : Nat → BitVec 7
opaque rowOf : Nat → BitVec 18

/-- The 8-bit sRGB code of a 12-bit linear value (R388, R391): the spec names the encoding and leaves its rounding open. -/
opaque srgb : Nat → BitVec 8

/-- What a pixel reads as when no line of its Bayer phase is valid (R385), by column and row. -/
opaque lostPixel : Nat → Nat → BitVec 12

/-- The centroid of a spot whose contrast weights do not sum to more than 0 (R403), from the weights, in pixels from the spot. -/
opaque centroid : List Int → Int

/-- IMAX, the ticks over which a class B axis spreads the first input count after a standstill (R440): the spec gives no value. -/
opaque followMax : Nat

/-- The version of the meter's ROM (R568). -/
opaque meterRom : BitVec 12

/-- The code of a snapshot's cause (R564): 0 a SNAP record, 1 an audit entry, 2 an hour. -/
opaque snapCause : Nat → BitVec 24

end Sys2Proof.Config
end

