-- ==== Sys2Proof/Machine/Regs.lean ====
section
/-! DEFINITION. The register map: every register the spec's tables give, block by block, with the bits, the type and the
reset value of each field. `F.<register>_<field>` names one field; the lists of `RDesc` hold the same tables by address. -/

namespace Sys2Proof.Machine

/-- The types of a field (R10 of 00_scope, R50, R53 of 02): `st` is a staged field taken at once when its commit applies, `stp`
a staged print field taken line by line; `port` and `sel` fields are served by an operation of their own; `en` and `enst`
are the EN request of R36, written directly or staged, and `enstp` the one staged as a print field. -/
inductive FKind | rw | ro | w1c | rc | wo | st | stp | port | sel | en | enst | enstp
  deriving DecidableEq, Repr

/-- What the register tables say a field takes when a value outside its range is written. -/
inductive Clamp
  | none
  | atLeast (n : Nat)
  | between (lo hi : Nat)
  | orElse (lo hi v : Nat)
  deriving DecidableEq, Repr

/-- One field of the register file: the BAR0 address of its register, its lowest bit, its width and its reset value. -/
structure Fld where
  addr : Nat
  lo : Nat
  width : Nat
  reset : Nat
  deriving DecidableEq, Repr

/-- A field as a row of a register table gives it. -/
structure FDesc where
  lo : Nat
  width : Nat
  kind : FKind
  reset : Nat
  clamp : Clamp := .none
  si : Bool := false
  deriving DecidableEq, Repr

/-- A register of a block: its offset, the stride and count of each index it has, and its fields. -/
structure RDesc where
  off : Nat
  dims : List (Nat × Nat)
  fields : List FDesc
  deriving DecidableEq, Repr

namespace F

/-! PKG (R33). -/
def PKG_ID_DIES : Fld := ⟨0x0, 0, 4, 0⟩
def PKG_ID_REV : Fld := ⟨0x0, 4, 8, 177⟩
def PKG_ID_GRADE : Fld := ⟨0x0, 12, 1, 0⟩
def PKG_MAGIC_MAGIC : Fld := ⟨0x4, 0, 24, 5393991⟩
def PKG_UNIT_UNIT : Fld := ⟨0x8, 0, 24, 1⟩
def PKG_ROM_VERSION : Fld := ⟨0xC, 0, 24, 0⟩
def PKG_SCRATCH_VALUE : Fld := ⟨0x10, 0, 24, 0⟩
def PKG_MAC_LO_MAC : Fld := ⟨0x14, 0, 24, 0⟩
def PKG_MAC_HI_MAC : Fld := ⟨0x18, 0, 24, 0⟩
def PKG_ETH_CTL_ETH_EN : Fld := ⟨0x20, 0, 1, 0⟩
def PKG_ETH_CTL_SPEED : Fld := ⟨0x20, 1, 1, 0⟩
def PKG_ETH_CTL_FEC : Fld := ⟨0x20, 2, 2, 0⟩
def PKG_ETH_CTL_VLAN_EN : Fld := ⟨0x20, 4, 1, 0⟩
def PKG_ETH_CTL_VID : Fld := ⟨0x20, 5, 12, 0⟩
def PKG_ETH_CTL_PCP : Fld := ⟨0x20, 17, 3, 0⟩
def PKG_ETH_IP_LO_ADDR : Fld := ⟨0x24, 0, 24, 0⟩
def PKG_ETH_IP_HI_ADDR : Fld := ⟨0x28, 0, 8, 0⟩
def PKG_ETH_MASK_PREFIX : Fld := ⟨0x2C, 0, 6, 0⟩
def PKG_ETH_STAT_LINK : Fld := ⟨0x30, 0, 1, 0⟩
def PKG_ETH_STAT_ACTIVE : Fld := ⟨0x30, 1, 1, 0⟩
def PKG_ETH_CNT_DROPPED : Fld := ⟨0x34, 0, 8, 0⟩
def PKG_ETH_CNT_MGMT_RATE : Fld := ⟨0x34, 8, 8, 0⟩
def PKG_ETH_CNT_DOWNS : Fld := ⟨0x34, 16, 8, 0⟩
/-! DIE (R34). -/
def DIE_ID_DIE (d : Nat) : Fld := ⟨0x800000 + 0x100000 * d + 0x0, 0, 3, 0⟩
def DIE_ID_GATEWAY (d : Nat) : Fld := ⟨0x800000 + 0x100000 * d + 0x0, 3, 1, 0⟩
def DIE_ID_REV (d : Nat) : Fld := ⟨0x800000 + 0x100000 * d + 0x0, 4, 8, 177⟩
def DIE_STAT_STAGE (d : Nat) : Fld := ⟨0x800000 + 0x100000 * d + 0x4, 0, 3, 0⟩
def DIE_STAT_TRAINED (d : Nat) : Fld := ⟨0x800000 + 0x100000 * d + 0x4, 3, 1, 0⟩
def DIE_STAT_INIT (d : Nat) : Fld := ⟨0x800000 + 0x100000 * d + 0x4, 4, 1, 0⟩
def DIE_STAT_BANK (d : Nat) : Fld := ⟨0x800000 + 0x100000 * d + 0x4, 5, 1, 0⟩
def DIE_STAT_LINE_VALID (d : Nat) : Fld := ⟨0x800000 + 0x100000 * d + 0x4, 6, 1, 0⟩
def DIE_LINE_LO_LINE (d : Nat) : Fld := ⟨0x800000 + 0x100000 * d + 0x8, 0, 24, 0⟩
def DIE_LINE_HI_LINE (d : Nat) : Fld := ⟨0x800000 + 0x100000 * d + 0xC, 0, 24, 0⟩
def DIE_ERR_STAGE_DROP (d : Nat) : Fld := ⟨0x800000 + 0x100000 * d + 0x10, 0, 12, 0⟩
def DIE_ERR_EARLY (d : Nat) : Fld := ⟨0x800000 + 0x100000 * d + 0x10, 12, 12, 0⟩
/-! LNK (R35). -/
def LNK_PORT_USED (d p : Nat) : Fld := ⟨0x800000 + 0x100000 * d + 0xB0000 + 0x4 * p, 0, 1, 0⟩
def LNK_PORT_PEER (d p : Nat) : Fld := ⟨0x800000 + 0x100000 * d + 0xB0000 + 0x4 * p, 1, 3, 0⟩
def LNK_PORT_PEER_PORT (d p : Nat) : Fld := ⟨0x800000 + 0x100000 * d + 0xB0000 + 0x4 * p, 4, 2, 0⟩
def LNK_STAT_STATE (d p : Nat) : Fld := ⟨0x800000 + 0x100000 * d + 0xB0010 + 0x4 * p, 0, 3, 0⟩
def LNK_STAT_LANES (d p : Nat) : Fld := ⟨0x800000 + 0x100000 * d + 0xB0010 + 0x4 * p, 3, 6, 0⟩
def LNK_STAT_SPARES (d p : Nat) : Fld := ⟨0x800000 + 0x100000 * d + 0xB0010 + 0x4 * p, 9, 2, 0⟩
def LNK_STAT_POWERED (d p : Nat) : Fld := ⟨0x800000 + 0x100000 * d + 0xB0010 + 0x4 * p, 11, 1, 0⟩
def LNK_ERR_RETRAINS (d p : Nat) : Fld := ⟨0x800000 + 0x100000 * d + 0xB0020 + 0x4 * p, 0, 8, 0⟩
def LNK_ERR_REPLAYS (d p : Nat) : Fld := ⟨0x800000 + 0x100000 * d + 0xB0020 + 0x4 * p, 8, 8, 0⟩
def LNK_ERR_FAILS (d p : Nat) : Fld := ⟨0x800000 + 0x100000 * d + 0xB0020 + 0x4 * p, 16, 8, 0⟩
def LNK_BW_TX (d p : Nat) : Fld := ⟨0x800000 + 0x100000 * d + 0xB0030 + 0x4 * p, 0, 12, 0⟩
def LNK_BW_RX (d p : Nat) : Fld := ⟨0x800000 + 0x100000 * d + 0xB0030 + 0x4 * p, 12, 12, 0⟩
/-! EPOCH (R87). -/
def EPOCH_LINE_LO_LINE : Fld := ⟨0x10000, 0, 24, 0⟩
def EPOCH_LINE_HI_LINE : Fld := ⟨0x10004, 0, 24, 0⟩
def EPOCH_PITCH_FRAC_PITCH : Fld := ⟨0x10008, 0, 24, 0⟩
def EPOCH_PITCH_INT_PITCH : Fld := ⟨0x1000C, 0, 24, 0⟩
def EPOCH_CTL_VIEW : Fld := ⟨0x10010, 0, 2, 0⟩
def EPOCH_CTL_LATE_POLICY : Fld := ⟨0x10010, 2, 1, 0⟩
def EPOCH_CTL_LINE_VALID : Fld := ⟨0x10010, 3, 1, 0⟩
def EPOCH_CTL_STANDSTILL : Fld := ⟨0x10010, 4, 1, 1⟩
def EPOCH_MIN_LEAD_LEAD : Fld := ⟨0x10014, 0, 24, 2048⟩
def EPOCH_APPLY_LO_APPLY : Fld := ⟨0x10018, 0, 24, 0⟩
def EPOCH_APPLY_HI_APPLY : Fld := ⟨0x1001C, 0, 24, 0⟩
def EPOCH_COMMIT_KIND : Fld := ⟨0x10020, 0, 1, 0⟩
def EPOCH_COMMIT_SNAP : Fld := ⟨0x10020, 1, 1, 0⟩
def EPOCH_NEXT_ID_ID : Fld := ⟨0x10024, 0, 24, 1⟩
def EPOCH_CANCEL_ID : Fld := ⟨0x10028, 0, 24, 0⟩
def EPOCH_QSTAT_LINE_PEND : Fld := ⟨0x1002C, 0, 5, 0⟩
def EPOCH_QSTAT_SAFE_PEND : Fld := ⟨0x1002C, 5, 3, 0⟩
def EPOCH_QSTAT_STAGE_OVF : Fld := ⟨0x1002C, 8, 8, 0⟩
def EPOCH_LAST_ID_WORD : Fld := ⟨0x10030, 0, 24, 0⟩
def EPOCH_LAST_STATUS_WORD : Fld := ⟨0x10034, 0, 24, 0⟩
def EPOCH_CPL_RING : Fld := ⟨0x10038, 0, 8, 0⟩
def EPOCH_CPL_RING_EN : Fld := ⟨0x10038, 8, 1, 0⟩
def EPOCH_ZERO_KEY : Fld := ⟨0x1003C, 0, 24, 0⟩
def EPOCH_STAGE_CNT_COUNT (n : Nat) : Fld := ⟨0x10040 + 0x4 * n, 0, 11, 0⟩
def SNAP_LINE_LO_SNAP_LINE : Fld := ⟨0x10060, 0, 24, 0⟩
def SNAP_LINE_HI_SNAP_LINE : Fld := ⟨0x10064, 0, 24, 0⟩
def SNAP_REQ_NOW : Fld := ⟨0x10068, 0, 1, 0⟩
def SNAP_STAT_STATE : Fld := ⟨0x1006C, 0, 2, 0⟩
def SNAP_STAT_TIMED : Fld := ⟨0x1006C, 2, 1, 0⟩
def SNAP_STAT_DATA : Fld := ⟨0x1006C, 3, 1, 0⟩
def SNAP_STAT_SEQ : Fld := ⟨0x1006C, 8, 16, 0⟩
def SNAP_AT_LO_SNAP_AT : Fld := ⟨0x10070, 0, 24, 0⟩
def SNAP_AT_HI_SNAP_AT : Fld := ⟨0x10074, 0, 24, 0⟩
def SNAP_TIME_0_SNAP_TIME : Fld := ⟨0x10078, 0, 24, 0⟩
def SNAP_TIME_1_SNAP_TIME : Fld := ⟨0x1007C, 0, 24, 0⟩
def SNAP_TIME_2_SNAP_TIME : Fld := ⟨0x10080, 0, 24, 0⟩
def SNAP_APPLIED_ID (n : Nat) : Fld := ⟨0x10090 + 0x4 * n, 0, 24, 0⟩
def ENC_CTL_DIV_LIMIT : Fld := ⟨0x100C0, 0, 12, 170⟩
def ENC_STAT_ROUNDS : Fld := ⟨0x100C4, 0, 24, 0⟩
def ENC_DIV_COUNT (n : Nat) : Fld := ⟨0x100D0 + 0x4 * n, 0, 24, 0⟩
def EPOCH_DELAY_BAR_DELAY (n : Nat) : Fld := ⟨0x10100 + 0x4 * n, 0, 24, 0⟩
def EPOCH_DELAY_CAM_DELAY (n : Nat) : Fld := ⟨0x10140 + 0x4 * n, 0, 24, 0⟩
/-! STRUCT (R121). -/
def STRUCT_STAT_STATE : Fld := ⟨0x20000, 0, 3, 0⟩
def STRUCT_STAT_LOADED : Fld := ⟨0x20000, 3, 1, 0⟩
def STRUCT_STAT_ERR : Fld := ⟨0x20000, 8, 5, 0⟩
def STRUCT_STAT_ERR_NEW : Fld := ⟨0x20000, 13, 1, 0⟩
def STRUCT_ERR_SEC_VALUE : Fld := ⟨0x20004, 0, 24, 0⟩
def STRUCT_ERR_WORD_VALUE : Fld := ⟨0x20008, 0, 24, 0⟩
def STRUCT_CUR_ID_VALUE : Fld := ⟨0x2000C, 0, 24, 0⟩
def STRUCT_DCLASS_VALUE : Fld := ⟨0x20010, 0, 24, 0⟩
def STRUCT_FW_CLASS_VALUE : Fld := ⟨0x20014, 0, 24, 0⟩
def STRUCT_PEND_ID_VALUE : Fld := ⟨0x20018, 0, 24, 0⟩
def STRUCT_PEND_CID_VALUE : Fld := ⟨0x2001C, 0, 24, 0⟩
def STRUCT_FIFO_WORD : Fld := ⟨0x20020, 0, 24, 0⟩
def STRUCT_RCVD_COUNT : Fld := ⟨0x20024, 0, 24, 0⟩
def STRUCT_REJECTS_COUNT : Fld := ⟨0x20028, 0, 24, 0⟩
def STRUCT_DISCARD_COUNT : Fld := ⟨0x2002C, 0, 24, 0⟩
def STRUCT_TOOL_TOOL : Fld := ⟨0x20030, 0, 24, 0⟩
/-! BOOT (R150). -/
def BOOT_STAT_STAGE : Fld := ⟨0x100000, 0, 3, 0⟩
def BOOT_STAT_FAIL : Fld := ⟨0x100000, 3, 1, 0⟩
def BOOT_STAT_FAIL_STEP : Fld := ⟨0x100000, 4, 4, 0⟩
def BOOT_STAT_DEGRADED : Fld := ⟨0x100000, 8, 1, 0⟩
def BOOT_STAT_PWR_WARN : Fld := ⟨0x100000, 9, 1, 0⟩
def BOOT_STAT_PD_DONE : Fld := ⟨0x100000, 10, 1, 0⟩
def BOOT_STAT_HELD : Fld := ⟨0x100000, 11, 1, 0⟩
def BOOT_STAT_BB_SRC : Fld := ⟨0x100000, 12, 1, 0⟩
def BOOT_DIE_STAT_PRESENT : Fld := ⟨0x100004, 0, 8, 0⟩
def BOOT_DIE_STAT_TRAINED : Fld := ⟨0x100004, 8, 8, 0⟩
def BOOT_DIE_STAT_INIT : Fld := ⟨0x100004, 16, 8, 0⟩
def BOOT_T_SPW_MS : Fld := ⟨0x100008, 0, 24, 0⟩
def BOOT_T_FULL_MS : Fld := ⟨0x10000C, 0, 24, 0⟩
def BOOT_CTL_RETRY : Fld := ⟨0x100010, 0, 1, 0⟩
def BOOT_CTL_RESUME : Fld := ⟨0x100010, 1, 1, 0⟩
def BOOT_RESET_VALUE : Fld := ⟨0x100014, 0, 24, 0⟩
def BOOT_CYCLES_VALUE : Fld := ⟨0x100018, 0, 24, 0⟩
def BOOT_EARLY_VALUE : Fld := ⟨0x10001C, 0, 24, 0⟩
def BOOT_BB_WORD (n : Nat) : Fld := ⟨0x100020 + 0x4 * n, 0, 24, 0⟩
def BOOT_BB_CTL_SAVE : Fld := ⟨0x100060, 0, 1, 0⟩
def BOOT_BB_CTL_BUSY : Fld := ⟨0x100060, 1, 1, 0⟩
def BOOT_BB_CTL_BB_ERR : Fld := ⟨0x100060, 2, 1, 0⟩
def SPW_CTL_EN (n : Nat) : Fld := ⟨0x100080 + 0x4 * n, 0, 1, 0⟩
def SPW_CTL_PEND_EN (n : Nat) : Fld := ⟨0x100080 + 0x4 * n, 1, 1, 0⟩
def SPW_CTL_PEND_DIS (n : Nat) : Fld := ⟨0x100080 + 0x4 * n, 2, 1, 0⟩
def SPW_CTL_STATE (n : Nat) : Fld := ⟨0x100080 + 0x4 * n, 4, 2, 0⟩
def SPW_CTL_START_FAIL (n : Nat) : Fld := ⟨0x100080 + 0x4 * n, 6, 1, 0⟩
def SPW_CTL_STOP_TIMEOUT (n : Nat) : Fld := ⟨0x100080 + 0x4 * n, 7, 1, 0⟩
def SPW_CTL_REPEATS (n : Nat) : Fld := ⟨0x100080 + 0x4 * n, 16, 8, 0⟩
def SPW_LEN_LINES (n : Nat) : Fld := ⟨0x1000A0 + 0x4 * n, 0, 10, 512⟩
def SPW_SEL_DIE : Fld := ⟨0x1000C0, 0, 3, 0⟩
def SPW_SEL_STORE : Fld := ⟨0x1000C0, 3, 1, 0⟩
def SPW_ADDR_ADDR : Fld := ⟨0x1000C4, 0, 22, 0⟩
def SPW_DATA_DATA : Fld := ⟨0x1000C8, 0, 16, 0⟩
def TKL_CTL_EN (n : Nat) : Fld := ⟨0x1000E0 + 0x4 * n, 0, 1, 0⟩
def TKL_CTL_PEND_EN (n : Nat) : Fld := ⟨0x1000E0 + 0x4 * n, 1, 1, 0⟩
def TKL_CTL_PEND_DIS (n : Nat) : Fld := ⟨0x1000E0 + 0x4 * n, 2, 1, 0⟩
def TKL_CTL_STATE (n : Nat) : Fld := ⟨0x1000E0 + 0x4 * n, 4, 2, 0⟩
def TKL_CTL_START_FAIL (n : Nat) : Fld := ⟨0x1000E0 + 0x4 * n, 6, 1, 0⟩
def TKL_CTL_STOP_TIMEOUT (n : Nat) : Fld := ⟨0x1000E0 + 0x4 * n, 7, 1, 0⟩
/-! WIN (R200). -/
def WIN_CTL_RING : Fld := ⟨0x40000, 0, 8, 0⟩
def WIN_CTL_RING_EN : Fld := ⟨0x40000, 8, 1, 0⟩
def WIN_DEF_BASE_UNITS : Fld := ⟨0x40004, 0, 20, 0⟩
def WIN_DEF_LEN_UNITS : Fld := ⟨0x40008, 0, 20, 0⟩
def WIN_CMD_LO_INDEX : Fld := ⟨0x4000C, 0, 16, 0⟩
def WIN_CMD_HI_OP : Fld := ⟨0x40010, 0, 4, 0⟩
def WIN_CMD_HI_GEN : Fld := ⟨0x40010, 8, 8, 0⟩
def WIN_RESULT_INDEX : Fld := ⟨0x40014, 0, 16, 0⟩
def WIN_RESULT_OP : Fld := ⟨0x40014, 16, 3, 0⟩
def WIN_RESULT_STATUS : Fld := ⟨0x40014, 19, 5, 0⟩
def WIN_SEL_INDEX : Fld := ⟨0x40018, 0, 16, 0⟩
def WIN_INFO_0_BASE : Fld := ⟨0x4001C, 0, 20, 0⟩
def WIN_INFO_1_LEN : Fld := ⟨0x40020, 0, 20, 0⟩
def WIN_INFO_2_STATE : Fld := ⟨0x40024, 0, 2, 0⟩
def WIN_INFO_2_BOUND : Fld := ⟨0x40024, 2, 1, 0⟩
def WIN_INFO_2_GEN : Fld := ⟨0x40024, 8, 8, 0⟩
def WIN_INFO_2_HOME : Fld := ⟨0x40024, 16, 3, 0⟩
def WIN_BACKED_UNITS (n : Nat) : Fld := ⟨0x40030 + 0x4 * n, 0, 20, 0⟩
def WIN_WR_DEV_COUNT : Fld := ⟨0x40060, 0, 24, 0⟩
def WIN_WR_UNDEF_COUNT : Fld := ⟨0x40064, 0, 24, 0⟩
def WIN_BAR0_DISCARD_COUNT : Fld := ⟨0x40068, 0, 24, 0⟩
def WIN_REJECTS_COUNT : Fld := ⟨0x4006C, 0, 24, 0⟩
def WIN_COUNT_DEFINED : Fld := ⟨0x40070, 0, 17, 0⟩
/-! QUE (R201). -/
def QUE_CTL_EN (n : Nat) : Fld := ⟨0x50000 + 0x4 * n, 0, 1, 0⟩
def QUE_CTL_PEND_EN (n : Nat) : Fld := ⟨0x50000 + 0x4 * n, 1, 1, 0⟩
def QUE_CTL_PEND_DIS (n : Nat) : Fld := ⟨0x50000 + 0x4 * n, 2, 1, 0⟩
def QUE_CTL_STATE (n : Nat) : Fld := ⟨0x50000 + 0x4 * n, 4, 2, 0⟩
def QUE_CTL_START_FAIL (n : Nat) : Fld := ⟨0x50000 + 0x4 * n, 6, 1, 0⟩
def QUE_CTL_STOP_TIMEOUT (n : Nat) : Fld := ⟨0x50000 + 0x4 * n, 7, 1, 0⟩
def QUE_CTL_TYPE (n : Nat) : Fld := ⟨0x50000 + 0x4 * n, 9, 3, 0⟩
def QUE_CTL_DEPTH (n : Nat) : Fld := ⟨0x50000 + 0x4 * n, 12, 5, 0⟩
def QUE_BASE_INDEX (n : Nat) : Fld := ⟨0x50400 + 0x4 * n, 0, 16, 0⟩
def QUE_BASE_GEN (n : Nat) : Fld := ⟨0x50400 + 0x4 * n, 16, 8, 0⟩
def QUE_DB_INDEX (n : Nat) : Fld := ⟨0x50800 + 0x4 * n, 0, 16, 0⟩
def QUE_IDX_INDEX (n : Nat) : Fld := ⟨0x50C00 + 0x4 * n, 0, 16, 0⟩
def QUE_ERR_DB_ERR (n : Nat) : Fld := ⟨0x51000 + 0x4 * n, 0, 8, 0⟩
def QUE_ERR_ENTRY_BAD (n : Nat) : Fld := ⟨0x51000 + 0x4 * n, 8, 8, 0⟩
def QUE_ERR_LOST (n : Nat) : Fld := ⟨0x51000 + 0x4 * n, 16, 8, 0⟩
def QUE_ANS_RING (n : Nat) : Fld := ⟨0x51400 + 0x4 * n, 0, 8, 0⟩
def QUE_ANS_EN (n : Nat) : Fld := ⟨0x51400 + 0x4 * n, 8, 1, 0⟩
/-! AUTH (R202). -/
def AUTH_STAT_BUSY : Fld := ⟨0x30000, 0, 1, 0⟩
def AUTH_STAT_LOCKED : Fld := ⟨0x30000, 1, 1, 0⟩
def AUTH_STAT_HWM_BAD : Fld := ⟨0x30000, 2, 1, 0⟩
def AUTH_STAT_STATUS : Fld := ⟨0x30000, 3, 5, 0⟩
def AUTH_STAT_OPCODE : Fld := ⟨0x30000, 8, 8, 0⟩
def AUTH_SUBMIT_GO : Fld := ⟨0x30004, 0, 1, 0⟩
def AUTH_RES_RING_RING : Fld := ⟨0x30008, 0, 8, 0⟩
def AUTH_RES_RING_RING_EN : Fld := ⟨0x30008, 8, 1, 0⟩
def AUTH_UNIT_UNIT : Fld := ⟨0x3000C, 0, 24, 1⟩
def AUTH_NONCE_LO_NONCE : Fld := ⟨0x30010, 0, 24, 0⟩
def AUTH_NONCE_HI_NONCE : Fld := ⟨0x30014, 0, 8, 0⟩
def AUTH_CNT_LO_VALUE (n : Nat) : Fld := ⟨0x30020 + 0x8 * n, 0, 24, 0⟩
def AUTH_CNT_HI_VALUE (n : Nat) : Fld := ⟨0x30024 + 0x8 * n, 0, 8, 0⟩
def AUTH_HWM_LO_VALUE (n : Nat) : Fld := ⟨0x30060 + 0x8 * n, 0, 24, 0⟩
def AUTH_HWM_HI_VALUE (n : Nat) : Fld := ⟨0x30064 + 0x8 * n, 0, 8, 0⟩
def AUTH_SLOT_CUR (n : Nat) : Fld := ⟨0x300A0 + 0x4 * n, 0, 2, 0⟩
def AUTH_SLOT_PROV (n : Nat) : Fld := ⟨0x300A0 + 0x4 * n, 2, 1, 0⟩
def AUTH_SLOT_EXHAUSTED (n : Nat) : Fld := ⟨0x300A0 + 0x4 * n, 3, 1, 0⟩
def AUTH_TAG_FAIL_COUNT : Fld := ⟨0x300C0, 0, 24, 0⟩
def AUTH_REPLAY_COUNT : Fld := ⟨0x300C4, 0, 24, 0⟩
def AUTH_MALFORMED_COUNT : Fld := ⟨0x300C8, 0, 24, 0⟩
def AUTH_ENV_WORD (n : Nat) : Fld := ⟨0x30100 + 0x4 * n, 0, 24, 0⟩
/-! JOB (R231). -/
def JOB_STAT_READY : Fld := ⟨0x60000, 0, 8, 0⟩
def JOB_STAT_ARMED : Fld := ⟨0x60000, 8, 4, 0⟩
def JOB_STAT_RUNNING : Fld := ⟨0x60000, 12, 4, 0⟩
def JOB_STAT_ENDING : Fld := ⟨0x60000, 16, 8, 0⟩
def JOB_SEL_CTX : Fld := ⟨0x60004, 0, 7, 0⟩
def JOB_INFO_0_STATE : Fld := ⟨0x60008, 0, 3, 0⟩
def JOB_INFO_0_E_PEND : Fld := ⟨0x60008, 3, 1, 0⟩
def JOB_INFO_0_BARS : Fld := ⟨0x60008, 8, 16, 0⟩
def JOB_INFO_1_JOB_ID : Fld := ⟨0x6000C, 0, 24, 0⟩
def JOB_INFO_2_START : Fld := ⟨0x60010, 0, 24, 0⟩
def JOB_INFO_3_START : Fld := ⟨0x60014, 0, 24, 0⟩
def JOB_INFO_4_END : Fld := ⟨0x60018, 0, 24, 16777215⟩
def JOB_INFO_5_END : Fld := ⟨0x6001C, 0, 24, 16777215⟩
def JOB_INFO_6_COMMIT : Fld := ⟨0x60020, 0, 24, 0⟩
def JOB_INFO_7_BUF : Fld := ⟨0x60024, 0, 16, 0⟩
def JOB_INFO_7_GEN : Fld := ⟨0x60024, 16, 8, 0⟩
def JOB_BAR_CTX (n : Nat) : Fld := ⟨0x60040 + 0x4 * n, 0, 7, 0⟩
def JOB_BAR_VALID (n : Nat) : Fld := ⟨0x60040 + 0x4 * n, 7, 1, 0⟩
def JOB_BAR_UNDER (n : Nat) : Fld := ⟨0x60040 + 0x4 * n, 8, 1, 0⟩
def JOB_PAGE_PAGE (n : Nat) : Fld := ⟨0x60080 + 0x4 * n, 0, 24, 0⟩
def JOB_LIMIT_RATE (n : Nat) : Fld := ⟨0x600C0 + 0x4 * n, 0, 24, 0⟩
def JOB_UNDER_LINES (n : Nat) : Fld := ⟨0x60100 + 0x4 * n, 0, 24, 0⟩
def JOB_STREAM_ERR_LATE (n : Nat) : Fld := ⟨0x60140 + 0x4 * n, 0, 8, 0⟩
def JOB_STREAM_ERR_SEQ (n : Nat) : Fld := ⟨0x60140 + 0x4 * n, 8, 8, 0⟩
def JOB_STREAM_ERR_CUT (n : Nat) : Fld := ⟨0x60140 + 0x4 * n, 16, 8, 0⟩
def JOB_BOUND_LO_LINE : Fld := ⟨0x60180, 0, 24, 0⟩
def JOB_BOUND_HI_LINE : Fld := ⟨0x60184, 0, 24, 0⟩
/-! ZIP (R255). -/
def ZIP_CTL_EN (d : Nat) : Fld := ⟨0x800000 + 0x100000 * d + 0x10000, 0, 1, 0⟩
def ZIP_CTL_PEND_EN (d : Nat) : Fld := ⟨0x800000 + 0x100000 * d + 0x10000, 1, 1, 0⟩
def ZIP_CTL_PEND_DIS (d : Nat) : Fld := ⟨0x800000 + 0x100000 * d + 0x10000, 2, 1, 0⟩
def ZIP_CTL_STATE (d : Nat) : Fld := ⟨0x800000 + 0x100000 * d + 0x10000, 4, 2, 0⟩
def ZIP_CTL_START_FAIL (d : Nat) : Fld := ⟨0x800000 + 0x100000 * d + 0x10000, 6, 1, 0⟩
def ZIP_CTL_STOP_TIMEOUT (d : Nat) : Fld := ⟨0x800000 + 0x100000 * d + 0x10000, 7, 1, 0⟩
def ZIP_CTL_WORK_MAX (d : Nat) : Fld := ⟨0x800000 + 0x100000 * d + 0x10000, 9, 3, 6⟩
def ZIP_STAT_DBUSY (d : Nat) : Fld := ⟨0x800000 + 0x100000 * d + 0x10004, 0, 8, 0⟩
def ZIP_STAT_CBUSY (d : Nat) : Fld := ⟨0x800000 + 0x100000 * d + 0x10004, 8, 2, 0⟩
def ZIP_STAT_ONWORK (d : Nat) : Fld := ⟨0x800000 + 0x100000 * d + 0x10004, 10, 4, 0⟩
def ZIP_STALL_TO_MS (d : Nat) : Fld := ⟨0x800000 + 0x100000 * d + 0x10008, 0, 16, 1000⟩
def ZIP_COMP_LVL_LVL0 (d : Nat) : Fld := ⟨0x800000 + 0x100000 * d + 0x1000C, 0, 4, 3⟩
def ZIP_COMP_LVL_LVL1 (d : Nat) : Fld := ⟨0x800000 + 0x100000 * d + 0x1000C, 4, 4, 3⟩
def ZIP_UNIT_STATE (d n : Nat) : Fld := ⟨0x800000 + 0x100000 * d + 0x10010 + 0x4 * n, 0, 3, 0⟩
def ZIP_UNIT_USE (d n : Nat) : Fld := ⟨0x800000 + 0x100000 * d + 0x10010 + 0x4 * n, 3, 2, 0⟩
def ZIP_UNIT_BAR (d n : Nat) : Fld := ⟨0x800000 + 0x100000 * d + 0x10010 + 0x4 * n, 5, 4, 0⟩
def ZIP_UTAG_TAG (d n : Nat) : Fld := ⟨0x800000 + 0x100000 * d + 0x10030 + 0x4 * n, 0, 24, 0⟩
def ZIP_CSTAT_STATE (d n : Nat) : Fld := ⟨0x800000 + 0x100000 * d + 0x10060 + 0x4 * n, 0, 2, 0⟩
def ZIP_CSTAT_LEVEL (d n : Nat) : Fld := ⟨0x800000 + 0x100000 * d + 0x10060 + 0x4 * n, 2, 4, 0⟩
def ZIP_CSTAT_OWNER (d n : Nat) : Fld := ⟨0x800000 + 0x100000 * d + 0x10060 + 0x4 * n, 6, 1, 0⟩
def ZIP_CSTAT_CHAIN (d n : Nat) : Fld := ⟨0x800000 + 0x100000 * d + 0x10060 + 0x4 * n, 7, 4, 0⟩
def ZIP_OUT_LO_BYTES (d : Nat) : Fld := ⟨0x800000 + 0x100000 * d + 0x10070, 0, 24, 0⟩
def ZIP_OUT_HI_BYTES (d : Nat) : Fld := ⟨0x800000 + 0x100000 * d + 0x10074, 0, 24, 0⟩
def ZIP_CIN_LO_BYTES (d : Nat) : Fld := ⟨0x800000 + 0x100000 * d + 0x10078, 0, 24, 0⟩
def ZIP_CIN_HI_BYTES (d : Nat) : Fld := ⟨0x800000 + 0x100000 * d + 0x1007C, 0, 24, 0⟩
def ZIP_ERR_DEC (d : Nat) : Fld := ⟨0x800000 + 0x100000 * d + 0x10080, 0, 8, 0⟩
def ZIP_ERR_LIMIT (d : Nat) : Fld := ⟨0x800000 + 0x100000 * d + 0x10080, 8, 8, 0⟩
def ZIP_ERR_CRC (d : Nat) : Fld := ⟨0x800000 + 0x100000 * d + 0x10080, 16, 8, 0⟩
def ZIP_CERR_ABORT (d : Nat) : Fld := ⟨0x800000 + 0x100000 * d + 0x10084, 0, 8, 0⟩
def ZIP_SUSP_COUNT (d : Nat) : Fld := ⟨0x800000 + 0x100000 * d + 0x10088, 0, 24, 0⟩
def ZIP_LAST_ERR_CODE (d : Nat) : Fld := ⟨0x800000 + 0x100000 * d + 0x1008C, 0, 5, 0⟩
def ZIP_LAST_ERR_UNIT (d : Nat) : Fld := ⟨0x800000 + 0x100000 * d + 0x1008C, 5, 3, 0⟩
def ZIP_LAST_ERR_COMP (d : Nat) : Fld := ⟨0x800000 + 0x100000 * d + 0x1008C, 8, 1, 0⟩
def ZIP_LAST_ERR_BAR (d : Nat) : Fld := ⟨0x800000 + 0x100000 * d + 0x1008C, 9, 4, 0⟩
/-! RAS (R284). -/
def RAS_PCTL_EN (d n : Nat) : Fld := ⟨0x800000 + 0x100000 * d + 0x20000 + 0x4 * n, 0, 1, 0⟩
def RAS_PCTL_PEND_EN (d n : Nat) : Fld := ⟨0x800000 + 0x100000 * d + 0x20000 + 0x4 * n, 1, 1, 0⟩
def RAS_PCTL_PEND_DIS (d n : Nat) : Fld := ⟨0x800000 + 0x100000 * d + 0x20000 + 0x4 * n, 2, 1, 0⟩
def RAS_PCTL_STATE (d n : Nat) : Fld := ⟨0x800000 + 0x100000 * d + 0x20000 + 0x4 * n, 4, 2, 0⟩
def RAS_PCTL_START_FAIL (d n : Nat) : Fld := ⟨0x800000 + 0x100000 * d + 0x20000 + 0x4 * n, 6, 1, 0⟩
def RAS_PCTL_STOP_TIMEOUT (d n : Nat) : Fld := ⟨0x800000 + 0x100000 * d + 0x20000 + 0x4 * n, 7, 1, 0⟩
def RAS_PCTL_STITCH (d n : Nat) : Fld := ⟨0x800000 + 0x100000 * d + 0x20000 + 0x4 * n, 9, 1, 0⟩
def RAS_PCTL_LEAD (d n : Nat) : Fld := ⟨0x800000 + 0x100000 * d + 0x20000 + 0x4 * n, 11, 11, 64⟩
def RAS_XREG_XREG (d n : Nat) : Fld := ⟨0x800000 + 0x100000 * d + 0x20008 + 0x4 * n, 0, 10, 0⟩
def RAS_YREG_YREG (d n : Nat) : Fld := ⟨0x800000 + 0x100000 * d + 0x20010 + 0x4 * n, 0, 16, 0⟩
def RAS_W_WIDTH (d n : Nat) : Fld := ⟨0x800000 + 0x100000 * d + 0x20018 + 0x4 * n, 0, 17, 0⟩
def RAS_W_CODE (d n : Nat) : Fld := ⟨0x800000 + 0x100000 * d + 0x20018 + 0x4 * n, 17, 2, 0⟩
def RAS_DL_DEPTH (d n : Nat) : Fld := ⟨0x800000 + 0x100000 * d + 0x20020 + 0x4 * n, 0, 4, 0⟩
def RAS_DL_MAX_W (d n : Nat) : Fld := ⟨0x800000 + 0x100000 * d + 0x20020 + 0x4 * n, 8, 16, 0⟩
def RAS_GEOM_XRES (d : Nat) : Fld := ⟨0x800000 + 0x100000 * d + 0x20028, 0, 12, 0⟩
def RAS_BEGUN_LO_LINE (d n : Nat) : Fld := ⟨0x800000 + 0x100000 * d + 0x20030 + 0x8 * n, 0, 24, 0⟩
def RAS_BEGUN_HI_LINE (d n : Nat) : Fld := ⟨0x800000 + 0x100000 * d + 0x20034 + 0x8 * n, 0, 24, 0⟩
def RAS_LATE_COUNT (d n : Nat) : Fld := ⟨0x800000 + 0x100000 * d + 0x20040 + 0x4 * n, 0, 24, 0⟩
def RAS_LOST_COUNT (d n : Nat) : Fld := ⟨0x800000 + 0x100000 * d + 0x20048 + 0x4 * n, 0, 24, 0⟩
def RAS_SUBST_COUNT (d n : Nat) : Fld := ⟨0x800000 + 0x100000 * d + 0x20050 + 0x4 * n, 0, 24, 0⟩
def RAS_SKIP_COUNT (d n : Nat) : Fld := ⟨0x800000 + 0x100000 * d + 0x20058 + 0x4 * n, 0, 24, 0⟩
def RAS_STAT_CLAMP (d : Nat) : Fld := ⟨0x800000 + 0x100000 * d + 0x20060, 0, 2, 0⟩
def RAS_STAT_LATE_NOW (d : Nat) : Fld := ⟨0x800000 + 0x100000 * d + 0x20060, 2, 2, 0⟩
def RAS_STAT_ECC (d : Nat) : Fld := ⟨0x800000 + 0x100000 * d + 0x20060, 8, 8, 0⟩
def RAS_ROW_ROW_SEP (d c : Nat) : Fld := ⟨0x800000 + 0x100000 * d + 0x20080 + 0x4 * c, 0, 24, 0⟩
def RAS_NZ_ADDR_ADDR (d : Nat) : Fld := ⟨0x800000 + 0x100000 * d + 0x20100, 0, 17, 0⟩
def RAS_CURVE_WORD (d n k e : Nat) : Fld := ⟨0x800000 + 0x100000 * d + 0x24000 + 0x1000 * n + 0x40 * k + 4 * e, 0, 14, 17*e⟩
/-! FBK (R306). -/
def FBK_CTL_EN (d i : Nat) : Fld := ⟨0x800000 + 0x100000 * d + 0x70000 + 0x40 * i, 0, 1, 0⟩
def FBK_CTL_PEND_EN (d i : Nat) : Fld := ⟨0x800000 + 0x100000 * d + 0x70000 + 0x40 * i, 1, 1, 0⟩
def FBK_CTL_PEND_DIS (d i : Nat) : Fld := ⟨0x800000 + 0x100000 * d + 0x70000 + 0x40 * i, 2, 1, 0⟩
def FBK_CTL_STATE (d i : Nat) : Fld := ⟨0x800000 + 0x100000 * d + 0x70000 + 0x40 * i, 4, 2, 0⟩
def FBK_CTL_START_FAIL (d i : Nat) : Fld := ⟨0x800000 + 0x100000 * d + 0x70000 + 0x40 * i, 6, 1, 0⟩
def FBK_CTL_STOP_TIMEOUT (d i : Nat) : Fld := ⟨0x800000 + 0x100000 * d + 0x70000 + 0x40 * i, 7, 1, 0⟩
def FBK_CTL_MODE (d i : Nat) : Fld := ⟨0x800000 + 0x100000 * d + 0x70000 + 0x40 * i, 9, 2, 0⟩
def FBK_CTL_INV (d i : Nat) : Fld := ⟨0x800000 + 0x100000 * d + 0x70000 + 0x40 * i, 11, 1, 0⟩
def FBK_CTL_INFER (d i : Nat) : Fld := ⟨0x800000 + 0x100000 * d + 0x70000 + 0x40 * i, 12, 1, 0⟩
def FBK_CTL_ZMODE (d i : Nat) : Fld := ⟨0x800000 + 0x100000 * d + 0x70000 + 0x40 * i, 13, 2, 1⟩
def FBK_CTL_AVG (d i : Nat) : Fld := ⟨0x800000 + 0x100000 * d + 0x70000 + 0x40 * i, 15, 2, 2⟩
def FBK_CTL_4_EN (d : Nat) : Fld := ⟨0x800000 + 0x100000 * d + 0x70100, 0, 1, 1⟩
def FBK_CTL_4_STATE (d : Nat) : Fld := ⟨0x800000 + 0x100000 * d + 0x70100, 4, 2, 2⟩
def FBK_CTL_4_MODE (d : Nat) : Fld := ⟨0x800000 + 0x100000 * d + 0x70100, 9, 2, 0⟩
def FBK_CTL_4_INV (d : Nat) : Fld := ⟨0x800000 + 0x100000 * d + 0x70100, 11, 1, 0⟩
def FBK_CTL_4_INFER (d : Nat) : Fld := ⟨0x800000 + 0x100000 * d + 0x70100, 12, 1, 0⟩
def FBK_CTL_4_ZMODE (d : Nat) : Fld := ⟨0x800000 + 0x100000 * d + 0x70100, 13, 2, 1⟩
def FBK_CTL_4_AVG (d : Nat) : Fld := ⟨0x800000 + 0x100000 * d + 0x70100, 15, 2, 2⟩
def FBK_CFG_FILT (d i : Nat) : Fld := ⟨0x800000 + 0x100000 * d + 0x70004 + 0x40 * i, 0, 8, 4⟩
def FBK_CFG_STILL_TO (d i : Nat) : Fld := ⟨0x800000 + 0x100000 * d + 0x70004 + 0x40 * i, 8, 16, 100⟩
def FBK_STAT_STILL (d i : Nat) : Fld := ⟨0x800000 + 0x100000 * d + 0x70008 + 0x40 * i, 0, 1, 1⟩
def FBK_STAT_DIR (d i : Nat) : Fld := ⟨0x800000 + 0x100000 * d + 0x70008 + 0x40 * i, 1, 1, 0⟩
def FBK_STAT_LOS (d i : Nat) : Fld := ⟨0x800000 + 0x100000 * d + 0x70008 + 0x40 * i, 2, 1, 0⟩
def FBK_STAT_QERR (d i : Nat) : Fld := ⟨0x800000 + 0x100000 * d + 0x70008 + 0x40 * i, 3, 1, 0⟩
def FBK_STAT_IDX_NEW (d i : Nat) : Fld := ⟨0x800000 + 0x100000 * d + 0x70008 + 0x40 * i, 4, 1, 0⟩
def FBK_STAT_HOLD (d i : Nat) : Fld := ⟨0x800000 + 0x100000 * d + 0x70008 + 0x40 * i, 5, 1, 0⟩
def FBK_QERR_COUNT (d i : Nat) : Fld := ⟨0x800000 + 0x100000 * d + 0x7000C + 0x40 * i, 0, 24, 0⟩
def FBK_POS_LO_VALUE (d i : Nat) : Fld := ⟨0x800000 + 0x100000 * d + 0x70010 + 0x40 * i, 0, 24, 0⟩
def FBK_POS_HI_VALUE (d i : Nat) : Fld := ⟨0x800000 + 0x100000 * d + 0x70014 + 0x40 * i, 0, 24, 0⟩
def FBK_SPD_LO_VALUE (d i : Nat) : Fld := ⟨0x800000 + 0x100000 * d + 0x70018 + 0x40 * i, 0, 24, 0⟩
def FBK_SPD_HI_VALUE (d i : Nat) : Fld := ⟨0x800000 + 0x100000 * d + 0x7001C + 0x40 * i, 0, 24, 0⟩
def FBK_IDX_LO_VALUE (d i : Nat) : Fld := ⟨0x800000 + 0x100000 * d + 0x70020 + 0x40 * i, 0, 24, 0⟩
def FBK_IDX_HI_VALUE (d i : Nat) : Fld := ⟨0x800000 + 0x100000 * d + 0x70024 + 0x40 * i, 0, 24, 0⟩
def FBK_EMU_CTL_EN (d m : Nat) : Fld := ⟨0x800000 + 0x100000 * d + 0x70200 + 0x40 * m, 0, 1, 0⟩
def FBK_EMU_CTL_PEND_EN (d m : Nat) : Fld := ⟨0x800000 + 0x100000 * d + 0x70200 + 0x40 * m, 1, 1, 0⟩
def FBK_EMU_CTL_PEND_DIS (d m : Nat) : Fld := ⟨0x800000 + 0x100000 * d + 0x70200 + 0x40 * m, 2, 1, 0⟩
def FBK_EMU_CTL_STATE (d m : Nat) : Fld := ⟨0x800000 + 0x100000 * d + 0x70200 + 0x40 * m, 4, 2, 0⟩
def FBK_EMU_CTL_START_FAIL (d m : Nat) : Fld := ⟨0x800000 + 0x100000 * d + 0x70200 + 0x40 * m, 6, 1, 0⟩
def FBK_EMU_CTL_STOP_TIMEOUT (d m : Nat) : Fld := ⟨0x800000 + 0x100000 * d + 0x70200 + 0x40 * m, 7, 1, 0⟩
def FBK_EMU_CTL_SRC (d m : Nat) : Fld := ⟨0x800000 + 0x100000 * d + 0x70200 + 0x40 * m, 9, 4, 0⟩
def FBK_EMU_CTL_MODE (d m : Nat) : Fld := ⟨0x800000 + 0x100000 * d + 0x70200 + 0x40 * m, 13, 1, 0⟩
def FBK_EMU_NUM_VALUE (d m : Nat) : Fld := ⟨0x800000 + 0x100000 * d + 0x70204 + 0x40 * m, 0, 24, 1⟩
def FBK_EMU_DEN_VALUE (d m : Nat) : Fld := ⟨0x800000 + 0x100000 * d + 0x70208 + 0x40 * m, 0, 24, 1⟩
def FBK_EMU_ZPER_VALUE (d m : Nat) : Fld := ⟨0x800000 + 0x100000 * d + 0x7020C + 0x40 * m, 0, 24, 0⟩
def FBK_EMU_GAP_VALUE (d m : Nat) : Fld := ⟨0x800000 + 0x100000 * d + 0x70210 + 0x40 * m, 0, 24, 20⟩
def FBK_EMU_STAT_BACKLOG (d m : Nat) : Fld := ⟨0x800000 + 0x100000 * d + 0x70214 + 0x40 * m, 0, 17, 0⟩
def FBK_EMU_STAT_OVR (d m : Nat) : Fld := ⟨0x800000 + 0x100000 * d + 0x70214 + 0x40 * m, 17, 1, 0⟩
def FBK_EMU_DROP_COUNT (d m : Nat) : Fld := ⟨0x800000 + 0x100000 * d + 0x70218 + 0x40 * m, 0, 24, 0⟩
/-! LNP (R341). -/
def LNP_CTL_EN (d n : Nat) : Fld := ⟨0x800000 + 0x100000 * d + 0x30000 + 0x4 * n, 0, 1, 0⟩
def LNP_CTL_PEND_EN (d n : Nat) : Fld := ⟨0x800000 + 0x100000 * d + 0x30000 + 0x4 * n, 1, 1, 0⟩
def LNP_CTL_PEND_DIS (d n : Nat) : Fld := ⟨0x800000 + 0x100000 * d + 0x30000 + 0x4 * n, 2, 1, 0⟩
def LNP_CTL_STATE (d n : Nat) : Fld := ⟨0x800000 + 0x100000 * d + 0x30000 + 0x4 * n, 4, 2, 0⟩
def LNP_CTL_START_FAIL (d n : Nat) : Fld := ⟨0x800000 + 0x100000 * d + 0x30000 + 0x4 * n, 6, 1, 0⟩
def LNP_CTL_STOP_TIMEOUT (d n : Nat) : Fld := ⟨0x800000 + 0x100000 * d + 0x30000 + 0x4 * n, 7, 1, 0⟩
def LNP_FDLY_FDLY (d n : Nat) : Fld := ⟨0x800000 + 0x100000 * d + 0x30008 + 0x4 * n, 0, 8, 0⟩
def LNP_FDLY_ADV (d n : Nat) : Fld := ⟨0x800000 + 0x100000 * d + 0x30008 + 0x4 * n, 8, 16, 0⟩
def LNP_HYST_HYST (d : Nat) : Fld := ⟨0x800000 + 0x100000 * d + 0x30010, 0, 4, 2⟩
def LNP_TSET_TSET (d : Nat) : Fld := ⟨0x800000 + 0x100000 * d + 0x30014, 0, 12, 80⟩
def LNP_STAT_BAND (d n : Nat) : Fld := ⟨0x800000 + 0x100000 * d + 0x30018 + 0x4 * n, 0, 2, 0⟩
def LNP_STAT_REVERSE (d n : Nat) : Fld := ⟨0x800000 + 0x100000 * d + 0x30018 + 0x4 * n, 2, 1, 0⟩
def LNP_STAT_WEB_LOST (d n : Nat) : Fld := ⟨0x800000 + 0x100000 * d + 0x30018 + 0x4 * n, 3, 1, 0⟩
def LNP_STAT_ADV_CLAMP (d n : Nat) : Fld := ⟨0x800000 + 0x100000 * d + 0x30018 + 0x4 * n, 4, 1, 0⟩
def LNP_STAT_Q (d n : Nat) : Fld := ⟨0x800000 + 0x100000 * d + 0x30018 + 0x4 * n, 12, 12, 0⟩
def LNP_MP_MP (d n : Nat) : Fld := ⟨0x800000 + 0x100000 * d + 0x30020 + 0x4 * n, 0, 24, 0⟩
def LNP_LIMS_NS (d n : Nat) : Fld := ⟨0x800000 + 0x100000 * d + 0x30028 + 0x4 * n, 0, 12, 0⟩
def LNP_LIMS_RS (d n : Nat) : Fld := ⟨0x800000 + 0x100000 * d + 0x30028 + 0x4 * n, 12, 12, 0⟩
def LNP_HWM_LO_VALUE (d : Nat) : Fld := ⟨0x800000 + 0x100000 * d + 0x30030, 0, 24, 0⟩
def LNP_HWM_HI_VALUE (d : Nat) : Fld := ⟨0x800000 + 0x100000 * d + 0x30034, 0, 24, 0⟩
def LNP_OMIT_COUNT (d n : Nat) : Fld := ⟨0x800000 + 0x100000 * d + 0x30040 + 0x4 * n, 0, 24, 0⟩
def LNP_NOFIRE_COUNT (d n : Nat) : Fld := ⟨0x800000 + 0x100000 * d + 0x30048 + 0x4 * n, 0, 24, 0⟩
def LNP_LATE_COUNT (d n : Nat) : Fld := ⟨0x800000 + 0x100000 * d + 0x30050 + 0x4 * n, 0, 24, 0⟩
def LNP_REV_COUNT (d : Nat) : Fld := ⟨0x800000 + 0x100000 * d + 0x30058, 0, 24, 0⟩
def LNP_TKL_IDLE (d n : Nat) : Fld := ⟨0x800000 + 0x100000 * d + 0x30060 + 0x4 * n, 0, 16, 1000⟩
def LNP_TKL_LINES (d n : Nat) : Fld := ⟨0x800000 + 0x100000 * d + 0x30060 + 0x4 * n, 16, 3, 1⟩
def LNP_TKLPW_PW (d n : Nat) : Fld := ⟨0x800000 + 0x100000 * d + 0x30068 + 0x4 * n, 0, 13, 0⟩
def LNP_GRP_QUIESCE (d g : Nat) : Fld := ⟨0x800000 + 0x100000 * d + 0x30080 + 0x4 * g, 0, 1, 0⟩
def LNP_GRP_STATE (d g : Nat) : Fld := ⟨0x800000 + 0x100000 * d + 0x30080 + 0x4 * g, 1, 2, 0⟩
def LNP_GRP_FAULT (d g : Nat) : Fld := ⟨0x800000 + 0x100000 * d + 0x30080 + 0x4 * g, 3, 1, 0⟩
def LNP_GRP_NEW (d g : Nat) : Fld := ⟨0x800000 + 0x100000 * d + 0x30080 + 0x4 * g, 4, 1, 0⟩
def LNP_GRP_PACER (d g : Nat) : Fld := ⟨0x800000 + 0x100000 * d + 0x30080 + 0x4 * g, 5, 1, 0⟩
def LNP_GRP_HEAD (d g : Nat) : Fld := ⟨0x800000 + 0x100000 * d + 0x30080 + 0x4 * g, 16, 8, 0⟩
def LNP_PW_PW (d g : Nat) : Fld := ⟨0x800000 + 0x100000 * d + 0x300A0 + 0x4 * g, 0, 13, 0⟩
def LNP_HRANK_RANK (d g : Nat) : Fld := ⟨0x800000 + 0x100000 * d + 0x300C0 + 0x4 * g, 0, 16, 0⟩
def LNP_HMP_PERIOD (d g : Nat) : Fld := ⟨0x800000 + 0x100000 * d + 0x300E0 + 0x4 * g, 0, 24, 0⟩
def LNP_HPM_PMAX (d g : Nat) : Fld := ⟨0x800000 + 0x100000 * d + 0x30100 + 0x4 * g, 0, 13, 0⟩
def LNP_VLIM_V_MIN (d g : Nat) : Fld := ⟨0x800000 + 0x100000 * d + 0x30120 + 0x4 * g, 0, 12, 0⟩
def LNP_VLIM_V_MAX (d g : Nat) : Fld := ⟨0x800000 + 0x100000 * d + 0x30120 + 0x4 * g, 12, 12, 0⟩
def LNP_PHI_PHI (d g : Nat) : Fld := ⟨0x800000 + 0x100000 * d + 0x30140 + 0x4 * g, 0, 9, 0⟩
def LNP_PHI_DELTA (d g : Nat) : Fld := ⟨0x800000 + 0x100000 * d + 0x30140 + 0x4 * g, 9, 8, 0⟩
def LNP_WD_CUT (d g : Nat) : Fld := ⟨0x800000 + 0x100000 * d + 0x30160 + 0x4 * g, 0, 8, 0⟩
def LNP_WD_STUCK (d g : Nat) : Fld := ⟨0x800000 + 0x100000 * d + 0x30160 + 0x4 * g, 8, 8, 0⟩
def LNP_WD_GUARD (d g : Nat) : Fld := ⟨0x800000 + 0x100000 * d + 0x30160 + 0x4 * g, 16, 8, 0⟩
def LNP_REJ_CTL_REJ_DELAY (d : Nat) : Fld := ⟨0x800000 + 0x100000 * d + 0x30200, 0, 24, 0⟩
def LNP_REJ_EXT_REJ_EXT (d : Nat) : Fld := ⟨0x800000 + 0x100000 * d + 0x30204, 0, 16, 0⟩
def LNP_REJ_STAT_PEND (d : Nat) : Fld := ⟨0x800000 + 0x100000 * d + 0x30208, 0, 5, 0⟩
def LNP_REJ_STAT_REJECT (d : Nat) : Fld := ⟨0x800000 + 0x100000 * d + 0x30208, 5, 1, 0⟩
def LNP_REJ_STAT_SPEED_LIM (d : Nat) : Fld := ⟨0x800000 + 0x100000 * d + 0x30208, 6, 1, 0⟩
def LNP_REJ_LATE_COUNT (d : Nat) : Fld := ⟨0x800000 + 0x100000 * d + 0x3020C, 0, 24, 0⟩
/-! LAN (R367). -/
def LAN_GCTL_EN (d g : Nat) : Fld := ⟨0x800000 + 0x100000 * d + 0x40000 + 0x4 * g, 0, 1, 0⟩
def LAN_GCTL_PEND_EN (d g : Nat) : Fld := ⟨0x800000 + 0x100000 * d + 0x40000 + 0x4 * g, 1, 1, 0⟩
def LAN_GCTL_PEND_DIS (d g : Nat) : Fld := ⟨0x800000 + 0x100000 * d + 0x40000 + 0x4 * g, 2, 1, 0⟩
def LAN_GCTL_STATE (d g : Nat) : Fld := ⟨0x800000 + 0x100000 * d + 0x40000 + 0x4 * g, 4, 2, 0⟩
def LAN_GCTL_START_FAIL (d g : Nat) : Fld := ⟨0x800000 + 0x100000 * d + 0x40000 + 0x4 * g, 6, 1, 0⟩
def LAN_GCTL_STOP_TIMEOUT (d g : Nat) : Fld := ⟨0x800000 + 0x100000 * d + 0x40000 + 0x4 * g, 7, 1, 0⟩
def LAN_GSTAT_LINK (d g : Nat) : Fld := ⟨0x800000 + 0x100000 * d + 0x40020 + 0x4 * g, 0, 3, 0⟩
def LAN_GSTAT_RATE (d g : Nat) : Fld := ⟨0x800000 + 0x100000 * d + 0x40020 + 0x4 * g, 3, 2, 0⟩
def LAN_GSTAT_RATE_PEND (d g : Nat) : Fld := ⟨0x800000 + 0x100000 * d + 0x40020 + 0x4 * g, 5, 1, 0⟩
def LAN_GSTAT_IDV (d g : Nat) : Fld := ⟨0x800000 + 0x100000 * d + 0x40020 + 0x4 * g, 6, 1, 0⟩
def LAN_GSTAT_ALIGNED (d g : Nat) : Fld := ⟨0x800000 + 0x100000 * d + 0x40020 + 0x4 * g, 8, 9, 0⟩
def LAN_GSTAT_FLAGS (d g : Nat) : Fld := ⟨0x800000 + 0x100000 * d + 0x40020 + 0x4 * g, 17, 6, 0⟩
def LAN_TEMP_HEAD (d g : Nat) : Fld := ⟨0x800000 + 0x100000 * d + 0x40040 + 0x4 * g, 0, 12, 0⟩
def LAN_TEMP_ADAPT (d g : Nat) : Fld := ⟨0x800000 + 0x100000 * d + 0x40040 + 0x4 * g, 12, 12, 0⟩
def LAN_FLW_EPOCH (d g : Nat) : Fld := ⟨0x800000 + 0x100000 * d + 0x40060 + 0x4 * g, 0, 24, 0⟩
def LAN_RERR_CODE (d g : Nat) : Fld := ⟨0x800000 + 0x100000 * d + 0x40080 + 0x4 * g, 0, 8, 0⟩
def LAN_RERR_PKT (d g : Nat) : Fld := ⟨0x800000 + 0x100000 * d + 0x40080 + 0x4 * g, 8, 8, 0⟩
def LAN_RERR_DOWNS (d g : Nat) : Fld := ⟨0x800000 + 0x100000 * d + 0x40080 + 0x4 * g, 16, 8, 0⟩
def LAN_SER_LO_SERIAL (d g : Nat) : Fld := ⟨0x800000 + 0x100000 * d + 0x400A0 + 0x8 * g, 0, 24, 0⟩
def LAN_SER_HI_SERIAL (d g : Nat) : Fld := ⟨0x800000 + 0x100000 * d + 0x400A4 + 0x8 * g, 0, 24, 0⟩
def LAN_LERR_COUNT (d p : Nat) : Fld := ⟨0x800000 + 0x100000 * d + 0x40100 + 0x4 * p, 0, 24, 0⟩
def LAN_EQ_SETTING (d p : Nat) : Fld := ⟨0x800000 + 0x100000 * d + 0x40220 + 0x4 * p, 0, 18, 0⟩
def LAN_ERR_LIM_LIM (d : Nat) : Fld := ⟨0x800000 + 0x100000 * d + 0x40360, 0, 16, 16⟩
def LAN_ACT_EPOCH_EPOCH (d : Nat) : Fld := ⟨0x800000 + 0x100000 * d + 0x40364, 0, 24, 0⟩
def LAN_ACT_FLAGS_HOLD (d : Nat) : Fld := ⟨0x800000 + 0x100000 * d + 0x40368, 0, 1, 1⟩
def LAN_MRD_ADDR_ADDR (d : Nat) : Fld := ⟨0x800000 + 0x100000 * d + 0x40370, 0, 16, 0⟩
def LAN_MRD_ADDR_GROUP (d : Nat) : Fld := ⟨0x800000 + 0x100000 * d + 0x40370, 16, 3, 0⟩
def LAN_MRD_CTL_COUNT (d : Nat) : Fld := ⟨0x800000 + 0x100000 * d + 0x40374, 0, 7, 32⟩
def LAN_MRD_CTL_GO (d : Nat) : Fld := ⟨0x800000 + 0x100000 * d + 0x40374, 7, 1, 0⟩
def LAN_MRD_STAT_BUSY (d : Nat) : Fld := ⟨0x800000 + 0x100000 * d + 0x40378, 0, 1, 0⟩
def LAN_MRD_STAT_RESULT (d : Nat) : Fld := ⟨0x800000 + 0x100000 * d + 0x40378, 1, 2, 0⟩
def LAN_MRD_DATA_BYTES (d w : Nat) : Fld := ⟨0x800000 + 0x100000 * d + 0x40380 + 0x4 * w, 0, 24, 0⟩
/-! CAM (R396). -/
def CAM_CTL_EN (d : Nat) : Fld := ⟨0x800000 + 0x100000 * d + 0x50000, 0, 1, 0⟩
def CAM_CTL_PEND_EN (d : Nat) : Fld := ⟨0x800000 + 0x100000 * d + 0x50000, 1, 1, 0⟩
def CAM_CTL_PEND_DIS (d : Nat) : Fld := ⟨0x800000 + 0x100000 * d + 0x50000, 2, 1, 0⟩
def CAM_CTL_STATE (d : Nat) : Fld := ⟨0x800000 + 0x100000 * d + 0x50000, 4, 2, 0⟩
def CAM_CTL_START_FAIL (d : Nat) : Fld := ⟨0x800000 + 0x100000 * d + 0x50000, 6, 1, 0⟩
def CAM_CTL_STOP_TIMEOUT (d : Nat) : Fld := ⟨0x800000 + 0x100000 * d + 0x50000, 7, 1, 0⟩
def CAM_CTL_LAT (d : Nat) : Fld := ⟨0x800000 + 0x100000 * d + 0x50000, 9, 2, 0⟩
def CAM_CTL_BAYER (d : Nat) : Fld := ⟨0x800000 + 0x100000 * d + 0x50000, 11, 2, 0⟩
def CAM_CTL_FMT (d : Nat) : Fld := ⟨0x800000 + 0x100000 * d + 0x50000, 13, 1, 0⟩
def CAM_CTL_LANES (d : Nat) : Fld := ⟨0x800000 + 0x100000 * d + 0x50000, 14, 2, 2⟩
def CAM_CTL_VC (d : Nat) : Fld := ⟨0x800000 + 0x100000 * d + 0x50000, 16, 2, 0⟩
def CAM_WIDTH_SIZE (d : Nat) : Fld := ⟨0x800000 + 0x100000 * d + 0x50004, 0, 14, 4096⟩
def CAM_HEIGHT_SIZE (d : Nat) : Fld := ⟨0x800000 + 0x100000 * d + 0x50008, 0, 14, 2048⟩
def CAM_TRIG_MODE (d : Nat) : Fld := ⟨0x800000 + 0x100000 * d + 0x5000C, 0, 2, 0⟩
def CAM_TPER_PERIOD (d : Nat) : Fld := ⟨0x800000 + 0x100000 * d + 0x50010, 0, 24, 2048⟩
def CAM_TBASE_LO_BASE (d : Nat) : Fld := ⟨0x800000 + 0x100000 * d + 0x50014, 0, 24, 0⟩
def CAM_TBASE_HI_BASE (d : Nat) : Fld := ⟨0x800000 + 0x100000 * d + 0x50018, 0, 24, 0⟩
def CAM_ROW0_ROW0 (d : Nat) : Fld := ⟨0x800000 + 0x100000 * d + 0x5001C, 0, 16, 0⟩
def CAM_ROW0_FLIP (d : Nat) : Fld := ⟨0x800000 + 0x100000 * d + 0x5001C, 16, 1, 0⟩
def CAM_FLASH_FLASH_DLY (d : Nat) : Fld := ⟨0x800000 + 0x100000 * d + 0x50020, 0, 12, 0⟩
def CAM_FLASH_FLASH_W (d : Nat) : Fld := ⟨0x800000 + 0x100000 * d + 0x50020, 12, 12, 0⟩
def CAM_FMIN_FMIN (d : Nat) : Fld := ⟨0x800000 + 0x100000 * d + 0x50024, 0, 24, 10000⟩
def CAM_CCI_CTL_DEV (d : Nat) : Fld := ⟨0x800000 + 0x100000 * d + 0x50028, 0, 7, 16⟩
def CAM_CCI_CTL_SPEED (d : Nat) : Fld := ⟨0x800000 + 0x100000 * d + 0x50028, 7, 2, 1⟩
def CAM_CCI_CTL_GUARD (d : Nat) : Fld := ⟨0x800000 + 0x100000 * d + 0x50028, 10, 14, 100⟩
def CAM_SET_CNT_COUNT (d : Nat) : Fld := ⟨0x800000 + 0x100000 * d + 0x5002C, 0, 5, 0⟩
def CAM_SET_ENTRY (d e : Nat) : Fld := ⟨0x800000 + 0x100000 * d + 0x50030 + 0x4 * e, 0, 24, 0⟩
def CAM_BL_BL (d c : Nat) : Fld := ⟨0x800000 + 0x100000 * d + 0x50080 + 0x4 * c, 0, 12, 0⟩
def CAM_WB_GAIN (d c : Nat) : Fld := ⟨0x800000 + 0x100000 * d + 0x50090 + 0x4 * c, 0, 12, 1024⟩
def CAM_CCM_VALUE (d k : Nat) : Fld := ⟨0x800000 + 0x100000 * d + 0x500A0 + 4 * k, 0, 13, 1024*((4-k%4)/4)*(1-k/9)⟩
def CAM_DPC_THR (d : Nat) : Fld := ⟨0x800000 + 0x100000 * d + 0x500D0, 0, 12, 0⟩
def CAM_DPC_STATIC (d : Nat) : Fld := ⟨0x800000 + 0x100000 * d + 0x500D0, 12, 1, 0⟩
def CAM_TBL_BANK (d : Nat) : Fld := ⟨0x800000 + 0x100000 * d + 0x500D4, 0, 1, 0⟩
def CAM_TBL_LSC_EN (d : Nat) : Fld := ⟨0x800000 + 0x100000 * d + 0x500D4, 1, 1, 0⟩
def CAM_TBL_DP_COUNT (d : Nat) : Fld := ⟨0x800000 + 0x100000 * d + 0x500D4, 2, 13, 0⟩
def CAM_TBL_ADDR_ADDR (d : Nat) : Fld := ⟨0x800000 + 0x100000 * d + 0x500D8, 0, 14, 0⟩
def CAM_TBL_ADDR_TABLE (d : Nat) : Fld := ⟨0x800000 + 0x100000 * d + 0x500D8, 14, 1, 0⟩
def CAM_TBL_DATA_VALUE (d : Nat) : Fld := ⟨0x800000 + 0x100000 * d + 0x500DC, 0, 13, 0⟩
def CAM_OUT_DSCALE (d : Nat) : Fld := ⟨0x800000 + 0x100000 * d + 0x500E0, 0, 2, 2⟩
def CAM_OUT_DISP_EN (d : Nat) : Fld := ⟨0x800000 + 0x100000 * d + 0x500E0, 2, 1, 0⟩
def CAM_OUT_ARCH_EVERY (d : Nat) : Fld := ⟨0x800000 + 0x100000 * d + 0x500E0, 3, 8, 0⟩
def CAM_OUT_ARCH_FMT (d : Nat) : Fld := ⟨0x800000 + 0x100000 * d + 0x500E0, 11, 2, 1⟩
def CAM_OUT_VIS_EN (d : Nat) : Fld := ⟨0x800000 + 0x100000 * d + 0x500E0, 13, 1, 0⟩
def CAM_OUT_VIS_RING (d : Nat) : Fld := ⟨0x800000 + 0x100000 * d + 0x500E0, 14, 8, 0⟩
def CAM_ARCH_Q_BUF (d : Nat) : Fld := ⟨0x800000 + 0x100000 * d + 0x500E4, 0, 16, 0⟩
def CAM_ARCH_Q_GEN (d : Nat) : Fld := ⟨0x800000 + 0x100000 * d + 0x500E4, 16, 8, 0⟩
def CAM_ARCH_REQ_GO (d : Nat) : Fld := ⟨0x800000 + 0x100000 * d + 0x500E8, 0, 1, 0⟩
def CAM_INIT_ADDR_ADDR (d : Nat) : Fld := ⟨0x800000 + 0x100000 * d + 0x50100, 0, 6, 0⟩
def CAM_INIT_ADDR_INIT_CNT (d : Nat) : Fld := ⟨0x800000 + 0x100000 * d + 0x50100, 8, 7, 0⟩
def CAM_INIT_DATA_ENTRY (d : Nat) : Fld := ⟨0x800000 + 0x100000 * d + 0x50104, 0, 24, 0⟩
def CAM_RAW_ENTRY (d : Nat) : Fld := ⟨0x800000 + 0x100000 * d + 0x50108, 0, 24, 0⟩
def CAM_RAW_CTL_GO (d : Nat) : Fld := ⟨0x800000 + 0x100000 * d + 0x5010C, 0, 1, 0⟩
def CAM_RAW_CTL_RD (d : Nat) : Fld := ⟨0x800000 + 0x100000 * d + 0x5010C, 1, 1, 0⟩
def CAM_RAW_CTL_BUSY (d : Nat) : Fld := ⟨0x800000 + 0x100000 * d + 0x5010C, 2, 1, 0⟩
def CAM_RAW_CTL_NACK (d : Nat) : Fld := ⟨0x800000 + 0x100000 * d + 0x5010C, 3, 1, 0⟩
def CAM_RAW_CTL_RDATA (d : Nat) : Fld := ⟨0x800000 + 0x100000 * d + 0x5010C, 8, 8, 0⟩
def CAM_STAT_OPEN (d : Nat) : Fld := ⟨0x800000 + 0x100000 * d + 0x50120, 0, 1, 0⟩
def CAM_STAT_TRIG_PEND (d : Nat) : Fld := ⟨0x800000 + 0x100000 * d + 0x50120, 1, 1, 0⟩
def CAM_STAT_CCI_BUSY (d : Nat) : Fld := ⟨0x800000 + 0x100000 * d + 0x50120, 2, 1, 0⟩
def CAM_STAT_ARCH_Q (d : Nat) : Fld := ⟨0x800000 + 0x100000 * d + 0x50120, 3, 4, 0⟩
def CAM_STAT_PORT_PEND (d : Nat) : Fld := ⟨0x800000 + 0x100000 * d + 0x50120, 7, 1, 0⟩
def CAM_STAT_SET_FAIL (d : Nat) : Fld := ⟨0x800000 + 0x100000 * d + 0x50120, 8, 1, 0⟩
def CAM_FRAME_FRAME (d : Nat) : Fld := ⟨0x800000 + 0x100000 * d + 0x50124, 0, 24, 0⟩
def CAM_SEQ_SEQ (d : Nat) : Fld := ⟨0x800000 + 0x100000 * d + 0x50128, 0, 24, 0⟩
def CAM_LINES_VALID (d : Nat) : Fld := ⟨0x800000 + 0x100000 * d + 0x5012C, 0, 13, 0⟩
def CAM_LINES_SHORT (d : Nat) : Fld := ⟨0x800000 + 0x100000 * d + 0x5012C, 13, 1, 0⟩
def CAM_LINES_LONG (d : Nat) : Fld := ⟨0x800000 + 0x100000 * d + 0x5012C, 14, 1, 0⟩
def CAM_LINES_ORPHAN (d : Nat) : Fld := ⟨0x800000 + 0x100000 * d + 0x5012C, 15, 1, 0⟩
def CAM_ERR_HDR (d : Nat) : Fld := ⟨0x800000 + 0x100000 * d + 0x50130, 0, 8, 0⟩
def CAM_ERR_CRC (d : Nat) : Fld := ⟨0x800000 + 0x100000 * d + 0x50130, 8, 8, 0⟩
def CAM_ERR_CCI (d : Nat) : Fld := ⟨0x800000 + 0x100000 * d + 0x50130, 16, 8, 0⟩
def CAM_FLT_SHORT (d : Nat) : Fld := ⟨0x800000 + 0x100000 * d + 0x50134, 0, 8, 0⟩
def CAM_FLT_LONG (d : Nat) : Fld := ⟨0x800000 + 0x100000 * d + 0x50134, 8, 8, 0⟩
def CAM_FLT_MISSING (d : Nat) : Fld := ⟨0x800000 + 0x100000 * d + 0x50134, 16, 8, 0⟩
def CAM_SKIP_TRIG (d : Nat) : Fld := ⟨0x800000 + 0x100000 * d + 0x50138, 0, 8, 0⟩
def CAM_SKIP_ORPHAN (d : Nat) : Fld := ⟨0x800000 + 0x100000 * d + 0x50138, 8, 8, 0⟩
def CAM_SKIP_ARCH (d : Nat) : Fld := ⟨0x800000 + 0x100000 * d + 0x50138, 16, 8, 0⟩
def CAM_DROP_LINES (d : Nat) : Fld := ⟨0x800000 + 0x100000 * d + 0x5013C, 0, 24, 0⟩
def CAM_HIST_COUNT (d k : Nat) : Fld := ⟨0x800000 + 0x100000 * d + 0x50200 + 0x4 * k, 0, 24, 0⟩
/-! HLTH (R426). -/
def HLTH_CTL_EN : Fld := ⟨0xD0000, 0, 1, 0⟩
def HLTH_CTL_PEND_EN : Fld := ⟨0xD0000, 1, 1, 0⟩
def HLTH_CTL_PEND_DIS : Fld := ⟨0xD0000, 2, 1, 0⟩
def HLTH_CTL_STATE : Fld := ⟨0xD0000, 4, 2, 0⟩
def HLTH_CTL_START_FAIL : Fld := ⟨0xD0000, 6, 1, 0⟩
def HLTH_CTL_STOP_TIMEOUT : Fld := ⟨0xD0000, 7, 1, 0⟩
def HLTH_CTL_CHK_CODE : Fld := ⟨0xD0000, 9, 4, 15⟩
def HLTH_INTERVAL_INTERVAL : Fld := ⟨0xD0004, 0, 8, 20⟩
def HLTH_KM_K : Fld := ⟨0xD0008, 0, 4, 2⟩
def HLTH_KM_M : Fld := ⟨0xD0008, 4, 4, 3⟩
def HLTH_KM_SUBST_ORDER : Fld := ⟨0xD0008, 8, 1, 0⟩
def HLTH_THR_MISS_THR : Fld := ⟨0xD000C, 0, 12, 256⟩
def HLTH_THR_DEV_LIM : Fld := ⟨0xD000C, 12, 4, 3⟩
def HLTH_LIMS_HEAD_OUT_LIM : Fld := ⟨0xD0010, 0, 12, 64⟩
def HLTH_LIMS_REG_LIM : Fld := ⟨0xD0010, 12, 12, 32⟩
def HLTH_STAT_CYCLE : Fld := ⟨0xD0014, 0, 8, 0⟩
def HLTH_STAT_SLOTS : Fld := ⟨0xD0014, 8, 4, 0⟩
def HLTH_BAR_CHK_EN (b : Nat) : Fld := ⟨0xD0040 + 0x4 * b, 0, 1, 0⟩
def HLTH_BAR_DECIDE (b : Nat) : Fld := ⟨0xD0040 + 0x4 * b, 1, 1, 1⟩
def HLTH_BAR_CH (b : Nat) : Fld := ⟨0xD0040 + 0x4 * b, 2, 2, 3⟩
def HLTH_BAR_INV (b : Nat) : Fld := ⟨0xD0040 + 0x4 * b, 4, 1, 0⟩
def HLTH_REG_ALONG (b : Nat) : Fld := ⟨0xD0080 + 0x4 * b, 0, 12, 0⟩
def HLTH_REG_ACROSS (b : Nat) : Fld := ⟨0xD0080 + 0x4 * b, 12, 12, 0⟩
def HLTH_CAMX_ORG (c : Nat) : Fld := ⟨0xD00C0 + 0x4 * c, 0, 24, 0⟩
def HLTH_CAMS_SCALE (c : Nat) : Fld := ⟨0xD00E0 + 0x4 * c, 0, 16, 0⟩
def HLTH_CAMS_MIRROR (c : Nat) : Fld := ⟨0xD00E0 + 0x4 * c, 16, 1, 0⟩
def HLTH_OWN_LO_POS (c : Nat) : Fld := ⟨0xD0100 + 0x8 * c, 0, 16, 0⟩
def HLTH_OWN_HI_POS (c : Nat) : Fld := ⟨0xD0104 + 0x8 * c, 0, 16, 0⟩
def HLTH_NZ_ADDR_ADDR : Fld := ⟨0xD0140, 0, 20, 0⟩
def HLTH_NZ_DATA_HIST : Fld := ⟨0xD0144, 0, 8, 0⟩
def HLTH_NZ_DATA_LEN : Fld := ⟨0xD0144, 8, 4, 0⟩
def HLTH_NZ_DATA_EB_OUT : Fld := ⟨0xD0144, 12, 1, 0⟩
def HLTH_NZ_DATA_LAST : Fld := ⟨0xD0144, 13, 3, 0⟩
def HLTH_NZ_DATA_CHECKS : Fld := ⟨0xD0144, 16, 8, 0⟩
def HLTH_NZ_CMD_CLEAR : Fld := ⟨0xD0148, 0, 2, 0⟩
def HLTH_HEAD_SEL_HEAD : Fld := ⟨0xD014C, 0, 8, 0⟩
def HLTH_HEAD_STAT_OUT : Fld := ⟨0xD0150, 0, 12, 0⟩
def HLTH_HEAD_STAT_DEGRADED : Fld := ⟨0xD0150, 12, 1, 0⟩
def HLTH_CHECKS_COUNT : Fld := ⟨0xD0160, 0, 24, 0⟩
def HLTH_UNSEEN_COUNT : Fld := ⟨0xD0164, 0, 24, 0⟩
def HLTH_OUT_COUNT : Fld := ⟨0xD0168, 0, 24, 0⟩
def HLTH_BACK_COUNT : Fld := ⟨0xD016C, 0, 24, 0⟩
/-! CAL (R427). -/
def CAL_CTL_EN : Fld := ⟨0xE0000, 0, 1, 0⟩
def CAL_CTL_PEND_EN : Fld := ⟨0xE0000, 1, 1, 0⟩
def CAL_CTL_PEND_DIS : Fld := ⟨0xE0000, 2, 1, 0⟩
def CAL_CTL_STATE : Fld := ⟨0xE0000, 4, 2, 0⟩
def CAL_CTL_START_FAIL : Fld := ⟨0xE0000, 6, 1, 0⟩
def CAL_CTL_STOP_TIMEOUT : Fld := ⟨0xE0000, 7, 1, 0⟩
def CAL_CTL_MODE : Fld := ⟨0xE0000, 9, 1, 0⟩
def CAL_CTL_AUTO_BAR : Fld := ⟨0xE0000, 10, 1, 1⟩
def CAL_CTL_AUTO_CAM : Fld := ⟨0xE0000, 11, 1, 1⟩
def CAL_TRIG_TEMP_DELTA : Fld := ⟨0xE0004, 0, 8, 30⟩
def CAL_REQ_BARS : Fld := ⟨0xE0008, 0, 16, 0⟩
def CAL_REQ_CAMS : Fld := ⟨0xE0008, 16, 8, 0⟩
def CAL_XFER_BUF_BUF : Fld := ⟨0xE0014, 0, 16, 0⟩
def CAL_XFER_BUF_GEN : Fld := ⟨0xE0014, 16, 8, 0⟩
def CAL_XFER_CMD_OP : Fld := ⟨0xE0018, 0, 2, 0⟩
def CAL_XFER_STAT_BUSY : Fld := ⟨0xE001C, 0, 1, 0⟩
def CAL_XFER_STAT_STATUS : Fld := ⟨0xE001C, 1, 4, 0⟩
def CAL_BAR_STATE (b : Nat) : Fld := ⟨0xE0040 + 0x4 * b, 0, 3, 0⟩
def CAL_BAR_RESULT (b : Nat) : Fld := ⟨0xE0040 + 0x4 * b, 3, 4, 0⟩
def CAL_BAR_CAUSE (b : Nat) : Fld := ⟨0xE0040 + 0x4 * b, 7, 3, 0⟩
def CAL_BAR_DRIFT (b : Nat) : Fld := ⟨0xE0040 + 0x4 * b, 10, 12, 0⟩
def CAL_CAM_STATE (c : Nat) : Fld := ⟨0xE0080 + 0x4 * c, 0, 3, 0⟩
def CAL_CAM_RESULT (c : Nat) : Fld := ⟨0xE0080 + 0x4 * c, 3, 4, 0⟩
def CAL_CAM_CAUSE (c : Nat) : Fld := ⟨0xE0080 + 0x4 * c, 7, 3, 0⟩
def CAL_CAM_DRIFT (c : Nat) : Fld := ⟨0xE0080 + 0x4 * c, 10, 12, 0⟩
def CAL_RUNS_COUNT : Fld := ⟨0xE00C0, 0, 24, 0⟩
def CAL_FAILS_COUNT : Fld := ⟨0xE00C4, 0, 24, 0⟩
def CAL_APPLIED_COUNT : Fld := ⟨0xE00C8, 0, 24, 0⟩
/-! MOT (R450). -/
def MOT_CTL_EN (d n : Nat) : Fld := ⟨0x800000 + 0x100000 * d + 0x60000 + 0x80 * n, 0, 1, 0⟩
def MOT_CTL_PEND_EN (d n : Nat) : Fld := ⟨0x800000 + 0x100000 * d + 0x60000 + 0x80 * n, 1, 1, 0⟩
def MOT_CTL_PEND_DIS (d n : Nat) : Fld := ⟨0x800000 + 0x100000 * d + 0x60000 + 0x80 * n, 2, 1, 0⟩
def MOT_CTL_STATE (d n : Nat) : Fld := ⟨0x800000 + 0x100000 * d + 0x60000 + 0x80 * n, 4, 2, 0⟩
def MOT_CTL_START_FAIL (d n : Nat) : Fld := ⟨0x800000 + 0x100000 * d + 0x60000 + 0x80 * n, 6, 1, 0⟩
def MOT_CTL_STOP_TIMEOUT (d n : Nat) : Fld := ⟨0x800000 + 0x100000 * d + 0x60000 + 0x80 * n, 7, 1, 0⟩
def MOT_CTL_CLASS (d n : Nat) : Fld := ⟨0x800000 + 0x100000 * d + 0x60000 + 0x80 * n, 9, 1, 0⟩
def MOT_CTL_MODE (d n : Nat) : Fld := ⟨0x800000 + 0x100000 * d + 0x60000 + 0x80 * n, 10, 2, 0⟩
def MOT_CTL_STOP (d n : Nat) : Fld := ⟨0x800000 + 0x100000 * d + 0x60000 + 0x80 * n, 12, 1, 0⟩
def MOT_CTL_TSYNC (d n : Nat) : Fld := ⟨0x800000 + 0x100000 * d + 0x60000 + 0x80 * n, 13, 1, 0⟩
def MOT_CTL_DIR_INV (d n : Nat) : Fld := ⟨0x800000 + 0x100000 * d + 0x60000 + 0x80 * n, 14, 1, 0⟩
def MOT_TGT_LO_TGT (d n : Nat) : Fld := ⟨0x800000 + 0x100000 * d + 0x60004 + 0x80 * n, 0, 24, 0⟩
def MOT_TGT_HI_TGT (d n : Nat) : Fld := ⟨0x800000 + 0x100000 * d + 0x60008 + 0x80 * n, 0, 24, 0⟩
def MOT_VMAX_VMAX (d n : Nat) : Fld := ⟨0x800000 + 0x100000 * d + 0x6000C + 0x80 * n, 0, 23, 1000⟩
def MOT_ACC_RATE (d n : Nat) : Fld := ⟨0x800000 + 0x100000 * d + 0x60010 + 0x80 * n, 0, 24, 0⟩
def MOT_DEC_RATE (d n : Nat) : Fld := ⟨0x800000 + 0x100000 * d + 0x60014 + 0x80 * n, 0, 24, 0⟩
def MOT_JERK_JERK (d n : Nat) : Fld := ⟨0x800000 + 0x100000 * d + 0x60018 + 0x80 * n, 0, 24, 0⟩
def MOT_DWELL_DWELL (d n : Nat) : Fld := ⟨0x800000 + 0x100000 * d + 0x6001C + 0x80 * n, 0, 16, 10⟩
def MOT_VEL_VEL (d n : Nat) : Fld := ⟨0x800000 + 0x100000 * d + 0x60020 + 0x80 * n, 0, 24, 0⟩
def MOT_MS_KMIN (d n : Nat) : Fld := ⟨0x800000 + 0x100000 * d + 0x60024 + 0x80 * n, 0, 4, 0⟩
def MOT_MS_KMAX (d n : Nat) : Fld := ⟨0x800000 + 0x100000 * d + 0x60024 + 0x80 * n, 4, 4, 0⟩
def MOT_MS_PLIM (d n : Nat) : Fld := ⟨0x800000 + 0x100000 * d + 0x60024 + 0x80 * n, 8, 16, 2000⟩
def MOT_MSMAP_LO_MAP (d n : Nat) : Fld := ⟨0x800000 + 0x100000 * d + 0x60028 + 0x80 * n, 0, 24, 0⟩
def MOT_MSMAP_HI_MAP (d n : Nat) : Fld := ⟨0x800000 + 0x100000 * d + 0x6002C + 0x80 * n, 0, 12, 0⟩
def MOT_SRC_BSRC (d n : Nat) : Fld := ⟨0x800000 + 0x100000 * d + 0x60030 + 0x80 * n, 0, 2, 0⟩
def MOT_SRC_ESRC (d n : Nat) : Fld := ⟨0x800000 + 0x100000 * d + 0x60030 + 0x80 * n, 4, 2, 0⟩
def MOT_SRC_DEV_EN (d n : Nat) : Fld := ⟨0x800000 + 0x100000 * d + 0x60030 + 0x80 * n, 6, 1, 0⟩
def MOT_BNUM_NUM (d n : Nat) : Fld := ⟨0x800000 + 0x100000 * d + 0x60034 + 0x80 * n, 0, 24, 256⟩
def MOT_BDEN_DEN (d n : Nat) : Fld := ⟨0x800000 + 0x100000 * d + 0x60038 + 0x80 * n, 0, 24, 1⟩
def MOT_ENUM_NUM (d n : Nat) : Fld := ⟨0x800000 + 0x100000 * d + 0x6003C + 0x80 * n, 0, 24, 256⟩
def MOT_EDEN_DEN (d n : Nat) : Fld := ⟨0x800000 + 0x100000 * d + 0x60040 + 0x80 * n, 0, 24, 1⟩
def MOT_DEVWIN_DEVWIN (d n : Nat) : Fld := ⟨0x800000 + 0x100000 * d + 0x60044 + 0x80 * n, 0, 16, 1024⟩
def MOT_DEVWIN_DEVT (d n : Nat) : Fld := ⟨0x800000 + 0x100000 * d + 0x60044 + 0x80 * n, 16, 8, 10⟩
def MOT_FLIM_FLIM (d n : Nat) : Fld := ⟨0x800000 + 0x100000 * d + 0x60048 + 0x80 * n, 0, 24, 8192⟩
def MOT_GNUM_NUM (d n : Nat) : Fld := ⟨0x800000 + 0x100000 * d + 0x6004C + 0x80 * n, 0, 24, 256⟩
def MOT_GDEN_DEN (d n : Nat) : Fld := ⟨0x800000 + 0x100000 * d + 0x60050 + 0x80 * n, 0, 24, 1⟩
def MOT_GAT_LO_GAT (d n : Nat) : Fld := ⟨0x800000 + 0x100000 * d + 0x60054 + 0x80 * n, 0, 24, 0⟩
def MOT_GAT_HI_GAT (d n : Nat) : Fld := ⟨0x800000 + 0x100000 * d + 0x60058 + 0x80 * n, 0, 24, 0⟩
def MOT_STEP_PW (d n : Nat) : Fld := ⟨0x800000 + 0x100000 * d + 0x6005C + 0x80 * n, 0, 8, 20⟩
def MOT_STEP_DSET (d n : Nat) : Fld := ⟨0x800000 + 0x100000 * d + 0x6005C + 0x80 * n, 8, 8, 200⟩
def MOT_STEP_MSET (d n : Nat) : Fld := ⟨0x800000 + 0x100000 * d + 0x6005C + 0x80 * n, 16, 8, 50⟩
def MOT_SETPOS_LO_SETPOS (d n : Nat) : Fld := ⟨0x800000 + 0x100000 * d + 0x60060 + 0x80 * n, 0, 24, 0⟩
def MOT_SETPOS_HI_SETPOS (d n : Nat) : Fld := ⟨0x800000 + 0x100000 * d + 0x60064 + 0x80 * n, 0, 24, 0⟩
def MOT_STAT_MOVING (d n : Nat) : Fld := ⟨0x800000 + 0x100000 * d + 0x60400 + 0x40 * n, 0, 1, 0⟩
def MOT_STAT_DWELL (d n : Nat) : Fld := ⟨0x800000 + 0x100000 * d + 0x60400 + 0x40 * n, 1, 1, 0⟩
def MOT_STAT_REFD (d n : Nat) : Fld := ⟨0x800000 + 0x100000 * d + 0x60400 + 0x40 * n, 2, 1, 0⟩
def MOT_STAT_ACCEL_DEFERRED (d n : Nat) : Fld := ⟨0x800000 + 0x100000 * d + 0x60400 + 0x40 * n, 3, 1, 0⟩
def MOT_STAT_STALL (d n : Nat) : Fld := ⟨0x800000 + 0x100000 * d + 0x60400 + 0x40 * n, 4, 1, 0⟩
def MOT_STAT_FOLLOW_LAG (d n : Nat) : Fld := ⟨0x800000 + 0x100000 * d + 0x60400 + 0x40 * n, 5, 1, 0⟩
def MOT_STAT_GEAR_LATE (d n : Nat) : Fld := ⟨0x800000 + 0x100000 * d + 0x60400 + 0x40 * n, 6, 1, 0⟩
def MOT_STAT_GEAR_ARMED (d n : Nat) : Fld := ⟨0x800000 + 0x100000 * d + 0x60400 + 0x40 * n, 7, 1, 0⟩
def MOT_STAT_K (d n : Nat) : Fld := ⟨0x800000 + 0x100000 * d + 0x60400 + 0x40 * n, 8, 4, 0⟩
def MOT_POS_LO_POS (d n : Nat) : Fld := ⟨0x800000 + 0x100000 * d + 0x60404 + 0x40 * n, 0, 24, 0⟩
def MOT_POS_HI_POS (d n : Nat) : Fld := ⟨0x800000 + 0x100000 * d + 0x60408 + 0x40 * n, 0, 24, 0⟩
def MOT_SPD_LO_SPD (d n : Nat) : Fld := ⟨0x800000 + 0x100000 * d + 0x6040C + 0x40 * n, 0, 24, 0⟩
def MOT_SPD_HI_SPD (d n : Nat) : Fld := ⟨0x800000 + 0x100000 * d + 0x60410 + 0x40 * n, 0, 24, 0⟩
def MOT_DEV_VALUE (d n : Nat) : Fld := ⟨0x800000 + 0x100000 * d + 0x60414 + 0x40 * n, 0, 24, 0⟩
def MOT_LAG_VALUE (d n : Nat) : Fld := ⟨0x800000 + 0x100000 * d + 0x60418 + 0x40 * n, 0, 24, 0⟩
def MOT_CNT_REVERSALS (d n : Nat) : Fld := ⟨0x800000 + 0x100000 * d + 0x6041C + 0x40 * n, 0, 8, 0⟩
def MOT_CNT_DEFERRALS (d n : Nat) : Fld := ⟨0x800000 + 0x100000 * d + 0x6041C + 0x40 * n, 8, 8, 0⟩
def MOT_CNT_STALLS (d n : Nat) : Fld := ⟨0x800000 + 0x100000 * d + 0x6041C + 0x40 * n, 16, 8, 0⟩
def MOT_MSCHG_COUNT (d n : Nat) : Fld := ⟨0x800000 + 0x100000 * d + 0x60420 + 0x40 * n, 0, 24, 0⟩
/-! MEM (R467). -/
def MEM_STAT_SP (d : Nat) : Fld := ⟨0x800000 + 0x100000 * d + 0x80000, 0, 2, 0⟩
def MEM_STAT_FREQ_PEND (d : Nat) : Fld := ⟨0x800000 + 0x100000 * d + 0x80000, 2, 1, 0⟩
def MEM_STAT_MIGRATING (d : Nat) : Fld := ⟨0x800000 + 0x100000 * d + 0x80000, 3, 1, 0⟩
def MEM_STAT_SINGLE_CH (d : Nat) : Fld := ⟨0x800000 + 0x100000 * d + 0x80000, 4, 1, 0⟩
def MEM_STAT_HOT (d : Nat) : Fld := ⟨0x800000 + 0x100000 * d + 0x80000, 5, 1, 0⟩
def MEM_STAT_GEOM_PEND (d : Nat) : Fld := ⟨0x800000 + 0x100000 * d + 0x80000, 6, 1, 0⟩
def MEM_GEOM_IGRAN (d : Nat) : Fld := ⟨0x800000 + 0x100000 * d + 0x80004, 0, 4, 0⟩
def MEM_GEOM_TWO_RANKS (d : Nat) : Fld := ⟨0x800000 + 0x100000 * d + 0x80004, 4, 1, 0⟩
def MEM_GEOM_SIZE (d : Nat) : Fld := ⟨0x800000 + 0x100000 * d + 0x80004, 5, 1, 0⟩
def MEM_GEOM_SPARE_EN (d : Nat) : Fld := ⟨0x800000 + 0x100000 * d + 0x80004, 6, 1, 0⟩
def MEM_GEOM_SPARE_CH (d : Nat) : Fld := ⟨0x800000 + 0x100000 * d + 0x80004, 7, 1, 0⟩
def MEM_FREQ_OP (d : Nat) : Fld := ⟨0x800000 + 0x100000 * d + 0x80008, 0, 2, 0⟩
def MEM_FREQ_TRAINED (d : Nat) : Fld := ⟨0x800000 + 0x100000 * d + 0x80008, 4, 4, 0⟩
def MEM_PAGE_IDLE (d : Nat) : Fld := ⟨0x800000 + 0x100000 * d + 0x8000C, 0, 10, 64⟩
def MEM_SCRUB_SCRUB_PERIOD (d : Nat) : Fld := ⟨0x800000 + 0x100000 * d + 0x80010, 0, 8, 24⟩
def MEM_SCRUB_MIG_RATE (d : Nat) : Fld := ⟨0x800000 + 0x100000 * d + 0x80010, 8, 8, 8⟩
def MEM_SHARE_BULK_MIN (d : Nat) : Fld := ⟨0x800000 + 0x100000 * d + 0x80014, 0, 7, 28⟩
def MEM_ECC_CTL_CE_LIM (d : Nat) : Fld := ⟨0x800000 + 0x100000 * d + 0x80018, 0, 12, 256⟩
def MEM_ECC_CTL_SPARE_AUTO (d : Nat) : Fld := ⟨0x800000 + 0x100000 * d + 0x80018, 12, 1, 1⟩
def MEM_ECC_CTL_SPARE_ON_CE (d : Nat) : Fld := ⟨0x800000 + 0x100000 * d + 0x80018, 13, 1, 0⟩
def MEM_ECC_CTL_TLIM (d : Nat) : Fld := ⟨0x800000 + 0x100000 * d + 0x80018, 14, 7, 95⟩
def MEM_CMD_RANK (d : Nat) : Fld := ⟨0x800000 + 0x100000 * d + 0x8001C, 0, 2, 0⟩
def MEM_CMD_GO (d : Nat) : Fld := ⟨0x800000 + 0x100000 * d + 0x8001C, 2, 1, 0⟩
def MEM_RANK_ROLE (d r : Nat) : Fld := ⟨0x800000 + 0x100000 * d + 0x80020 + 0x4 * r, 0, 2, 0⟩
def MEM_RANK_CE (d r : Nat) : Fld := ⟨0x800000 + 0x100000 * d + 0x80020 + 0x4 * r, 2, 8, 0⟩
def MEM_RANK_UE (d r : Nat) : Fld := ⟨0x800000 + 0x100000 * d + 0x80020 + 0x4 * r, 10, 8, 0⟩
def MEM_RANK_MR4 (d r : Nat) : Fld := ⟨0x800000 + 0x100000 * d + 0x80020 + 0x4 * r, 18, 3, 0⟩
def MEM_UE_ADDR_LO_ADDR (d : Nat) : Fld := ⟨0x800000 + 0x100000 * d + 0x80030, 0, 24, 0⟩
def MEM_UE_ADDR_HI_ADDR (d : Nat) : Fld := ⟨0x800000 + 0x100000 * d + 0x80034, 0, 24, 0⟩
def MEM_MIG_DONE (d : Nat) : Fld := ⟨0x800000 + 0x100000 * d + 0x80038, 0, 12, 0⟩
def MEM_MIG_POISON (d : Nat) : Fld := ⟨0x800000 + 0x100000 * d + 0x80038, 12, 12, 0⟩
def MEM_BW_RT_RATE (d : Nat) : Fld := ⟨0x800000 + 0x100000 * d + 0x80040, 0, 16, 0⟩
def MEM_BW_ZIP_RATE (d : Nat) : Fld := ⟨0x800000 + 0x100000 * d + 0x80044, 0, 16, 0⟩
def MEM_BW_BULK_RATE (d : Nat) : Fld := ⟨0x800000 + 0x100000 * d + 0x80048, 0, 16, 0⟩
def MEM_LATE_COUNT (d : Nat) : Fld := ⟨0x800000 + 0x100000 * d + 0x8004C, 0, 24, 0⟩
def MEM_REF_COUNT (d : Nat) : Fld := ⟨0x800000 + 0x100000 * d + 0x80050, 0, 24, 0⟩
/-! IRQ (R488). -/
def IRQ_CFG_PRIO (d k : Nat) : Fld := ⟨0x800000 + 0x100000 * d + 0x90000 + 0x4 * k, 0, 4, 0⟩
def IRQ_HMASK_HMASK (d k : Nat) : Fld := ⟨0x800000 + 0x100000 * d + 0x90300 + 0x4 * k, 0, 16, 0⟩
def IRQ_EMASK_EMASK (d k : Nat) : Fld := ⟨0x800000 + 0x100000 * d + 0x90600 + 0x4 * k, 0, 12, 0⟩
def IRQ_COAL_COUNT (d k : Nat) : Fld := ⟨0x800000 + 0x100000 * d + 0x90900 + 0x4 * k, 0, 8, 1⟩
def IRQ_COAL_TIME (d k : Nat) : Fld := ⟨0x800000 + 0x100000 * d + 0x90900 + 0x4 * k, 8, 16, 0⟩
def IRQ_PEND_PEND (d w : Nat) : Fld := ⟨0x800000 + 0x100000 * d + 0x90C00 + 0x4 * w, 0, 24, 0⟩
def IRQ_SET_SRC (d : Nat) : Fld := ⟨0x800000 + 0x100000 * d + 0x90C20, 0, 8, 0⟩
/-! IRQH (R489). -/
def IRQH_TCTL_ACCEPT (t : Nat) : Fld := ⟨0x70000 + 0x4 * t, 0, 1, 0⟩
def IRQH_TCTL_FLUSH (t : Nat) : Fld := ⟨0x70000 + 0x4 * t, 1, 1, 0⟩
def IRQH_TCTL_THRESH (t : Nat) : Fld := ⟨0x70000 + 0x4 * t, 4, 4, 0⟩
def IRQH_TCTL_DEPTH (t : Nat) : Fld := ⟨0x70000 + 0x4 * t, 8, 4, 0⟩
def IRQH_TCTL_RUN (t : Nat) : Fld := ⟨0x70000 + 0x4 * t, 12, 4, 0⟩
def IRQH_CLAIM_SRC (t : Nat) : Fld := ⟨0x70040 + 0x4 * t, 0, 11, 0⟩
def IRQH_CLAIM_PRIO (t : Nat) : Fld := ⟨0x70040 + 0x4 * t, 12, 4, 0⟩
def IRQH_CLAIM_VALID (t : Nat) : Fld := ⟨0x70040 + 0x4 * t, 23, 1, 0⟩
def IRQH_DONE_SRC (t : Nat) : Fld := ⟨0x70080 + 0x4 * t, 0, 11, 0⟩
def IRQH_CTIME_TIME (t i : Nat) : Fld := ⟨0x70100 + 0x10 * t + 0x4 * i, 0, 24, 0⟩
def IRQH_MASK_MASK (w : Nat) : Fld := ⟨0x70200 + 0x4 * w, 0, 24, 0⟩
def IRQH_MASK_SET_SRC : Fld := ⟨0x70300, 0, 11, 0⟩
def IRQH_MASK_CLR_SRC : Fld := ⟨0x70304, 0, 11, 0⟩
def IRQH_PEND_BITS (w : Nat) : Fld := ⟨0x70400 + 0x4 * w, 0, 24, 0⟩
def IRQH_ACT_BITS (w : Nat) : Fld := ⟨0x70500 + 0x4 * w, 0, 24, 0⟩
def IRQH_ERR_IGNORED : Fld := ⟨0x70600, 0, 8, 0⟩
def IRQH_ERR_STACK_FULL : Fld := ⟨0x70600, 8, 8, 0⟩
def IRQH_ERR_NOTARGET : Fld := ⟨0x70600, 16, 8, 0⟩
/-! ENG (R490). -/
def ENG_CTL_EN (d e : Nat) : Fld := ⟨0x800000 + 0x100000 * d + 0xC0000 + 0x4 * e, 0, 1, 0⟩
def ENG_CTL_PEND_EN (d e : Nat) : Fld := ⟨0x800000 + 0x100000 * d + 0xC0000 + 0x4 * e, 1, 1, 0⟩
def ENG_CTL_PEND_DIS (d e : Nat) : Fld := ⟨0x800000 + 0x100000 * d + 0xC0000 + 0x4 * e, 2, 1, 0⟩
def ENG_CTL_STATE (d e : Nat) : Fld := ⟨0x800000 + 0x100000 * d + 0xC0000 + 0x4 * e, 4, 2, 0⟩
def ENG_CTL_START_FAIL (d e : Nat) : Fld := ⟨0x800000 + 0x100000 * d + 0xC0000 + 0x4 * e, 6, 1, 0⟩
def ENG_CTL_STOP_TIMEOUT (d e : Nat) : Fld := ⟨0x800000 + 0x100000 * d + 0xC0000 + 0x4 * e, 7, 1, 0⟩
def ENG_STAT_ROLE (d e : Nat) : Fld := ⟨0x800000 + 0x100000 * d + 0xC0040 + 0x4 * e, 0, 4, 0⟩
def ENG_STAT_FAULT (d e : Nat) : Fld := ⟨0x800000 + 0x100000 * d + 0xC0040 + 0x4 * e, 4, 1, 0⟩
def ENG_STAT_CAUSE (d e : Nat) : Fld := ⟨0x800000 + 0x100000 * d + 0xC0040 + 0x4 * e, 5, 3, 0⟩
def ENG_STAT_RESTARTS (d e : Nat) : Fld := ⟨0x800000 + 0x100000 * d + 0xC0040 + 0x4 * e, 8, 8, 0⟩
def ENG_PC_PC (d e : Nat) : Fld := ⟨0x800000 + 0x100000 * d + 0xC0080 + 0x4 * e, 0, 24, 0⟩
def ENG_LOAD_LOAD (d e : Nat) : Fld := ⟨0x800000 + 0x100000 * d + 0xC00C0 + 0x4 * e, 0, 10, 0⟩
def ENG_SPARE_SPARE_EN (d : Nat) : Fld := ⟨0x800000 + 0x100000 * d + 0xC0100, 0, 1, 0⟩
def ENG_SPARE_SPARED_FOR (d : Nat) : Fld := ⟨0x800000 + 0x100000 * d + 0xC0100, 1, 4, 15⟩
def ENG_WD_WD_MS (d : Nat) : Fld := ⟨0x800000 + 0x100000 * d + 0xC0104, 0, 10, 10⟩
def ENG_FLT_COUNT (d : Nat) : Fld := ⟨0x800000 + 0x100000 * d + 0xC0108, 0, 24, 0⟩
/-! TIME (R507). -/
def TIME_CTL_SRC : Fld := ⟨0x80000, 0, 2, 0⟩
def TIME_CTL_DOMAIN : Fld := ⟨0x80000, 2, 7, 0⟩
def TIME_CTL_STAMP_COMP : Fld := ⟨0x80000, 9, 11, 1000⟩
def TIME_NOW_TIME (i : Nat) : Fld := ⟨0x80004 + 0x4 * i, 0, 24, 0⟩
def TIME_SET_TIME (i : Nat) : Fld := ⟨0x80010 + 0x4 * i, 0, 24, 0⟩
def TIME_ADJ_RATE : Fld := ⟨0x8001C, 0, 24, 0⟩
def TIME_STEP_STEP : Fld := ⟨0x80020, 0, 24, 1000⟩
def TIME_OFFSET_O : Fld := ⟨0x80024, 0, 24, 0⟩
def TIME_STAT_STATE : Fld := ⟨0x80028, 0, 2, 0⟩
def TIME_STAT_SET_REFUSED : Fld := ⟨0x80028, 2, 1, 0⟩
def TIME_GM_ID (i : Nat) : Fld := ⟨0x8002C + 0x4 * i, 0, 24, 0⟩
def TIME_STEPS_COUNT : Fld := ⟨0x80038, 0, 24, 0⟩
def TRG_CTL_EN (k : Nat) : Fld := ⟨0x80100 + 0x10 * k, 0, 1, 0⟩
def TRG_CTL_PEND_EN (k : Nat) : Fld := ⟨0x80100 + 0x10 * k, 1, 1, 0⟩
def TRG_CTL_PEND_DIS (k : Nat) : Fld := ⟨0x80100 + 0x10 * k, 2, 1, 0⟩
def TRG_CTL_STATE (k : Nat) : Fld := ⟨0x80100 + 0x10 * k, 4, 2, 0⟩
def TRG_CTL_START_FAIL (k : Nat) : Fld := ⟨0x80100 + 0x10 * k, 6, 1, 0⟩
def TRG_CTL_STOP_TIMEOUT (k : Nat) : Fld := ⟨0x80100 + 0x10 * k, 7, 1, 0⟩
def TRG_CTL_MODE (k : Nat) : Fld := ⟨0x80100 + 0x10 * k, 9, 1, 0⟩
def TRG_CTL_TARGET (k : Nat) : Fld := ⟨0x80100 + 0x10 * k, 10, 2, 0⟩
def TRG_CTL_DIES (k : Nat) : Fld := ⟨0x80100 + 0x10 * k, 12, 8, 0⟩
def TRG_CTL_IRQ_EN (k : Nat) : Fld := ⟨0x80100 + 0x10 * k, 20, 1, 0⟩
def TRG_CTL_LATE (k : Nat) : Fld := ⟨0x80100 + 0x10 * k, 21, 1, 0⟩
def TRG_CMP_LO_CMP (k : Nat) : Fld := ⟨0x80104 + 0x10 * k, 0, 24, 0⟩
def TRG_CMP_HI_CMP (k : Nat) : Fld := ⟨0x80108 + 0x10 * k, 0, 8, 0⟩
def TRG_PER_PER (k : Nat) : Fld := ⟨0x8010C + 0x10 * k, 0, 16, 0⟩
def TRG_PER_MISS (k : Nat) : Fld := ⟨0x8010C + 0x10 * k, 16, 4, 0⟩
def TRG_PER_FIRES (k : Nat) : Fld := ⟨0x8010C + 0x10 * k, 20, 4, 0⟩
/-! PAIR (R536). -/
def PAIR_STAT_ROLE : Fld := ⟨0x90000, 0, 3, 0⟩
def PAIR_STAT_MODE : Fld := ⟨0x90000, 3, 1, 0⟩
def PAIR_STAT_READY : Fld := ⟨0x90000, 4, 1, 0⟩
def PAIR_STAT_LINK : Fld := ⟨0x90000, 5, 1, 0⟩
def PAIR_STAT_LEADING : Fld := ⟨0x90000, 6, 1, 0⟩
def PAIR_STAT_HANDOVER : Fld := ⟨0x90000, 7, 1, 0⟩
def PAIR_CFG_ENABLE : Fld := ⟨0x90004, 0, 1, 0⟩
def PAIR_CFG_INPUT : Fld := ⟨0x90004, 1, 1, 0⟩
def PAIR_CFG_PREFER : Fld := ⟨0x90004, 2, 1, 0⟩
def PAIR_CFG_DETACH : Fld := ⟨0x90004, 3, 1, 0⟩
def PAIR_PARTNER_UNIT : Fld := ⟨0x90008, 0, 24, 0⟩
def PAIR_LEAD_LEAD : Fld := ⟨0x9000C, 0, 24, 0⟩
def PAIR_WAIT_MS : Fld := ⟨0x90010, 0, 16, 0⟩
def PAIR_EPOCH_EPOCH : Fld := ⟨0x90014, 0, 24, 0⟩
def PAIR_P_DCLASS_VALUE : Fld := ⟨0x90018, 0, 24, 0⟩
def PAIR_P_IMAGE_VALUE : Fld := ⟨0x9001C, 0, 24, 0⟩
def PAIR_LAST_LO_LINE : Fld := ⟨0x90020, 0, 24, 0⟩
def PAIR_LAST_HI_LINE : Fld := ⟨0x90024, 0, 24, 0⟩
def PAIR_LAT_NS : Fld := ⟨0x90028, 0, 16, 0⟩
def PAIR_LINK_ALIGNED : Fld := ⟨0x9002C, 0, 9, 0⟩
def PAIR_LINK_SPARE_ACT : Fld := ⟨0x9002C, 9, 1, 0⟩
def PAIR_LINK_TAKES : Fld := ⟨0x9002C, 10, 3, 0⟩
def PAIR_TAKEOVERS_COUNT : Fld := ⟨0x90030, 0, 24, 0⟩
def PAIR_FENCES_COUNT : Fld := ⟨0x90034, 0, 24, 0⟩
def PAIR_MISMATCH_COUNT : Fld := ⟨0x90038, 0, 24, 0⟩
def PAIR_DIVERGE_COUNT : Fld := ⟨0x9003C, 0, 24, 0⟩
def PAIR_RETRY_COUNT : Fld := ⟨0x90040, 0, 24, 0⟩
def PAIR_GAP_LINES : Fld := ⟨0x90044, 0, 24, 0⟩
/-! MTR (R568). -/
def MTR_STAT_STATE : Fld := ⟨0xA0000, 0, 2, 0⟩
def MTR_STAT_OPEN : Fld := ⟨0xA0000, 2, 1, 0⟩
def MTR_STAT_UNCAL : Fld := ⟨0xA0000, 3, 1, 0⟩
def MTR_STAT_TOTALS_LOST : Fld := ⟨0xA0000, 4, 1, 0⟩
def MTR_STAT_IND_FAULT : Fld := ⟨0xA0000, 5, 1, 0⟩
def MTR_STAT_IND_STALE : Fld := ⟨0xA0000, 6, 1, 0⟩
def MTR_STAT_TAP_DOWN : Fld := ⟨0xA0000, 7, 1, 0⟩
def MTR_STAT_BUSY : Fld := ⟨0xA0000, 8, 1, 0⟩
def MTR_STAT_LOCKED : Fld := ⟨0xA0000, 9, 1, 0⟩
def MTR_STAT_HWM_BAD : Fld := ⟨0xA0000, 10, 1, 0⟩
def MTR_STAT_PATCH : Fld := ⟨0xA0000, 11, 1, 0⟩
def MTR_STAT_PATCH_BAD : Fld := ⟨0xA0000, 12, 1, 0⟩
def MTR_STAT_MTR_OK : Fld := ⟨0xA0000, 13, 1, 0⟩
def MTR_STAT_LEN_WIN : Fld := ⟨0xA0000, 14, 1, 0⟩
def MTR_STAT_MASS_WIN : Fld := ⟨0xA0000, 15, 1, 0⟩
def MTR_SEAL_SEAL : Fld := ⟨0xA0004, 0, 24, 0⟩
def MTR_TRAIL_ENTRIES : Fld := ⟨0xA0008, 0, 11, 0⟩
def MTR_VER_ROM : Fld := ⟨0xA000C, 0, 12, 0⟩
def MTR_VER_PATCH_ID : Fld := ⟨0xA000C, 12, 12, 0⟩
def MTR_LEN_LO_MM : Fld := ⟨0xA0010, 0, 24, 0⟩
def MTR_LEN_HI_MM : Fld := ⟨0xA0014, 0, 24, 0⟩
def MTR_WEB_LO_MM : Fld := ⟨0xA0018, 0, 24, 0⟩
def MTR_WEB_HI_MM : Fld := ⟨0xA001C, 0, 24, 0⟩
def MTR_LSCALE_LO_SCALE : Fld := ⟨0xA0020, 0, 24, 0⟩
def MTR_LSCALE_HI_SCALE : Fld := ⟨0xA0024, 0, 24, 0⟩
def MTR_PARAM_SEL_ID : Fld := ⟨0xA0028, 0, 8, 0⟩
def MTR_PARAM_LO_VALUE : Fld := ⟨0xA002C, 0, 24, 0⟩
def MTR_PARAM_HI_VALUE : Fld := ⟨0xA0030, 0, 24, 0⟩
def MTR_KCNT_LO_VALUE : Fld := ⟨0xA0034, 0, 24, 0⟩
def MTR_KCNT_HI_VALUE : Fld := ⟨0xA0038, 0, 24, 0⟩
def MTR_KHWM_LO_VALUE : Fld := ⟨0xA003C, 0, 24, 0⟩
def MTR_KHWM_HI_VALUE : Fld := ⟨0xA0040, 0, 24, 0⟩
def MTR_NONCE_LO_VALUE : Fld := ⟨0xA0044, 0, 24, 0⟩
def MTR_NONCE_HI_VALUE : Fld := ⟨0xA0048, 0, 24, 0⟩
def MTR_IND_ISEQ : Fld := ⟨0xA004C, 0, 24, 0⟩
def MTR_IND_CRC_LO_CRC : Fld := ⟨0xA0050, 0, 24, 0⟩
def MTR_IND_CRC_HI_CRC : Fld := ⟨0xA0054, 0, 24, 0⟩
def MTR_ERR_QERR : Fld := ⟨0xA0058, 0, 8, 0⟩
def MTR_ERR_IND_ERR : Fld := ⟨0xA0058, 8, 8, 0⟩
def MTR_ERR_TAG_FAIL : Fld := ⟨0xA0058, 16, 8, 0⟩
def MTR_TAP_GAPS (n : Nat) : Fld := ⟨0xA0060 + 0x4 * n, 0, 16, 0⟩
def MTR_TAP_UP (n : Nat) : Fld := ⟨0xA0060 + 0x4 * n, 16, 1, 0⟩
def MTR_RES_WORD (w : Nat) : Fld := ⟨0xA0084 + 0x4 * w, 0, 24, 0⟩
def MTR_SUBMIT_GO : Fld := ⟨0xA00B0, 0, 1, 0⟩
def MTR_CH_DROPS_LO_VALUE (c : Nat) : Fld := ⟨0xA0100 + 0x20 * c, 0, 24, 0⟩
def MTR_CH_DROPS_HI_VALUE (c : Nat) : Fld := ⟨0xA0104 + 0x20 * c, 0, 24, 0⟩
def MTR_CH_AREA_LO_VALUE (c : Nat) : Fld := ⟨0xA0108 + 0x20 * c, 0, 24, 0⟩
def MTR_CH_AREA_HI_VALUE (c : Nat) : Fld := ⟨0xA010C + 0x20 * c, 0, 24, 0⟩
def MTR_CH_VOL_LO_VALUE (c : Nat) : Fld := ⟨0xA0110 + 0x20 * c, 0, 24, 0⟩
def MTR_CH_VOL_HI_VALUE (c : Nat) : Fld := ⟨0xA0114 + 0x20 * c, 0, 24, 0⟩
def MTR_CH_CFG_SOURCES (c : Nat) : Fld := ⟨0xA0118 + 0x20 * c, 0, 16, 0⟩
def MTR_CH_CFG_ENABLE (c : Nat) : Fld := ⟨0xA0118 + 0x20 * c, 16, 1, 0⟩
def MTR_CH_UNRATED_COUNT (c : Nat) : Fld := ⟨0xA011C + 0x20 * c, 0, 24, 0⟩
def MTR_MASS_0_RANK (e : Nat) : Fld := ⟨0xA0300 + 0x40 * e, 0, 16, 0⟩
def MTR_MASS_0_VALID (e : Nat) : Fld := ⟨0xA0300 + 0x40 * e, 16, 1, 0⟩
def MTR_MASS_MASS (e w : Nat) : Fld := ⟨0xA0304 + 0x40 * e + 0x4 * w, 0, 24, 0⟩
def MTR_MFACT_MFACT (c : Nat) : Fld := ⟨0xA0700 + 0x4 * c, 0, 24, 0⟩
def MTR_TRAIL_SEL_ENTRY : Fld := ⟨0xA0800, 0, 10, 0⟩
def MTR_TRAIL_DATA_WORD (w : Nat) : Fld := ⟨0xA0804 + 0x4 * w, 0, 24, 0⟩
def MTR_SNAP_SEL_BACK : Fld := ⟨0xA0900, 0, 13, 0⟩
def MTR_SNAP_STAT_SEQ : Fld := ⟨0xA0904, 0, 24, 0⟩
def MTR_SNAP_DATA_WORD (w : Nat) : Fld := ⟨0xA0A00 + 0x4 * w, 0, 24, 0⟩
def MTR_ENV_WORD (w : Nat) : Fld := ⟨0xA1000 + 0x4 * w, 0, 24, 0⟩
/-! EVT (R591). -/
def EVT_STAT_FLASH_OK : Fld := ⟨0xB0000, 0, 1, 0⟩
def EVT_STAT_HOLDING : Fld := ⟨0xB0000, 1, 1, 0⟩
def EVT_STAT_OPEN : Fld := ⟨0xB0000, 2, 1, 0⟩
def EVT_STAT_FIFO : Fld := ⟨0xB0000, 3, 7, 0⟩
def EVT_CTL_RING : Fld := ⟨0xB0004, 0, 8, 0⟩
def EVT_CTL_RING_EN : Fld := ⟨0xB0004, 8, 1, 0⟩
def EVT_CTL_RING_SEV : Fld := ⟨0xB0004, 9, 3, 0⟩
def EVT_CTL_FLUSH : Fld := ⟨0xB0004, 12, 1, 0⟩
def EVT_HEAD_SLOT : Fld := ⟨0xB0008, 0, 16, 0⟩
def EVT_COUNT_RECORDS : Fld := ⟨0xB000C, 0, 24, 0⟩
def EVT_LOST_EVENTS : Fld := ⟨0xB0010, 0, 24, 0⟩
def EVT_OPSEC_LO_OPSEC : Fld := ⟨0xB0014, 0, 24, 0⟩
def EVT_OPSEC_HI_OPSEC : Fld := ⟨0xB0018, 0, 8, 0⟩
def EVT_RD_SEL_SLOT : Fld := ⟨0xB0020, 0, 16, 0⟩
def EVT_RD_DATA_WORD (w : Nat) : Fld := ⟨0xB0024 + 0x4 * w, 0, 24, 0⟩
def EVT_RD_STAT_BUSY : Fld := ⟨0xB0060, 0, 1, 0⟩
def EVT_RD_STAT_STATE : Fld := ⟨0xB0060, 1, 2, 0⟩
def EVT_DUMP_BUF_BUF : Fld := ⟨0xB0080, 0, 16, 0⟩
def EVT_DUMP_BUF_GEN : Fld := ⟨0xB0080, 16, 8, 0⟩
def EVT_DUMP_CMD_OP : Fld := ⟨0xB0084, 0, 2, 0⟩
def EVT_DUMP_STAT_BUSY : Fld := ⟨0xB0088, 0, 1, 0⟩
def EVT_DUMP_STAT_STATUS : Fld := ⟨0xB0088, 1, 3, 0⟩
def EVT_LC_SEL_INDEX : Fld := ⟨0xB0100, 0, 9, 0⟩
def EVT_LC_LO_COUNT : Fld := ⟨0xB0104, 0, 24, 0⟩
def EVT_LC_HI_COUNT : Fld := ⟨0xB0108, 0, 24, 0⟩
def EVT_HG_SEL_HIST : Fld := ⟨0xB0110, 0, 5, 0⟩
def EVT_HG_SEL_BIN : Fld := ⟨0xB0110, 5, 5, 0⟩
def EVT_HG_LO_COUNT : Fld := ⟨0xB0114, 0, 24, 0⟩
def EVT_HG_HI_COUNT : Fld := ⟨0xB0118, 0, 24, 0⟩
def EVT_NZ_ADDR_ADDR : Fld := ⟨0xB0120, 0, 20, 0⟩
def EVT_NZ_LO_COUNT : Fld := ⟨0xB0124, 0, 24, 0⟩
def EVT_NZ_HI_COUNT : Fld := ⟨0xB0128, 0, 16, 0⟩
def EVT_PERSIST_SAVE : Fld := ⟨0xB0130, 0, 1, 0⟩
def EVT_PERSIST_BUSY : Fld := ⟨0xB0130, 1, 1, 0⟩
def EVT_PERSIST_AGE : Fld := ⟨0xB0130, 8, 16, 0⟩
def EVT_CODE_SEL_CODE : Fld := ⟨0xB0140, 0, 16, 0⟩
def EVT_CODE_INFO_SEV : Fld := ⟨0xB0144, 0, 3, 0⟩
def EVT_CODE_INFO_KNOWN : Fld := ⟨0xB0144, 3, 1, 0⟩
/-! LED (R614). -/
def LED_CTL_EN (d m : Nat) : Fld := ⟨0x800000 + 0x100000 * d + 0xA0000 + 0x4 * m, 0, 1, 0⟩
def LED_CTL_PEND_EN (d m : Nat) : Fld := ⟨0x800000 + 0x100000 * d + 0xA0000 + 0x4 * m, 1, 1, 0⟩
def LED_CTL_PEND_DIS (d m : Nat) : Fld := ⟨0x800000 + 0x100000 * d + 0xA0000 + 0x4 * m, 2, 1, 0⟩
def LED_CTL_STATE (d m : Nat) : Fld := ⟨0x800000 + 0x100000 * d + 0xA0000 + 0x4 * m, 4, 2, 0⟩
def LED_CTL_START_FAIL (d m : Nat) : Fld := ⟨0x800000 + 0x100000 * d + 0xA0000 + 0x4 * m, 6, 1, 0⟩
def LED_CTL_STOP_TIMEOUT (d m : Nat) : Fld := ⟨0x800000 + 0x100000 * d + 0xA0000 + 0x4 * m, 7, 1, 0⟩
def LED_CTL_MODE (d m : Nat) : Fld := ⟨0x800000 + 0x100000 * d + 0xA0000 + 0x4 * m, 9, 2, 0⟩
def LED_CTL_DEVS (d m : Nat) : Fld := ⟨0x800000 + 0x100000 * d + 0xA0000 + 0x4 * m, 11, 6, 0⟩
def LED_UV_REF_RATE (d m : Nat) : Fld := ⟨0x800000 + 0x100000 * d + 0xA0008 + 0x4 * m, 0, 24, 118110⟩
def LED_SEL_CHAIN (d : Nat) : Fld := ⟨0x800000 + 0x100000 * d + 0xA0010, 0, 1, 0⟩
def LED_SEL_DEV (d : Nat) : Fld := ⟨0x800000 + 0x100000 * d + 0xA0010, 1, 6, 0⟩
def LED_SEL_CH (d : Nat) : Fld := ⟨0x800000 + 0x100000 * d + 0xA0010, 7, 2, 0⟩
def LED_DATA_LEVEL (d : Nat) : Fld := ⟨0x800000 + 0x100000 * d + 0xA0014, 0, 16, 0⟩
def LED_DATA_PHASE (d : Nat) : Fld := ⟨0x800000 + 0x100000 * d + 0xA0014, 16, 8, 254⟩
def LED_EFF_EFF (d : Nat) : Fld := ⟨0x800000 + 0x100000 * d + 0xA0018, 0, 16, 0⟩
def LED_EFF_WPHASE (d : Nat) : Fld := ⟨0x800000 + 0x100000 * d + 0xA0018, 16, 8, 0⟩
def LED_DEV_STATUS (d : Nat) : Fld := ⟨0x800000 + 0x100000 * d + 0xA001C, 0, 16, 0⟩
def LED_DEV_STALE (d : Nat) : Fld := ⟨0x800000 + 0x100000 * d + 0xA001C, 16, 1, 0⟩
def LED_FACT_FACTOR (d : Nat) : Fld := ⟨0x800000 + 0x100000 * d + 0xA0020, 0, 11, 1024⟩
def LED_STAT_SEEN (d m : Nat) : Fld := ⟨0x800000 + 0x100000 * d + 0xA0028 + 0x4 * m, 0, 7, 0⟩
def LED_STAT_BREAK (d m : Nat) : Fld := ⟨0x800000 + 0x100000 * d + 0xA0028 + 0x4 * m, 7, 1, 0⟩
def LED_STAT_PIN_FAIL (d m : Nat) : Fld := ⟨0x800000 + 0x100000 * d + 0xA0028 + 0x4 * m, 8, 1, 0⟩
def LED_STAT_DERATING (d m : Nat) : Fld := ⟨0x800000 + 0x100000 * d + 0xA0028 + 0x4 * m, 9, 1, 0⟩
def LED_STAT_HALF (d m : Nat) : Fld := ⟨0x800000 + 0x100000 * d + 0xA0028 + 0x4 * m, 10, 1, 0⟩
def LED_CNT_RERR (d m : Nat) : Fld := ⟨0x800000 + 0x100000 * d + 0xA0030 + 0x4 * m, 0, 8, 0⟩
def LED_CNT_CUTS (d m : Nat) : Fld := ⟨0x800000 + 0x100000 * d + 0xA0030 + 0x4 * m, 8, 8, 0⟩
def LED_CNT_BREAKS (d m : Nat) : Fld := ⟨0x800000 + 0x100000 * d + 0xA0030 + 0x4 * m, 16, 8, 0⟩
/-! DISP (R615). -/
def DISP_CTL_EN : Fld := ⟨0xC0000, 0, 1, 0⟩
def DISP_CTL_PEND_EN : Fld := ⟨0xC0000, 1, 1, 0⟩
def DISP_CTL_PEND_DIS : Fld := ⟨0xC0000, 2, 1, 0⟩
def DISP_CTL_STATE : Fld := ⟨0xC0000, 4, 2, 0⟩
def DISP_CTL_START_FAIL : Fld := ⟨0xC0000, 6, 1, 0⟩
def DISP_CTL_STOP_TIMEOUT : Fld := ⟨0xC0000, 7, 1, 0⟩
def DISP_CTL_MODE : Fld := ⟨0xC0000, 9, 3, 0⟩
def DISP_CTL_PSR_EN : Fld := ⟨0xC0000, 12, 1, 1⟩
def DISP_CTL_PSR_FRAMES : Fld := ⟨0xC0000, 13, 4, 2⟩
def DISP_CTL_LANES_MAX : Fld := ⟨0xC0000, 17, 2, 2⟩
def DISP_CTL_RATE_MAX : Fld := ⟨0xC0000, 19, 2, 2⟩
def DISP_STAT_LINK : Fld := ⟨0xC0004, 0, 2, 0⟩
def DISP_STAT_LANES : Fld := ⟨0xC0004, 2, 2, 0⟩
def DISP_STAT_RATE : Fld := ⟨0xC0004, 4, 2, 0⟩
def DISP_STAT_MODE_PEND : Fld := ⟨0xC0004, 6, 1, 0⟩
def DISP_STAT_COMMIT_LATE : Fld := ⟨0xC0004, 7, 1, 0⟩
def DISP_STAT_UNDERFLOW : Fld := ⟨0xC0004, 8, 1, 0⟩
def DISP_STAT_IND_SHOWN : Fld := ⟨0xC0004, 9, 1, 0⟩
def DISP_BG_RGB : Fld := ⟨0xC0008, 0, 24, 0⟩
def DISP_WMARK_WMARK : Fld := ⟨0xC000C, 0, 4, 8⟩
def DISP_FRAME_FRAME : Fld := ⟨0xC0010, 0, 24, 0⟩
def DISP_ERR_UNDERFLOW : Fld := ⟨0xC0014, 0, 8, 0⟩
def DISP_ERR_LATE : Fld := ⟨0xC0014, 8, 8, 0⟩
def DISP_ERR_LOST : Fld := ⟨0xC0014, 16, 8, 0⟩
def DISP_LCTL_EN (k : Nat) : Fld := ⟨0xC0100 + 0x20 * k, 0, 1, 0⟩
def DISP_LCTL_SRC (k : Nat) : Fld := ⟨0xC0100 + 0x20 * k, 1, 1, 0⟩
def DISP_LCTL_CAM (k : Nat) : Fld := ⟨0xC0100 + 0x20 * k, 2, 3, 0⟩
def DISP_LCTL_GALPHA (k : Nat) : Fld := ⟨0xC0100 + 0x20 * k, 5, 8, 255⟩
def DISP_LBUF_BUF (k : Nat) : Fld := ⟨0xC0104 + 0x20 * k, 0, 16, 0⟩
def DISP_LBUF_GEN (k : Nat) : Fld := ⟨0xC0104 + 0x20 * k, 16, 8, 0⟩
def DISP_LOFF_OFFSET (k : Nat) : Fld := ⟨0xC0108 + 0x20 * k, 0, 24, 0⟩
def DISP_LSTRIDE_STRIDE (k : Nat) : Fld := ⟨0xC010C + 0x20 * k, 0, 16, 0⟩
def DISP_LPOS_X (k : Nat) : Fld := ⟨0xC0110 + 0x20 * k, 0, 12, 0⟩
def DISP_LPOS_Y (k : Nat) : Fld := ⟨0xC0110 + 0x20 * k, 12, 12, 0⟩
def DISP_LSIZE_W (k : Nat) : Fld := ⟨0xC0114 + 0x20 * k, 0, 12, 0⟩
def DISP_LSIZE_H (k : Nat) : Fld := ⟨0xC0114 + 0x20 * k, 12, 12, 0⟩
def DISP_LFILL_FILL (k : Nat) : Fld := ⟨0xC0118 + 0x20 * k, 0, 24, 0⟩
def DISP_LSTAT_LOST (k : Nat) : Fld := ⟨0xC011C + 0x20 * k, 0, 1, 0⟩
def DISP_LSTAT_SHOWN (k : Nat) : Fld := ⟨0xC011C + 0x20 * k, 1, 1, 0⟩
def DISP_RCTL_EN (r : Nat) : Fld := ⟨0xC0200 + 0x20 * r, 0, 1, 0⟩
def DISP_RCTL_MISMATCH (r : Nat) : Fld := ⟨0xC0200 + 0x20 * r, 1, 1, 0⟩
def DISP_RPOS_X (r : Nat) : Fld := ⟨0xC0204 + 0x20 * r, 0, 12, 0⟩
def DISP_RPOS_Y (r : Nat) : Fld := ⟨0xC0204 + 0x20 * r, 12, 12, 0⟩
def DISP_RSIZE_W (r : Nat) : Fld := ⟨0xC0208 + 0x20 * r, 0, 12, 0⟩
def DISP_RSIZE_H (r : Nat) : Fld := ⟨0xC0208 + 0x20 * r, 12, 12, 0⟩
def DISP_REXP_LO_EXP (r : Nat) : Fld := ⟨0xC020C + 0x20 * r, 0, 24, 0⟩
def DISP_REXP_HI_EXP (r : Nat) : Fld := ⟨0xC0210 + 0x20 * r, 0, 24, 0⟩
def DISP_RCRC_LO_CRC (r : Nat) : Fld := ⟨0xC0214 + 0x20 * r, 0, 24, 0⟩
def DISP_RCRC_HI_CRC (r : Nat) : Fld := ⟨0xC0218 + 0x20 * r, 0, 24, 0⟩
def DISP_RCNT_COUNT (r : Nat) : Fld := ⟨0xC021C + 0x20 * r, 0, 24, 0⟩
/-! MON (R643). -/
def MON_CTL_PERIOD (d : Nat) : Fld := ⟨0x800000 + 0x100000 * d + 0xD0000, 0, 10, 1⟩
def MON_CTL_AUTO_FENCE (d : Nat) : Fld := ⟨0x800000 + 0x100000 * d + 0xD0000, 10, 1, 1⟩
def MON_TLIM_TWARN (d : Nat) : Fld := ⟨0x800000 + 0x100000 * d + 0xD0004, 0, 8, 100⟩
def MON_TLIM_TCRIT (d : Nat) : Fld := ⟨0x800000 + 0x100000 * d + 0xD0004, 8, 8, 110⟩
def MON_VTOL_TOL (d : Nat) : Fld := ⟨0x800000 + 0x100000 * d + 0xD0008, 0, 5, 10⟩
def MON_STAT_WARN (d : Nat) : Fld := ⟨0x800000 + 0x100000 * d + 0xD000C, 0, 1, 0⟩
def MON_STAT_HOT_FENCE (d : Nat) : Fld := ⟨0x800000 + 0x100000 * d + 0xD000C, 1, 1, 0⟩
def MON_STAT_VDEV (d : Nat) : Fld := ⟨0x800000 + 0x100000 * d + 0xD000C, 2, 7, 0⟩
def MON_SEQ_SEQ (d : Nat) : Fld := ⟨0x800000 + 0x100000 * d + 0xD0010, 0, 24, 0⟩
def MON_T_TEMP (d s : Nat) : Fld := ⟨0x800000 + 0x100000 * d + 0xD0020 + 0x4 * s, 0, 12, 0⟩
def MON_TMAX_TEMP (d : Nat) : Fld := ⟨0x800000 + 0x100000 * d + 0xD0030, 0, 12, 0⟩
def MON_V_MV (d k : Nat) : Fld := ⟨0x800000 + 0x100000 * d + 0xD0040 + 0x4 * k, 0, 12, 0⟩
def MON_CNT_WARNS (d : Nat) : Fld := ⟨0x800000 + 0x100000 * d + 0xD0060, 0, 8, 0⟩
def MON_CNT_FENCES (d : Nat) : Fld := ⟨0x800000 + 0x100000 * d + 0xD0060, 8, 8, 0⟩
def MON_CNT_VDEVS (d : Nat) : Fld := ⟨0x800000 + 0x100000 * d + 0xD0060, 16, 8, 0⟩

end F

/-- Registers of block PKG (R33 of chapter 01), part 1. -/
def regsPkg0 : List RDesc := [
  ⟨0x0, [], [⟨0, 4, .sel, 0, .none, false⟩, ⟨4, 8, .ro, 177, .none, false⟩, ⟨12, 1, .ro, 0, .none, false⟩]⟩,
  ⟨0x4, [], [⟨0, 24, .ro, 5393991, .none, false⟩]⟩,
  ⟨0x8, [], [⟨0, 24, .ro, 1, .none, false⟩]⟩,
  ⟨0xC, [], [⟨0, 24, .ro, 0, .none, false⟩]⟩,
  ⟨0x10, [], [⟨0, 24, .rw, 0, .none, false⟩]⟩,
  ⟨0x14, [], [⟨0, 24, .ro, 0, .none, false⟩]⟩,
  ⟨0x18, [], [⟨0, 24, .ro, 0, .none, false⟩]⟩,
  ⟨0x20, [], [⟨0, 1, .ro, 0, .none, true⟩, ⟨1, 1, .ro, 0, .none, true⟩, ⟨2, 2, .ro, 0, .none, true⟩, ⟨4, 1, .ro, 0, .none, true⟩, ⟨5, 12, .ro, 0, .none, true⟩, ⟨17, 3, .ro, 0, .none, true⟩]⟩,
  ⟨0x24, [], [⟨0, 24, .ro, 0, .none, true⟩]⟩,
  ⟨0x28, [], [⟨0, 8, .ro, 0, .none, true⟩]⟩,
  ⟨0x2C, [], [⟨0, 6, .ro, 0, .between 0 32, true⟩]⟩,
  ⟨0x30, [], [⟨0, 1, .ro, 0, .none, false⟩, ⟨1, 1, .ro, 0, .none, false⟩]⟩,
  ⟨0x34, [], [⟨0, 8, .rc, 0, .none, false⟩, ⟨8, 8, .rc, 0, .none, false⟩, ⟨16, 8, .rc, 0, .none, false⟩]⟩]

/-- The registers of block PKG. -/
def regsPkg : List RDesc := regsPkg0

/-- Registers of block DIE (R34 of chapter 01), part 1. -/
def regsDie0 : List RDesc := [
  ⟨0x0, [], [⟨0, 3, .sel, 0, .none, false⟩, ⟨3, 1, .sel, 0, .none, false⟩, ⟨4, 8, .ro, 177, .none, false⟩]⟩,
  ⟨0x4, [], [⟨0, 3, .ro, 0, .none, false⟩, ⟨3, 1, .ro, 0, .none, false⟩, ⟨4, 1, .ro, 0, .none, false⟩, ⟨5, 1, .ro, 0, .none, false⟩, ⟨6, 1, .ro, 0, .none, false⟩]⟩,
  ⟨0x8, [], [⟨0, 24, .ro, 0, .none, false⟩]⟩,
  ⟨0xC, [], [⟨0, 24, .ro, 0, .none, false⟩]⟩,
  ⟨0x10, [], [⟨0, 12, .rc, 0, .none, false⟩, ⟨12, 12, .rc, 0, .none, false⟩]⟩]

/-- The registers of block DIE. -/
def regsDie : List RDesc := regsDie0

/-- Registers of block LNK (R35 of chapter 01), part 1. -/
def regsLnk0 : List RDesc := [
  ⟨0x0, [(4, 4)], [⟨0, 1, .ro, 0, .none, false⟩, ⟨1, 3, .ro, 0, .none, false⟩, ⟨4, 2, .ro, 0, .none, false⟩]⟩,
  ⟨0x10, [(4, 4)], [⟨0, 3, .ro, 0, .none, false⟩, ⟨3, 6, .ro, 0, .none, false⟩, ⟨9, 2, .ro, 0, .none, false⟩, ⟨11, 1, .ro, 0, .none, false⟩]⟩,
  ⟨0x20, [(4, 4)], [⟨0, 8, .rc, 0, .none, false⟩, ⟨8, 8, .rc, 0, .none, false⟩, ⟨16, 8, .rc, 0, .none, false⟩]⟩,
  ⟨0x30, [(4, 4)], [⟨0, 12, .ro, 0, .none, false⟩, ⟨12, 12, .ro, 0, .none, false⟩]⟩]

/-- The registers of block LNK. -/
def regsLnk : List RDesc := regsLnk0

/-- Registers of block EPOCH (R87 of chapter 02), part 1. -/
def regsEpoch0 : List RDesc := [
  ⟨0x0, [], [⟨0, 24, .sel, 0, .none, false⟩]⟩,
  ⟨0x4, [], [⟨0, 24, .sel, 0, .none, false⟩]⟩,
  ⟨0x8, [], [⟨0, 24, .ro, 0, .none, true⟩]⟩,
  ⟨0xC, [], [⟨0, 24, .ro, 0, .none, true⟩]⟩,
  ⟨0x10, [], [⟨0, 2, .rw, 0, .none, false⟩, ⟨2, 1, .rw, 0, .none, false⟩, ⟨3, 1, .ro, 0, .none, false⟩, ⟨4, 1, .sel, 1, .none, false⟩]⟩,
  ⟨0x14, [], [⟨0, 24, .rw, 2048, .atLeast 256, false⟩]⟩,
  ⟨0x18, [], [⟨0, 24, .rw, 0, .none, false⟩]⟩,
  ⟨0x1C, [], [⟨0, 24, .rw, 0, .none, false⟩]⟩,
  ⟨0x20, [], [⟨0, 1, .wo, 0, .none, false⟩, ⟨1, 1, .wo, 0, .none, false⟩]⟩,
  ⟨0x24, [], [⟨0, 24, .ro, 1, .none, false⟩]⟩,
  ⟨0x28, [], [⟨0, 24, .wo, 0, .none, false⟩]⟩,
  ⟨0x2C, [], [⟨0, 5, .sel, 0, .none, false⟩, ⟨5, 3, .sel, 0, .none, false⟩, ⟨8, 8, .ro, 0, .none, false⟩]⟩,
  ⟨0x30, [], [⟨0, 24, .ro, 0, .none, false⟩]⟩,
  ⟨0x34, [], [⟨0, 24, .ro, 0, .none, false⟩]⟩,
  ⟨0x38, [], [⟨0, 8, .rw, 0, .none, true⟩, ⟨8, 1, .rw, 0, .none, true⟩]⟩,
  ⟨0x3C, [], [⟨0, 24, .wo, 0, .none, false⟩]⟩,
  ⟨0x40, [(4, 8)], [⟨0, 11, .sel, 0, .none, false⟩]⟩,
  ⟨0x60, [], [⟨0, 24, .rw, 0, .none, false⟩]⟩,
  ⟨0x64, [], [⟨0, 24, .rw, 0, .none, false⟩]⟩,
  ⟨0x68, [], [⟨0, 1, .wo, 0, .none, false⟩]⟩]

/-- Registers of block EPOCH (R87 of chapter 02), part 2. -/
def regsEpoch1 : List RDesc := [
  ⟨0x6C, [], [⟨0, 2, .ro, 0, .none, false⟩, ⟨2, 1, .ro, 0, .none, false⟩, ⟨3, 1, .ro, 0, .none, false⟩, ⟨8, 16, .ro, 0, .none, false⟩]⟩,
  ⟨0x70, [], [⟨0, 24, .ro, 0, .none, false⟩]⟩,
  ⟨0x74, [], [⟨0, 24, .ro, 0, .none, false⟩]⟩,
  ⟨0x78, [], [⟨0, 24, .ro, 0, .none, false⟩]⟩,
  ⟨0x7C, [], [⟨0, 24, .ro, 0, .none, false⟩]⟩,
  ⟨0x80, [], [⟨0, 24, .ro, 0, .none, false⟩]⟩,
  ⟨0x90, [(4, 8)], [⟨0, 24, .ro, 0, .none, false⟩]⟩,
  ⟨0xC0, [], [⟨0, 12, .rw, 170, .none, false⟩]⟩,
  ⟨0xC4, [], [⟨0, 24, .ro, 0, .none, false⟩]⟩,
  ⟨0xD0, [(4, 8)], [⟨0, 24, .rc, 0, .none, false⟩]⟩,
  ⟨0x100, [(4, 16)], [⟨0, 24, .ro, 0, .none, true⟩]⟩,
  ⟨0x140, [(4, 8)], [⟨0, 24, .ro, 0, .none, true⟩]⟩]

/-- The registers of block EPOCH. -/
def regsEpoch : List RDesc := regsEpoch0 ++ regsEpoch1

/-- Registers of block STRUCT (R121 of chapter 03), part 1. -/
def regsStruct0 : List RDesc := [
  ⟨0x0, [], [⟨0, 3, .ro, 0, .none, false⟩, ⟨3, 1, .ro, 0, .none, false⟩, ⟨8, 5, .ro, 0, .none, false⟩, ⟨13, 1, .w1c, 0, .none, false⟩]⟩,
  ⟨0x4, [], [⟨0, 24, .ro, 0, .none, false⟩]⟩,
  ⟨0x8, [], [⟨0, 24, .ro, 0, .none, false⟩]⟩,
  ⟨0xC, [], [⟨0, 24, .ro, 0, .none, false⟩]⟩,
  ⟨0x10, [], [⟨0, 24, .ro, 0, .none, false⟩]⟩,
  ⟨0x14, [], [⟨0, 24, .ro, 0, .none, false⟩]⟩,
  ⟨0x18, [], [⟨0, 24, .ro, 0, .none, false⟩]⟩,
  ⟨0x1C, [], [⟨0, 24, .ro, 0, .none, false⟩]⟩,
  ⟨0x20, [], [⟨0, 24, .wo, 0, .none, false⟩]⟩,
  ⟨0x24, [], [⟨0, 24, .ro, 0, .none, false⟩]⟩,
  ⟨0x28, [], [⟨0, 24, .rc, 0, .none, false⟩]⟩,
  ⟨0x2C, [], [⟨0, 24, .rc, 0, .none, false⟩]⟩,
  ⟨0x30, [], [⟨0, 24, .ro, 0, .none, false⟩]⟩]

/-- The registers of block STRUCT. -/
def regsStruct : List RDesc := regsStruct0

/-- Registers of block BOOT (R150 of chapter 04), part 1. -/
def regsBoot0 : List RDesc := [
  ⟨0x0, [], [⟨0, 3, .ro, 0, .none, false⟩, ⟨3, 1, .ro, 0, .none, false⟩, ⟨4, 4, .ro, 0, .none, false⟩, ⟨8, 1, .ro, 0, .none, false⟩, ⟨9, 1, .ro, 0, .none, false⟩, ⟨10, 1, .ro, 0, .none, false⟩, ⟨11, 1, .ro, 0, .none, false⟩, ⟨12, 1, .ro, 0, .none, false⟩]⟩,
  ⟨0x4, [], [⟨0, 8, .ro, 0, .none, false⟩, ⟨8, 8, .ro, 0, .none, false⟩, ⟨16, 8, .ro, 0, .none, false⟩]⟩,
  ⟨0x8, [], [⟨0, 24, .ro, 0, .none, false⟩]⟩,
  ⟨0xC, [], [⟨0, 24, .ro, 0, .none, false⟩]⟩,
  ⟨0x10, [], [⟨0, 1, .wo, 0, .none, false⟩, ⟨1, 1, .wo, 0, .none, false⟩]⟩,
  ⟨0x14, [], [⟨0, 24, .wo, 0, .none, false⟩]⟩,
  ⟨0x18, [], [⟨0, 24, .ro, 0, .none, false⟩]⟩,
  ⟨0x1C, [], [⟨0, 24, .rc, 0, .none, false⟩]⟩,
  ⟨0x20, [(4, 14)], [⟨0, 24, .rw, 0, .none, false⟩]⟩,
  ⟨0x60, [], [⟨0, 1, .wo, 0, .none, false⟩, ⟨1, 1, .ro, 0, .none, false⟩, ⟨2, 1, .w1c, 0, .none, false⟩]⟩,
  ⟨0x80, [(4, 8)], [⟨0, 1, .en, 0, .none, false⟩, ⟨1, 1, .ro, 0, .none, false⟩, ⟨2, 1, .ro, 0, .none, false⟩, ⟨4, 2, .ro, 0, .none, false⟩, ⟨6, 1, .w1c, 0, .none, false⟩, ⟨7, 1, .w1c, 0, .none, false⟩, ⟨16, 8, .rw, 0, .none, false⟩]⟩,
  ⟨0xA0, [(4, 8)], [⟨0, 10, .rw, 512, .orElse 1 512 512, false⟩]⟩,
  ⟨0xC0, [], [⟨0, 3, .rw, 0, .none, false⟩, ⟨3, 1, .rw, 0, .none, false⟩]⟩,
  ⟨0xC4, [], [⟨0, 22, .rw, 0, .none, false⟩]⟩,
  ⟨0xC8, [], [⟨0, 16, .port, 0, .none, false⟩]⟩,
  ⟨0xE0, [(4, 8)], [⟨0, 1, .en, 0, .none, false⟩, ⟨1, 1, .ro, 0, .none, false⟩, ⟨2, 1, .ro, 0, .none, false⟩, ⟨4, 2, .ro, 0, .none, false⟩, ⟨6, 1, .w1c, 0, .none, false⟩, ⟨7, 1, .w1c, 0, .none, false⟩]⟩]

/-- The registers of block BOOT. -/
def regsBoot : List RDesc := regsBoot0

/-- Registers of block WIN (R200 of chapter 05), part 1. -/
def regsWin0 : List RDesc := [
  ⟨0x0, [], [⟨0, 8, .rw, 0, .none, true⟩, ⟨8, 1, .rw, 0, .none, true⟩]⟩,
  ⟨0x4, [], [⟨0, 20, .rw, 0, .none, false⟩]⟩,
  ⟨0x8, [], [⟨0, 20, .rw, 0, .none, false⟩]⟩,
  ⟨0xC, [], [⟨0, 16, .wo, 0, .none, false⟩]⟩,
  ⟨0x10, [], [⟨0, 4, .wo, 0, .none, false⟩, ⟨8, 8, .wo, 0, .none, false⟩]⟩,
  ⟨0x14, [], [⟨0, 16, .ro, 0, .none, false⟩, ⟨16, 3, .ro, 0, .none, false⟩, ⟨19, 5, .ro, 0, .none, false⟩]⟩,
  ⟨0x18, [], [⟨0, 16, .rw, 0, .none, false⟩]⟩,
  ⟨0x1C, [], [⟨0, 20, .sel, 0, .none, false⟩]⟩,
  ⟨0x20, [], [⟨0, 20, .sel, 0, .none, false⟩]⟩,
  ⟨0x24, [], [⟨0, 2, .sel, 0, .none, false⟩, ⟨2, 1, .sel, 0, .none, false⟩, ⟨8, 8, .sel, 0, .none, false⟩, ⟨16, 3, .sel, 0, .none, false⟩]⟩,
  ⟨0x30, [(4, 8)], [⟨0, 20, .ro, 0, .none, true⟩]⟩,
  ⟨0x60, [], [⟨0, 24, .rc, 0, .none, false⟩]⟩,
  ⟨0x64, [], [⟨0, 24, .rc, 0, .none, false⟩]⟩,
  ⟨0x68, [], [⟨0, 24, .rc, 0, .none, false⟩]⟩,
  ⟨0x6C, [], [⟨0, 24, .rc, 0, .none, false⟩]⟩,
  ⟨0x70, [], [⟨0, 17, .sel, 0, .none, false⟩]⟩]

/-- The registers of block WIN. -/
def regsWin : List RDesc := regsWin0

/-- Registers of block QUE (R201 of chapter 05), part 1. -/
def regsQue0 : List RDesc := [
  ⟨0x0, [(4, 256)], [⟨0, 1, .en, 0, .none, false⟩, ⟨1, 1, .ro, 0, .none, false⟩, ⟨2, 1, .ro, 0, .none, false⟩, ⟨4, 2, .ro, 0, .none, false⟩, ⟨6, 1, .w1c, 0, .none, false⟩, ⟨7, 1, .w1c, 0, .none, false⟩, ⟨9, 3, .ro, 0, .none, true⟩, ⟨12, 5, .rw, 0, .between 4 16, true⟩]⟩,
  ⟨0x400, [(4, 256)], [⟨0, 16, .rw, 0, .none, false⟩, ⟨16, 8, .rw, 0, .none, false⟩]⟩,
  ⟨0x800, [(4, 256)], [⟨0, 16, .port, 0, .none, false⟩]⟩,
  ⟨0xC00, [(4, 256)], [⟨0, 16, .ro, 0, .none, false⟩]⟩,
  ⟨0x1000, [(4, 256)], [⟨0, 8, .rc, 0, .none, false⟩, ⟨8, 8, .rc, 0, .none, false⟩, ⟨16, 8, .rc, 0, .none, false⟩]⟩,
  ⟨0x1400, [(4, 256)], [⟨0, 8, .ro, 0, .none, true⟩, ⟨8, 1, .ro, 0, .none, true⟩]⟩]

/-- The registers of block QUE. -/
def regsQue : List RDesc := regsQue0

/-- Registers of block AUTH (R202 of chapter 05), part 1. -/
def regsAuth0 : List RDesc := [
  ⟨0x0, [], [⟨0, 1, .ro, 0, .none, false⟩, ⟨1, 1, .ro, 0, .none, false⟩, ⟨2, 1, .ro, 0, .none, false⟩, ⟨3, 5, .ro, 0, .none, false⟩, ⟨8, 8, .ro, 0, .none, false⟩]⟩,
  ⟨0x4, [], [⟨0, 1, .wo, 0, .none, false⟩]⟩,
  ⟨0x8, [], [⟨0, 8, .rw, 0, .none, true⟩, ⟨8, 1, .rw, 0, .none, true⟩]⟩,
  ⟨0xC, [], [⟨0, 24, .ro, 1, .none, false⟩]⟩,
  ⟨0x10, [], [⟨0, 24, .ro, 0, .none, false⟩]⟩,
  ⟨0x14, [], [⟨0, 8, .ro, 0, .none, false⟩]⟩,
  ⟨0x20, [(8, 8)], [⟨0, 24, .ro, 0, .none, false⟩]⟩,
  ⟨0x24, [(8, 8)], [⟨0, 8, .ro, 0, .none, false⟩]⟩,
  ⟨0x60, [(8, 8)], [⟨0, 24, .ro, 0, .none, false⟩]⟩,
  ⟨0x64, [(8, 8)], [⟨0, 8, .ro, 0, .none, false⟩]⟩,
  ⟨0xA0, [(4, 8)], [⟨0, 2, .ro, 0, .none, false⟩, ⟨2, 1, .ro, 0, .none, false⟩, ⟨3, 1, .ro, 0, .none, false⟩]⟩,
  ⟨0xC0, [], [⟨0, 24, .rc, 0, .none, false⟩]⟩,
  ⟨0xC4, [], [⟨0, 24, .rc, 0, .none, false⟩]⟩,
  ⟨0xC8, [], [⟨0, 24, .rc, 0, .none, false⟩]⟩,
  ⟨0x100, [(4, 64)], [⟨0, 24, .wo, 0, .none, false⟩]⟩]

/-- The registers of block AUTH. -/
def regsAuth : List RDesc := regsAuth0

/-- Registers of block JOB (R231 of chapter 06), part 1. -/
def regsJob0 : List RDesc := [
  ⟨0x0, [], [⟨0, 8, .sel, 0, .none, false⟩, ⟨8, 4, .sel, 0, .none, false⟩, ⟨12, 4, .sel, 0, .none, false⟩, ⟨16, 8, .sel, 0, .none, false⟩]⟩,
  ⟨0x4, [], [⟨0, 7, .rw, 0, .none, false⟩]⟩,
  ⟨0x8, [], [⟨0, 3, .sel, 0, .none, false⟩, ⟨3, 1, .sel, 0, .none, false⟩, ⟨8, 16, .sel, 0, .none, false⟩]⟩,
  ⟨0xC, [], [⟨0, 24, .sel, 0, .none, false⟩]⟩,
  ⟨0x10, [], [⟨0, 24, .sel, 0, .none, false⟩]⟩,
  ⟨0x14, [], [⟨0, 24, .sel, 0, .none, false⟩]⟩,
  ⟨0x18, [], [⟨0, 24, .sel, 16777215, .none, false⟩]⟩,
  ⟨0x1C, [], [⟨0, 24, .sel, 16777215, .none, false⟩]⟩,
  ⟨0x20, [], [⟨0, 24, .sel, 0, .none, false⟩]⟩,
  ⟨0x24, [], [⟨0, 16, .sel, 0, .none, false⟩, ⟨16, 8, .sel, 0, .none, false⟩]⟩,
  ⟨0x40, [(4, 16)], [⟨0, 7, .sel, 0, .none, false⟩, ⟨7, 1, .sel, 0, .none, false⟩, ⟨8, 1, .sel, 0, .none, false⟩]⟩,
  ⟨0x80, [(4, 16)], [⟨0, 24, .sel, 0, .none, false⟩]⟩,
  ⟨0xC0, [(4, 16)], [⟨0, 24, .sel, 0, .none, false⟩]⟩,
  ⟨0x100, [(4, 16)], [⟨0, 24, .rc, 0, .none, false⟩]⟩,
  ⟨0x140, [(4, 16)], [⟨0, 8, .rc, 0, .none, false⟩, ⟨8, 8, .rc, 0, .none, false⟩, ⟨16, 8, .rc, 0, .none, false⟩]⟩,
  ⟨0x180, [], [⟨0, 24, .sel, 0, .none, false⟩]⟩,
  ⟨0x184, [], [⟨0, 24, .sel, 0, .none, false⟩]⟩]

/-- The registers of block JOB. -/
def regsJob : List RDesc := regsJob0

/-- Registers of block ZIP (R255 of chapter 07), part 1. -/
def regsZip0 : List RDesc := [
  ⟨0x0, [], [⟨0, 1, .enst, 0, .none, false⟩, ⟨1, 1, .ro, 0, .none, false⟩, ⟨2, 1, .ro, 0, .none, false⟩, ⟨4, 2, .ro, 0, .none, false⟩, ⟨6, 1, .w1c, 0, .none, false⟩, ⟨7, 1, .w1c, 0, .none, false⟩, ⟨9, 3, .st, 6, .between 0 6, false⟩]⟩,
  ⟨0x4, [], [⟨0, 8, .sel, 0, .none, false⟩, ⟨8, 2, .sel, 0, .none, false⟩, ⟨10, 4, .sel, 0, .none, false⟩]⟩,
  ⟨0x8, [], [⟨0, 16, .st, 1000, .between 1 60000, false⟩]⟩,
  ⟨0xC, [], [⟨0, 4, .st, 3, .between 1 9, false⟩, ⟨4, 4, .st, 3, .between 1 9, false⟩]⟩,
  ⟨0x10, [(4, 8)], [⟨0, 3, .sel, 0, .none, false⟩, ⟨3, 2, .sel, 0, .none, false⟩, ⟨5, 4, .sel, 0, .none, false⟩]⟩,
  ⟨0x30, [(4, 8)], [⟨0, 24, .sel, 0, .none, false⟩]⟩,
  ⟨0x60, [(4, 2)], [⟨0, 2, .sel, 0, .none, false⟩, ⟨2, 4, .sel, 0, .none, false⟩, ⟨6, 1, .sel, 0, .none, false⟩, ⟨7, 4, .sel, 0, .none, false⟩]⟩,
  ⟨0x70, [], [⟨0, 24, .ro, 0, .none, false⟩]⟩,
  ⟨0x74, [], [⟨0, 24, .ro, 0, .none, false⟩]⟩,
  ⟨0x78, [], [⟨0, 24, .ro, 0, .none, false⟩]⟩,
  ⟨0x7C, [], [⟨0, 24, .ro, 0, .none, false⟩]⟩,
  ⟨0x80, [], [⟨0, 8, .rc, 0, .none, false⟩, ⟨8, 8, .rc, 0, .none, false⟩, ⟨16, 8, .rc, 0, .none, false⟩]⟩,
  ⟨0x84, [], [⟨0, 8, .rc, 0, .none, false⟩]⟩,
  ⟨0x88, [], [⟨0, 24, .rc, 0, .none, false⟩]⟩,
  ⟨0x8C, [], [⟨0, 5, .ro, 0, .none, false⟩, ⟨5, 3, .ro, 0, .none, false⟩, ⟨8, 1, .ro, 0, .none, false⟩, ⟨9, 4, .ro, 0, .none, false⟩]⟩]

/-- The registers of block ZIP. -/
def regsZip : List RDesc := regsZip0

/-- Registers of block RAS (R284 of chapter 08), part 1. -/
def regsRas0 : List RDesc := [
  ⟨0x0, [(4, 2)], [⟨0, 1, .enstp, 0, .none, false⟩, ⟨1, 1, .ro, 0, .none, false⟩, ⟨2, 1, .ro, 0, .none, false⟩, ⟨4, 2, .ro, 0, .none, false⟩, ⟨6, 1, .w1c, 0, .none, false⟩, ⟨7, 1, .w1c, 0, .none, false⟩, ⟨9, 1, .stp, 0, .none, false⟩, ⟨11, 11, .stp, 64, .between 16 1024, false⟩]⟩,
  ⟨0x8, [(4, 2)], [⟨0, 10, .stp, 0, .none, false⟩]⟩,
  ⟨0x10, [(4, 2)], [⟨0, 16, .stp, 0, .none, false⟩]⟩,
  ⟨0x18, [(4, 2)], [⟨0, 17, .ro, 0, .none, true⟩, ⟨17, 2, .ro, 0, .none, false⟩]⟩,
  ⟨0x20, [(4, 2)], [⟨0, 4, .ro, 0, .between 8 13, true⟩, ⟨8, 16, .ro, 0, .none, false⟩]⟩,
  ⟨0x28, [], [⟨0, 12, .ro, 0, .between 300 2400, true⟩]⟩,
  ⟨0x30, [(8, 2)], [⟨0, 24, .ro, 0, .none, false⟩]⟩,
  ⟨0x34, [(8, 2)], [⟨0, 24, .ro, 0, .none, false⟩]⟩,
  ⟨0x40, [(4, 2)], [⟨0, 24, .rc, 0, .none, false⟩]⟩,
  ⟨0x48, [(4, 2)], [⟨0, 24, .rc, 0, .none, false⟩]⟩,
  ⟨0x50, [(4, 2)], [⟨0, 24, .rc, 0, .none, false⟩]⟩,
  ⟨0x58, [(4, 2)], [⟨0, 24, .rc, 0, .none, false⟩]⟩,
  ⟨0x60, [], [⟨0, 2, .w1c, 0, .none, false⟩, ⟨2, 2, .ro, 0, .none, false⟩, ⟨8, 8, .rc, 0, .none, false⟩]⟩,
  ⟨0x80, [(4, 16)], [⟨0, 24, .ro, 0, .none, true⟩]⟩,
  ⟨0x100, [], [⟨0, 17, .rw, 0, .none, false⟩]⟩,
  ⟨0x4000, [(4096, 2), (64, 64)], [⟨0, 14, .stp, 0, .none, false⟩]⟩,
  ⟨0x4004, [(4096, 2), (64, 64)], [⟨0, 14, .stp, 17, .none, false⟩]⟩,
  ⟨0x4008, [(4096, 2), (64, 64)], [⟨0, 14, .stp, 34, .none, false⟩]⟩,
  ⟨0x400C, [(4096, 2), (64, 64)], [⟨0, 14, .stp, 51, .none, false⟩]⟩,
  ⟨0x4010, [(4096, 2), (64, 64)], [⟨0, 14, .stp, 68, .none, false⟩]⟩]

/-- Registers of block RAS (R284 of chapter 08), part 2. -/
def regsRas1 : List RDesc := [
  ⟨0x4014, [(4096, 2), (64, 64)], [⟨0, 14, .stp, 85, .none, false⟩]⟩,
  ⟨0x4018, [(4096, 2), (64, 64)], [⟨0, 14, .stp, 102, .none, false⟩]⟩,
  ⟨0x401C, [(4096, 2), (64, 64)], [⟨0, 14, .stp, 119, .none, false⟩]⟩,
  ⟨0x4020, [(4096, 2), (64, 64)], [⟨0, 14, .stp, 136, .none, false⟩]⟩,
  ⟨0x4024, [(4096, 2), (64, 64)], [⟨0, 14, .stp, 153, .none, false⟩]⟩,
  ⟨0x4028, [(4096, 2), (64, 64)], [⟨0, 14, .stp, 170, .none, false⟩]⟩,
  ⟨0x402C, [(4096, 2), (64, 64)], [⟨0, 14, .stp, 187, .none, false⟩]⟩,
  ⟨0x4030, [(4096, 2), (64, 64)], [⟨0, 14, .stp, 204, .none, false⟩]⟩,
  ⟨0x4034, [(4096, 2), (64, 64)], [⟨0, 14, .stp, 221, .none, false⟩]⟩,
  ⟨0x4038, [(4096, 2), (64, 64)], [⟨0, 14, .stp, 238, .none, false⟩]⟩,
  ⟨0x403C, [(4096, 2), (64, 64)], [⟨0, 14, .stp, 255, .none, false⟩]⟩]

/-- The registers of block RAS. -/
def regsRas : List RDesc := regsRas0 ++ regsRas1

/-- Registers of block FBK (R306 of chapter 09), part 1. -/
def regsFbk0 : List RDesc := [
  ⟨0x0, [(64, 4)], [⟨0, 1, .enst, 0, .none, false⟩, ⟨1, 1, .ro, 0, .none, false⟩, ⟨2, 1, .ro, 0, .none, false⟩, ⟨4, 2, .ro, 0, .none, false⟩, ⟨6, 1, .w1c, 0, .none, false⟩, ⟨7, 1, .w1c, 0, .none, false⟩, ⟨9, 2, .st, 0, .orElse 0 2 0, false⟩, ⟨11, 1, .st, 0, .none, false⟩, ⟨12, 1, .st, 0, .none, false⟩, ⟨13, 2, .st, 1, .none, false⟩, ⟨15, 2, .st, 2, .orElse 0 2 2, false⟩]⟩,
  ⟨0x100, [], [⟨0, 1, .ro, 1, .none, false⟩, ⟨4, 2, .ro, 2, .none, false⟩, ⟨9, 2, .ro, 0, .none, false⟩, ⟨11, 1, .ro, 0, .none, true⟩, ⟨12, 1, .ro, 0, .none, true⟩, ⟨13, 2, .st, 1, .orElse 0 1 1, false⟩, ⟨15, 2, .st, 2, .orElse 0 2 2, true⟩]⟩,
  ⟨0x4, [(64, 4)], [⟨0, 8, .st, 4, .atLeast 1, false⟩, ⟨8, 16, .st, 100, .between 1 21000, false⟩]⟩,
  ⟨0x104, [], [⟨0, 8, .st, 4, .atLeast 1, true⟩, ⟨8, 16, .st, 100, .between 1 21000, true⟩]⟩,
  ⟨0x8, [(64, 5)], [⟨0, 1, .sel, 1, .none, false⟩, ⟨1, 1, .sel, 0, .none, false⟩, ⟨2, 1, .ro, 0, .none, false⟩, ⟨3, 1, .w1c, 0, .none, false⟩, ⟨4, 1, .w1c, 0, .none, false⟩, ⟨5, 1, .sel, 0, .none, false⟩]⟩,
  ⟨0xC, [(64, 5)], [⟨0, 24, .rc, 0, .none, false⟩]⟩,
  ⟨0x10, [(64, 5)], [⟨0, 24, .sel, 0, .none, false⟩]⟩,
  ⟨0x14, [(64, 5)], [⟨0, 24, .sel, 0, .none, false⟩]⟩,
  ⟨0x18, [(64, 5)], [⟨0, 24, .sel, 0, .none, false⟩]⟩,
  ⟨0x1C, [(64, 5)], [⟨0, 24, .sel, 0, .none, false⟩]⟩,
  ⟨0x20, [(64, 5)], [⟨0, 24, .ro, 0, .none, false⟩]⟩,
  ⟨0x24, [(64, 5)], [⟨0, 24, .ro, 0, .none, false⟩]⟩,
  ⟨0x200, [(64, 2)], [⟨0, 1, .enst, 0, .none, false⟩, ⟨1, 1, .ro, 0, .none, false⟩, ⟨2, 1, .ro, 0, .none, false⟩, ⟨4, 2, .ro, 0, .none, false⟩, ⟨6, 1, .w1c, 0, .none, false⟩, ⟨7, 1, .w1c, 0, .none, false⟩, ⟨9, 4, .st, 0, .none, false⟩, ⟨13, 1, .st, 0, .none, false⟩]⟩,
  ⟨0x204, [(64, 2)], [⟨0, 24, .st, 1, .none, false⟩]⟩,
  ⟨0x208, [(64, 2)], [⟨0, 24, .st, 1, .none, false⟩]⟩,
  ⟨0x20C, [(64, 2)], [⟨0, 24, .st, 0, .none, false⟩]⟩,
  ⟨0x210, [(64, 2)], [⟨0, 24, .st, 20, .between 20 255, false⟩]⟩,
  ⟨0x214, [(64, 2)], [⟨0, 17, .sel, 0, .none, false⟩, ⟨17, 1, .w1c, 0, .none, false⟩]⟩,
  ⟨0x218, [(64, 2)], [⟨0, 24, .rc, 0, .none, false⟩]⟩]

/-- The registers of block FBK. -/
def regsFbk : List RDesc := regsFbk0

/-- Registers of block LNP (R341 of chapter 10), part 1. -/
def regsLnp0 : List RDesc := [
  ⟨0x0, [(4, 2)], [⟨0, 1, .enst, 0, .none, false⟩, ⟨1, 1, .ro, 0, .none, false⟩, ⟨2, 1, .ro, 0, .none, false⟩, ⟨4, 2, .ro, 0, .none, false⟩, ⟨6, 1, .w1c, 0, .none, false⟩, ⟨7, 1, .w1c, 0, .none, false⟩]⟩,
  ⟨0x8, [(4, 2)], [⟨0, 8, .stp, 0, .none, false⟩, ⟨8, 16, .stp, 0, .none, false⟩]⟩,
  ⟨0x10, [], [⟨0, 4, .st, 2, .none, true⟩]⟩,
  ⟨0x14, [], [⟨0, 12, .st, 80, .between 40 4000, false⟩]⟩,
  ⟨0x18, [(4, 2)], [⟨0, 2, .ro, 0, .none, false⟩, ⟨2, 1, .sel, 0, .none, false⟩, ⟨3, 1, .sel, 0, .none, false⟩, ⟨4, 1, .w1c, 0, .none, false⟩, ⟨12, 12, .ro, 0, .none, false⟩]⟩,
  ⟨0x20, [(4, 2)], [⟨0, 24, .sel, 0, .none, false⟩]⟩,
  ⟨0x28, [(4, 2)], [⟨0, 12, .sel, 0, .none, true⟩, ⟨12, 12, .sel, 0, .none, true⟩]⟩,
  ⟨0x30, [], [⟨0, 24, .sel, 0, .none, false⟩]⟩,
  ⟨0x34, [], [⟨0, 24, .sel, 0, .none, false⟩]⟩,
  ⟨0x40, [(4, 2)], [⟨0, 24, .rc, 0, .none, false⟩]⟩,
  ⟨0x48, [(4, 2)], [⟨0, 24, .rc, 0, .none, false⟩]⟩,
  ⟨0x50, [(4, 2)], [⟨0, 24, .rc, 0, .none, false⟩]⟩,
  ⟨0x58, [], [⟨0, 24, .rc, 0, .none, false⟩]⟩,
  ⟨0x60, [(4, 2)], [⟨0, 16, .st, 1000, .between 1 60000, false⟩, ⟨16, 3, .st, 1, .between 1 4, false⟩]⟩,
  ⟨0x68, [(4, 2)], [⟨0, 13, .st, 0, .none, false⟩]⟩,
  ⟨0x80, [(4, 8)], [⟨0, 1, .stp, 0, .none, false⟩, ⟨1, 2, .ro, 0, .none, false⟩, ⟨3, 1, .w1c, 0, .none, false⟩, ⟨4, 1, .ro, 0, .none, false⟩, ⟨5, 1, .ro, 0, .none, true⟩, ⟨16, 8, .ro, 0, .none, true⟩]⟩,
  ⟨0xA0, [(4, 8)], [⟨0, 13, .stp, 0, .none, false⟩]⟩,
  ⟨0xC0, [(4, 8)], [⟨0, 16, .ro, 0, .none, false⟩]⟩,
  ⟨0xE0, [(4, 8)], [⟨0, 24, .ro, 0, .none, false⟩]⟩,
  ⟨0x100, [(4, 8)], [⟨0, 13, .sel, 0, .none, false⟩]⟩]

/-- Registers of block LNP (R341 of chapter 10), part 2. -/
def regsLnp1 : List RDesc := [
  ⟨0x120, [(4, 8)], [⟨0, 12, .sel, 0, .none, false⟩, ⟨12, 12, .sel, 0, .none, false⟩]⟩,
  ⟨0x140, [(4, 8)], [⟨0, 9, .sel, 0, .none, false⟩, ⟨9, 8, .sel, 0, .none, false⟩]⟩,
  ⟨0x160, [(4, 8)], [⟨0, 8, .rc, 0, .none, false⟩, ⟨8, 8, .rc, 0, .none, false⟩, ⟨16, 8, .rc, 0, .none, false⟩]⟩,
  ⟨0x200, [], [⟨0, 24, .st, 0, .none, false⟩]⟩,
  ⟨0x204, [], [⟨0, 16, .st, 0, .none, false⟩]⟩,
  ⟨0x208, [], [⟨0, 5, .sel, 0, .none, false⟩, ⟨5, 1, .ro, 0, .none, false⟩, ⟨6, 1, .sel, 0, .none, false⟩]⟩,
  ⟨0x20C, [], [⟨0, 24, .rc, 0, .none, false⟩]⟩]

/-- The registers of block LNP. -/
def regsLnp : List RDesc := regsLnp0 ++ regsLnp1

/-- Registers of block LAN (R367 of chapter 11), part 1. -/
def regsLan0 : List RDesc := [
  ⟨0x0, [(4, 8)], [⟨0, 1, .enst, 0, .none, false⟩, ⟨1, 1, .ro, 0, .none, false⟩, ⟨2, 1, .ro, 0, .none, false⟩, ⟨4, 2, .ro, 0, .none, false⟩, ⟨6, 1, .w1c, 0, .none, false⟩, ⟨7, 1, .w1c, 0, .none, false⟩]⟩,
  ⟨0x20, [(4, 8)], [⟨0, 3, .ro, 0, .none, false⟩, ⟨3, 2, .ro, 0, .none, false⟩, ⟨5, 1, .ro, 0, .none, false⟩, ⟨6, 1, .ro, 0, .none, false⟩, ⟨8, 9, .ro, 0, .none, false⟩, ⟨17, 6, .ro, 0, .none, false⟩]⟩,
  ⟨0x40, [(4, 8)], [⟨0, 12, .ro, 0, .none, false⟩, ⟨12, 12, .ro, 0, .none, false⟩]⟩,
  ⟨0x60, [(4, 8)], [⟨0, 24, .ro, 0, .none, false⟩]⟩,
  ⟨0x80, [(4, 8)], [⟨0, 8, .rc, 0, .none, false⟩, ⟨8, 8, .rc, 0, .none, false⟩, ⟨16, 8, .rc, 0, .none, false⟩]⟩,
  ⟨0xA0, [(8, 8)], [⟨0, 24, .ro, 0, .none, false⟩]⟩,
  ⟨0xA4, [(8, 8)], [⟨0, 24, .ro, 0, .none, false⟩]⟩,
  ⟨0x100, [(4, 72)], [⟨0, 24, .rc, 0, .none, false⟩]⟩,
  ⟨0x220, [(4, 80)], [⟨0, 18, .ro, 0, .none, true⟩]⟩,
  ⟨0x360, [], [⟨0, 16, .st, 16, .atLeast 1, false⟩]⟩,
  ⟨0x364, [], [⟨0, 24, .ro, 0, .none, false⟩]⟩,
  ⟨0x368, [], [⟨0, 1, .ro, 1, .none, false⟩]⟩,
  ⟨0x370, [], [⟨0, 16, .rw, 0, .none, false⟩, ⟨16, 3, .rw, 0, .none, false⟩]⟩,
  ⟨0x374, [], [⟨0, 7, .rw, 32, .orElse 1 64 64, false⟩, ⟨7, 1, .wo, 0, .none, false⟩]⟩,
  ⟨0x378, [], [⟨0, 1, .ro, 0, .none, false⟩, ⟨1, 2, .ro, 0, .none, false⟩]⟩,
  ⟨0x380, [(4, 22)], [⟨0, 24, .ro, 0, .none, false⟩]⟩]

/-- The registers of block LAN. -/
def regsLan : List RDesc := regsLan0

/-- Registers of block CAM (R396 of chapter 12), part 1. -/
def regsCam0 : List RDesc := [
  ⟨0x0, [], [⟨0, 1, .enst, 0, .none, true⟩, ⟨1, 1, .ro, 0, .none, false⟩, ⟨2, 1, .ro, 0, .none, false⟩, ⟨4, 2, .ro, 0, .none, false⟩, ⟨6, 1, .w1c, 0, .none, false⟩, ⟨7, 1, .w1c, 0, .none, false⟩, ⟨9, 2, .st, 0, .none, false⟩, ⟨11, 2, .st, 0, .none, false⟩, ⟨13, 1, .st, 0, .none, false⟩, ⟨14, 2, .st, 2, .orElse 0 2 2, false⟩, ⟨16, 2, .st, 0, .none, false⟩]⟩,
  ⟨0x4, [], [⟨0, 14, .st, 4096, .none, false⟩]⟩,
  ⟨0x8, [], [⟨0, 14, .st, 2048, .none, false⟩]⟩,
  ⟨0xC, [], [⟨0, 2, .st, 0, .orElse 0 2 0, false⟩]⟩,
  ⟨0x10, [], [⟨0, 24, .st, 2048, .none, false⟩]⟩,
  ⟨0x14, [], [⟨0, 24, .st, 0, .none, false⟩]⟩,
  ⟨0x18, [], [⟨0, 24, .st, 0, .none, false⟩]⟩,
  ⟨0x1C, [], [⟨0, 16, .st, 0, .none, false⟩, ⟨16, 1, .st, 0, .none, false⟩]⟩,
  ⟨0x20, [], [⟨0, 12, .st, 0, .none, false⟩, ⟨12, 12, .st, 0, .none, false⟩]⟩,
  ⟨0x24, [], [⟨0, 24, .st, 10000, .none, false⟩]⟩,
  ⟨0x28, [], [⟨0, 7, .st, 16, .none, false⟩, ⟨7, 2, .st, 1, .orElse 0 2 2, false⟩, ⟨10, 14, .st, 100, .none, false⟩]⟩,
  ⟨0x2C, [], [⟨0, 5, .st, 0, .between 0 16, false⟩]⟩,
  ⟨0x30, [(4, 16)], [⟨0, 24, .st, 0, .none, false⟩]⟩,
  ⟨0x80, [(4, 4)], [⟨0, 12, .st, 0, .none, false⟩]⟩,
  ⟨0x90, [(4, 4)], [⟨0, 12, .st, 1024, .none, false⟩]⟩,
  ⟨0xA0, [], [⟨0, 13, .st, 1024, .none, false⟩]⟩,
  ⟨0xA4, [], [⟨0, 13, .st, 0, .none, false⟩]⟩,
  ⟨0xA8, [], [⟨0, 13, .st, 0, .none, false⟩]⟩,
  ⟨0xAC, [], [⟨0, 13, .st, 0, .none, false⟩]⟩,
  ⟨0xB0, [], [⟨0, 13, .st, 1024, .none, false⟩]⟩]

/-- Registers of block CAM (R396 of chapter 12), part 2. -/
def regsCam1 : List RDesc := [
  ⟨0xB4, [], [⟨0, 13, .st, 0, .none, false⟩]⟩,
  ⟨0xB8, [], [⟨0, 13, .st, 0, .none, false⟩]⟩,
  ⟨0xBC, [], [⟨0, 13, .st, 0, .none, false⟩]⟩,
  ⟨0xC0, [], [⟨0, 13, .st, 1024, .none, false⟩]⟩,
  ⟨0xC4, [], [⟨0, 13, .st, 0, .none, false⟩]⟩,
  ⟨0xC8, [], [⟨0, 13, .st, 0, .none, false⟩]⟩,
  ⟨0xCC, [], [⟨0, 13, .st, 0, .none, false⟩]⟩,
  ⟨0xD0, [], [⟨0, 12, .st, 0, .none, false⟩, ⟨12, 1, .st, 0, .none, false⟩]⟩,
  ⟨0xD4, [], [⟨0, 1, .st, 0, .none, false⟩, ⟨1, 1, .st, 0, .none, false⟩, ⟨2, 13, .st, 0, .between 0 4096, false⟩]⟩,
  ⟨0xD8, [], [⟨0, 14, .rw, 0, .none, false⟩, ⟨14, 1, .rw, 0, .none, false⟩]⟩,
  ⟨0xDC, [], [⟨0, 13, .port, 0, .none, false⟩]⟩,
  ⟨0xE0, [], [⟨0, 2, .st, 2, .none, false⟩, ⟨2, 1, .st, 0, .none, false⟩, ⟨3, 8, .st, 0, .none, false⟩, ⟨11, 2, .st, 1, .orElse 0 2 1, false⟩, ⟨13, 1, .st, 0, .none, false⟩, ⟨14, 8, .st, 0, .none, false⟩]⟩,
  ⟨0xE4, [], [⟨0, 16, .port, 0, .none, false⟩, ⟨16, 8, .port, 0, .none, false⟩]⟩,
  ⟨0xE8, [], [⟨0, 1, .port, 0, .none, false⟩]⟩,
  ⟨0x100, [], [⟨0, 6, .rw, 0, .none, false⟩, ⟨8, 7, .st, 0, .between 0 64, false⟩]⟩,
  ⟨0x104, [], [⟨0, 24, .port, 0, .none, false⟩]⟩,
  ⟨0x108, [], [⟨0, 24, .rw, 0, .none, false⟩]⟩,
  ⟨0x10C, [], [⟨0, 1, .wo, 0, .none, false⟩, ⟨1, 1, .rw, 0, .none, false⟩, ⟨2, 1, .ro, 0, .none, false⟩, ⟨3, 1, .ro, 0, .none, false⟩, ⟨8, 8, .ro, 0, .none, false⟩]⟩,
  ⟨0x120, [], [⟨0, 1, .sel, 0, .none, false⟩, ⟨1, 1, .sel, 0, .none, false⟩, ⟨2, 1, .sel, 0, .none, false⟩, ⟨3, 4, .sel, 0, .none, false⟩, ⟨7, 1, .ro, 0, .none, false⟩, ⟨8, 1, .w1c, 0, .none, false⟩]⟩,
  ⟨0x124, [], [⟨0, 24, .ro, 0, .none, false⟩]⟩]

/-- Registers of block CAM (R396 of chapter 12), part 3. -/
def regsCam2 : List RDesc := [
  ⟨0x128, [], [⟨0, 24, .ro, 0, .none, false⟩]⟩,
  ⟨0x12C, [], [⟨0, 13, .ro, 0, .none, false⟩, ⟨13, 1, .ro, 0, .none, false⟩, ⟨14, 1, .ro, 0, .none, false⟩, ⟨15, 1, .ro, 0, .none, false⟩]⟩,
  ⟨0x130, [], [⟨0, 8, .rc, 0, .none, false⟩, ⟨8, 8, .rc, 0, .none, false⟩, ⟨16, 8, .rc, 0, .none, false⟩]⟩,
  ⟨0x134, [], [⟨0, 8, .rc, 0, .none, false⟩, ⟨8, 8, .rc, 0, .none, false⟩, ⟨16, 8, .rc, 0, .none, false⟩]⟩,
  ⟨0x138, [], [⟨0, 8, .rc, 0, .none, false⟩, ⟨8, 8, .rc, 0, .none, false⟩, ⟨16, 8, .rc, 0, .none, false⟩]⟩,
  ⟨0x13C, [], [⟨0, 24, .rc, 0, .none, false⟩]⟩,
  ⟨0x200, [(4, 64)], [⟨0, 24, .ro, 0, .none, false⟩]⟩]

/-- The registers of block CAM. -/
def regsCam : List RDesc := regsCam0 ++ regsCam1 ++ regsCam2

/-- Registers of block HLTH (R426 of chapter 13), part 1. -/
def regsHlth0 : List RDesc := [
  ⟨0x0, [], [⟨0, 1, .en, 0, .none, false⟩, ⟨1, 1, .ro, 0, .none, false⟩, ⟨2, 1, .ro, 0, .none, false⟩, ⟨4, 2, .ro, 0, .none, false⟩, ⟨6, 1, .w1c, 0, .none, false⟩, ⟨7, 1, .w1c, 0, .none, false⟩, ⟨9, 4, .st, 15, .none, false⟩]⟩,
  ⟨0x4, [], [⟨0, 8, .stp, 20, .atLeast 1, true⟩]⟩,
  ⟨0x8, [], [⟨0, 4, .st, 2, .none, true⟩, ⟨4, 4, .st, 3, .between 1 8, true⟩, ⟨8, 1, .st, 0, .none, true⟩]⟩,
  ⟨0xC, [], [⟨0, 12, .st, 256, .none, false⟩, ⟨12, 4, .st, 3, .none, false⟩]⟩,
  ⟨0x10, [], [⟨0, 12, .st, 64, .none, false⟩, ⟨12, 12, .st, 32, .none, false⟩]⟩,
  ⟨0x14, [], [⟨0, 8, .sel, 0, .none, false⟩, ⟨8, 4, .sel, 0, .none, false⟩]⟩,
  ⟨0x40, [(4, 16)], [⟨0, 1, .stp, 0, .none, true⟩, ⟨1, 1, .st, 1, .none, false⟩, ⟨2, 2, .st, 3, .none, false⟩, ⟨4, 1, .st, 0, .none, false⟩]⟩,
  ⟨0x80, [(4, 16)], [⟨0, 12, .ro, 0, .none, false⟩, ⟨12, 12, .ro, 0, .none, false⟩]⟩,
  ⟨0xC0, [(4, 8)], [⟨0, 24, .ro, 0, .none, true⟩]⟩,
  ⟨0xE0, [(4, 8)], [⟨0, 16, .ro, 0, .none, true⟩, ⟨16, 1, .ro, 0, .none, true⟩]⟩,
  ⟨0x100, [(8, 8)], [⟨0, 16, .ro, 0, .none, true⟩]⟩,
  ⟨0x104, [(8, 8)], [⟨0, 16, .ro, 0, .none, true⟩]⟩,
  ⟨0x140, [], [⟨0, 20, .rw, 0, .none, false⟩]⟩,
  ⟨0x144, [], [⟨0, 8, .port, 0, .none, false⟩, ⟨8, 4, .port, 0, .none, false⟩, ⟨12, 1, .port, 0, .none, false⟩, ⟨13, 3, .port, 0, .none, false⟩, ⟨16, 8, .port, 0, .none, false⟩]⟩,
  ⟨0x148, [], [⟨0, 2, .port, 0, .none, false⟩]⟩,
  ⟨0x14C, [], [⟨0, 8, .rw, 0, .none, false⟩]⟩,
  ⟨0x150, [], [⟨0, 12, .sel, 0, .none, false⟩, ⟨12, 1, .sel, 0, .none, false⟩]⟩,
  ⟨0x160, [], [⟨0, 24, .rc, 0, .none, false⟩]⟩,
  ⟨0x164, [], [⟨0, 24, .rc, 0, .none, false⟩]⟩,
  ⟨0x168, [], [⟨0, 24, .rc, 0, .none, false⟩]⟩]

/-- Registers of block HLTH (R426 of chapter 13), part 2. -/
def regsHlth1 : List RDesc := [
  ⟨0x16C, [], [⟨0, 24, .rc, 0, .none, false⟩]⟩]

/-- The registers of block HLTH. -/
def regsHlth : List RDesc := regsHlth0 ++ regsHlth1

/-- Registers of block CAL (R427 of chapter 13), part 1. -/
def regsCal0 : List RDesc := [
  ⟨0x0, [], [⟨0, 1, .en, 0, .none, false⟩, ⟨1, 1, .ro, 0, .none, false⟩, ⟨2, 1, .ro, 0, .none, false⟩, ⟨4, 2, .ro, 0, .none, false⟩, ⟨6, 1, .w1c, 0, .none, false⟩, ⟨7, 1, .w1c, 0, .none, false⟩, ⟨9, 1, .st, 0, .none, false⟩, ⟨10, 1, .st, 1, .none, false⟩, ⟨11, 1, .st, 1, .none, false⟩]⟩,
  ⟨0x4, [], [⟨0, 8, .st, 30, .between 5 200, true⟩]⟩,
  ⟨0x8, [], [⟨0, 16, .port, 0, .none, false⟩, ⟨16, 8, .port, 0, .none, false⟩]⟩,
  ⟨0x14, [], [⟨0, 16, .rw, 0, .none, false⟩, ⟨16, 8, .rw, 0, .none, false⟩]⟩,
  ⟨0x18, [], [⟨0, 2, .port, 0, .none, false⟩]⟩,
  ⟨0x1C, [], [⟨0, 1, .ro, 0, .none, false⟩, ⟨1, 4, .ro, 0, .none, false⟩]⟩,
  ⟨0x40, [(4, 16)], [⟨0, 3, .ro, 0, .none, false⟩, ⟨3, 4, .ro, 0, .none, false⟩, ⟨7, 3, .ro, 0, .none, false⟩, ⟨10, 12, .sel, 0, .none, false⟩]⟩,
  ⟨0x80, [(4, 8)], [⟨0, 3, .ro, 0, .none, false⟩, ⟨3, 4, .ro, 0, .none, false⟩, ⟨7, 3, .ro, 0, .none, false⟩, ⟨10, 12, .sel, 0, .none, false⟩]⟩,
  ⟨0xC0, [], [⟨0, 24, .rc, 0, .none, false⟩]⟩,
  ⟨0xC4, [], [⟨0, 24, .rc, 0, .none, false⟩]⟩,
  ⟨0xC8, [], [⟨0, 24, .rc, 0, .none, false⟩]⟩]

/-- The registers of block CAL. -/
def regsCal : List RDesc := regsCal0

/-- Registers of block MOT (R450 of chapter 14), part 1. -/
def regsMot0 : List RDesc := [
  ⟨0x0, [(128, 4)], [⟨0, 1, .enst, 0, .none, false⟩, ⟨1, 1, .ro, 0, .none, false⟩, ⟨2, 1, .ro, 0, .none, false⟩, ⟨4, 2, .ro, 0, .none, false⟩, ⟨6, 1, .w1c, 0, .none, false⟩, ⟨7, 1, .w1c, 0, .none, false⟩, ⟨9, 1, .ro, 0, .none, true⟩, ⟨10, 2, .st, 0, .none, false⟩, ⟨12, 1, .st, 0, .none, false⟩, ⟨13, 1, .st, 0, .none, false⟩, ⟨14, 1, .st, 0, .none, false⟩]⟩,
  ⟨0x4, [(128, 4)], [⟨0, 24, .st, 0, .none, false⟩]⟩,
  ⟨0x8, [(128, 4)], [⟨0, 24, .st, 0, .none, false⟩]⟩,
  ⟨0xC, [(128, 4)], [⟨0, 23, .st, 1000, .between 1 5000000, false⟩]⟩,
  ⟨0x10, [(128, 4)], [⟨0, 24, .st, 0, .none, false⟩]⟩,
  ⟨0x14, [(128, 4)], [⟨0, 24, .st, 0, .none, false⟩]⟩,
  ⟨0x18, [(128, 4)], [⟨0, 24, .st, 0, .none, false⟩]⟩,
  ⟨0x1C, [(128, 4)], [⟨0, 16, .st, 10, .atLeast 1, false⟩]⟩,
  ⟨0x20, [(128, 4)], [⟨0, 24, .st, 0, .none, false⟩]⟩,
  ⟨0x24, [(128, 4)], [⟨0, 4, .st, 0, .none, true⟩, ⟨4, 4, .st, 0, .none, true⟩, ⟨8, 16, .st, 2000, .none, false⟩]⟩,
  ⟨0x28, [(128, 4)], [⟨0, 24, .st, 0, .none, true⟩]⟩,
  ⟨0x2C, [(128, 4)], [⟨0, 12, .st, 0, .none, true⟩]⟩,
  ⟨0x30, [(128, 4)], [⟨0, 2, .st, 0, .none, false⟩, ⟨4, 2, .st, 0, .none, false⟩, ⟨6, 1, .st, 0, .none, false⟩]⟩,
  ⟨0x34, [(128, 4)], [⟨0, 24, .st, 256, .none, false⟩]⟩,
  ⟨0x38, [(128, 4)], [⟨0, 24, .st, 1, .none, false⟩]⟩,
  ⟨0x3C, [(128, 4)], [⟨0, 24, .st, 256, .none, false⟩]⟩,
  ⟨0x40, [(128, 4)], [⟨0, 24, .st, 1, .none, false⟩]⟩,
  ⟨0x44, [(128, 4)], [⟨0, 16, .st, 1024, .none, false⟩, ⟨16, 8, .st, 10, .atLeast 1, false⟩]⟩,
  ⟨0x48, [(128, 4)], [⟨0, 24, .st, 8192, .none, false⟩]⟩,
  ⟨0x4C, [(128, 4)], [⟨0, 24, .st, 256, .none, false⟩]⟩]

/-- Registers of block MOT (R450 of chapter 14), part 2. -/
def regsMot1 : List RDesc := [
  ⟨0x50, [(128, 4)], [⟨0, 24, .st, 1, .none, false⟩]⟩,
  ⟨0x54, [(128, 4)], [⟨0, 24, .st, 0, .none, false⟩]⟩,
  ⟨0x58, [(128, 4)], [⟨0, 24, .st, 0, .none, false⟩]⟩,
  ⟨0x5C, [(128, 4)], [⟨0, 8, .st, 20, .none, false⟩, ⟨8, 8, .st, 200, .none, false⟩, ⟨16, 8, .st, 50, .none, false⟩]⟩,
  ⟨0x60, [(128, 4)], [⟨0, 24, .st, 0, .none, false⟩]⟩,
  ⟨0x64, [(128, 4)], [⟨0, 24, .st, 0, .none, false⟩]⟩,
  ⟨0x400, [(64, 4)], [⟨0, 1, .sel, 0, .none, false⟩, ⟨1, 1, .sel, 0, .none, false⟩, ⟨2, 1, .ro, 0, .none, false⟩, ⟨3, 1, .w1c, 0, .none, false⟩, ⟨4, 1, .w1c, 0, .none, false⟩, ⟨5, 1, .w1c, 0, .none, false⟩, ⟨6, 1, .w1c, 0, .none, false⟩, ⟨7, 1, .sel, 0, .none, false⟩, ⟨8, 4, .sel, 0, .none, false⟩]⟩,
  ⟨0x404, [(64, 4)], [⟨0, 24, .sel, 0, .none, false⟩]⟩,
  ⟨0x408, [(64, 4)], [⟨0, 24, .sel, 0, .none, false⟩]⟩,
  ⟨0x40C, [(64, 4)], [⟨0, 24, .sel, 0, .none, false⟩]⟩,
  ⟨0x410, [(64, 4)], [⟨0, 24, .sel, 0, .none, false⟩]⟩,
  ⟨0x414, [(64, 4)], [⟨0, 24, .sel, 0, .none, false⟩]⟩,
  ⟨0x418, [(64, 4)], [⟨0, 24, .sel, 0, .none, false⟩]⟩,
  ⟨0x41C, [(64, 4)], [⟨0, 8, .rc, 0, .none, false⟩, ⟨8, 8, .rc, 0, .none, false⟩, ⟨16, 8, .rc, 0, .none, false⟩]⟩,
  ⟨0x420, [(64, 4)], [⟨0, 24, .rc, 0, .none, false⟩]⟩]

/-- The registers of block MOT. -/
def regsMot : List RDesc := regsMot0 ++ regsMot1

/-- Registers of block MEM (R467 of chapter 15), part 1. -/
def regsMem0 : List RDesc := [
  ⟨0x0, [], [⟨0, 2, .ro, 0, .none, false⟩, ⟨2, 1, .ro, 0, .none, false⟩, ⟨3, 1, .ro, 0, .none, false⟩, ⟨4, 1, .ro, 0, .none, false⟩, ⟨5, 1, .ro, 0, .none, false⟩, ⟨6, 1, .ro, 0, .none, false⟩]⟩,
  ⟨0x4, [], [⟨0, 4, .ro, 0, .between 0 8, true⟩, ⟨4, 1, .ro, 0, .none, true⟩, ⟨5, 1, .ro, 0, .none, true⟩, ⟨6, 1, .ro, 0, .none, true⟩, ⟨7, 1, .ro, 0, .none, true⟩]⟩,
  ⟨0x8, [], [⟨0, 2, .st, 0, .none, true⟩, ⟨4, 4, .ro, 0, .none, false⟩]⟩,
  ⟨0xC, [], [⟨0, 10, .st, 64, .atLeast 8, false⟩]⟩,
  ⟨0x10, [], [⟨0, 8, .st, 24, .none, false⟩, ⟨8, 8, .st, 8, .atLeast 1, false⟩]⟩,
  ⟨0x14, [], [⟨0, 7, .st, 28, .none, false⟩]⟩,
  ⟨0x18, [], [⟨0, 12, .st, 256, .none, false⟩, ⟨12, 1, .st, 1, .none, false⟩, ⟨13, 1, .st, 0, .none, false⟩, ⟨14, 7, .st, 95, .none, false⟩]⟩,
  ⟨0x1C, [], [⟨0, 2, .wo, 0, .none, false⟩, ⟨2, 1, .wo, 0, .none, false⟩]⟩,
  ⟨0x20, [(4, 4)], [⟨0, 2, .ro, 0, .none, true⟩, ⟨2, 8, .rc, 0, .none, false⟩, ⟨10, 8, .rc, 0, .none, false⟩, ⟨18, 3, .ro, 0, .none, false⟩]⟩,
  ⟨0x30, [], [⟨0, 24, .ro, 0, .none, false⟩]⟩,
  ⟨0x34, [], [⟨0, 24, .ro, 0, .none, false⟩]⟩,
  ⟨0x38, [], [⟨0, 12, .ro, 0, .none, false⟩, ⟨12, 12, .ro, 0, .none, false⟩]⟩,
  ⟨0x40, [], [⟨0, 16, .ro, 0, .none, false⟩]⟩,
  ⟨0x44, [], [⟨0, 16, .ro, 0, .none, false⟩]⟩,
  ⟨0x48, [], [⟨0, 16, .ro, 0, .none, false⟩]⟩,
  ⟨0x4C, [], [⟨0, 24, .rc, 0, .none, false⟩]⟩,
  ⟨0x50, [], [⟨0, 24, .rc, 0, .none, false⟩]⟩]

/-- The registers of block MEM. -/
def regsMem : List RDesc := regsMem0

/-- Registers of block IRQ (R488 of chapter 16), part 1. -/
def regsIrq0 : List RDesc := [
  ⟨0x0, [(4, 192)], [⟨0, 4, .st, 0, .none, true⟩]⟩,
  ⟨0x300, [(4, 192)], [⟨0, 16, .st, 0, .none, true⟩]⟩,
  ⟨0x600, [(4, 192)], [⟨0, 12, .st, 0, .none, true⟩]⟩,
  ⟨0x900, [(4, 192)], [⟨0, 8, .st, 1, .atLeast 1, false⟩, ⟨8, 16, .st, 0, .none, false⟩]⟩,
  ⟨0xC00, [(4, 8)], [⟨0, 24, .sel, 0, .none, false⟩]⟩,
  ⟨0xC20, [], [⟨0, 8, .wo, 0, .none, false⟩]⟩]

/-- The registers of block IRQ. -/
def regsIrq : List RDesc := regsIrq0

/-- Registers of block IRQH (R489 of chapter 16), part 1. -/
def regsIrqh0 : List RDesc := [
  ⟨0x0, [(4, 16)], [⟨0, 1, .rw, 0, .none, false⟩, ⟨1, 1, .wo, 0, .none, false⟩, ⟨4, 4, .rw, 0, .none, false⟩, ⟨8, 4, .sel, 0, .none, false⟩, ⟨12, 4, .sel, 0, .none, false⟩]⟩,
  ⟨0x40, [(4, 16)], [⟨0, 11, .port, 0, .none, false⟩, ⟨12, 4, .port, 0, .none, false⟩, ⟨23, 1, .port, 0, .none, false⟩]⟩,
  ⟨0x80, [(4, 16)], [⟨0, 11, .wo, 0, .none, false⟩]⟩,
  ⟨0x100, [(16, 16), (4, 3)], [⟨0, 24, .ro, 0, .none, false⟩]⟩,
  ⟨0x200, [(4, 64)], [⟨0, 24, .rw, 0, .none, false⟩]⟩,
  ⟨0x300, [], [⟨0, 11, .wo, 0, .none, false⟩]⟩,
  ⟨0x304, [], [⟨0, 11, .wo, 0, .none, false⟩]⟩,
  ⟨0x400, [(4, 64)], [⟨0, 24, .sel, 0, .none, false⟩]⟩,
  ⟨0x500, [(4, 64)], [⟨0, 24, .sel, 0, .none, false⟩]⟩,
  ⟨0x600, [], [⟨0, 8, .rc, 0, .none, false⟩, ⟨8, 8, .rc, 0, .none, false⟩, ⟨16, 8, .rc, 0, .none, false⟩]⟩]

/-- The registers of block IRQH. -/
def regsIrqh : List RDesc := regsIrqh0

/-- Registers of block ENG (R490 of chapter 16), part 1. -/
def regsEng0 : List RDesc := [
  ⟨0x0, [(4, 12)], [⟨0, 1, .enst, 0, .none, false⟩, ⟨1, 1, .ro, 0, .none, false⟩, ⟨2, 1, .ro, 0, .none, false⟩, ⟨4, 2, .ro, 0, .none, false⟩, ⟨6, 1, .w1c, 0, .none, false⟩, ⟨7, 1, .w1c, 0, .none, false⟩]⟩,
  ⟨0x40, [(4, 12)], [⟨0, 4, .ro, 0, .none, false⟩, ⟨4, 1, .w1c, 0, .none, false⟩, ⟨5, 3, .ro, 0, .none, false⟩, ⟨8, 8, .ro, 0, .none, false⟩]⟩,
  ⟨0x80, [(4, 12)], [⟨0, 24, .ro, 0, .none, false⟩]⟩,
  ⟨0xC0, [(4, 12)], [⟨0, 10, .ro, 0, .none, false⟩]⟩,
  ⟨0x100, [], [⟨0, 1, .ro, 0, .none, true⟩, ⟨1, 4, .ro, 15, .none, false⟩]⟩,
  ⟨0x104, [], [⟨0, 10, .st, 10, .atLeast 1, false⟩]⟩,
  ⟨0x108, [], [⟨0, 24, .rc, 0, .none, false⟩]⟩]

/-- The registers of block ENG. -/
def regsEng : List RDesc := regsEng0

/-- Registers of block TIME (R507 of chapter 17), part 1. -/
def regsTime0 : List RDesc := [
  ⟨0x0, [], [⟨0, 2, .rw, 0, .orElse 0 2 0, false⟩, ⟨2, 7, .rw, 0, .none, false⟩, ⟨9, 11, .rw, 1000, .none, false⟩]⟩,
  ⟨0x4, [(4, 3)], [⟨0, 24, .sel, 0, .none, false⟩]⟩,
  ⟨0x10, [(4, 3)], [⟨0, 24, .rw, 0, .none, false⟩]⟩,
  ⟨0x1C, [], [⟨0, 24, .rw, 0, .none, false⟩]⟩,
  ⟨0x20, [], [⟨0, 24, .st, 1000, .between 1 1000000, true⟩]⟩,
  ⟨0x24, [], [⟨0, 24, .ro, 0, .none, false⟩]⟩,
  ⟨0x28, [], [⟨0, 2, .ro, 0, .none, false⟩, ⟨2, 1, .w1c, 0, .none, false⟩]⟩,
  ⟨0x2C, [(4, 3)], [⟨0, 24, .ro, 0, .none, false⟩]⟩,
  ⟨0x38, [], [⟨0, 24, .rc, 0, .none, false⟩]⟩,
  ⟨0x100, [(16, 16)], [⟨0, 1, .en, 0, .none, false⟩, ⟨1, 1, .ro, 0, .none, false⟩, ⟨2, 1, .ro, 0, .none, false⟩, ⟨4, 2, .ro, 0, .none, false⟩, ⟨6, 1, .w1c, 0, .none, false⟩, ⟨7, 1, .w1c, 0, .none, false⟩, ⟨9, 1, .rw, 0, .none, false⟩, ⟨10, 2, .rw, 0, .none, false⟩, ⟨12, 8, .rw, 0, .none, false⟩, ⟨20, 1, .rw, 0, .none, false⟩, ⟨21, 1, .w1c, 0, .none, false⟩]⟩,
  ⟨0x104, [(16, 16)], [⟨0, 24, .rw, 0, .none, false⟩]⟩,
  ⟨0x108, [(16, 16)], [⟨0, 8, .rw, 0, .none, false⟩]⟩,
  ⟨0x10C, [(16, 16)], [⟨0, 16, .rw, 0, .none, false⟩, ⟨16, 4, .rc, 0, .none, false⟩, ⟨20, 4, .rc, 0, .none, false⟩]⟩]

/-- The registers of block TIME. -/
def regsTime : List RDesc := regsTime0

/-- Registers of block PAIR (R536 of chapter 18), part 1. -/
def regsPair0 : List RDesc := [
  ⟨0x0, [], [⟨0, 3, .ro, 0, .none, false⟩, ⟨3, 1, .ro, 0, .none, false⟩, ⟨4, 1, .ro, 0, .none, false⟩, ⟨5, 1, .ro, 0, .none, false⟩, ⟨6, 1, .sel, 0, .none, false⟩, ⟨7, 1, .ro, 0, .none, false⟩]⟩,
  ⟨0x4, [], [⟨0, 1, .ro, 0, .none, false⟩, ⟨1, 1, .ro, 0, .none, false⟩, ⟨2, 1, .ro, 0, .none, false⟩, ⟨3, 1, .ro, 0, .none, false⟩]⟩,
  ⟨0x8, [], [⟨0, 24, .ro, 0, .none, false⟩]⟩,
  ⟨0xC, [], [⟨0, 24, .ro, 0, .none, false⟩]⟩,
  ⟨0x10, [], [⟨0, 16, .ro, 0, .none, false⟩]⟩,
  ⟨0x14, [], [⟨0, 24, .ro, 0, .none, false⟩]⟩,
  ⟨0x18, [], [⟨0, 24, .ro, 0, .none, false⟩]⟩,
  ⟨0x1C, [], [⟨0, 24, .ro, 0, .none, false⟩]⟩,
  ⟨0x20, [], [⟨0, 24, .ro, 0, .none, false⟩]⟩,
  ⟨0x24, [], [⟨0, 24, .ro, 0, .none, false⟩]⟩,
  ⟨0x28, [], [⟨0, 16, .ro, 0, .none, false⟩]⟩,
  ⟨0x2C, [], [⟨0, 9, .ro, 0, .none, false⟩, ⟨9, 1, .ro, 0, .none, false⟩, ⟨10, 3, .ro, 0, .none, false⟩]⟩,
  ⟨0x30, [], [⟨0, 24, .rc, 0, .none, false⟩]⟩,
  ⟨0x34, [], [⟨0, 24, .rc, 0, .none, false⟩]⟩,
  ⟨0x38, [], [⟨0, 24, .rc, 0, .none, false⟩]⟩,
  ⟨0x3C, [], [⟨0, 24, .rc, 0, .none, false⟩]⟩,
  ⟨0x40, [], [⟨0, 24, .rc, 0, .none, false⟩]⟩,
  ⟨0x44, [], [⟨0, 24, .ro, 0, .none, false⟩]⟩]

/-- The registers of block PAIR. -/
def regsPair : List RDesc := regsPair0

/-- Registers of block MTR (R568 of chapter 19), part 1. -/
def regsMtr0 : List RDesc := [
  ⟨0x0, [], [⟨0, 2, .sel, 0, .none, false⟩, ⟨2, 1, .sel, 0, .none, false⟩, ⟨3, 1, .sel, 0, .none, false⟩, ⟨4, 1, .sel, 0, .none, false⟩, ⟨5, 1, .sel, 0, .none, false⟩, ⟨6, 1, .sel, 0, .none, false⟩, ⟨7, 1, .sel, 0, .none, false⟩, ⟨8, 1, .sel, 0, .none, false⟩, ⟨9, 1, .sel, 0, .none, false⟩, ⟨10, 1, .sel, 0, .none, false⟩, ⟨11, 1, .sel, 0, .none, false⟩, ⟨12, 1, .sel, 0, .none, false⟩, ⟨13, 1, .sel, 0, .none, false⟩, ⟨14, 1, .sel, 0, .none, false⟩, ⟨15, 1, .sel, 0, .none, false⟩]⟩,
  ⟨0x4, [], [⟨0, 24, .sel, 0, .none, false⟩]⟩,
  ⟨0x8, [], [⟨0, 11, .sel, 0, .none, false⟩]⟩,
  ⟨0xC, [], [⟨0, 12, .sel, 0, .none, false⟩, ⟨12, 12, .sel, 0, .none, false⟩]⟩,
  ⟨0x10, [], [⟨0, 24, .sel, 0, .none, false⟩]⟩,
  ⟨0x14, [], [⟨0, 24, .sel, 0, .none, false⟩]⟩,
  ⟨0x18, [], [⟨0, 24, .sel, 0, .none, false⟩]⟩,
  ⟨0x1C, [], [⟨0, 24, .sel, 0, .none, false⟩]⟩,
  ⟨0x20, [], [⟨0, 24, .sel, 0, .none, false⟩]⟩,
  ⟨0x24, [], [⟨0, 24, .sel, 0, .none, false⟩]⟩,
  ⟨0x28, [], [⟨0, 8, .rw, 0, .none, false⟩]⟩,
  ⟨0x2C, [], [⟨0, 24, .sel, 0, .none, false⟩]⟩,
  ⟨0x30, [], [⟨0, 24, .sel, 0, .none, false⟩]⟩,
  ⟨0x34, [], [⟨0, 24, .sel, 0, .none, false⟩]⟩,
  ⟨0x38, [], [⟨0, 24, .sel, 0, .none, false⟩]⟩,
  ⟨0x3C, [], [⟨0, 24, .sel, 0, .none, false⟩]⟩,
  ⟨0x40, [], [⟨0, 24, .sel, 0, .none, false⟩]⟩,
  ⟨0x44, [], [⟨0, 24, .sel, 0, .none, false⟩]⟩,
  ⟨0x48, [], [⟨0, 24, .sel, 0, .none, false⟩]⟩,
  ⟨0x4C, [], [⟨0, 24, .sel, 0, .none, false⟩]⟩]

/-- Registers of block MTR (R568 of chapter 19), part 2. -/
def regsMtr1 : List RDesc := [
  ⟨0x50, [], [⟨0, 24, .sel, 0, .none, false⟩]⟩,
  ⟨0x54, [], [⟨0, 24, .sel, 0, .none, false⟩]⟩,
  ⟨0x58, [], [⟨0, 8, .sel, 0, .none, false⟩, ⟨8, 8, .sel, 0, .none, false⟩, ⟨16, 8, .sel, 0, .none, false⟩]⟩,
  ⟨0x60, [(4, 8)], [⟨0, 16, .sel, 0, .none, false⟩, ⟨16, 1, .sel, 0, .none, false⟩]⟩,
  ⟨0x84, [(4, 11)], [⟨0, 24, .sel, 0, .none, false⟩]⟩,
  ⟨0xB0, [], [⟨0, 1, .wo, 0, .none, false⟩]⟩,
  ⟨0x100, [(32, 16)], [⟨0, 24, .sel, 0, .none, false⟩]⟩,
  ⟨0x104, [(32, 16)], [⟨0, 24, .sel, 0, .none, false⟩]⟩,
  ⟨0x108, [(32, 16)], [⟨0, 24, .sel, 0, .none, false⟩]⟩,
  ⟨0x10C, [(32, 16)], [⟨0, 24, .sel, 0, .none, false⟩]⟩,
  ⟨0x110, [(32, 16)], [⟨0, 24, .sel, 0, .none, false⟩]⟩,
  ⟨0x114, [(32, 16)], [⟨0, 24, .sel, 0, .none, false⟩]⟩,
  ⟨0x118, [(32, 16)], [⟨0, 16, .sel, 0, .none, false⟩, ⟨16, 1, .sel, 0, .none, false⟩]⟩,
  ⟨0x11C, [(32, 16)], [⟨0, 24, .sel, 0, .none, false⟩]⟩,
  ⟨0x300, [(64, 16)], [⟨0, 16, .sel, 0, .none, false⟩, ⟨16, 1, .sel, 0, .none, false⟩]⟩,
  ⟨0x304, [(64, 16), (4, 15)], [⟨0, 24, .sel, 0, .none, false⟩]⟩,
  ⟨0x700, [(4, 16)], [⟨0, 24, .sel, 0, .none, false⟩]⟩,
  ⟨0x800, [], [⟨0, 10, .rw, 0, .none, false⟩]⟩,
  ⟨0x804, [(4, 16)], [⟨0, 24, .sel, 0, .none, false⟩]⟩,
  ⟨0x900, [], [⟨0, 13, .rw, 0, .none, false⟩]⟩]

/-- Registers of block MTR (R568 of chapter 19), part 3. -/
def regsMtr2 : List RDesc := [
  ⟨0x904, [], [⟨0, 24, .sel, 0, .none, false⟩]⟩,
  ⟨0xA00, [(4, 113)], [⟨0, 24, .sel, 0, .none, false⟩]⟩,
  ⟨0x1000, [(4, 64)], [⟨0, 24, .wo, 0, .none, false⟩]⟩]

/-- The registers of block MTR. -/
def regsMtr : List RDesc := regsMtr0 ++ regsMtr1 ++ regsMtr2

/-- Registers of block EVT (R591 of chapter 20), part 1. -/
def regsEvt0 : List RDesc := [
  ⟨0x0, [], [⟨0, 1, .ro, 0, .none, false⟩, ⟨1, 1, .sel, 0, .none, false⟩, ⟨2, 1, .sel, 0, .none, false⟩, ⟨3, 7, .sel, 0, .none, false⟩]⟩,
  ⟨0x4, [], [⟨0, 8, .rw, 0, .none, true⟩, ⟨8, 1, .rw, 0, .none, true⟩, ⟨9, 3, .rw, 0, .none, false⟩, ⟨12, 1, .wo, 0, .none, false⟩]⟩,
  ⟨0x8, [], [⟨0, 16, .ro, 0, .none, false⟩]⟩,
  ⟨0xC, [], [⟨0, 24, .ro, 0, .none, false⟩]⟩,
  ⟨0x10, [], [⟨0, 24, .rc, 0, .none, false⟩]⟩,
  ⟨0x14, [], [⟨0, 24, .sel, 0, .none, false⟩]⟩,
  ⟨0x18, [], [⟨0, 8, .sel, 0, .none, false⟩]⟩,
  ⟨0x20, [], [⟨0, 16, .port, 0, .none, false⟩]⟩,
  ⟨0x24, [(4, 15)], [⟨0, 24, .ro, 0, .none, false⟩]⟩,
  ⟨0x60, [], [⟨0, 1, .ro, 0, .none, false⟩, ⟨1, 2, .ro, 0, .none, false⟩]⟩,
  ⟨0x80, [], [⟨0, 16, .rw, 0, .none, false⟩, ⟨16, 8, .rw, 0, .none, false⟩]⟩,
  ⟨0x84, [], [⟨0, 2, .wo, 0, .none, false⟩]⟩,
  ⟨0x88, [], [⟨0, 1, .ro, 0, .none, false⟩, ⟨1, 3, .ro, 0, .none, false⟩]⟩,
  ⟨0x100, [], [⟨0, 9, .rw, 0, .none, false⟩]⟩,
  ⟨0x104, [], [⟨0, 24, .sel, 0, .none, false⟩]⟩,
  ⟨0x108, [], [⟨0, 24, .sel, 0, .none, false⟩]⟩,
  ⟨0x110, [], [⟨0, 5, .rw, 0, .none, false⟩, ⟨5, 5, .rw, 0, .none, false⟩]⟩,
  ⟨0x114, [], [⟨0, 24, .sel, 0, .none, false⟩]⟩,
  ⟨0x118, [], [⟨0, 24, .sel, 0, .none, false⟩]⟩,
  ⟨0x120, [], [⟨0, 20, .rw, 0, .none, false⟩]⟩]

/-- Registers of block EVT (R591 of chapter 20), part 2. -/
def regsEvt1 : List RDesc := [
  ⟨0x124, [], [⟨0, 24, .sel, 0, .none, false⟩]⟩,
  ⟨0x128, [], [⟨0, 16, .sel, 0, .none, false⟩]⟩,
  ⟨0x130, [], [⟨0, 1, .wo, 0, .none, false⟩, ⟨1, 1, .ro, 0, .none, false⟩, ⟨8, 16, .ro, 0, .none, false⟩]⟩,
  ⟨0x140, [], [⟨0, 16, .rw, 0, .none, false⟩]⟩,
  ⟨0x144, [], [⟨0, 3, .sel, 0, .none, false⟩, ⟨3, 1, .sel, 0, .none, false⟩]⟩]

/-- The registers of block EVT. -/
def regsEvt : List RDesc := regsEvt0 ++ regsEvt1

/-- Registers of block LED (R614 of chapter 21), part 1. -/
def regsLed0 : List RDesc := [
  ⟨0x0, [(4, 2)], [⟨0, 1, .enst, 0, .none, true⟩, ⟨1, 1, .ro, 0, .none, false⟩, ⟨2, 1, .ro, 0, .none, false⟩, ⟨4, 2, .ro, 0, .none, false⟩, ⟨6, 1, .w1c, 0, .none, false⟩, ⟨7, 1, .w1c, 0, .none, false⟩, ⟨9, 2, .st, 0, .orElse 0 2 0, false⟩, ⟨11, 6, .st, 0, .none, false⟩]⟩,
  ⟨0x8, [(4, 2)], [⟨0, 24, .st, 118110, .atLeast 1, false⟩]⟩,
  ⟨0x10, [], [⟨0, 1, .rw, 0, .none, false⟩, ⟨1, 6, .rw, 0, .none, false⟩, ⟨7, 2, .rw, 0, .none, false⟩]⟩,
  ⟨0x14, [], [⟨0, 16, .port, 0, .none, false⟩, ⟨16, 8, .port, 254, .none, false⟩]⟩,
  ⟨0x18, [], [⟨0, 16, .sel, 0, .none, false⟩, ⟨16, 8, .sel, 0, .none, false⟩]⟩,
  ⟨0x1C, [], [⟨0, 16, .sel, 0, .none, false⟩, ⟨16, 1, .sel, 0, .none, false⟩]⟩,
  ⟨0x20, [], [⟨0, 11, .sel, 1024, .none, false⟩]⟩,
  ⟨0x28, [(4, 2)], [⟨0, 7, .ro, 0, .none, false⟩, ⟨7, 1, .w1c, 0, .none, false⟩, ⟨8, 1, .w1c, 0, .none, false⟩, ⟨9, 1, .sel, 0, .none, false⟩, ⟨10, 1, .sel, 0, .none, false⟩]⟩,
  ⟨0x30, [(4, 2)], [⟨0, 8, .rc, 0, .none, false⟩, ⟨8, 8, .rc, 0, .none, false⟩, ⟨16, 8, .rc, 0, .none, false⟩]⟩]

/-- The registers of block LED. -/
def regsLed : List RDesc := regsLed0

/-- Registers of block DISP (R615 of chapter 21), part 1. -/
def regsDisp0 : List RDesc := [
  ⟨0x0, [], [⟨0, 1, .en, 0, .none, false⟩, ⟨1, 1, .ro, 0, .none, false⟩, ⟨2, 1, .ro, 0, .none, false⟩, ⟨4, 2, .ro, 0, .none, false⟩, ⟨6, 1, .w1c, 0, .none, false⟩, ⟨7, 1, .w1c, 0, .none, false⟩, ⟨9, 3, .st, 0, .none, true⟩, ⟨12, 1, .st, 1, .none, false⟩, ⟨13, 4, .st, 2, .atLeast 1, false⟩, ⟨17, 2, .st, 2, .orElse 0 2 2, false⟩, ⟨19, 2, .st, 2, .orElse 0 2 2, false⟩]⟩,
  ⟨0x4, [], [⟨0, 2, .ro, 0, .none, false⟩, ⟨2, 2, .ro, 0, .none, false⟩, ⟨4, 2, .ro, 0, .none, false⟩, ⟨6, 1, .ro, 0, .none, false⟩, ⟨7, 1, .w1c, 0, .none, false⟩, ⟨8, 1, .w1c, 0, .none, false⟩, ⟨9, 1, .ro, 0, .none, false⟩]⟩,
  ⟨0x8, [], [⟨0, 24, .st, 0, .none, false⟩]⟩,
  ⟨0xC, [], [⟨0, 4, .st, 8, .none, false⟩]⟩,
  ⟨0x10, [], [⟨0, 24, .ro, 0, .none, false⟩]⟩,
  ⟨0x14, [], [⟨0, 8, .rc, 0, .none, false⟩, ⟨8, 8, .rc, 0, .none, false⟩, ⟨16, 8, .rc, 0, .none, false⟩]⟩,
  ⟨0x100, [(32, 4)], [⟨0, 1, .st, 0, .none, false⟩, ⟨1, 1, .st, 0, .none, false⟩, ⟨2, 3, .st, 0, .none, false⟩, ⟨5, 8, .st, 255, .none, false⟩]⟩,
  ⟨0x104, [(32, 4)], [⟨0, 16, .st, 0, .none, false⟩, ⟨16, 8, .st, 0, .none, false⟩]⟩,
  ⟨0x108, [(32, 4)], [⟨0, 24, .st, 0, .none, false⟩]⟩,
  ⟨0x10C, [(32, 4)], [⟨0, 16, .st, 0, .none, false⟩]⟩,
  ⟨0x110, [(32, 4)], [⟨0, 12, .st, 0, .none, false⟩, ⟨12, 12, .st, 0, .none, false⟩]⟩,
  ⟨0x114, [(32, 4)], [⟨0, 12, .st, 0, .none, false⟩, ⟨12, 12, .st, 0, .none, false⟩]⟩,
  ⟨0x118, [(32, 4)], [⟨0, 24, .st, 0, .none, false⟩]⟩,
  ⟨0x11C, [(32, 4)], [⟨0, 1, .w1c, 0, .none, false⟩, ⟨1, 1, .ro, 0, .none, false⟩]⟩,
  ⟨0x200, [(32, 8)], [⟨0, 1, .st, 0, .none, false⟩, ⟨1, 1, .w1c, 0, .none, false⟩]⟩,
  ⟨0x204, [(32, 8)], [⟨0, 12, .st, 0, .none, false⟩, ⟨12, 12, .st, 0, .none, false⟩]⟩,
  ⟨0x208, [(32, 8)], [⟨0, 12, .st, 0, .none, false⟩, ⟨12, 12, .st, 0, .none, false⟩]⟩,
  ⟨0x20C, [(32, 8)], [⟨0, 24, .st, 0, .none, false⟩]⟩,
  ⟨0x210, [(32, 8)], [⟨0, 24, .st, 0, .none, false⟩]⟩,
  ⟨0x214, [(32, 8)], [⟨0, 24, .ro, 0, .none, false⟩]⟩]

/-- Registers of block DISP (R615 of chapter 21), part 2. -/
def regsDisp1 : List RDesc := [
  ⟨0x218, [(32, 8)], [⟨0, 24, .ro, 0, .none, false⟩]⟩,
  ⟨0x21C, [(32, 8)], [⟨0, 24, .rc, 0, .none, false⟩]⟩]

/-- The registers of block DISP. -/
def regsDisp : List RDesc := regsDisp0 ++ regsDisp1

/-- Registers of block MON (R643 of chapter 22), part 1. -/
def regsMon0 : List RDesc := [
  ⟨0x0, [], [⟨0, 10, .st, 1, .between 1 1000, false⟩, ⟨10, 1, .st, 1, .none, false⟩]⟩,
  ⟨0x4, [], [⟨0, 8, .st, 100, .between 60 120, false⟩, ⟨8, 8, .st, 110, .none, false⟩]⟩,
  ⟨0x8, [], [⟨0, 5, .st, 10, .none, false⟩]⟩,
  ⟨0xC, [], [⟨0, 1, .ro, 0, .none, false⟩, ⟨1, 1, .w1c, 0, .none, false⟩, ⟨2, 7, .w1c, 0, .none, false⟩]⟩,
  ⟨0x10, [], [⟨0, 24, .ro, 0, .none, false⟩]⟩,
  ⟨0x20, [(4, 4)], [⟨0, 12, .ro, 0, .none, false⟩]⟩,
  ⟨0x30, [], [⟨0, 12, .ro, 0, .none, false⟩]⟩,
  ⟨0x40, [(4, 7)], [⟨0, 12, .ro, 0, .none, false⟩]⟩,
  ⟨0x60, [], [⟨0, 8, .rc, 0, .none, false⟩, ⟨8, 8, .rc, 0, .none, false⟩, ⟨16, 8, .rc, 0, .none, false⟩]⟩]

/-- The registers of block MON. -/
def regsMon : List RDesc := regsMon0

/-- The package-view block a block number names (R30, R31 of 01). -/
def pkgRegs (n : Nat) : List RDesc :=
  match n with
  | 0x0 => regsPkg
  | 0x1 => regsEpoch
  | 0x2 => regsStruct
  | 0x3 => regsAuth
  | 0x4 => regsWin
  | 0x5 => regsQue
  | 0x6 => regsJob
  | 0x7 => regsIrqh
  | 0x8 => regsTime
  | 0x9 => regsPair
  | 0xA => regsMtr
  | 0xB => regsEvt
  | 0xC => regsDisp
  | 0xD => regsHlth
  | 0xE => regsCal
  | 0x10 => regsBoot
  | _ => []

/-- The die-view block a block number names (R31 of 01). -/
def dieRegs (n : Nat) : List RDesc :=
  match n with
  | 0x0 => regsDie
  | 0x1 => regsZip
  | 0x2 => regsRas
  | 0x3 => regsLnp
  | 0x4 => regsLan
  | 0x5 => regsCam
  | 0x6 => regsMot
  | 0x7 => regsFbk
  | 0x8 => regsMem
  | 0x9 => regsIrq
  | 0xA => regsLed
  | 0xB => regsLnk
  | 0xC => regsEng
  | 0xD => regsMon
  | _ => []

end Sys2Proof.Machine
end

