-- ==== Sys2Proof/Machine/State.lean ====
section
/-! DEFINITION. The state of the Rangar as plain data: the register file, the shared window's memory, and the internal state
of each subsystem; the reasons a command can stop; and the state after reset. -/

namespace Sys2Proof.Machine

open Sys2Proof

/-- The three variants of R1. -/
inductive Variant | rg2 | rg4 | rg8
  deriving DecidableEq, Repr

/-- Why the machine stops. -/
inductive Fault
  /-- Raised by BAR2_WRITE and BAR2_READ at an address past the 64 GiB of the shared window (R2): no such address exists. Safe. -/
  | outsideWindow
  deriving DecidableEq, Repr

/-- Why a command has no outcome. -/
inductive Refusal
  /-- A command without a meaning yet, by the name the table of commands gives it. Safe. -/
  | notModelled (mnemonic : String)
  /-- Answered by every command whose operands name a die, lane, ring, bar or other resource that the variant does not fit
  (R3, R11): no such command can reach the Rangar. Safe. -/
  | notFitted
  deriving DecidableEq, Repr

/-- An event on its way to the recorder (R569, R574): the source die, the code, payload words 0-5 and the die's time base at
the raise. -/
structure Raised where
  die : Nat
  code : Nat
  payload : List Nat
  ntime : Nat
  deriving DecidableEq, Repr

/-- A record of the recorder before its CRC and MARK are added (R569). -/
structure Rec where
  code : Nat
  sev : Nat
  die : Nat
  opsec : Nat
  frac : Nat
  pcc : Nat
  ntime : Nat
  repeats : Nat
  payload : List Nat
  deriving DecidableEq, Repr

/-- An open one-second window (R645): what is counted, the payload of its first occurrence and the occurrences so far. -/
structure Window where
  code : Nat
  key : Nat
  die : Nat
  first : List Nat
  count : Nat
  /-- the record's payload ends with the number of occurrences -/
  counted : Bool
  /-- the interrupt source that the event causes -/
  src : Option Nat
  /-- SENSE time at which the window opened -/
  openedAt : Nat
  deriving DecidableEq, Repr

/-- The recorder on D0 (R575 to R578, R581). -/
structure Recorder where
  /-- events raised and not yet arrived at the recorder, oldest first -/
  raised : List Raised
  opened : Option Rec
  /-- SENSE time at which the open record opened -/
  openedAt : Nat
  fifo : List Rec
  held : List Rec
  /-- events lost, records lost and the code of the first record lost, until EVENTS_LOST takes an entry (R577) -/
  lost : Option (Nat × Nat × Nat)
  windows : List Window
  /-- episodes in progress: event code and item (R362, R476, R484) -/
  episodes : List (Nat × Nat)
  /-- SENSE time of the last whole operating second (R573) -/
  secondAt : Nat
  /-- the sector of the record ring whose erase is running (R580) -/
  erasing : Option Nat
  /-- the lifetime counters and histograms being written (R586) -/
  savingLife : Option (Tab Nat × Tab Nat)
  /-- the fire counts copied at one instant and being written (R588) -/
  savingFires : Option (Tab Nat)
  /-- lifetime counters, by die * 64 + n (R584) -/
  life : Tab Nat
  /-- histogram bins, by 32 * histogram + bin (R585) -/
  hist : Tab Nat
  /-- fire counts, by nozzle address (R587) -/
  fires : Tab Nat
  /-- operating seconds since the last fire-count copy (EVT_PERSIST.AGE) -/
  ageSec : Nat
  /-- operating seconds since the last hourly write of the lifetime area, and of the fire counts (R586, R588) -/
  lifeSec : Nat
  fireSec : Nat
  deriving DecidableEq, Repr

/-- A valid copy of an area of event flash: its sequence number SEQ and its data (R137). -/
structure Copy (α : Type) where
  seq : Nat
  val : α
  deriving DecidableEq, Repr

/-- An area that event flash holds in two copies (R137): a copy that fails its CRC-32, or is erased, is none. -/
structure Area (α : Type) where
  a : Option (Copy α)
  b : Option (Copy α)
  /-- a copy has been written: the two are not both wholly erased -/
  written : Bool
  deriving DecidableEq, Repr

/-- The event flash (R137, R579): contents that a reset leaves as they are. -/
structure Flash where
  /-- the flash is fitted and readable -/
  ok : Bool
  /-- power-cycle count (R125) -/
  cycles : Area Nat
  /-- slots of the record ring that are not empty: words 0-14 (R580) -/
  slots : Tab (List Nat)
  /-- records written at PWR_WARN (R582) -/
  powerDown : List Rec
  /-- lifetime counters and histograms (R586), and fire counts (R588) -/
  life : Area (Tab Nat × Tab Nat)
  fires : Area (Tab Nat)
  /-- stored marks of the K-slots (R188, R190) -/
  marks : Area (Tab Nat)
  /-- structure slots A and B: the descriptor's seven words and the image's, or none while erased (R109, R137) -/
  slotA : Option (List Nat)
  slotB : Option (List Nat)
  /-- boot block copies A and B: words 0-13 of a copy whose magic and CRC hold (R135) -/
  bootA : Option (List Nat)
  bootB : Option (List Nat)
  /-- stored training results, by 4 * die + set-point (R460) -/
  training : Tab Nat
  /-- drive voltage limits by head: lowest and highest (R336) -/
  limits : Area (Tab (Nat × Nat))
  /-- Twinflower configuration words (R534) -/
  pairCfg : Area (List Nat)
  deriving DecidableEq, Repr

/-- What waits to be posted, in order (R166, R179, R181): a record for a device-to-host ring, with its KIND and body words from
word 1; or the release of a buffer, with the bytes written into it and the TAG of its last use. -/
inductive Posting
  | post (ring kind : Nat) (body : List Nat)
  | release (idx bytes tag : Nat)
  deriving DecidableEq, Repr

/-- The states of a buffer (R160). -/
inductive BufState | undef | host | device | reclaiming
  deriving DecidableEq, Repr

/-- An entry of the buffer table (R159, R160): base and length in units of 64 KiB, state, generation; whether a GIVE has taken
effect at the home die (R162); and how many uses in progress hold the buffer (R164). -/
structure Buf where
  base : Nat
  len : Nat
  st : BufState
  gen : Nat
  atHome : Bool
  uses : Nat
  deriving DecidableEq, Repr

/-- An entry read from a host-to-device ring and not yet answered (R175, R176). -/
structure Entry where
  ring : Nat
  /-- its number among the entries read from the ring -/
  seq : Nat
  words : List Nat
  /-- its command has begun and will answer it -/
  begun : Bool
  deriving DecidableEq, Repr

/-- What stands in the reserve of a device-to-host ring (R179): a record by KIND and body, or the number of entries that were dropped at
that place, for one LOST record. -/
inductive Reserved
  | record (kind : Nat) (body : List Nat)
  | lost (n : Nat)
  deriving DecidableEq, Repr

/-- What a ring keeps beside its registers (R174 to R179). -/
structure Ring where
  /-- entries posted since the start, or read in all -/
  total : Nat
  /-- reserve of a device-to-host ring, in the order of posting -/
  reserve : List Reserved
  deriving DecidableEq, Repr

/-- The window and the rings (chapter 05). -/
structure Win where
  bufs : Tab Buf
  rings : Tab Ring
  /-- entries in hand, oldest first -/
  entries : List Entry
  /-- records and releases that wait to be posted, oldest first -/
  postings : List Posting
  /-- a RECLAIM has asked for a release scan (R164) -/
  scan : Bool
  deriving DecidableEq, Repr

/-- A command whose envelope has been accepted and that AUTH has yet to act on (R187, R188): opcode, K-slot, counter, payload,
and the first eight bytes of the request when it came over Ethernet. -/
structure AuthCmd where
  opcode : Nat
  slot : Nat
  counter : Nat
  payload : List Nat
  eth : Option (List Nat)
  deriving DecidableEq, Repr

/-- Command authentication (R182 to R197). -/
structure Auth where
  /-- the 32-bit slots of AUTH_ENV -/
  env : Tab Nat
  /-- current keys by K-slot, 32 bytes each (R194) -/
  keys : Tab (List Nat)
  /-- commands accepted and not yet acted on, oldest first -/
  acts : List AuthCmd
  /-- a command that waits for its mark to be written (R188) -/
  marking : Option AuthCmd
  /-- a key being burned, its target slot and the rotation's command (R195) -/
  burning : Option (Nat × List Nat × AuthCmd)
  /-- SENSE times of tag failures of the last second, and the time at which the lock began (R189) -/
  tagFails : List Nat
  lockedAt : Nat
  deriving DecidableEq, Repr

/-- A reply sent over Ethernet (R198, R199): to ARP, to an echo request with its data, or of the management service, as bytes. -/
inductive EthReply
  | arp (mac ip : Nat)
  | echo (mac ip : Nat) (data : List Nat)
  | mgmt (bytes : List Nat)
  deriving DecidableEq, Repr

/-- A frame sent (R33): its VLAN tag, with PCP in bits 15:13 and VID in bits 11:0, and what it carries. -/
structure EthFrame where
  tag : Option Nat
  reply : EthReply
  deriving DecidableEq, Repr

/-- A plane entry of a context block (R205). -/
structure Plane where
  code : Nat
  ring : Nat
  maskSet : Nat
  deriving DecidableEq, Repr

/-- A context block as the context holds it (R204). -/
structure CtxBlock where
  jobId : Nat
  pageLines : Nat
  gap : Nat
  bars : Nat
  hold : Bool
  reject : Bool
  speedLimit : Nat
  check : Nat
  pages : Nat
  planes : List Plane
  /-- 64 rows of 64 bits for each of 16 tiles -/
  tiles : List Nat
  crc : Nat
  deriving DecidableEq, Repr

/-- The states of a context (R211). -/
inductive CtxState | free | loading | ready | armed | running | ending
  deriving DecidableEq, Repr

/-- A job context (R203, R211, R215). -/
structure Ctx where
  st : CtxState
  buf : Nat
  gen : Nat
  block : Option CtxBlock
  /-- the CTX_LOAD entry to be answered: ring and number -/
  entry : Nat × Nat
  start : Nat
  commit : Nat
  /-- final end line -/
  final : Option Nat
  /-- pending end lines with the commits that set them -/
  ends : List (Nat × Nat)
  /-- bytes of the page slots of each bar, as allocated (R221) -/
  alloc : List (Nat × Nat)
  deriving DecidableEq, Repr

/-- How a page descriptor's data stand (R222 to R226, R240 to R242). -/
inductive DescState | queued | filling | complete | aborted (code : Nat) | packet | reclaimed
  deriving DecidableEq, Repr

/-- A page descriptor in use (R220). -/
structure PDesc where
  ring : Nat
  seq : Nat
  page : Nat
  repeats : Nat
  blank : Bool
  hold : Bool
  buf : Nat
  gen : Nat
  offset : Nat
  tag : Nat
  st : DescState
  slot : Option Nat
  /-- lines replaced under the underrun policy -/
  replaced : Nat
  deriving DecidableEq, Repr

/-- A page slot (R221): its bytes, how many lines count as produced, and the bytes of a line, in effect when its stream began (R83). -/
structure PageSlot where
  data : List Nat
  produced : Nat
  lineBytes : Nat
  deriving DecidableEq, Repr

/-- The page stream of a bar under a context (R219 to R226). -/
structure Stream where
  expected : Nat
  /-- the first page of which no line has been begun -/
  unbegun : Nat
  descs : List PDesc
  slots : Tab PageSlot
  held : Option Nat
  /-- first replaced line by page (R226) -/
  under : Tab Nat
  /-- first replaced lines that the active unit has sent (R230) -/
  partnerUnder : Tab Nat
  deriving DecidableEq, Repr

/-- Contexts and page streams (chapter 06). -/
structure Jobs where
  ctxs : Tab Ctx
  /-- page streams, by 16 x context + bar -/
  streams : Tab Stream
  /-- by pacer: one more than the substrate line its bar has triggered last -/
  fired : Tab Nat
  deriving DecidableEq, Repr

/-- What DEFLATE decoding of a stream comes to (R235, R236): the output, the error code or 0, and the bytes consumed. -/
structure Inflated where
  out : List Nat
  err : Nat
  used : Nat
  deriving DecidableEq, Repr

/-- The states of a decompressor unit (R243); an abort returns it to IDLE at once. -/
inductive UnitState | idle | header | run | suspended | check
  deriving DecidableEq, Repr

/-- A decompressor unit (R237 to R243). -/
structure DUnit where
  st : UnitState
  /-- a WORK stream, not a page stream -/
  work : Bool
  /-- page stream: 16 x context + bar, and the descriptor's number in its ring -/
  stream : Nat
  ring : Nat
  seq : Nat
  tag : Nat
  inBuf : Nat
  outBuf : Nat
  outAddr : Nat
  outSize : Nat
  inLen : Nat
  crc : Nat
  lineBytes : Nat
  slot : Nat
  result : Inflated
  /-- output bytes decoded, and of these the bytes in SDRAM -/
  decoded : Nat
  written : Nat
  deriving DecidableEq, Repr

/-- Who asked for a compression (R251, R252). -/
inductive CompOwner | work (ring seq : Nat) | dump | archive (cam : Nat) | calState
  deriving DecidableEq, Repr

/-- A compression that waits or runs (R247 to R252): its input bytes, its chain of output buffers with their first byte, and its
level. -/
structure CJob where
  owner : CompOwner
  tag : Nat
  level : Nat
  input : List Nat
  inBuf : Option Nat
  chain : List (Nat × Nat)
  /-- the input range lies outside its buffer (R244) -/
  bad : Bool
  deriving DecidableEq, Repr

/-- A compressor unit (R246 to R250). -/
structure CUnit where
  job : Option CJob
  level : Nat
  stalled : Bool
  /-- what it writes in all: 64 zero bytes and the stream -/
  out : List Nat
  /-- bit positions in `out` at which the elements of the stream end (R248) -/
  ends : List Nat
  /-- STALL_TO as it stood at the start, in ms (R254) -/
  stallMs : Nat
  /-- SENSE time at which the stall began -/
  stalledAt : Nat
  deriving DecidableEq, Repr

/-- The ZIP blocks (chapter 07). -/
structure Zip where
  /-- decompressor units, by 8 x die + unit -/
  dunits : Tab DUnit
  /-- WORK expansions that wait for a unit, by die, in ring order -/
  dwait : List (Nat × DUnit)
  /-- compressor units, by 2 x die + unit -/
  cunits : Tab CUnit
  /-- compressions that wait, by die -/
  cwait : List (Nat × CJob)
  deriving DecidableEq, Repr

/-- The Ethernet port (R198, R199). -/
structure Eth where
  /-- frames sent, newest first -/
  sent : List EthFrame
  /-- the operating second in which requests are counted, and the requests answered in it -/
  second : Nat
  answered : Nat
  deriving DecidableEq, Repr

/-- One MSI-X message: its vector, and the address and data of the vector's table entry as it was sent (R152, R479). -/
structure MsixMsg where
  vec : Nat
  addr : Nat
  msgData : Nat
  deriving DecidableEq, Repr

/-- What of the PCIe configuration space the spec names: MSI-X enable and function mask, the max payload size, ECRC generation and
checking, the device power state (R151, R154). -/
structure PcieConfig where
  msixEnable : Bool
  funcMask : Bool
  maxPayload : Nat
  ecrcGen : Bool
  ecrcCheck : Bool
  d3hot : Bool
  deriving DecidableEq, Repr

/-- The configuration space after a reset of it (R154; the values are the PCI Express family's, PRESUMED, log 137). -/
def PcieConfig.reset : PcieConfig :=
  { msixEnable := false, funcMask := false, maxPayload := 128, ecrcGen := false, ecrcCheck := false, d3hot := false }

/-- A message to the host over MSI-X or the outcome the host sees of a read. -/
structure HostPort where
  /-- what the last read completion returned -/
  readData : List Nat
  /-- the last BAR2 read completion was poisoned (R163) -/
  poisoned : Bool
  /-- higher words latched by the read of a pair's low word (R7): address and value -/
  pairLatch : List (Nat × Nat)
  /-- lower words of a writable pair held until its highest word is written (R8): address and value -/
  pairHeld : List (Nat × Nat)
  /-- the last PCIe request was answered Unsupported Request (R156) -/
  unsupported : Bool
  /-- payload bytes of the completions of the last BAR2 read (R151) -/
  completions : List Nat
  /-- MSI-X messages sent, newest first -/
  msixSent : List MsixMsg
  /-- words written to the MSI-X table by word number; any other word holds its reset value (R152) -/
  msixTable : List (Nat × Nat)
  /-- pending bit array: vectors whose message waits (R152, R479) -/
  msixPending : List Nat
  /-- the PCIe configuration space -/
  pcie : PcieConfig
  deriving DecidableEq, Repr

/-- An entry of a claim stack (R478): a source and the priority with which it was claimed. -/
structure Claimed where
  src : Nat
  prio : Nat
  deriving DecidableEq, Repr

/-- The interrupt controllers and IRQH (R473 to R485). -/
structure Irq where
  /-- causes in flight to the coalescing counters, by source, oldest first -/
  causes : List Nat
  /-- events counted and not yet raised, by source (R474) -/
  counted : Tab Nat
  /-- SENSE time of the first of them, by source -/
  firstAt : Tab Nat
  /-- raises sent and not yet arrived, oldest first -/
  raises : List Nat
  /-- pending sources -/
  pending : List Nat
  /-- the target a pending source is assigned to: 0-15 host targets, 16-27 engines of the source's die (R476) -/
  assigned : Tab Nat
  /-- the target used at a source's previous raise -/
  lastTarget : Tab Nat
  /-- claim stack of each host target, top first -/
  claims : Tab (List Claimed)
  /-- host targets with a message outstanding (R479) -/
  outstanding : List Nat
  deriving DecidableEq, Repr

/-- An engine that the firmware and the watchdog act on (R470 to R472). -/
structure Engines where
  /-- SENSE times of the faults of the last 60 s, by 12 * die + engine -/
  faultTimes : Tab (List Nat)
  /-- by die: the engine that the hot spare replaces -/
  sparedBy : Tab Nat
  /-- SENSE time from which an engine has run its code, by 12 * die + engine -/
  runsFrom : Tab Nat
  deriving DecidableEq, Repr

/-- Where a commit comes from (R52, R113, R212, R215, R420, R523). -/
inductive Origin
  | host
  | overlay
  | arm (ctx : Nat)
  | stop (ctx : Nat)
  | cal
  | imported
  | partner
  deriving DecidableEq, Repr

/-- A field staged in the staging buffer of a die (R51): the number it is listed under and the value. -/
structure Staged where
  die : Nat
  key : Nat
  val : Nat
  deriving DecidableEq, Repr

/-- A commit that has been captured and is not complete (R54 to R67). A part of it is applied by one consumer at one moment: the
consumer, and whether the part holds print fields. -/
structure Commit where
  id : Nat
  /-- the ID captured before it, or 0 -/
  prev : Nat
  safe : Bool
  snap : Bool
  origin : Origin
  fields : List (Nat × Nat)
  requested : Nat
  /-- the apply line in effect, or the package line at capture -/
  line : Nat
  /-- it carries an apply line (R48, R56) -/
  hasLine : Bool
  advanced : Bool
  parts : List (Consumer × Bool)
  remaining : List (Consumer × Bool)
  /-- the package line when the last consumer applied (R65) -/
  lastLine : Nat
  cancelled : Bool
  /-- a consumer has begun to apply a part of it -/
  begun : Bool
  /-- CRC of its COMMIT message (R512) -/
  crc : Nat
  deriving DecidableEq, Repr

/-- A word of an image section with its place in the image being loaded: section index and word offset; offset 0 when the
image being loaded does not carry it (R117). -/
structure Ent where
  w : Nat
  sec : Nat
  off : Nat
  deriving DecidableEq, Repr

/-- A run of words of an image section with its place. -/
structure Ents where
  ws : List Nat
  sec : Nat
  off : Nat
  deriving DecidableEq, Repr

/-- The structure that an image gives the Rangar (R88 to R105, R646). -/
structure Image where
  id : Nat
  dclass : Nat
  fwClass : Nat
  tool : Nat
  board : List Nat
  /-- lane entries, by 72 * die + local lane (R96) -/
  lanes : Tab Ent
  /-- head entries, three words each (R98) -/
  heads : Tab Ents
  /-- slot words by 256 * die + head class, as the die's bank holds them (R99, R110) -/
  geoms : Tab Ents
  /-- words 1-10 by 256 * die + head class (R100) -/
  classes : Tab Ents
  /-- bar and camera records, two words each (R101) -/
  bars : List Ents
  /-- lane settings, by 80 * die + lane word (R102) -/
  eq : Tab Ent
  /-- routes, by die (R104) -/
  routes : List (Nat × List Nat)
  rings : List Nat
  /-- sources set: number, word 1, word 2 (R475) -/
  irqmap : List (List Nat)
  /-- policy values, by 4096 * die + 256 * table + entry (R103) -/
  policy : Tab Nat
  /-- firmware sections in image order: die mask, class, engine mask, words of code -/
  fware : List (List Nat)
  /-- pairs of a BAR0 offset and a value (R104) -/
  defaults : List (Nat × Nat)
  deriving DecidableEq, Repr

/-- A snapshot that is armed: its line, whether it goes by time, and what the dies have latched so far (R70 to R73). -/
structure Armed where
  line : Nat
  timed : Bool
  latched : List Nat
  values : Tab Nat
  /-- by die: the structure, the pending overlay's, and the consumers that have switched to it (R282) -/
  images : Tab (Image × Image × List Consumer)
  applied : Tab Nat
  time : Nat
  deriving DecidableEq, Repr

/-- An encoder round (R74 to R79): the latched WEB counts, and the dies whose reports have reached D0. -/
structure EncRound where
  latched : Tab Int
  reported : List Nat
  deriving DecidableEq, Repr

/-- Staging, commits, snapshots and encoder rounds (chapter 02). -/
structure Epoch where
  stage : List Staged
  commits : List Commit
  /-- the highest ID captured last, 0 before the first -/
  lastId : Nat
  armed : Option Armed
  round : Option EncRound
  /-- rounds missed in a row, by die (R79) -/
  misses : Tab Nat
  /-- D0's WEB count has crossed a multiple of 4,096 since a round was opened last (R74) -/
  crossed : Bool
  deriving DecidableEq, Repr

/-- The parameters of a load (R107). -/
structure LoadCmd where
  src : Nat
  overlay : Bool
  store : Nat
  noApply : Bool
  buf : Nat
  gen : Nat
  apply : Nat
  /-- an automatic load of boot, not a commanded one (R108) -/
  auto : Bool
  deriving DecidableEq, Repr

/-- The loader and the banks (R95, R110 to R118). -/
structure Loader where
  cmd : LoadCmd
  /-- words received, newest first -/
  words : List Nat
  /-- words written to STRUCT_FIFO and not yet received -/
  inbox : List Nat
  /-- SENSE time of the last word or of the load's start (R116) -/
  lastAt : Nat
  /-- index of the current section and the offset of its first word -/
  sec : Nat
  secAt : Nat
  /-- types and die masks of the sections received, in order -/
  seen : List (Nat × Nat)
  /-- words received for each die's bank (R95) -/
  share : Tab Nat
  /-- the structure being received, in the inactive banks -/
  incoming : Image
  /-- the structure in the active banks -/
  current : Image
  /-- the structure of the pending overlay -/
  overlay : Image
  /-- consumers that have switched to the pending overlay's structure (R114) -/
  switched : List Consumer
  deriving DecidableEq, Repr

/-- A record of a delay line (R275): the substrate line; whether it is flagged NOFIRE; the slot values that are not 0, by
local lane x 2048 + slot; the row delays in effect for the line, by 2 x head + row (R276); CODE of its slots; and the die line
at which it was written (R277). -/
structure LineRec where
  line : Nat
  nofire : Bool
  vals : Tab Nat
  delays : Tab Nat
  code : Nat
  writtenAt : Nat
  /-- it has been counted in RAS_LATE -/
  late : Bool
  deriving DecidableEq, Repr

/-- The raster pipeline of a line pacer (chapter 08). -/
structure Raster where
  /-- the next substrate line to begin; it may lie before line 0 -/
  next : Int
  /-- delay line, newest first -/
  recs : List LineRec
  /-- context and page that the lost drops are counted in, and their number (R283) -/
  page : Option (Nat × Nat)
  lost : Nat
  /-- the highest substrate line judged for lateness, and whether it was late (R277) -/
  judged : Option Nat
  wasLate : Bool
  /-- lines that a row has read before their records were written (R277) -/
  missing : List Nat
  deriving DecidableEq, Repr

/-- A feedback input (R285 to R297). `count` does not wrap; it is reported modulo 2^40. -/
structure Input where
  a : Bool
  b : Bool
  z : Bool
  count : Int
  /-- SENSE times of the last accepted counts, newest first (R294) -/
  hist : List Nat
  still : Bool
  back : Bool
  hold : Bool
  /-- SPEED that HOLD keeps, in 1/256 count/s -/
  kept : Int
  /-- direction of the last valid transition; none since a start or standstill (R293) -/
  valid : Option Bool
  /-- SENSE time of the last accepted edge (R294) -/
  edgeAt : Nat
  /-- the start of the input has found a single-ended line (R620) -/
  single : Bool
  /-- the position that a stop has frozen, in 1/256 count (R304) -/
  frozen : Option Int
  /-- FILT before its last change, and the SENSE time of that change (R289) -/
  filt : Nat × Nat
  deriving DecidableEq, Repr

/-- An encoder-emulation output (R298 to R301). -/
structure Emu where
  acc : Nat
  backlog : Int
  /-- position of the output in counts, the counts it has emitted, and the SENSE time of the last edge -/
  pos : Int
  emitted : Nat
  lastAt : Nat
  a : Bool
  b : Bool
  z : Bool
  /-- FIRE clocks at which the pulse of step/direction mode begins and ends (R299) -/
  pulse : Nat × Nat
  /-- SENSE time since which the backlog is 0 (R300) -/
  zeroAt : Nat
  deriving DecidableEq, Repr

/-- How a pacer stands after a loss of the web signal (R330): no loss; LOS set; LOS clear and no agreement round completed since;
a round completed and a page boundary awaited. -/
inductive WebLoss | none | lost | cleared | agreed
  deriving DecidableEq, Repr

/-- What the pacers of a die share (R307 to R311). -/
structure Web where
  /-- C0: the count at which the line number was zeroed -/
  zero : Int
  hwm : Int
  /-- the last change of the count took it above the mark: the count is not at or below a mark reached before (R309) -/
  ahead : Bool
  /-- FIRE clocks of the last 17 forward edges, newest first -/
  stamps : List Nat
  reverse : Bool
  /-- greatest backward excursion in counts -/
  excursion : Nat
  deriving DecidableEq, Repr

/-- The result of a band step for a die line (R325). -/
inductive BandStep | fire | omit | nofire
  deriving DecidableEq, Repr

/-- A line pacer (chapter 10). -/
structure Pacer where
  acc : Nat
  gap : Nat
  /-- the die line whose band step came last, and its result -/
  stepLine : Nat
  step : BandStep
  /-- lines omitted and sent as NOFIRE in the excursion (R326) -/
  omitted : Nat
  nofired : Nat
  /-- ADV is above its limit, as judged last (R316) -/
  advOver : Bool
  /-- the rate is above the job's SPEED_LIMIT (R228) -/
  jobSpeed : Bool
  loss : WebLoss
  /-- the die line from which a large correction fires NOFIRE up to the next page boundary (R78) -/
  diverged : Option Nat
  /-- spans asked for last: source code, first and last line (R329) -/
  asked : List (Nat × Nat × Nat)
  /-- one more than the die line whose strobes fired last -/
  firedTo : Nat
  deriving DecidableEq, Repr

/-- A strobe that is pending (R315): its die line; its target in 2^-24 counts; the ADV and the width in effect for that line (R339); the
FIRE clock of the last placement; the FIRE clock at which its frame is complete; and the drops of its frame by nozzle address (R12), which
are fired when it fires. -/
structure Strobe where
  line : Nat
  target : Int
  adv : Nat
  pw : Nat
  placed : Option Nat
  ready : Nat
  drops : List (Nat × Nat)
  deriving DecidableEq, Repr

/-- A lane group, its pacer side (R312 to R334) and its link (R352 to R366). -/
structure Group where
  /-- the die line of the next trigger -/
  next : Nat
  pend : Option Strobe
  /-- the placement of the line before the next trigger's, when that line has no strobe (R320) -/
  ghost : Option Strobe
  /-- its last strobes were late (R321) -/
  lateRun : Bool
  /-- frames sent last, by lane, and whether the set was NOFIRE -/
  sent : List (Nat × LineFrame)
  sentNofire : Bool
  /-- FIRE clock of the last strobe's leading edge -/
  last : Option Nat
  /-- width of that strobe in FIRE clocks, and whether it was a strobe of tickle or Speedwell printing, which the watchdog guards by its own
  width (R143, R331) -/
  width : Nat
  own : Bool
  /-- FIRE clock at which the group's tickle burst ends -/
  burstTo : Nat
  /-- the last ACTIVE set sent: SENSE time, epoch and HOLD (R352) -/
  active : Option (Nat × Nat × Bool)
  /-- drops by slot value 1-15, and tickle strobes, since the last COUNT record (R546) -/
  tally : List Nat
  tickled : Nat
  serial : Nat
  /-- minimum period (R324) and maximum pulse that the head reports -/
  period : Nat
  pulseMax : Nat
  /-- an identity READ is out, how many have been sent for it, and the SENSE time of the last -/
  reading : Bool
  tries : Nat
  askedAt : Nat
  /-- SENSE times at which LINK changed last, at which the last valid STATUS came, and from which a link that is OFF may start (R355) -/
  since : Nat
  heard : Nat
  retryAt : Nat
  /-- FIRE clocks at which the last frame set began and ended (R352) -/
  frame : Option (Nat × Nat)
  /-- LCRC of the last STATUS by physical lane -/
  lcrc : List Nat
  /-- frame errors of the last 10 s: SENSE time, physical lane, increase (R362) -/
  errs : List (Nat × Nat × Nat)
  /-- SENSE time since which STATUS reports another epoch, and whether 0x0907 is recorded (R360) -/
  mismatch : Option (Nat × Bool)
  deriving DecidableEq, Repr

/-- A host read of adapter memory in progress (R366). -/
structure MemRead where
  group : Nat
  addr : Nat
  count : Nat
  tries : Nat
  /-- SENSE time of the last try -/
  sentAt : Nat
  deriving DecidableEq, Repr

/-- States of an adapter (R358). -/
inductive AdapterState | training | up | fault
  deriving DecidableEq, Repr

/-- One input of an adapter (R360): the epoch of the last ACTIVE with HOLD 1, its SENSE time while the input is eligible, and the
failed frames by physical lane. -/
structure AdapterInput where
  epoch : Nat
  heard : Option Nat
  lcrc : List Nat
  deriving DecidableEq, Repr

/-- A head adapter, the far end of a lane group (R353 to R360). -/
structure Adapter where
  st : AdapterState
  /-- HEAD_PRESENT and the faults, as bits 0 to 3 of STATUS character 1 -/
  flags : Nat
  inA : AdapterInput
  inB : AdapterInput
  /-- the input followed, B when true; the input a change waits for -/
  follow : Option Bool
  change : Option Bool
  /-- frames held, with the input and the physical lane each came from -/
  held : List (Bool × Nat × LineFrame)
  /-- the frames of the last strobe, as fired -/
  fired : List LineFrame
  /-- LINE of the last frame fired -/
  lastLine : Nat
  aligned : Nat
  mem : Tab Nat
  /-- memory data returned last -/
  answered : List Nat
  deriving DecidableEq, Repr

/-- A span of the reject output in package lines, and whether its start has been reached (R328). -/
structure Span where
  first : Nat
  last : Nat
  started : Bool
  deriving DecidableEq, Repr

/-- From the encoder to the heads (chapters 08 to 11). -/
structure Press where
  /-- raster pipelines and pacers, by 2 x die + pacer -/
  rasters : Tab Raster
  pacers : Tab Pacer
  /-- feedback inputs, by 5 x die + input -/
  inputs : Tab Input
  /-- emulation outputs, by 2 x die + output -/
  emus : Tab Emu
  webs : Tab Web
  /-- lane groups and adapters, by 8 x die + group -/
  groups : Tab Group
  adapters : Tab Adapter
  /-- host reads of adapter memory, by die -/
  reads : Tab MemRead
  /-- reject spans, oldest first -/
  spans : List Span
  /-- dies whose FIRE clock is lost (R24) -/
  fireLost : List Nat
  /-- units of the tickle stores, by 32,768 x die + unit, and of the page stores, by 2^22 x die + unit (R138, R140) -/
  tickleStore : Tab Nat
  pageStore : Tab Nat
  deriving DecidableEq, Repr

/-- A motion axis (chapter 14). Positions and speeds count 2^-32 fine steps and 2^-32 fine steps a tick (R429). -/
structure Axis where
  /-- the mode in force -/
  mode : Nat
  /-- the generator: position, signed speed, braking beyond the target, ticks of dwell left, and whether the last tick braked toward
  the target -/
  p : Int
  v : Int
  rev : Bool
  dwell : Nat
  braked : Bool
  /-- DEC as taken last, and the deceleration that stays in force until the axis stops (R434), or 0 -/
  dec : Nat
  keptDec : Nat
  /-- TGT and VEL in force, and whether committed ones are held for a trigger (R448) -/
  tgt : Int
  vel : Int
  held : Bool
  /-- ticks averaged, and the positions of the last ticks, newest first (R436) -/
  nj : Nat
  past : List Int
  /-- the commanded position, and that of the tick before -/
  out : Int
  outWas : Int
  /-- the emitted position in fine steps, the resolution code, DIR backward, and the SENSE times of the tick's pulses -/
  e : Int
  k : Nat
  back : Bool
  pulses : List Nat
  /-- SENSE time of the last pulse -/
  lastPulse : Nat
  /-- SETPOS_HI and GAT_HI have been committed since the last tick -/
  setpos : Bool
  gat : Bool
  /-- an armed ratio change: master position, numerator, denominator; and the ratio in force (R443) -/
  armed : Option (Int × Int × Nat)
  ratio : Int × Nat
  /-- anchors of the gear (R442) -/
  pa : Int
  wa : Int
  /-- follow target, remainder, and the segment in progress (R440) -/
  tb : Int
  acc : Int
  segA : Int
  segB : Int
  segLen : Nat
  segK : Nat
  /-- lag, and ticks in a row beyond FLIM (R441) -/
  lag : Int
  lagTicks : Nat
  /-- anchors of the deviation, the deviation, and ticks in a row beyond DEVWIN (R444) -/
  e0 : Int
  c0 : Int
  dev : Int
  devTicks : Nat
  /-- the tick of R430 that has come last, the time base over 10 us, and the SENSE time of the last one taken -/
  tick : Nat
  tickAt : Nat
  /-- SENSE time before which no pulse follows a change of the MS lines (R439) -/
  msReady : Nat
  /-- the pins: DIR, the MS lines, and the width of STEP pulses in SENSE clocks -/
  dirPin : Bool
  msPins : Nat
  stepWidth : Nat
  deriving DecidableEq, Repr

/-- The SDRAM controllers (chapter 15). -/
structure Sdram where
  /-- rows last opened, by 128 x die + bank: the row and the SENSE time of its last access (R455) -/
  rows : Tab (Nat × Nat)
  /-- refreshes postponed, by 16 x die + 4 x rank + bank -/
  postponed : Tab Nat
  /-- set-point asked for and SENSE time of the request, by die (R461, R462) -/
  want : Tab (Nat × Nat)
  /-- dies that have switched the set-point during training (R461) -/
  switched : List Nat
  /-- SENSE time since which every rank is 10 degrees below TLIM, by die (R457) -/
  coolAt : Tab Nat
  /-- copies that run, by die: the rank and its spare (R465) -/
  copies : Tab (Nat × Nat)
  /-- ranks whose first uncorrectable read has been acted on, by 4 x die + rank -/
  failed : List Nat
  deriving DecidableEq, Repr

/-- A step of the time base that has been decided (R498): the difference in units of 2^-32 ns, its cause (1 PTP, 2 TIME_SET), and the
SENSE time at which it is made. -/
structure TimeStep where
  diff : Int
  why : Nat
  due : Nat
  deriving DecidableEq, Repr

/-- Time discipline and triggers (chapter 17). -/
structure Clock where
  /-- TIME_ADJ as written last -/
  adj : Int
  /-- Syncs in a row within 2 microseconds, and not -/
  good : Nat
  bad : Nat
  /-- RATE of the last servo updates, newest first -/
  updates : List Int
  /-- the masters heard: the last Announce of each, with its SENSE time -/
  heard : List (PtpAnnounce × Nat)
  /-- the master selected, by its last Announce -/
  master : Option PtpAnnounce
  /-- how far the stamp of the last Sync lies after its origin time, in ns, and the SENSE time of that Sync -/
  behind : Int
  syncAt : Nat
  /-- mean path delay measured last, in ns -/
  delay : Int
  /-- SENSE time of the last synchronisation of a die's copy, by die (R492) -/
  synced : Tab Nat
  steps : List TimeStep
  /-- time base in ns up to which a trigger's instants have been judged -/
  judged : Tab Nat
  /-- dies asked for an extra MON conversion, one bit each (R504) -/
  convert : Nat
  deriving DecidableEq, Repr

/-- What a tap record carries (R547). -/
inductive TapBody
  | count (pacer group rank : Nat) (n : List Nat) (tickle : Nat)
  | snap (time : Nat)
  | time (t : Nat)
  | idle
  deriving DecidableEq, Repr

/-- A tap record with its SEQ (R547). -/
structure TapRec where
  seq : Nat
  body : TapBody
  deriving DecidableEq, Repr

/-- A channel of the meter (R550): the two words of NAME, CELL_AREA, DENSITY, SOURCES and MFACT. -/
structure MtrChan where
  enable : Bool
  name1 : Nat
  name2 : Nat
  cell : Nat
  density : Nat
  sources : Nat
  mfact : Nat
  deriving DecidableEq, Repr

/-- A mass entry of the meter (R550). -/
structure MtrMass where
  rank : Nat
  valid : Bool
  mass : List Nat
  deriving DecidableEq, Repr

/-- The metrology parameters (R550). -/
structure MtrParams where
  lscale : Nat
  gap : Nat
  indX : Nat
  indY : Nat
  inv : Nat
  offs : Tab Nat
  chans : Tab MtrChan
  masses : Tab MtrMass
  deriving DecidableEq, Repr

/-- The totals of the meter (R542, R543): lengths in 2^-16 nm; by channel drops, area in 0.001 square micrometres, mass in 2^-16 x
0.01 ng, and unrated drops; and unmapped drops. -/
structure MtrTotals where
  len : Nat
  web : Nat
  drops : Tab Nat
  area : Tab Nat
  mass : Tab Nat
  unrated : Tab Nat
  unmapped : Nat
  deriving DecidableEq, Repr

/-- An open LEN_CAL window (R551): the command, its distance and nominal scale, the SENSE time at which it opened, and the count at
the first mark. -/
structure LenWin where
  cmd : AuthCmd
  dist : Nat
  nominal : Nat
  opened : Nat
  first : Option Int
  deriving DecidableEq, Repr

/-- A patch (R557): its id and code, and while it is being received the length announced. -/
structure Patch where
  id : Nat
  len : Nat
  code : List Nat
  deriving DecidableEq, Repr

/-- What the meter keeps of a die's tap (R548). -/
structure MtrTap where
  up : Bool
  seq : Nat
  gaps : Nat
  goodAt : Nat
  deriving DecidableEq, Repr

/-- A copy of the totals in meter flash (R561, R563): its operating seconds, whether it was written as the supply fell, and the totals. -/
structure MtrSaved where
  ops : Nat
  brown : Bool
  totals : MtrTotals
  deriving DecidableEq, Repr

/-- The Camdel meter (chapter 19), which a reset of the rest leaves as it is. -/
structure Meter where
  /-- 0 BOOT, 1 RUN, 2 FAULT -/
  st : Nat
  powered : Bool
  /-- SENSE time at which counting started, and the operating seconds before it -/
  runAt : Nat
  ops : Nat
  /-- accepted levels of MTR_A and MTR_B and the SENSE times of their last changes, the count and the highest count (R541) -/
  a : Bool
  b : Bool
  changedAt : Nat × Nat
  count : Int
  mark : Int
  /-- STARTED and M of R542, M in 2^-16 nm -/
  started : Bool
  m : Int
  params : MtrParams
  totals : MtrTotals
  /-- contents of meter flash (R561): the two copies of the parameters and of the counter mark, and the valid copies of the totals,
  newest first -/
  savedParams : Area MtrParams
  marks : Area Nat
  saved : List (Copy MtrSaved)
  totalsLost : Bool
  /-- SENSE time of the last write of the totals or of the start of counting, and the hours of operating time that have ended (R563,
  R564) -/
  totalsAt : Nat
  hours : Nat
  sealed : Bool
  sealCount : Nat
  /-- audit entries, oldest first; snapshots, newest first; and the sequence number of the newest snapshot -/
  trail : List (List Nat)
  snaps : List (List Nat)
  snapSeq : Nat
  lenWin : Option LenWin
  /-- an open MASS_CAL window: channel and window mass -/
  massWin : Option (Nat × Nat)
  patchIn : Option Patch
  patch : Option Patch
  running : Option Patch
  patchBad : Bool
  /-- last accepted counter, stored mark, nonce, and the 1 s lock (R558) -/
  cnt : Nat
  hwm : Option Nat
  nonce : Nat
  locked : Bool
  lockedAt : Nat
  tagTimes : List Nat
  tagFail : Nat
  qerr : Nat
  indErr : Nat
  /-- an accepted command that the meter has yet to act on -/
  act : Option AuthCmd
  env : Tab Nat
  res : List Nat
  taps : Tab MtrTap
  /-- records on each die's tap, oldest first, the next SEQ, and the SENSE time at which the die last sent its records (R545); SENSE
  time of the last TIME record -/
  wire : Tab (List TapRec)
  seqs : Tab Nat
  sentAt : Tab Nat
  timeAt : Nat
  /-- source, group and rank of the unknown ranks recorded (R543) -/
  unknown : List (Nat × Nat × Nat)
  /-- the latest TIME record and the SENSE time at which it arrived (R549) -/
  net : Nat × Nat
  /-- the indication: ISEQ, CRC by ISEQ of the last four, the content shown and when it was drawn (R565) -/
  iseq : Nat
  crcs : List (Nat × Nat)
  shown : List Nat
  drawnAt : Nat
  /-- mismatching frames in a row, and the flags of R566 -/
  misses : Nat
  indFault : Bool
  indStale : Bool
  /-- SENSE time of the last report, and the ISEQ that the display holds in self-refresh -/
  reportAt : Nat
  psr : Option Nat
  /-- reports from the display on their way: ISEQ and CRC -/
  reports : List (Nat × Nat)
  deriving DecidableEq, Repr

/-- An LED chain (R592 to R603). -/
structure Chain where
  /-- factor of a device as its last valid status set it; not listed, 1,024 -/
  factors : Tab Nat
  /-- bits 15:0 of the last valid status word of a device, and its SENSE time -/
  status : Tab (Nat × Nat)
  /-- devices without a valid status for 1 s -/
  stale : List Nat
  /-- EFF and WPHASE of the last frame, by 4 x device + channel -/
  sent : Tab (Nat × Nat)
  /-- SENSE time at which the chain started, at which its last frame began, and until which none may begin -/
  since : Nat
  sentAt : Nat
  freeAt : Nat
  /-- a frame is out: SENSE time of its last bit -/
  out : Option Nat
  /-- a frame was cut and is sent again in full -/
  again : Bool
  /-- s of R599 -/
  scale : Nat
  /-- devices in an episode of 0x1403 -/
  faulty : List Nat
  /-- the gate is up, and the SENSE times at which it rises and falls for the camera's last trigger (R600) -/
  gate : Bool
  gateAt : Option (Nat × Nat)
  /-- a frame with every level 0 is due (R603, R640) -/
  dark : Bool
  /-- SENSE time at which s was last computed (R599) -/
  scaledAt : Nat
  deriving DecidableEq, Repr

/-- The display (R604 to R613). -/
structure Disp where
  /-- MODE, PSR_EN, LANES_MAX and RATE_MAX as the last start took them -/
  mode : Nat
  psr : Bool
  lanesMax : Nat
  rateMax : Nat
  /-- commit parts that have arrived: ID, whether it holds print fields, SENSE time of arrival, and whether a blank has passed it -/
  arrived : List (Nat × Bool × Nat × Bool)
  /-- buffers replaced by commits and not yet released, each with the commit's ID and whether a frame has ended since -/
  replaced : List (Nat × Nat × Bool)
  /-- buffers that the layers hold, by layer -/
  held : Tab Nat
  /-- frames in a row without a change, and whether something has changed in the present one -/
  still : Nat
  changed : Bool
  /-- ISEQ as last shown -/
  iseq : Nat
  /-- SENSE time at which the present frame began, and whether its active lines have been scanned (R605) -/
  frameAt : Nat
  scanned : Bool
  /-- SENSE time of the last report of a hold, or of its beginning (R612) -/
  heldAt : Nat
  deriving DecidableEq, Repr

/-- Speedwell printing of a die (R139 to R141): the count at the start, the ratchet mark, i of the next line, the die's last line's
FIRE clock, whether it is in an excursion of speed, whether the last count rose above the mark, whether the count has fallen below the mark
by more than the hysteresis and not risen above it since (R309, R311), and the passes of the store completed. -/
structure Spw where
  zero : Int
  hwm : Int
  line : Nat
  lastAt : Option Nat
  fast : Bool
  ahead : Bool
  reverse : Bool
  passes : Nat
  deriving DecidableEq, Repr

/-- Bring-up and power (chapter 04). -/
structure Boot where
  /-- words 0-13 of the boot block in force (R135) -/
  block : List Nat
  /-- reset is asserted, and SENSE time of its last release -/
  inReset : Bool
  releasedAt : Nat
  /-- the die census runs, or is repeated -/
  censusDue : Bool
  /-- Speedwell service has begun -/
  entered : Bool
  /-- the steps of R127 that have ended: census, flash read, restore of fire counts, agreement -/
  censused : Bool
  flashRead : Bool
  restored : Bool
  agreed : Bool
  /-- boot rounds of agreement tried (R131) -/
  rounds : Nat
  /-- groups with a VALID lane that did not come up (R145) -/
  downGroups : List Nat
  /-- flash slots that the automatic load has yet to try after the present one -/
  slotsLeft : List Nat
  /-- the automatic load has rejected every slot -/
  autoFailed : Bool
  /-- dies whose training has failed -/
  untrained : List Nat
  /-- the boot block being saved (R136) -/
  saving : Option (List Nat)
  spw : Tab Spw
  /-- SENSE time at which PWR_WARN fell last -/
  warnLowAt : Nat
  /-- axes, groups and blocks stand still since a power warning: PWR_SAFE is asserted -/
  safe : Bool
  /-- a write to BOOT_RESET or a FACTORY_RESET has begun the steps of R147 and resets at their end (R149, R196) -/
  resetPending : Bool
  /-- FIRE clock of a die's last tickle burst -/
  tickledAt : Tab Nat
  /-- rows of R127 that have failed and withhold full service (R145, R146) -/
  failed : List Nat
  /-- the lifetime area, the record ring and the pair configuration have been taken since reset: RETRY does not read them again -/
  restoredLife : Bool
  /-- the steps of R147 go on -/
  stepping : Bool
  deriving DecidableEq, Repr

/-- Thermal and supply monitors (R637 to R641). -/
structure Mon where
  /-- highest temperature of a die's warning episode -/
  hottest : Tab Int
  /-- groups that the hot fence has fenced -/
  fenced : List Nat
  /-- conversions in tolerance since the last one outside, by 8 x die + rail, in an episode -/
  calm : Tab Nat
  /-- SENSE time of a die's last conversion that PERIOD called for (R638) -/
  ranAt : Tab Nat
  deriving DecidableEq, Repr

/-- A message of the pair link (R511): TYPE, LINE and words 3 to 7 of the body; SEQ is its place among the messages sent. -/
structure PairMsg where
  type : Nat
  line : Nat
  body : List Nat
  deriving DecidableEq, Repr

/-- A commit that the standby has captured and that waits for its COMMIT message (R523), with what its capture was judged by (R52, R81)
and the CRC by which it is matched (R512). -/
structure PairCapture where
  safe : Bool
  snap : Bool
  origin : Origin
  fields : List (Nat × Nat)
  parts : List (Consumer × Bool)
  requested : Nat
  stageFull : Bool
  bufferBad : Bool
  crc : Nat
  deriving DecidableEq, Repr

/-- A COMMIT message that no capture has matched (R512): ID, status, apply line, CRC and number of the fields, and for a commit of the
active's own values (SELF) what it brings. -/
structure PairDue where
  id : Nat
  status : Nat
  line : Nat
  crc : Nat
  count : Nat
  own : Option PairCapture
  deriving DecidableEq, Repr

/-- A change of EB_OUT that takes effect from a substrate line (R526): nozzle, line, and the value before. -/
structure PairOut where
  nozzle : Nat
  line : Nat
  old : Nat
  deriving DecidableEq, Repr

/-- A Twinflower pair, as this unit sees it (chapter 18). -/
structure Pair where
  /-- messages sent, newest first -/
  sent : List PairMsg
  /-- the highest epoch seen (R514) -/
  seen : Nat
  /-- role, READY and DETACHED of the partner's last STATUS -/
  partner : Option (Nat × Bool × Bool)
  /-- the active's lease: number and SENSE time of the last RENEW, those that wait for an ACK, and when the last acknowledged one was sent -/
  renewal : Nat
  renewAt : Nat
  unacked : List (Nat × Nat)
  ackAt : Nat
  /-- the standby's lease: SENSE time and package line at the last RENEW -/
  heardAt : Nat
  heardLine : Nat
  fencedAt : Nat
  captures : List PairCapture
  due : List PairDue
  /-- L_j of the catch-up, and SENSE time at which it was sent -/
  joinLine : Option Nat
  joinAt : Nat
  /-- a catch-up is being received -/
  catching : Bool
  /-- words of the block that BULK messages bring, newest first -/
  bulk : List Nat
  /-- contexts whose CTX message did not match (R533) -/
  unmatched : List Nat
  /-- H of a handover in progress (R532) -/
  handover : Option Nat
  /-- by pacer: the die line from which it fires after a takeover (R530) -/
  resume : Tab Nat
  outs : List PairOut
  /-- SENSE time since which half or more of the UP groups have reported FOLLOW of the other input (R514) -/
  followAt : Option Nat
  /-- SENSE time at which the link tried last to train (R510) -/
  triedAt : Nat
  deriving DecidableEq, Repr

/-- A pixel of the linear RGB of a camera, 12 bits a channel (R385). -/
structure Pixel where
  r : Nat
  g : Nat
  b : Nat
  deriving DecidableEq, Repr

/-- A trigger issued to a camera and its frame (R378, R379): the frame number, L0, the time base in ns, whether it is a TIME frame,
and whether it is a dark frame of a calibration run (R417). -/
structure Trigger where
  number : Nat
  l0 : Int
  time : Nat
  timed : Bool
  dark : Bool
  deriving DecidableEq, Repr

/-- A frame being received (R371): its trigger, or none for an ORPHAN frame; its lines, newest first, each valid or not with its
pixels as received; and how many lines were discarded (R373). -/
structure OpenFrame where
  trig : Option Trigger
  lines : List (Bool × List Nat)
  dropped : Nat
  deriving DecidableEq, Repr

/-- A settings set with the frame fields of the commits it carries (R381 to R384): the commits in order, their fields, whether a trigger
has fallen since they reached the die, the SENSE time at which the set was sent, whether the sensor refused it, and the trigger
from which it governs, once known. -/
structure CciSet where
  ids : List Nat
  fields : List (Nat × Nat)
  missed : Bool
  sentAt : Nat
  nack : Bool
  governs : Option Nat
  /-- commits without frame fields that came after these and are applied with them (R80) -/
  also : List Nat
  deriving DecidableEq, Repr

/-- What passes on the CCI bus (R375): an auto-incrementing write of bytes from a sensor register address, a read of one byte, or a wait
of the init table in ms. -/
inductive CciOp
  | write (addr : Nat) (data : List Nat)
  | read (addr : Nat)
  | wait (ms : Nat)
  deriving DecidableEq, Repr

/-- A list on the CCI bus (R374): the 7-bit address, the bus speed in kHz and what is sent, in order. -/
structure CciBus where
  dev : Nat
  khz : Nat
  ops : List CciOp
  deriving DecidableEq, Repr

/-- What the CCI master of a camera sends (R375, R376, R381): the init table or the settings set of a start, a set of a commit, or a
single transfer. -/
inductive CciWork
  | init
  | first
  | set (x : CciSet)
  | raw
  deriving DecidableEq, Repr

/-- A vision plane (R388): the frame's trigger, or none for an ORPHAN frame; its SEQ; flags; which lines are valid; the pixels; and the
12-bit values before black level, for calibration. -/
structure VisionPlane where
  trig : Option Trigger
  seq : Nat
  short : Bool
  flip : Bool
  valid : List Bool
  rgb : List (List Pixel)
  raw : List (List Nat)
  decoded : Bool
  deriving DecidableEq, Repr

/-- A camera port and its image pipeline (chapter 12). -/
structure Camera where
  /-- the last frame number taken (DESIGN CHOICE, notes/assumptions/12) -/
  number : Nat
  /-- SENSE time of the last trigger issued -/
  lastTrig : Option Nat
  /-- the die line, or the time base in ns, up to which triggers have been judged -/
  judged : Nat
  /-- a trigger whose frame has not started -/
  unmatched : Option Trigger
  frame : Option OpenFrame
  cci : Option CciWork
  /-- the newest set that waits for the CCI master -/
  waiting : Option CciSet
  /-- sets sent, or refused, whose fields do not govern yet, oldest first -/
  sent : List CciSet
  /-- triggers issued and, in FREE mode, frames started -/
  count : Nat
  seq : Nat
  /-- port fields in force that commits have changed while the block runs: the values of the last start, by field (R380) -/
  portHeld : Tab Nat
  /-- at most two vision planes, newer first -/
  planes : List VisionPlane
  /-- the latest preview: its rows of 8-bit pixels -/
  preview : Option (List (List Pixel))
  /-- archive buffers queued: index and generation -/
  archQ : List (Nat × Nat)
  archReq : Bool
  /-- triggers skipped in the episode, and SENSE time of the last one -/
  skips : Nat
  skipAt : Nat
  /-- SENSE time at which CAM_TRIG goes low, at which the next flash is due, and the last flash's start and end -/
  trigTo : Nat
  flashDue : Option Nat
  flash : Nat × Nat
  /-- a calibration run waits for a dark frame -/
  darkReq : Bool
  /-- shading gains, by 16,384 x bank + address, and defect words, by 16,384 x bank + address -/
  shade : Tab Nat
  defects : Tab Nat
  /-- the list that the CCI master sends, or sent last -/
  bus : CciBus
  /-- SENSE time at which the stop in progress began -/
  stopAt : Nat
  deriving DecidableEq, Repr

/-- What a claimed slot of a gap carries (R398, R399, R401): the ladder of a bar, a density strip of a bar at a code, or white. -/
inductive SlotUse
  | ladder (bar : Nat)
  | strip (bar code : Nat)
  | white
  deriving DecidableEq, Repr

/-- A slot assigned to calibration runs, with its first substrate line (R399). -/
structure Claim where
  ctx : Nat
  page : Nat
  slot : Nat
  line : Nat
  use : SlotUse
  deriving DecidableEq, Repr

/-- A claimed slot as the bars have begun it: its first substrate line, its page, what it carries, how many of its lines have been
begun, and the job's drop-code width in bits. -/
structure Printed where
  line : Nat
  page : Nat
  use : SlotUse
  begun : Nat
  width : Nat
  deriving DecidableEq, Repr

/-- A verdict of a spot (R403). -/
inductive Spot | pass | missing | deviated | unseen
  deriving DecidableEq, Repr

/-- A verdict on its way to the driving die (R405). -/
structure Verdict where
  nozzle : Nat
  bar : Nat
  page : Nat
  spot : Spot
  deriving DecidableEq, Repr

/-- What the driving die keeps of a nozzle (R407): the last verdicts, newest first, true for FAIL; the last verdict; and how many have
arrived. -/
structure NzHist where
  hist : List Bool
  last : Option Spot
  checks : Nat
  deriving DecidableEq, Repr

/-- The values that a run or an import gives: fields with their values, shading gains by
camera and address, and TCAL by head (R420, R422). -/
structure CalValues where
  fields : List (Nat × Nat)
  shade : List (Nat × Tab Nat)
  tcal : List (Nat × Nat)
  deriving DecidableEq, Repr

/-- A calibration run (R414 to R419), of a bar or a camera. -/
structure CalRun where
  /-- strip codes that wait for a slot; for a camera run, 0 for a WHITE slot -/
  wanted : List Nat
  /-- claims in use, with the cameras that have decoded each -/
  claims : List (Claim × List Nat)
  /-- slots that yielded no measurement -/
  lost : Nat
  /-- doubled contrast sums, by 16 x nozzle address + code; or node means, by 4,096 x channel + node -/
  sums : Tab Int
  /-- BL of a camera run's dark frame -/
  black : Option (List Nat)
  /-- WHITE slots used -/
  whites : Nat
  /-- values of the first pass (R419) -/
  first : Option CalValues
  /-- the commit that applies the run, and the run's values -/
  commit : Option Nat
  values : CalValues
  deriving DecidableEq, Repr

/-- A calibration export or import in progress (R421). -/
inductive Xfer | sending | receiving | validating (data : List Nat)
  deriving DecidableEq, Repr

/-- Eyebright (chapter 13). -/
structure Eye where
  /-- the block claims gaps, from the first line and up to the line given (R424) -/
  checking : Bool
  since : Nat
  upTo : Option Nat
  printed : List Printed
  /-- verdicts in flight, oldest first -/
  verdicts : List Verdict
  /-- by nozzle address -/
  hists : Tab NzHist
  degraded : List Nat
  /-- runs that are not IDLE: bars 0-15, cameras at 16 + number; in the order in which they started -/
  runs : List (Nat × CalRun)
  /-- head temperatures at the last density run, signed 0.1 degrees in 12 bits (R412) -/
  tcal : Tab Nat
  /-- MON temperature of a camera's die at its last run -/
  camTemp : Tab Int
  /-- greatest movement since the last run, by run (R427) -/
  drift : Tab Nat
  /-- commits of imports that wait to apply, with their values -/
  imports : List (Nat × CalValues)
  xfer : Option Xfer
  deriving DecidableEq, Repr

/-- Every assigned slot. -/
def Eye.claims (e : Eye) : List Claim := e.runs.flatMap (fun r => r.2.claims.map (·.1))

/-- The state of the Rangar. `pending` is the model's own: the commands that wait, first in, first out. -/
structure State where
  pending : List Instr
  variant : Variant
  /-- SENSE periods of 5 ns since the state `State.reset`; a reset does not set it back -/
  clk : Nat
  /-- how many free values have been drawn (the model's own; DESIGN CHOICE, notes/assumptions/2) -/
  drawn : Nat
  /-- effective values of register fields, by 32 * address + lowest bit; a field that is not listed holds its reset value -/
  live : Tab Nat
  /-- values last staged -/
  staged : Tab Nat
  /-- values latched by the last snapshot, and by die the structure in effect as it was latched (R282) -/
  snap : Tab Nat
  snapImages : Tab (Image × Image × List Consumer)
  /-- the bytes of the shared window, in canonical form -/
  mem : List Host.Cell
  /-- time base of each die in units of 2^-32 ns (R491) -/
  timeBase : Tab Nat
  /-- what RATE adds to the 5 ns of each advance, in units of 2^-32 ns (R491) -/
  rate : Int
  clock : Clock
  epoch : Epoch
  ld : Loader
  rcd : Recorder
  flash : Flash
  win : Win
  jobs : Jobs
  zip : Zip
  press : Press
  /-- motion axes, by 4 x die + axis -/
  axes : Tab Axis
  sdram : Sdram
  meter : Meter
  /-- LED chains, by 2 x die + chain -/
  chains : Tab Chain
  disp : Disp
  boot : Boot
  mon : Mon
  pair : Pair
  cams : Tab Camera
  eye : Eye
  auth : Auth
  eth : Eth
  irq : Irq
  eng : Engines
  host : HostPort
  deriving DecidableEq, Repr

/-- The default parameters of the meter (R550). -/
def MtrParams.default : MtrParams := ⟨0, 500, 0, 0, 0, [], [], []⟩

/-- Totals of zero. -/
def MtrTotals.zero : MtrTotals := ⟨0, 0, [], [], [], [], 0⟩

/-- The meter of a new board, before its supply has risen (DESIGN CHOICE, notes/assumptions/43). -/
def Meter.reset : Meter :=
  { st := 0, powered := false, runAt := 0, ops := 0, a := false, b := false, changedAt := (0, 0), count := 0, mark := 0
    started := false, m := 0, params := .default, totals := .zero, savedParams := ⟨none, none, false⟩, marks := ⟨none, none, false⟩
    saved := [], totalsLost := false, totalsAt := 0, hours := 0, sealed := false, sealCount := 0, trail := [], snaps := [], snapSeq := 0, lenWin := none, massWin := none
    patchIn := none, patch := none, running := none, patchBad := false, cnt := 0, hwm := none, nonce := 0, locked := false, lockedAt := 0
    tagTimes := [], tagFail := 0, qerr := 0, indErr := 0, act := none, env := [], res := [], taps := [], wire := [], seqs := []
    sentAt := [], timeAt := 0, unknown := [], net := (0, 0), iseq := 0, crcs := [], shown := [], drawnAt := 0, misses := 0, indFault := false
    indStale := false, reportAt := 0, psr := none, reports := [] }

/-- Reset is asserted, and nothing of bring-up has been done. -/
def Boot.reset : Boot := ⟨[], true, 0, false, false, false, false, false, false, 0, [], [], false, [], none, [], 0, true, false, [], [], false, false⟩

/-- No partner has been heard. -/
def Pair.reset : Pair := ⟨[], 0, none, 0, 0, [], 0, 0, 0, 0, [], [], none, 0, false, [], [], none, [], [], none, 0⟩

/-- The recorder after reset. -/
def Recorder.reset : Recorder :=
  ⟨[], none, 0, [], [], none, [], [], 0, none, none, none, [], [], [], 0, 0, 0⟩

/-- An area that has never been written (R137). -/
def Area.erased {α : Type} : Area α := ⟨none, none, false⟩

/-- The event flash of a new unit. -/
def Flash.reset : Flash := ⟨true, .erased, [], [], .erased, .erased, .erased, none, none, none, none, [], .erased, .erased⟩

/-- Every buffer UNDEF, every ring empty (R169). -/
def Win.reset : Win := ⟨[], [], [], [], false⟩

/-- Command authentication of a unit without keys (DESIGN CHOICE, notes/assumptions/4). -/
def Auth.reset : Auth := ⟨[], [], [], none, none, [], 0⟩

/-- Every context FREE. -/
def Jobs.reset : Jobs := ⟨[], [], []⟩

/-- Inputs at standstill, no lines begun. -/
def Press.reset : Press := ⟨[], [], [], [], [], [], [], [], [], [], [], []⟩

/-- No claims. -/
def Eye.reset : Eye := ⟨false, 0, none, [], [], [], [], [], [], [], [], [], none⟩

/-- Every unit IDLE. -/
def Zip.reset : Zip := ⟨[], [], [], []⟩

/-- The Ethernet port after reset. -/
def Eth.reset : Eth := ⟨[], 0, 0⟩

/-- The interrupt controllers after reset (R487). -/
def Irq.reset : Irq := ⟨[], [], [], [], [], [], [], [], []⟩

/-- The engines after reset. -/
def Engines.reset : Engines := ⟨[], [], []⟩

/-- The host port after reset. -/
def HostPort.reset : HostPort := ⟨[], false, [], [], false, [], [], [], [], .reset⟩

/-- No staged writes, commits or snapshot (R86). -/
def Epoch.reset : Epoch := ⟨[], [], 0, none, none, [], false⟩

/-- The structure before an image is loaded. -/
def Image.empty : Image := ⟨0, 0, 0, 0, [], [], [], [], [], [], [], [], [], [], [], [], []⟩

/-- An idle loader with empty banks (R116). -/
def Loader.reset : Loader :=
  ⟨⟨0, false, 0, false, 0, 0, 0, false⟩, [], [], 0, 0, 0, [], [], Image.empty, Image.empty, Image.empty, []⟩

/-- The Rangar after reset: every register at the value its table gives. -/
def State.reset : State :=
  { pending := []
    variant := .rg8
    clk := 0
    drawn := 0
    live := []
    staged := []
    snap := []
    snapImages := []
    mem := []
    timeBase := []
    rate := 0
    clock := ⟨0, 0, 0, [], [], none, 0, 0, 0, [], [], [], 0⟩
    epoch := .reset
    ld := .reset
    rcd := .reset
    flash := .reset
    win := .reset
    jobs := .reset
    zip := .reset
    press := .reset
    axes := []
    meter := .reset
    chains := []
    disp := ⟨0, false, 0, 0, [], [], [], 0, false, 0, 0, false, 0⟩
    boot := .reset
    mon := ⟨[], [], [], []⟩
    pair := .reset
    sdram := ⟨[], [], [], [], [], [], []⟩
    cams := []
    eye := .reset
    auth := .reset
    eth := .reset
    irq := .reset
    eng := .reset
    host := .reset }

end Sys2Proof.Machine
end

