-- ==== Sys2Proof/Machine/Ops.lean ====
section
/-! DEFINITION. The named operations of the model: tables, register fields, outcomes, events, interrupt causes, time. -/

namespace Sys2Proof.Machine

open Sys2Proof

/-! Tables. -/

/-- The entry of a number, if it is listed. -/
def tget? {α : Type} (t : Tab α) (k : Nat) : Option α :=
  match t with
  | [] => none
  | (k', v) :: r => if k = k' then some v else tget? r k

/-- The entry of a number, or the value an unlisted number holds. -/
def tget {α : Type} (t : Tab α) (k : Nat) (dflt : α) : α := (tget? t k).getD dflt

/-- Lists a number with a value, keeping the numbers in rising order. -/
def tset {α : Type} (t : Tab α) (k : Nat) (v : α) : Tab α :=
  match t with
  | [] => [(k, v)]
  | (k', v') :: r => if k < k' then (k, v) :: (k', v') :: r else if k = k' then (k, v) :: r else (k', v') :: tset r k v

/-- Takes a number off the list. -/
def tdel {α : Type} (t : Tab α) (k : Nat) : Tab α := t.filter (fun e => e.1 != k)

/-- Takes the first entry of a list that passes a test. -/
def takeFirst {α : Type} (p : α → Bool) (l : List α) : Option (α × List α) :=
  match l with
  | [] => none
  | a :: r => if p a then some (a, r) else (takeFirst p r).map fun (b, r') => (b, a :: r')

/-- Puts an item before the first of a list that it does not come after. -/
def insertBy {α : Type} (le : α → α → Bool) (a : α) (l : List α) : List α :=
  match l with
  | [] => [a]
  | b :: r => if le a b then a :: b :: r else b :: insertBy le a r

/-- A list in order; equal items keep their order. -/
def sortBy {α : Type} (le : α → α → Bool) (l : List α) : List α := l.foldr (insertBy le) []

/-- Folds a function over the numbers below `n`, from 0 up. -/
def forUpTo {α : Type} (n : Nat) (f : Nat → α → α) (a : α) : α :=
  match n with
  | 0 => a
  | k + 1 => f k (forUpTo k f a)

/-! Numbers. -/

/-- A number read as a signed number of `w` bits. -/
def signed (w n : Nat) : Int :=
  let m := n % 2 ^ w
  if 2 * m < 2 ^ w then (m : Int) else (m : Int) - (2 ^ w : Nat)

/-- A signed number as the `w` bits that hold it. -/
def unsigned (w : Nat) (i : Int) : Nat := (i % (2 ^ w : Nat)).toNat

/-- Bits `lo` to `lo + w - 1` of a number. -/
def bits (n lo w : Nat) : Nat := n / 2 ^ lo % 2 ^ w

/-- One bit of a number. -/
def bit (n i : Nat) : Bool := n / 2 ^ i % 2 = 1

/-- Sets one bit of a number. -/
def setBit (n i : Nat) : Nat := if bit n i then n else n + 2 ^ i

/-- Clears one bit of a number. -/
def clearBit (n i : Nat) : Nat := if bit n i then n - 2 ^ i else n

/-- A number of a truth value. -/
def nat (b : Bool) : Nat := if b then 1 else 0

/-- Ceiling of a quotient; 0 for a divisor of 0. -/
def ceilDiv (a b : Nat) : Nat := (a + (b - 1)) / b

/-! Outcomes. -/

/-- A command whose operands name fitted resources has its effect; any other is refused (R3, R11). -/
def guarded (fitted : Bool) (t : State) : Host.Outcome State Fault Refusal :=
  if fitted then .next t else .refused .notFitted

/-- How many dies a variant fits (R1). -/
def Variant.dies (v : Variant) : Nat :=
  match v with
  | .rg2 => 2
  | .rg4 => 4
  | .rg8 => 8

/-- The fitted dies. -/
def State.dies (s : State) : Nat := s.variant.dies

/-! Register fields. -/

/-- The number a field is listed under. -/
def Fld.key (f : Fld) : Nat := 32 * f.addr + f.lo

/-- The effective value of a field. -/
def State.rd (s : State) (f : Fld) : Nat := tget s.live f.key f.reset

/-- A field of one bit as a truth value. -/
def State.on (s : State) (f : Fld) : Bool := s.rd f != 0

/-- Gives a field a value, cut to its width. -/
def State.wr (s : State) (f : Fld) (v : Nat) : State := { s with live := tset s.live f.key (v % 2 ^ f.width) }

/-- Adds to a counter field that saturates at its greatest value. -/
def State.incBy (s : State) (f : Fld) (n : Nat) : State := s.wr f (min (s.rd f + n) (2 ^ f.width - 1))

/-- Adds 1 to a counter field that saturates. -/
def State.inc (s : State) (f : Fld) : State := s.incBy f 1

/-- A 48-bit pair (R6). -/
def State.rdPair (s : State) (lo hi : Fld) : Nat := s.rd lo + 2 ^ 24 * s.rd hi

/-- Sets both words of a pair (R6). -/
def State.wrPair (s : State) (lo hi : Fld) (v : Nat) : State := (s.wr lo v).wr hi (v / 2 ^ 24)

/-! Parts of the state. -/

/-- Changes the recorder. -/
def State.onRcd (s : State) (f : Recorder → Recorder) : State := { s with rcd := f s.rcd }

/-- Changes the interrupt controllers. -/
def State.onIrq (s : State) (f : Irq → Irq) : State := { s with irq := f s.irq }

/-- Changes the host port. -/
def State.onHost (s : State) (f : HostPort → HostPort) : State := { s with host := f s.host }

/-- Draws a free value of up to 256 bits (DESIGN CHOICE, notes/assumptions/2). -/
def State.draw (s : State) (w : Nat) : Nat × State :=
  ((Config.freeValue s.drawn).toNat % 2 ^ w, { s with drawn := s.drawn + 1 })

/-- A power warning, its hold, or the steps before a commanded reset keep strobes and steps still (R147 to R149). -/
def State.halted (s : State) : Bool := s.on F.BOOT_STAT_PWR_WARN || s.on F.BOOT_STAT_HELD || s.boot.resetPending

/-! Time. -/

/-- SENSE periods of 5 ns in a number of microseconds (R22). -/
def usTicks (n : Nat) : Nat := 200 * n

/-- Time base of a die in whole nanoseconds, 64 bits (R491). -/
def State.time (s : State) (d : Nat) : Nat := tget s.timeBase d 0 / 2 ^ 32 % 2 ^ 64

/-- Lets `n` SENSE periods pass: every die's time base advances by 5 ns x (1 + RATE) in each (R491). -/
def State.pass (s : State) (n : Nat) : State :=
  { s with
    clk := s.clk + n
    timeBase := forUpTo s.dies (fun d t => tset t d (unsigned 96 (tget t d 0 + n * (5 * 2 ^ 32 + s.rate)))) s.timeBase }

/-- Lets time pass up to the SENSE time at which an event happens; time never goes back. -/
def State.atTime (s : State) (t : Nat) : State := s.pass (t - s.clk)

/-! Words and bytes. -/

/-- The low bytes of a number, lowest first. -/
def leBytes (n count : Nat) : List Nat := (List.range count).map (fun i => n / 256 ^ i % 256)

/-- The number that bytes spell, lowest first. -/
def ofBytes (bs : List Nat) : Nat := bs.foldr (fun b n => b + 256 * n) 0

/-- The bytes of 24-bit words, three each, low byte first (R90, R91, R570). -/
def wordBytes (ws : List Nat) : List Nat := ws.flatMap (fun w => leBytes w 3)

/-- One bit of the CRC-16 of R570: polynomial 0x1021, not reflected. -/
def crc16Bit (c : Nat) : Nat := if bit c 15 then (2 * c % 65536) ^^^ 0x1021 else 2 * c

/-- The CRC-16 of R570: initial value 0xFFFF, no final inversion. -/
def crc16 (bs : List Nat) : Nat :=
  bs.foldl (fun c b => forUpTo 8 (fun _ c => crc16Bit c) (c ^^^ (256 * b))) 0xFFFF

/-- What four steps of the CRC-32 of R91 (polynomial 0x04C11DB7, reflected) bring about for the low four bits: 16 entries of 32 bits,
entry 0 lowest. -/
def crc32Table : Nat :=
  0xbdbdf21ca00ae27886d3d2d49b64c2b0cb61b38cd6d6a3e8f00f9344edb883205005713c4db261586b6b51f476dc419026d930ac3b6e20c81db7106400000000

/-- Four bits of the CRC-32 of R91. -/
def crc32Nibble (c : Nat) : Nat := c / 16 ^^^ (crc32Table / 2 ^ (32 * (c % 16)) % 2 ^ 32)

/-- The CRC-32 register after more bytes; it starts from all ones and is inverted at the end (R91). -/
def crc32Step (c : Nat) (bs : List Nat) : Nat := bs.foldl (fun c b => crc32Nibble (crc32Nibble (c ^^^ b))) c

/-- The CRC-32 of R91. -/
def crc32 (bs : List Nat) : Nat := crc32Step 0xFFFFFFFF bs ^^^ 0xFFFFFFFF

/-! Records for rings. -/

/-- Changes the window and the rings. -/
def State.onWin (s : State) (f : Win → Win) : State := { s with win := f s.win }

/-- Produces a record for a device-to-host ring (R179). -/
def State.post (s : State) (ring kind : Nat) (body : List Nat) : State :=
  s.onWin fun w => { w with postings := w.postings ++ [.post ring kind (body.map (· % 2 ^ 24))] }

/-- The release point of a buffer is reached (R164, R166): its release is posted in turn. -/
def State.release (s : State) (idx bytes tag : Nat) : State :=
  s.onWin fun w => { w with postings := w.postings ++ [.release idx bytes tag] }

/-- Changes the event flash. -/
def State.onFlash (s : State) (f : Flash → Flash) : State := { s with flash := f s.flash }

/-! Areas of flash in two copies: the older one is written, the newer valid one is read (R137). -/

/-- A sequence number of 24 bits is ahead of another. -/
def seqAhead (x y : Nat) : Bool :=
  let n := (x + 2 ^ 24 - y % 2 ^ 24) % 2 ^ 24
  decide (1 ≤ n) && decide (n ≤ 2 ^ 23)

/-- The newer valid copy. -/
def Area.newer {α : Type} (x : Area α) : Option (Copy α) :=
  match x.a, x.b with
  | some c, some e => if seqAhead e.seq c.seq then some e else some c
  | some c, none => some c
  | none, e => e

/-- The area has been written, and neither copy is valid. -/
def Area.lost {α : Type} (x : Area α) : Bool := x.written && x.newer.isNone

/-- Writing goes to copy A: it is the older or fails its check. -/
def Area.writesA {α : Type} (x : Area α) : Bool :=
  match x.a, x.b with
  | none, _ => true
  | some _, none => false
  | some c, some e => !seqAhead c.seq e.seq

/-- The area while the older copy is being written: that copy fails its check until the writing ends. -/
def Area.begin {α : Type} (x : Area α) : Area α := if x.writesA then ⟨none, x.b, true⟩ else ⟨x.a, none, true⟩

/-- SEQ of the next write: one more than the newer copy's; the first write of an area takes 1 (DESIGN CHOICE, notes/assumptions/131). -/
def Area.nextSeq {α : Type} (x : Area α) : Nat :=
  match x.newer with
  | some c => (c.seq + 1) % 2 ^ 24
  | none => 1

/-- The area once the older copy is written. -/
def Area.write {α : Type} (x : Area α) (v : α) : Area α :=
  if x.writesA then ⟨some ⟨x.nextSeq, v⟩, x.b, true⟩ else ⟨x.a, some ⟨x.nextSeq, v⟩, true⟩

/-- Both copies are written in turn (R188, R191). -/
def Area.writeBoth {α : Type} (x : Area α) (v : α) : Area α := (x.write v).write v

/-- Copies that fail their check are no longer valid. -/
def Area.fail {α : Type} (x : Area α) (inA inB : Bool) : Area α :=
  ⟨if inA then none else x.a, if inB then none else x.b, x.written || inA || inB⟩

/-- The counter marks in flash. -/
def Flash.markTable (f : Flash) : Tab Nat := (f.marks.newer.map (·.val)).getD []

/-- The drive voltage limits in flash. -/
def Flash.limitTable (f : Flash) : Tab (Nat × Nat) := (f.limits.newer.map (·.val)).getD []

/-- The power-cycle count in flash; an area never written starts from 0 (R137). -/
def Flash.count (f : Flash) : Nat := (f.cycles.newer.map (·.val)).getD 0

/-! Events, interrupt causes, lifetime counters. -/

/-- Raises an event at a die: it is on its way to the recorder with the die's time base (R569, R574). -/
def State.event (s : State) (die code : Nat) (payload : List Nat) : State :=
  s.onRcd fun r => { r with raised := r.raised ++ [⟨die, code, payload.map (· % 2 ^ 24), s.time die⟩] }

/-- Causes an interrupt source, by its global number (R473). -/
def State.cause (s : State) (src : Nat) : State := s.onIrq fun q => { q with causes := q.causes ++ [src] }

/-- Causes a die-local source. -/
def State.causeAt (s : State) (die loc : Nat) : State := s.cause (256 * die + loc)

/-- Adds to a lifetime counter of a die; it saturates at 2^48 - 1 (R584). -/
def State.life (s : State) (die n add : Nat) : State :=
  s.onRcd fun r => { r with life := tset r.life (64 * die + n) (min (tget r.life (64 * die + n) 0 + add) (2 ^ 48 - 1)) }

/-- Adds 1 to a histogram bin (R585); the bin number is clamped to 0-31. -/
def State.histo (s : State) (die n bin : Nat) : State :=
  let k := 32 * (4 * die + n) + min bin 31
  s.onRcd fun r => { r with hist := tset r.hist k (min (tget r.hist k 0 + 1) (2 ^ 48 - 1)) }

/-- Notes an occurrence of an event that is recorded at most once a second (R645): it opens the window of its key, or is counted
in it. -/
def State.windowed (s : State) (die code key : Nat) (payload : List Nat) (counted : Bool) (src : Option Nat := none) : State :=
  s.onRcd fun r =>
    if r.windows.any (fun w => w.code = code ∧ w.key = key) then
      { r with windows := r.windows.map (fun w => if w.code = code ∧ w.key = key then { w with count := w.count + 1 } else w) }
    else { r with windows := r.windows ++ [⟨code, key, die, payload, 1, counted, src, s.clk⟩] }

/-- An episode of an event is in progress for an item. -/
def State.inEpisode (s : State) (code key : Nat) : Bool := s.rcd.episodes.any (fun e => e.1 = code ∧ e.2 = key)

/-- Starts an episode. -/
def State.openEpisode (s : State) (code key : Nat) : State :=
  if s.inEpisode code key then s else s.onRcd fun r => { r with episodes := r.episodes ++ [(code, key)] }

/-- Ends an episode. -/
def State.endEpisode (s : State) (code key : Nat) : State :=
  s.onRcd fun r => { r with episodes := r.episodes.filter (fun e => !(e.1 = code ∧ e.2 = key)) }

/-- Raises an event the first time in an episode of its item. -/
def State.eventOnce (s : State) (die code key : Nat) (payload : List Nat) : State :=
  if s.inEpisode code key then s else (s.openEpisode code key).event die code payload

end Sys2Proof.Machine
end

