-- ==== Sys2Proof/Machine/Crypto.lean ====
section
/-! DEFINITION. The cryptographic functions the spec names by their standards: SHA-256 and HMAC (R94, R183), AES-256 key unwrapping
of RFC 3394 (R195). ECDSA verification is a constant without a body (R105). -/

namespace Sys2Proof.Machine

open Sys2Proof

/-- Addition of 32-bit words. -/
def add32 (a b : Nat) : Nat := (a + b) % 2 ^ 32

/-- Rotation of a 32-bit word to the right. -/
def rotr32 (x n : Nat) : Nat := x / 2 ^ n + (x % 2 ^ n) * 2 ^ (32 - n)

/-- Round constant `t` of SHA-256: the first 32 bits of the fraction of the cube root of prime number `t`; 16 entries of 32 bits
to a number, entry 0 lowest. -/
def shaK (t : Nat) : Nat :=
  (match t / 16 with
    | 0 => 0xc19bf1749bdc06a780deb1fe72be5d74550c7dc3243185be12835b01d807aa98ab1c5ed5923f82a459f111f13956c25be9b5dba5b5c0fbcf71374491428a2f98
    | 1 => 0x1429296706ca6351d5a79147c6e00bf3bf597fc7b00327c8a831c66d983e515276f988da5cb0a9dc4a7484aa2de92c6f240ca1cc0fc19dc6efbe4786e49b69c1
    | 2 => 0x106aa070f40e3585d6990624d192e819c76c51a3c24b8b70a81a664ba2bfe8a192722c8581c2c92e766a0abb650a735453380d134d2c6dfc2e1b213827b70a85
    | _ => 0xc67178f2bef9a3f7a4506ceb90befffa8cc7020884c8781478a5636f748f82ee682e6ff35b9cca4f4ed8aa4a391c0cb334b0bcb52748774c1e376c0819a4c116) / 2 ^ (32 * (t % 16)) % 2 ^ 32

/-- The initial hash value of SHA-256, its eight words from one number, entry 0 lowest. -/
def shaInit : List Nat :=
  (List.range 8).map (fun i => 0x5be0cd191f83d9ab9b05688c510e527fa54ff53a3c6ef372bb67ae856a09e667 / 2 ^ (32 * i) % 2 ^ 32)

/-- Bytes padded as SHA-256 pads a message. -/
def shaPad (bs : List Nat) : List Nat :=
  let z := (64 - (bs.length + 9) % 64) % 64
  bs ++ [0x80] ++ List.replicate z 0 ++ (leBytes (8 * bs.length) 8).reverse

/-- The message schedule: 16 words of the block and 48 more, newest first. -/
def shaSchedule (block : List Nat) : List Nat :=
  let w0 := (List.range 16).map (fun i => ofBytes ((block.drop (4 * i)).take 4).reverse)
  (forUpTo 48 (fun _ (w : List Nat) =>
    let a := w.getD 14 0
    let b := w.getD 1 0
    let s0 := rotr32 a 7 ^^^ rotr32 a 18 ^^^ (a / 2 ^ 3)
    let s1 := rotr32 b 17 ^^^ rotr32 b 19 ^^^ (b / 2 ^ 10)
    add32 (add32 (w.getD 15 0) s0) (add32 (w.getD 6 0) s1) :: w) w0.reverse).reverse

/-- One round of SHA-256 on the eight working words. -/
def shaRound (h : List Nat) (kw : Nat × Nat) : List Nat :=
  let a := h.getD 0 0
  let e := h.getD 4 0
  let s1 := rotr32 e 6 ^^^ rotr32 e 11 ^^^ rotr32 e 25
  let ch := (e &&& h.getD 5 0) ^^^ ((2 ^ 32 - 1 - e) &&& h.getD 6 0)
  let t1 := add32 (add32 (h.getD 7 0) s1) (add32 ch (add32 kw.1 kw.2))
  let s0 := rotr32 a 2 ^^^ rotr32 a 13 ^^^ rotr32 a 22
  let maj := (a &&& h.getD 1 0) ^^^ (a &&& h.getD 2 0) ^^^ (h.getD 1 0 &&& h.getD 2 0)
  [add32 t1 (add32 s0 maj), a, h.getD 1 0, h.getD 2 0, add32 (h.getD 3 0) t1, e, h.getD 5 0, h.getD 6 0]

/-- One block of SHA-256. -/
def shaBlock (h block : List Nat) : List Nat :=
  List.zipWith add32 h (((List.range 64).map shaK |>.zip (shaSchedule block)).foldl shaRound h)

/-- SHA-256, 32 bytes. -/
def sha256 (bs : List Nat) : List Nat :=
  let p := shaPad bs
  let h := (List.range (p.length / 64)).foldl (fun h i => shaBlock h ((p.drop (64 * i)).take 64)) shaInit
  h.flatMap (fun w => (leBytes w 4).reverse)

/-- HMAC-SHA-256 with a key of up to 64 bytes. -/
def hmac (key bs : List Nat) : List Nat :=
  let k := key ++ List.replicate (64 - key.length) 0
  sha256 (k.map (· ^^^ 0x5C) ++ sha256 (k.map (· ^^^ 0x36) ++ bs))

/-- A tag of 128 bits as six words: bytes 0-14 three per word, byte 15 in the sixth (R94). -/
def tagWords (bs : List Nat) : List Nat :=
  (List.range 5).map (fun i => ofBytes ((bs.drop (3 * i)).take 3)) ++ [bs.getD 15 0]

/-- The tag of words under a key (R94, R183). -/
def wordTag (key ws : List Nat) : List Nat := tagWords ((hmac key (wordBytes ws)).take 16)

/-! AES-256. -/

/-- Multiplication by x in the field of AES. -/
def gfDouble (a : Nat) : Nat := if 128 ≤ a then (2 * a % 256) ^^^ 0x1B else 2 * a

/-- The substitution of AES (FIPS 197): 64 bytes to a constant, entry 0 lowest. -/
def aesSub (a : Nat) : Nat :=
  (match a / 64 with
    | 0 => 0x75b227ebe28012079a059618c323c7041531d871f1e5a534ccf73f362693fdb7c072a49cafa2d4adf04759fa7dc982ca76abd7fe2b670130c56f6bf27b777c63
    | 1 => 0xd2f3ff1021dab6bcf5389d928f40a351a89f3c507f02f94585334d43fbaaefd0cf584c4a39becb6a5bb1fc20ed00d153842fe329b3d63b52a05a6e1b1a2c8309
    | 2 => 0x08ae7a65eaf4566ca94ed58d6d37c8e779e4959162acd3c25c2406490a3a32e0db0b5ede14b8ee4688902a22dc4f816073195d643d7ea7c41744975fec130ccd
    | _ => 0x16bb54b00f2d99416842e6bf0d89a18cdf2855cee9871e9b948ed9691198f8e19e1dc186b95735610ef6034866b53e708a8bbd4b1f74dde8c6b4a61c2e2578ba) / 256 ^ (a % 64) % 256

/-- The inverse substitution. -/
def aesUnsub (a : Nat) : Nat :=
  (match a / 64 with
    | 0 => 0x25d18b6d49a25b76b224d92866a12e084ec3fa420b954cee3d23c2a632947b54cbe9dec444438e3487ff2f9b8239e37cfbd7f3819ea340bf38a53630d56a0952
    | 1 => 0x6b8a130103bdafc1020f3fca8f1e2cd00645b3b80558e4f70ad3bc8c00abd890849d8da75746155edab9edfd5048706c92b6655dcc5ca4d41698688664f6f872
    | 2 => 0xf45acd78fec0db9a2079d2c64b3e56fc1bbe18aa0e62b76f89c5291d711af1476edf751ce837f9e28535ade72274ac9673e6b4f0cecff297eadc674f4111913a
    | _ => 0x7d0c2155631469e126d677ba7e042b17619953833cbbebc8b0f52aae4d3be0a0ef9cc9939f7ae52d0d4ab519a97f51605fec8027591012b131c7078833a8dd1f) / 256 ^ (a % 64) % 256

/-- Word `i` of the expanded key of AES-256, from the words before it, newest first. -/
def aesNextWord (i : Nat) (w : List (List Nat)) : List Nat :=
  let t := w.getD 0 []
  let t :=
    if i % 8 = 0 then
      List.zipWith (· ^^^ ·) ((t.drop 1 ++ t.take 1).map aesSub) [forUpTo (i / 8 - 1) (fun _ c => gfDouble c) 1, 0, 0, 0]
    else if i % 8 = 4 then t.map aesSub else t
  List.zipWith (· ^^^ ·) (w.getD 7 []) t

/-- The 15 round keys of AES-256, 16 bytes each. -/
def aesKeys (key : List Nat) : List (List Nat) :=
  let w0 := (List.range 8).map (fun i => (key.drop (4 * i)).take 4)
  let ws := (forUpTo 52 (fun i w => aesNextWord (8 + i) w :: w) w0.reverse).reverse
  (List.range 15).map (fun r => ((ws.drop (4 * r)).take 4).flatten)

/-- Inverse row shift of AES. -/
def aesUnshift (b : List Nat) : List Nat := (List.range 16).map (fun i => b.getD ((i + 16 * 4 - 4 * (i % 4)) % 16) 0)

/-- A byte times 14, 11, 13 and 9 in the field of AES, from its doubles. -/
def gfTimes (x : Nat) : List Nat :=
  let a := gfDouble x
  let b := gfDouble a
  let c := gfDouble b
  [a ^^^ b ^^^ c, x ^^^ a ^^^ c, x ^^^ b ^^^ c, x ^^^ c]

/-- Inverse mix of a column of AES. -/
def aesUnmixColumn (b : List Nat) : List Nat :=
  match b.map gfTimes with
  | [[a0, a1, a2, a3], [b0, b1, b2, b3], [c0, c1, c2, c3], [d0, d1, d2, d3]] =>
    [a0 ^^^ b1 ^^^ c2 ^^^ d3, a3 ^^^ b0 ^^^ c1 ^^^ d2, a2 ^^^ b3 ^^^ c0 ^^^ d1, a1 ^^^ b2 ^^^ c3 ^^^ d0]
  | _ => b

/-- Inverse column mix of AES. -/
def aesUnmix (b : List Nat) : List Nat := (List.range 4).flatMap (fun i => aesUnmixColumn ((b.drop (4 * i)).take 4))

/-- Decryption of one block under the round keys of AES-256. -/
def aesDecrypt (ks : List (List Nat)) (block : List Nat) : List Nat :=
  let xk (r : Nat) (b : List Nat) := List.zipWith (· ^^^ ·) b (ks.getD r [])
  let b := (List.range 13).foldl (fun b i => aesUnmix (xk (13 - i) ((aesUnshift b).map aesUnsub))) (xk 14 block)
  xk 0 ((aesUnshift b).map aesUnsub)

/-- Key unwrapping of RFC 3394 for a wrapped key of 40 bytes: the 32 bytes of the key, or none when the check value is wrong. -/
def keyUnwrap (kek wrapped : List Nat) : Option (List Nat) :=
  let ks := aesKeys kek
  let a0 := wrapped.take 8
  let r0 := (List.range 4).map (fun i => (wrapped.drop (8 + 8 * i)).take 8)
  let step (p : List Nat × List (List Nat)) (k : Nat) : List Nat × List (List Nat) :=
    let t := 24 - k
    let i := (t - 1) % 4
    let x := List.zipWith (· ^^^ ·) p.1 (leBytes t 8).reverse
    let b := aesDecrypt ks (x ++ p.2.getD i [])
    (b.take 8, p.2.set i (b.drop 8))
  let e := (List.range 24).foldl step (a0, r0)
  if e.1 = List.replicate 8 0xA6 then some e.2.flatten else none

end Sys2Proof.Machine
end

