-- ==== Sys2Proof/Machine/Access.lean ====
section
/-! DEFINITION. Finding the register at a BAR0 address (R30 to R32), its fields, and the staging of ST fields (R50 to R53). -/

namespace Sys2Proof.Machine

open Sys2Proof

/-- Address of offset `off` in the view of a die (R30). -/
def dieAt (d off : Nat) : Nat := 0x800000 + 0x100000 * d + off

/-- The die whose view holds an address, or none for the package view (R30, R31). -/
def addrDie (a : Nat) : Option Nat := if a < 0x800000 then none else some ((a - 0x800000) / 0x100000)

/-- The number of the block at an address, within its view. -/
def addrBlock (a : Nat) : Nat := if a < 0x800000 then a / 0x10000 else (a - 0x800000) % 0x100000 / 0x10000

/-- The die in whose staging buffer the fields of a register stand: D0 for the package view (R51). -/
def stageDie (a : Nat) : Nat := (addrDie a).getD 0

/-- The index values with which a row of a register table lies at an offset. -/
def RDesc.at? (r : RDesc) (off : Nat) : Bool :=
  if off < r.off then false
  else match r.dims with
    | [] => off = r.off
    | [(s, c)] => (off - r.off) % s = 0 && (off - r.off) / s < c
    | (s, c) :: (s', c') :: _ =>
      (off - r.off) / s < c && (off - r.off) % s % s' = 0 && (off - r.off) % s / s' < c'

/-- The registers of the block at an address. -/
def blockRegs (a : Nat) : List RDesc :=
  match addrDie a with
  | none => pkgRegs (a / 0x10000)
  | some _ => dieRegs (addrBlock a)

/-- Registers of LNP that act only in D0's view (R341). -/
def onlyD0 (a : Nat) : Bool := 0x900000 ≤ a && addrBlock a = 3 && 0x200 ≤ a % 0x10000

/-- The row of the register tables at an address, when a register lies there. -/
def regAt (a : Nat) : Option RDesc := if onlyD0 a then none else (blockRegs a).find? (fun r => r.at? (a % 0x10000))

/-- The fields of the register at an address; none where no register lies. -/
def fieldsAt (a : Nat) : List FDesc := ((regAt a).map RDesc.fields).getD []

/-- The description of the field listed under a number. -/
def fieldOf (key : Nat) : Option FDesc := (fieldsAt (key / 32)).find? (fun f => f.lo = key % 32)

/-- A field of a register at an address. -/
def FDesc.fld (f : FDesc) (a : Nat) : Fld := ⟨a, f.lo, f.width, f.reset⟩

/-- The address is in a reserved range or in the view of a die that is not fitted (R3, R32). -/
def State.absent (s : State) (a : Nat) : Bool :=
  match addrDie a with
  | none => a / 0x10000 = 0xF || 0x11 ≤ a / 0x10000
  | some d => s.dies ≤ d || 0xE ≤ addrBlock a

/-- The ring whose registers lie at an address of the QUE block (R201). -/
def ringOf (a : Nat) : Nat := a % 0x400 / 4

/-- The address is that of a register of a ring beyond the fitted dies, which reads 0 (R201). -/
def State.ringless (s : State) (a : Nat) : Bool := a / 0x10000 = 5 && 32 * s.dies ≤ ringOf a

/-- A register at an address of the QUE block is held while its ring is not OFF (R177, R201): QUE_BASE, and the DEPTH field of QUE_CTL. -/
def State.ringHolds (s : State) (a lo : Nat) : Bool :=
  a / 0x10000 = 5 && s.rd (F.QUE_CTL_STATE (ringOf a)) != 0 &&
    ((a % 0x10000 < 0x400 && lo = 12) || (0x400 ≤ a % 0x10000 && a % 0x10000 < 0x800))

/-- What a field takes when a value is written (the range of its table row). -/
def Clamp.cut (c : Clamp) (v : Nat) : Nat :=
  match c with
  | .none => v
  | .atLeast n => max n v
  | .between lo hi => min hi (max lo v)
  | .orElse lo hi d => if lo ≤ v && v ≤ hi then v else d

/-- The value a field takes from a word written to its register. -/
def FDesc.from (f : FDesc) (w : Nat) : Nat := f.clamp.cut (bits w f.lo f.width)

/-- A field is staged: its type is ST. -/
def FDesc.isST (f : FDesc) : Bool := f.kind = .st || f.kind = .stp || f.kind = .enst || f.kind = .enstp

/-! Staging. -/

/-- Changes the epoch state. -/
def State.onEpoch (s : State) (f : Epoch → Epoch) : State := { s with epoch := f s.epoch }

/-- Distinct fields staged for a die (R52). -/
def State.stagedCount (s : State) (d : Nat) : Nat := (s.epoch.stage.filter (fun e => e.die = d)).length

/-- Puts a value into a die's staging buffer: it replaces a value staged earlier for the same field; on a full buffer the write is
discarded, the die's STAGE_OVF bit is set and 0x0242 is recorded once per commit (R51, R52). -/
def State.stageOn (s : State) (d key v : Nat) : State :=
  if s.epoch.stage.any (fun e => e.die = d ∧ e.key = key) then
    s.onEpoch fun e => { e with stage := e.stage.map (fun x => if x.die = d ∧ x.key = key then { x with val := v } else x) }
  else if s.stagedCount d < 1024 then s.onEpoch fun e => { e with stage := e.stage ++ [⟨d, key, v⟩] }
  else
    let ovf := s.rd F.EPOCH_QSTAT_STAGE_OVF
    let s := (s.wr F.EPOCH_QSTAT_STAGE_OVF (setBit ovf d)).inc (F.DIE_ERR_STAGE_DROP d)
    if ovf = 0 then s.event d 0x0242 [] else s

/-- What an ST field reads in the STAGED view: the value staged, else the value of the last accepted commit that touched it, else
the effective value (R10, R53). -/
def State.stagedValue (s : State) (f : Fld) : Nat :=
  match s.epoch.stage.find? (fun e => e.key = f.key) with
  | some e => e.val
  | none => (tget? s.staged f.key).getD (s.rd f)

end Sys2Proof.Machine
end

