-- ==== Sys2Proof/Machine/Service.lean ====
section
/-! DEFINITION. Which blocks are in service at a stage, and what an access does to a block that is not (R133). -/

namespace Sys2Proof.Machine

open Sys2Proof

/-- The stage of the die whose view holds an address; the package stage for the package view (R133). -/
def State.stageAt (s : State) (a : Nat) : Nat :=
  match addrDie a with
  | none => s.rd F.BOOT_STAT_STAGE
  | some d => s.rd (F.DIE_STAT_STAGE d)

/-- An axis stands in AXES of the boot block (R135). -/
def State.bootAxis (s : State) (x : Nat) : Bool := bit (s.boot.block.getD 2 0 + 2 ^ 24 * s.boot.block.getD 3 0) x

/-- A WEB register of FBK, which stands in every die's view: FBK_CTL_4 and FBK_CFG_4 (R291). -/
def webFields (a : Nat) : Bool := (addrDie a).isSome && addrBlock a = 7 && (a % 0x10000 = 0x100 || a % 0x10000 = 0x104)

/-- The stage from which the register at an address is in service (R133). Which registers of LAN serve the identity reads, and which of LNP
tickle and Speedwell printing, is read from their purposes: of LAN the group states and serial numbers; of LNP the tickle settings and
pulses, the group states, and what the heads report (DEDUCED, notes/assumptions/132). -/
def neededStage (a : Nat) : Nat :=
  match addrDie a with
  | none =>
    let b := a / 0x10000
    if b = 4 || b = 5 then 6
    else if b = 6 || b = 9 || (0xC ≤ b && b ≤ 0xE) then 7
    else 2
  | some _ =>
    let b := addrBlock a
    let o := a % 0x10000
    if b = 8 then 5
    else if b = 4 then (if (0x20 ≤ o && o < 0x40) || (0xA0 ≤ o && o < 0xE0) then 2 else 4)
    else if b = 3 then (if (0x60 ≤ o && o < 0xA0) || (0xC0 ≤ o && o < 0x180) then 2 else 7)
    else if b = 1 || b = 2 || b = 5 || b = 7 || b = 0xA || b = 0xC then 7
    else 2

/-- The local axis whose registers an offset of the MOT block belongs to, settings at 0x80n and status at 0x400 + 0x40n (R450). -/
def axisOfOffset (o : Nat) : Option Nat :=
  if o < 0x200 then some (o / 0x80) else if 0x400 ≤ o && o < 0x500 then some ((o - 0x400) / 0x40) else none

/-- The register at an address is in service: its block is, and before FULL service an axis only when it stands in AXES (R133, R134). -/
def State.inService (s : State) (a : Nat) : Bool :=
  decide (neededStage a ≤ s.stageAt a) &&
    (match addrDie a with
      | none => true
      | some d => addrBlock a != 6 || s.stageAt a = 7 || (axisOfOffset (a % 0x10000)).all (fun n => s.bootAxis (4 * d + n)))

/-- A write to a block not yet in service is discarded and counted (R133, R34). -/
def State.tooEarly (s : State) (a : Nat) : State :=
  let s := s.inc F.BOOT_EARLY_VALUE
  match addrDie a with
  | none => s
  | some d => s.inc (F.DIE_ERR_EARLY d)

/-- What a write to the register at an address comes to: its effect, or a discard. -/
def State.served (s : State) (a : Nat) (t : State) : State := if s.inService a then t else s.tooEarly a

/-- What a read of the register at an address comes to: its effect, or the reset values without any (R9, R133). -/
def State.servedRead (s : State) (a : Nat) (blank : List Nat) (t : State) : State :=
  if s.inService a then t else s.onHost fun h => { h with readData := blank }

end Sys2Proof.Machine
end

