-- ==== Sys2Proof/Machine/Memory.lean ====
section
/-! DEFINITION. The bytes of the shared window (R152, R158): a list of address and byte with rising addresses and no entry equal
to what an unlisted address reads as. -/

namespace Sys2Proof.Machine

open Sys2Proof

/-- What a byte of SDRAM that nothing has written reads as (DESIGN CHOICE, notes/assumptions/5). -/
def memDefault : Byte := 0

/-- The byte at an address. -/
def memGet (m : List Host.Cell) (a : Nat) : Byte := tget m a memDefault

/-- Takes an address off a rising list. -/
def memDrop (m : List Host.Cell) (a : Nat) : List Host.Cell :=
  match m with
  | [] => []
  | (k, v) :: r => if a = k then r else if a < k then (k, v) :: r else (k, v) :: memDrop r a

/-- Writes one byte; writing what an unlisted address reads as takes the entry off. -/
def memSet (m : List Host.Cell) (a : Nat) (b : Byte) : List Host.Cell := if b = memDefault then memDrop m a else tset m a b

/-- Writes bytes from an address up. -/
def memWrite (m : List Host.Cell) (a : Nat) (bs : List Byte) : List Host.Cell :=
  match bs with
  | [] => m
  | b :: r => memWrite (memSet m a b) (a + 1) r

/-- Reads `n` bytes from an address up. -/
def memRead (m : List Host.Cell) (a n : Nat) : List Byte := (List.range n).map (fun i => memGet m (a + i))

/-- Clears `n` bytes from an address up. -/
def memClear (m : List Host.Cell) (a n : Nat) : List Host.Cell := m.filter (fun c => c.1 < a || a + n ≤ c.1)

/-- The canonical form: addresses rise, and no entry equals what an unlisted address reads as. -/
def Memory.wf (m : List Host.Cell) : Bool :=
  match m with
  | [] => true
  | (k, v) :: r => v != memDefault && (match r with
    | [] => true
    | (k', _) :: _ => decide (k < k')) && Memory.wf r

/-- Bytes in a 64 KiB unit. -/
def unitBytes : Nat := 65536

/-- 64 KiB units in the slice of one die (R158). -/
def State.sliceUnits (s : State) : Nat := 1048576 / s.dies

/-- A unit of the window lies in the backed part of its slice (R158). -/
def State.backed (s : State) (unit : Nat) : Bool :=
  decide (unit % s.sliceUnits < s.rd (F.WIN_BACKED_UNITS (unit / s.sliceUnits)))

/-- Changes the window's bytes. -/
def State.onMem (s : State) (f : List Host.Cell → List Host.Cell) : State := { s with mem := f s.mem }

/-- Bytes as the memory holds them. -/
def toBytes (ns : List Nat) : List Byte := ns.map (BitVec.ofNat 8)

/-- Stores words, each in a little-endian slot of 32 bits (R5). -/
def State.storeWords (s : State) (a : Nat) (ws : List Nat) : State :=
  s.onMem fun m => memWrite m a (toBytes (ws.flatMap (fun w => leBytes w 4)))

/-- Loads a word from its slot of 32 bits; the high byte is ignored (R5). -/
def State.loadWord (s : State) (a : Nat) : Nat := ofBytes ((memRead s.mem a 3).map BitVec.toNat)

/-- Loads words. -/
def State.loadWords (s : State) (a n : Nat) : List Nat := (List.range n).map (fun i => s.loadWord (a + 4 * i))

/-- Loads bytes. -/
def State.loadBytes (s : State) (a n : Nat) : List Nat := (memRead s.mem a n).map BitVec.toNat

/-- MEM clocks in a SENSE period at the set-point in use: half the data rate over 200 MHz (R451, R467). -/
def State.memClocks (s : State) (d : Nat) : Nat := [16, 12, 8, 4].getD (s.rd (F.MEM_STAT_SP d)) 16

/-- The row that a bank has open: that of its last access, until the bank has been idle for IDLE MEM clocks (R455). -/
def State.openRow (s : State) (d b : Nat) : Option Nat :=
  match tget? s.sdram.rows (128 * d + b) with
  | none => none
  | some (row, t0) => if s.rd (F.MEM_PAGE_IDLE d) ≤ (s.clk - t0) * s.memClocks d then none else some row

/-- An access to a die address opens its row, in place of another one of its bank, which closes at once (R455). -/
def State.memAccess (s : State) (d a : Nat) : State :=
  let k := 128 * d + (Config.bankOf a).toNat
  { s with sdram := { s.sdram with rows := tset s.sdram.rows k ((Config.rowOf a).toNat, s.clk) } }

/-- Closes the rows of banks that a test names, by 128 x die + bank. -/
def State.closeRows (s : State) (f : Nat → Bool) : State :=
  { s with sdram := { s.sdram with rows := s.sdram.rows.filter (fun e => !f e.1) } }

/-- The accesses of `n` bytes of the window from an address up, one for each 64 bytes (R451). -/
def State.memTouch (s : State) (a n : Nat) : State :=
  forUpTo (ceilDiv (a % 64 + n) 64) (fun k s =>
    let x := a / 64 * 64 + 64 * k
    s.memAccess (x / (unitBytes * s.sliceUnits)) (x % (unitBytes * s.sliceUnits))) s

/-- Stores bytes. -/
def State.storeBytes (s : State) (a : Nat) (bs : List Nat) : State := s.onMem fun m => memWrite m a (toBytes bs)

end Sys2Proof.Machine
end

