-- ==== Sys2Proof/Machine/WindowOps.lean ====
section
/-! DEFINITION. The buffer table (R158 to R169) and the rings (R170 to R181). -/

namespace Sys2Proof.Machine

open Sys2Proof

/-- An undefined buffer of generation 0 (R169). -/
def Buf.none : Buf := ⟨0, 0, .undef, 0, false, 0⟩

/-- The entry of a buffer. -/
def State.buf (s : State) (i : Nat) : Buf := tget s.win.bufs i Buf.none

/-- Changes a buffer's entry. -/
def State.setBuf (s : State) (i : Nat) (b : Buf) : State := s.onWin fun w => { w with bufs := tset w.bufs i b }

/-- The generation after another: 0x01 to 0xFF and then 0x01 again (R160). -/
def nextGen (g : Nat) : Nat := if g < 255 then g + 1 else 1

/-- Home die of a buffer (R159). -/
def State.home (s : State) (b : Buf) : Nat := b.base / s.sliceUnits

/-- First byte of a buffer in the window. -/
def Buf.addr (b : Buf) : Nat := b.base * unitBytes

/-- Length of a buffer in bytes. -/
def Buf.bytes (b : Buf) : Nat := b.len * unitBytes

/-- State of a buffer as WIN_INFO_2 codes it. -/
def BufState.code (b : BufState) : Nat :=
  match b with
  | .undef => 0
  | .host => 1
  | .device => 2
  | .reclaiming => 3

/-- The defined buffer in which a unit of the window lies. -/
def State.bufAt (s : State) (unit : Nat) : Option (Nat × Buf) :=
  s.win.bufs.find? (fun e => e.2.st != .undef && e.2.base ≤ unit && unit < e.2.base + e.2.len)

/-- Rings of the fitted dies. -/
def State.ringCount (s : State) : Nat := 32 * s.dies

/-- A buffer is bound: it is the storage of a ring that is not OFF (R177). -/
def State.bound (s : State) (i : Nat) : Bool :=
  (List.range s.ringCount).any (fun q => s.rd (F.QUE_CTL_STATE q) != 0 && s.rd (F.QUE_BASE_INDEX q) = i)

/-- What a new reference by index and generation finds (R160, R161): 0 accepted, 3 STALE, 4 not owned by the device, 5 in
RECLAIMING; as STATUS of a DONE record codes them. -/
def State.refStatus (s : State) (i gen : Nat) : Nat :=
  let b := s.buf i
  if b.gen != gen || gen = 0 then 3
  else match b.st with
    | .device => 0
    | .reclaiming => 5
    | _ => 4

/-- A use takes hold of a buffer; a GIVE has taken effect by then (R162). -/
def State.hold (s : State) (i : Nat) : State := s.setBuf i { s.buf i with uses := (s.buf i).uses + 1, atHome := true }

/-- A use lets go of a buffer without its release point; a buffer in RECLAIMING without another reference waits for the next release
scan (R164). -/
def State.letGo (s : State) (i : Nat) : State :=
  (s.setBuf i { s.buf i with uses := (s.buf i).uses - 1 }).onWin fun w =>
    { w with scan := w.scan || (decide ((s.buf i).st = .reclaiming) && decide ((s.buf i).uses ≤ 1)) }

/-! Window operations (R161, R167). -/

/-- Writes an operation's outcome to WIN_RESULT; a rejected one is counted, causes D0 source 23 and records 0x0410 (R167). -/
def State.winResult (s : State) (i op status : Nat) : State :=
  let s := ((s.wr F.WIN_RESULT_INDEX i).wr F.WIN_RESULT_OP op).wr F.WIN_RESULT_STATUS status
  if status = 0 then s
  else ((s.inc F.WIN_REJECTS_COUNT).event 0 0x0410 [i % 2 ^ 16 + 2 ^ 16 * (op % 8) + 2 ^ 19 * status]).cause 23

/-- What a DEFINE finds, in the order of R161. -/
def State.defineStatus (s : State) (i : Nat) : Nat :=
  let base := s.rd F.WIN_DEF_BASE_UNITS
  let len := s.rd F.WIN_DEF_LEN_UNITS
  if (s.buf i).st != .undef then 2
  else if len = 0 then 10
  else if base / s.sliceUnits != (base + len - 1) / s.sliceUnits then 9
  else if !s.backed (base + len - 1) then 10
  else if s.win.bufs.any (fun e => e.2.st != .undef && base < e.2.base + e.2.len && e.2.base < base + len) then 8
  else if s.rd (F.DIE_STAT_STAGE (base / s.sliceUnits)) < 6 then 11
  else 0

/-- What a GIVE, RECLAIM or UNDEFINE finds before the outcome of its state, in the order of R161. -/
def State.opStatus (s : State) (i gen : Nat) : Nat :=
  let b := s.buf i
  if b.st = .undef then 1
  else if b.gen != gen then 3
  else if s.bound i then 7
  else 0

/-! Rings. -/

/-- What a ring keeps beside its registers. -/
def State.ring (s : State) (q : Nat) : Ring := tget s.win.rings q ⟨0, []⟩

/-- Changes a ring. -/
def State.setRing (s : State) (q : Nat) (r : Ring) : State := s.onWin fun w => { w with rings := tset w.rings q r }

/-- A ring is device to host: bit 2 of its type (R170). -/
def State.ringToHost (s : State) (q : Nat) : Bool := bit (s.rd (F.QUE_CTL_TYPE q)) 2

/-- Entries of a ring. -/
def State.ringSize (s : State) (q : Nat) : Nat := 2 ^ s.rd (F.QUE_CTL_DEPTH q)

/-- The image gives the ring (R171). -/
def State.ringUsed (s : State) (q : Nat) : Bool :=
  (List.range (s.ld.current.rings.length / 2)).any (fun i => bits (s.ld.current.rings.getD (2 * i) 0) 8 8 = q)

/-- Address of entry `i` of a ring (R173). -/
def State.entryAddr (s : State) (q i : Nat) : Nat :=
  (s.buf (s.rd (F.QUE_BASE_INDEX q))).addr + 64 * (i % s.ringSize q)

/-- A ring cannot start: it is unused, its buffer is stale, in the wrong state or slice, or too small (R171, R173, R178). -/
def State.ringStartFails (s : State) (q : Nat) : Bool :=
  let b := s.buf (s.rd (F.QUE_BASE_INDEX q))
  !s.ringUsed q || b.gen != s.rd (F.QUE_BASE_GEN q) || b.gen = 0 || s.home b != q / 32 || b.bytes < 64 * s.ringSize q
    || b.st != (if s.ringToHost q then BufState.device else BufState.host)

/-- A ring starts: indices 0, the storage of a device-to-host ring zeroed (R178). The numbers by which the Rangar tells the entries of a
host-to-device ring apart go on. -/
def State.ringStarted (s : State) (q : Nat) : State :=
  let total := if s.ringToHost q then 0 else (s.ring q).total
  let s := ((s.setRing q ⟨total, []⟩).wr (F.QUE_DB_INDEX q) 0).wr (F.QUE_IDX_INDEX q) 0
  if s.ringToHost q then s.onMem fun m => memClear m (s.entryAddr q 0) (64 * s.ringSize q) else s

/-- Causes a ring's source (R180). -/
def State.ringSource (s : State) (q : Nat) : State := s.causeAt (q / 32) (64 + q % 32)

/-- A refused doorbell is counted and recorded (R174, R180). -/
def State.dbErr (s : State) (q v : Nat) : State :=
  let s := (s.inc (F.QUE_ERR_DB_ERR q)).event (q / 32) 0x0420 [q, v]
  if s.ringToHost q then s else s.ringSource q

/-- A write to QUE_BASE of a ring that is not OFF is counted (R177, R180). -/
def State.baseErr (s : State) (q : Nat) : State :=
  let s := s.inc (F.QUE_ERR_DB_ERR q)
  if s.ringToHost q then s else s.ringSource q

/-- A record that finds no room is lost (R179). -/
def State.ringLost (s : State) (q : Nat) : State := (s.inc (F.QUE_ERR_LOST q)).eventOnce (q / 32) 0x0421 q []

/-- Room in a device-to-host ring: producer less consumer index below the size (R174). -/
def State.ringRoom (s : State) (q : Nat) : Bool :=
  decide ((s.rd (F.QUE_IDX_INDEX q) + 65536 - s.rd (F.QUE_DB_INDEX q)) % 65536 < s.ringSize q)

/-- Writes an entry at the producer index and advances it; PHASE is 1 on even passes (R172, R179, R180). -/
def State.putEntry (s : State) (q kind : Nat) (body : List Nat) : State :=
  let r := s.ring q
  let phase := nat ((r.total / s.ringSize q) % 2 = 0)
  let w0 := kind + 2 ^ 8 * body.length + 2 ^ 23 * phase
  let i := s.rd (F.QUE_IDX_INDEX q)
  let s := s.storeWords (s.entryAddr q i) (w0 :: (List.range 15).map (fun k => body.getD k 0))
  ((s.setRing q { r with total := r.total + 1 }).wr (F.QUE_IDX_INDEX q) (i + 1)).ringSource q

/-- Records in a reserve. -/
def reserved (l : List Reserved) : Nat :=
  (l.filter (fun x => match x with
    | .record _ _ => true
    | .lost _ => false)).length

/-- Counts a dropped entry behind what stands in the reserve. -/
def noteLost (l : List Reserved) : List Reserved :=
  match l.getLast? with
  | some (.lost n) => l.dropLast ++ [.lost (n + 1)]
  | _ => l ++ [.lost 1]

/-- A record reaches its ring (R179): written, held in the reserve behind earlier ones while that has room, or dropped. -/
def State.ringPost (s : State) (q kind : Nat) (body : List Nat) : State :=
  if s.rd (F.QUE_CTL_STATE q) != 2 || !s.ringToHost q || s.ringCount ≤ q then s.ringLost q
  else
    let r := s.ring q
    if r.reserve.isEmpty && s.ringRoom q then s.putEntry q kind body
    else if reserved r.reserve < 16 then s.setRing q { r with reserve := r.reserve ++ [.record kind body] }
    else (s.setRing q { r with reserve := noteLost r.reserve }).ringLost q

/-- As space appears, what stands in the reserve is written in its order, the dropped entries as one LOST record, which ends their
episode (R179). -/
def State.drainRing (s : State) (q fuel : Nat) : State :=
  match fuel with
  | 0 => s
  | n + 1 =>
    let r := s.ring q
    if !s.ringRoom q then s
    else match r.reserve with
      | .record k b :: rest => ((s.setRing q { r with reserve := rest }).putEntry q k b).drainRing q n
      | .lost m :: rest => (((s.setRing q { r with reserve := rest }).putEntry q 7 [m]).endEpisode 0x0421 q).drainRing q n
      | [] => s

/-- Words 1 up of a DONE record: its length is fixed by the answered kind (R181). -/
def doneLen (kind status : Nat) : Nat :=
  if kind = 0 || status = 1 then 2 else if 0x20 ≤ kind && kind ≤ 0x23 then 6 else 7

/-- Answers an entry in hand: its DONE record goes to the ring that QUE_ANS names (R171, R176, R181). -/
def State.answer (s : State) (e : Entry) (status : Nat) (extra : List Nat) : State :=
  let kind := bits (e.words.getD 0 0) 0 8
  let s := s.onWin fun w => { w with entries := w.entries.filter (fun x => !(x.ring = e.ring ∧ x.seq = e.seq)) }
  if s.on (F.QUE_ANS_EN e.ring) then
    let body := [e.words.getD 1 0, kind + 2 ^ 8 * e.ring + 2 ^ 16 * status] ++ extra ++ [0, 0, 0, 0, 0]
    s.post (s.rd (F.QUE_ANS_RING e.ring)) 3 (body.take (doneLen kind status))
  else s

/-- A bad entry is counted and recorded, and answered (R176, R180). -/
def State.badEntry (s : State) (e : Entry) (status : Nat) : State :=
  (((s.inc (F.QUE_ERR_ENTRY_BAD e.ring)).event (e.ring / 32) 0x0422 []).ringSource e.ring).answer e status []

/-- KIND of an entry (R172). -/
def Entry.kind (e : Entry) : Nat := bits (e.words.getD 0 0) 0 8

/-- The oldest entry in hand of a ring that has not begun, when its kind is one of `kinds`: the commands of a ring begin in its order
(R175, R252). A NOP waits beside them (R176). -/
def State.entryOf (s : State) (q : Nat) (kinds : List Nat) : Option Entry :=
  match s.win.entries.find? (fun e => e.ring = q && !e.begun && decide ((e.kind = 0) ↔ kinds.contains 0)) with
  | some e => if kinds.contains e.kind then some e else none
  | none => none

/-- Marks an entry as begun: it is answered later. -/
def State.beginEntry (s : State) (e : Entry) : State :=
  s.onWin fun w => { w with entries := w.entries.map (fun x => if x.ring = e.ring ∧ x.seq = e.seq then { x with begun := true } else x) }

end Sys2Proof.Machine
end

