-- ==== Sys2Proof/Machine/AuthOps.lean ====
section
/-! DEFINITION. Command envelopes: their form, the checks of R186 and the AUTH_RESULT record (R182 to R193). -/

namespace Sys2Proof.Machine

open Sys2Proof

/-- Changes the state of command authentication. -/
def State.onAuth (s : State) (f : Auth → Auth) : State := { s with auth := f s.auth }

/-- Changes the Ethernet port. -/
def State.onEth (s : State) (f : Eth → Eth) : State := { s with eth := f s.eth }

/-- The number of ones in the low `n` bits. -/
def ones (w n : Nat) : Nat := forUpTo n (fun i c => c + nat (bit w i)) 0

/-- A slot carries the fixed pattern and odd parity (R184). -/
def parityOk (slot : Nat) : Bool := bits slot 25 7 = 0b1010101 && ones slot 25 % 2 = 1

/-- Word `i` of an envelope: the slot without its high byte (R183). -/
def envWord (env : List Nat) (i : Nat) : Nat := env.getD i 0 % 2 ^ 24

/-- OPCODE of an envelope. -/
def envOpcode (env : List Nat) : Nat := bits (envWord env 1) 0 8

/-- SLOT of an envelope. -/
def envSlot (env : List Nat) : Nat := bits (envWord env 1) 8 3

/-- LEN of an envelope. -/
def envLen (env : List Nat) : Nat := bits (envWord env 1) 16 6

/-- COUNTER of an envelope. -/
def envCounter (env : List Nat) : Nat := envWord env 2 + 2 ^ 24 * (envWord env 3 % 256)

/-- Payload of an envelope. -/
def envPayload (env : List Nat) : List Nat := (List.range (envLen env)).map (fun i => envWord env (5 + i))

/-- The payload length of an opcode, when it is known (R182, R557). -/
def opcodeLen (op : Nat) : Option Nat :=
  match op with
  | 0x01 => some 4
  | 0x02 => some 15
  | 0x03 => some 4
  | 0x04 => some 3
  | 0x05 => some 3
  | 0x06 => some 1
  | 0x07 => some 16
  | 0x10 => some 1
  | 0x11 => some 1
  | 0x12 => some 6
  | 0x13 => some 17
  | 0x14 => some 3
  | 0x15 => some 5
  | 0x16 => some 3
  | 0x17 => some 2
  | 0x18 => some 48
  | 0x19 => some 22
  | 0x1A => some 0
  | 0x1B => some 14
  | 0x1C => some 2
  | 0x1D => some 0
  | _ => none

/-- The K-slot that an opcode requires (R182). -/
def opcodeSlot (op : Nat) : Nat :=
  match op with
  | 0x01 => 1
  | 0x02 => 5
  | 0x03 => 3
  | 0x04 => 3
  | 0x05 => 4
  | 0x06 => 6
  | 0x07 => 6
  | _ => 2

/-- Checks 2 and 3 of R186: parity of the words read, then MAGIC. -/
def envFormStatus (env : List Nat) : Nat :=
  if !(List.range (min (11 + envLen env) 64)).all (fun i => parityOk (env.getD i 0)) then 1
  else if envWord env 0 != 0x434D44 then 2
  else 0

/-- Checks 4 and 5 of R186: LEN, then OPCODE. -/
def envOpcodeStatus (env : List Nat) : Nat :=
  if 48 < envLen env then 3
  else match opcodeLen (envOpcode env) with
    | some n => if envLen env != n then 3 else 0
    | none => 4

/-- The tag of an envelope holds under a key (R183). -/
def envTagOk (env key : List Nat) : Bool :=
  wordTag key ((List.range (5 + envLen env)).map (envWord env)) = (List.range 6).map (fun i => envWord env (5 + envLen env + i))

/-- A counter of 32 bits in its pair of registers (R183). -/
def State.cnt (s : State) (k : Nat) : Nat := s.rdPair (F.AUTH_CNT_LO_VALUE k) (F.AUTH_CNT_HI_VALUE k)

/-- The stored mark of a K-slot. -/
def State.hwm (s : State) (k : Nat) : Nat := s.rdPair (F.AUTH_HWM_LO_VALUE k) (F.AUTH_HWM_HI_VALUE k)

/-- The nonce of MARK_SET (R191). -/
def State.nonce (s : State) : Nat := s.rdPair F.AUTH_NONCE_LO_NONCE F.AUTH_NONCE_HI_NONCE

/-- The status of an envelope: the first check of R186 that fails, or 0. The Rangar's own checks refuse every envelope that names
K-slot 2 (R185, R199). -/
def State.envStatus (s : State) (env : List Nat) : Nat :=
  let op := envOpcode env
  let k := envSlot env
  if s.on F.AUTH_STAT_BUSY then 11
  else if envFormStatus env != 0 then envFormStatus env
  else if envOpcodeStatus env != 0 then envOpcodeStatus env
  else if k != opcodeSlot op || k = 2 then 5
  else if !s.on (F.AUTH_SLOT_PROV k) then 12
  else if envWord env 4 != 0 && envWord env 4 != s.rd F.AUTH_UNIT_UNIT then 6
  else if s.on F.AUTH_STAT_LOCKED then 7
  else if s.on F.AUTH_STAT_HWM_BAD && op != 7 then 8
  else if !envTagOk env (tget s.auth.keys k []) then 9
  else if op = 7 then (if envCounter env = s.nonce then 0 else 10)
  else if envCounter env ≤ s.cnt k then 10
  else 0

/-- Words 1-11 of an AUTH_RESULT record (R193). -/
def State.authBody (s : State) (op slot counter status detail : Nat) (eth : Bool) : List Nat :=
  let tagged := s.on (F.AUTH_SLOT_PROV 0)
  let ws := [op + 2 ^ 8 * slot + 2 ^ 11 * status + 2 ^ 16 * nat eth + 2 ^ 18 * nat (!tagged), counter % 2 ^ 24,
    counter / 2 ^ 24, detail, s.rd F.AUTH_UNIT_UNIT]
  ws ++ (if tagged then wordTag (tget s.auth.keys 0 []) ws else List.replicate 6 0)

/-- The tag of frames sent: the VLAN tag of VID and PCP, or none (R33). -/
def State.ethTag (s : State) : Option Nat :=
  if s.on F.PKG_ETH_CTL_VLAN_EN then some (s.rd F.PKG_ETH_CTL_VID + 2 ^ 13 * s.rd F.PKG_ETH_CTL_PCP) else none

/-- Sends a reply. -/
def State.ethReply (s : State) (r : EthReply) : State := s.onEth fun e => { e with sent := ⟨s.ethTag, r⟩ :: e.sent }

/-- A reply of the management service (R199): the first eight bytes of the request, STATUS and words; bytes 9 to 11 are free values. -/
def State.mgmtReply (s : State) (head : List Nat) (status : Nat) (ws : List Nat) : State :=
  let (v, s) := s.draw 24
  s.ethReply (.mgmt (head ++ [status] ++ leBytes v 3 ++ ws.flatMap (fun w => leBytes w 4)))

/-- Posts the AUTH_RESULT record of an envelope, updates AUTH_STAT and causes D0 source 21 or 22 (R193); the management service
replies with the record's words (R199). -/
def State.authResult (s : State) (op slot counter status detail : Nat) (eth : Option (List Nat)) : State :=
  let body := s.authBody op slot counter status detail eth.isSome
  let s := (s.wr F.AUTH_STAT_STATUS status).wr F.AUTH_STAT_OPCODE op
  let s := if s.on F.AUTH_RES_RING_RING_EN then s.post (s.rd F.AUTH_RES_RING_RING) 4 body else s
  let s := s.cause (if status = 0 then 21 else 22)
  match eth with
  | none => s
  | some h => s.mgmtReply h 0 body

/-- Ends an accepted command with status DONE or REFUSED and a DETAIL (R193). -/
def State.cmdResult (s : State) (c : AuthCmd) (status detail : Nat) : State :=
  s.authResult c.opcode c.slot c.counter status detail c.eth

/-- Draws a new nonce (R191); its value is open. -/
def State.newNonce (s : State) : State :=
  let (v, s) := s.draw 32
  s.wrPair F.AUTH_NONCE_LO_NONCE F.AUTH_NONCE_HI_NONCE v

/-- A tag failure: recorded, counted, and the eighth within 1 s locks AUTH (R189, R192). -/
def State.tagFailed (s : State) : State :=
  let fails := s.clk :: s.auth.tagFails.filter (fun t => s.clk < t + 200000000)
  let s := ((s.event 0 0x0301 []).inc F.AUTH_TAG_FAIL_COUNT).life 0 36 1
  if 8 ≤ fails.length then ((s.onAuth fun a => { a with tagFails := [], lockedAt := s.clk }).wr F.AUTH_STAT_LOCKED 1).event 0 0x0304 []
  else s.onAuth fun a => { a with tagFails := fails }

/-- A refused envelope is recorded and counted as R192 says. -/
def State.envRefused (s : State) (st : Nat) : State :=
  if st = 9 then s.tagFailed
  else if st = 10 then (s.event 0 0x0302 []).inc F.AUTH_REPLAY_COUNT
  else if st = 7 || st = 8 || st = 11 then s
  else (s.event 0 0x0303 []).inc F.AUTH_MALFORMED_COUNT

/-- An accepted envelope: 0x0300 is recorded, the counter is taken, and when it exceeds the stored mark the new mark is written
before AUTH acts on the command (R187, R188, R192). -/
def State.envAccepted (s : State) (c : AuthCmd) : State :=
  let s := s.event 0 0x0300 [c.opcode + 2 ^ 8 * c.slot, c.counter % 2 ^ 24, c.counter / 2 ^ 24]
  if c.opcode = 7 then s.onAuth fun a => { a with acts := a.acts ++ [c] }
  else
    let s := s.wrPair (F.AUTH_CNT_LO_VALUE c.slot) (F.AUTH_CNT_HI_VALUE c.slot) c.counter
    if s.hwm c.slot < c.counter then (s.wr F.AUTH_STAT_BUSY 1).onAuth fun a => { a with marking := some c }
    else s.onAuth fun a => { a with acts := a.acts ++ [c] }

/-- An envelope is submitted, from BAR0 or from the Ethernet port (R185 to R193). -/
def State.submitEnv (s : State) (env : List Nat) (eth : Option (List Nat)) : State :=
  let st := s.envStatus env
  let op := envOpcode env
  let nonced := op = 7 && (st = 0 || st = 10)
  let s' :=
    if st = 0 then s.envAccepted ⟨op, envSlot env, envCounter env, envPayload env, eth⟩
    else (s.envRefused st).authResult op (envSlot env) (envCounter env) st 0 eth
  if nonced then s'.newNonce else s'

/-- The command that AUTH acts on next, when its opcode is the given one. -/
def State.authCmd (s : State) (op : Nat) : Option AuthCmd :=
  match s.auth.acts with
  | c :: _ => if c.opcode = op then some c else none
  | [] => none

/-- The oldest command has been acted on. -/
def State.authTaken (s : State) : State := s.onAuth fun a => { a with acts := a.acts.drop 1 }

end Sys2Proof.Machine
end

