-- ==== Sys2Proof/Machine/AuthCmds.lean ====
section
/-! DEFINITION. Commands and events of AUTH that no other chapter owns (R185 to R196). -/

namespace Sys2Proof.Machine

open Sys2Proof

/-- R185, R186: AUTH_SUBMIT copies the 64 slots of AUTH_ENV and checks the envelope. -/
def execAuthSubmit (t : Nat) (s : State) : Host.Outcome State Fault Refusal :=
  .next (s.served 0x30000 (let s := s.atTime t
         s.submitEnv ((List.range 64).map (fun i => tget s.auth.env i 0)) none))

/-- R189: the lock ends 1 s after it began. -/
def execAuthLockEnd (s : State) : Host.Outcome State Fault Refusal :=
  .next (if s.clk < s.auth.lockedAt + 200000000 then s else s.wr F.AUTH_STAT_LOCKED 0)

/-- R188: the new mark has been written to both copies; AUTH acts on the command. -/
def execAuthHwmWritten (s : State) : Host.Outcome State Fault Refusal :=
  .next (match s.auth.marking with
    | none => s
    | some c =>
      let m := min (c.counter + 4096) (2 ^ 32 - 1)
      let s := (s.wrPair (F.AUTH_HWM_LO_VALUE c.slot) (F.AUTH_HWM_HI_VALUE c.slot) m).wr F.AUTH_STAT_BUSY 0
      let s := s.onFlash fun f => { f with marks := f.marks.writeBoth (tset f.markTable c.slot m) }
      s.onAuth fun a => { a with marking := none, acts := a.acts ++ [c] })

/-- The key-encryption key of a rotation (R195). -/
def wrapKey (key : List Nat) : List Nat := hmac key [0x77, 0x72, 0x61, 0x70]

/-- R195: KEY_ROTATE is judged; an unwrapped key is being burned, and AUTH is BUSY meanwhile. -/
def execKeyRotate (s : State) : Host.Outcome State Fault Refusal :=
  .next (match s.authCmd 2 with
    | none => s
    | some c =>
      let s := s.authTaken
      let k := bits (c.payload.getD 0 0) 0 3
      if k = 2 then s.cmdResult c 5 0
      else match keyUnwrap (wrapKey (tget s.auth.keys 5 [])) ((wordBytes (c.payload.drop 1)).take 40) with
        | none => s.cmdResult c 13 1
        | some key =>
          if s.on (F.AUTH_SLOT_EXHAUSTED k) then s.cmdResult c 13 2
          else (s.wr F.AUTH_STAT_BUSY 1).onAuth fun a => { a with burning := some (k, key, c) })

/-- The burned key is the slot's current one; the generation before it is revoked (R194, R195). -/
def State.keyBurned (s : State) (k : Nat) (key : List Nat) : State :=
  let g := if s.on (F.AUTH_SLOT_PROV k) then s.rd (F.AUTH_SLOT_CUR k) + 1 else s.rd (F.AUTH_SLOT_CUR k)
  let s := ((s.wr (F.AUTH_SLOT_CUR k) g).wr (F.AUTH_SLOT_PROV k) 1).wr (F.AUTH_SLOT_EXHAUSTED k) (nat (3 ≤ g))
  (s.onAuth fun a => { a with keys := tset a.keys k key }).event 0 0x0305 [k + 2 ^ 3 * g]

/-- R195: the burn of a rotated key ends; when the OTP write fails the old key stays current. -/
def execKeyBurnDone (ok : Bool) (s : State) : Host.Outcome State Fault Refusal :=
  .next (match s.auth.burning with
    | none => s
    | some (k, key, c) =>
      let s := (s.wr F.AUTH_STAT_BUSY 0).onAuth fun a => { a with burning := none }
      if ok then (s.keyBurned k key).cmdResult c 0 0 else s.cmdResult c 13 3)

/-- R191: MARK_SET writes the marks of every K-slot but 2, or is refused with DETAIL 3. `written` tells whether the writes of
both copies succeed. -/
def execMarkSet (written : Bool) (s : State) : Host.Outcome State Fault Refusal :=
  .next (match s.authCmd 7 with
    | none => s
    | some c =>
      let s := s.authTaken
      if !s.on F.EVT_STAT_FLASH_OK || !written then s.cmdResult c 13 3
      else
        let mark (k : Nat) := c.payload.getD (2 * k) 0 + 2 ^ 24 * (c.payload.getD (2 * k + 1) 0 % 256)
        let s := forUpTo 8 (fun k s =>
          if k = 2 then s
          else (s.wrPair (F.AUTH_HWM_LO_VALUE k) (F.AUTH_HWM_HI_VALUE k) (mark k)).wrPair (F.AUTH_CNT_LO_VALUE k)
            (F.AUTH_CNT_HI_VALUE k) (mark k)) s
        let s := s.onFlash fun f => { f with marks := f.marks.writeBoth (forUpTo 8 (fun k t => if k = 2 then t else tset t k (mark k)) []) }
        ((s.wr F.AUTH_STAT_HWM_BAD 0).event 0 0x0307 []).cmdResult c 0 0)

end Sys2Proof.Machine
end

