-- ==== Sys2Proof/Machine/CommitOps.lean ====
section
/-! DEFINITION. Lines, consumers, and the capture, completion and cancelling of commits (R43 to R67). -/

namespace Sys2Proof.Machine

open Sys2Proof

/-- Line number of a die (R44, R46). -/
def State.dieLine (s : State) (d : Nat) : Nat := s.rdPair (F.DIE_LINE_LO_LINE d) (F.DIE_LINE_HI_LINE d)

/-- The package line number: D0's (R46). -/
def State.pkgLine (s : State) : Nat := s.dieLine 0

/-- The line number has been zeroed since reset (R47). -/
def State.lineValid (s : State) : Bool := s.on F.EPOCH_CTL_LINE_VALID

/-- The records of the bars in use: bar, pacer, delay (R101). -/
def Image.barList (m : Image) : List (Nat × Nat × Nat) :=
  (m.bars.filter (fun r => !bit (r.ws.getD 0 0) 21)).map
    (fun r => (bits (r.ws.getD 0 0) 8 4, bits (r.ws.getD 0 0) 0 5, r.ws.getD 1 0))

/-- The records of the cameras in use: camera, delay (R101). -/
def Image.camList (m : Image) : List (Nat × Nat) :=
  (m.bars.filter (fun r => bit (r.ws.getD 0 0) 21)).map (fun r => (bits (r.ws.getD 0 0) 0 3, r.ws.getD 1 0))

/-- The bar that a line pacer serves. -/
def Image.barOf (m : Image) (p : Nat) : Option Nat := (m.barList.find? (fun r => r.2.1 = p)).map (·.1)

/-- The line pacer of a bar. -/
def Image.pacerOf (m : Image) (b : Nat) : Option Nat := (m.barList.find? (fun r => r.1 = b)).map (·.2.1)

/-- Delay of the bar on a pacer; 0 without one (R49). -/
def Image.pacerDelay (m : Image) (p : Nat) : Nat := ((m.barList.find? (fun r => r.2.1 = p)).map (·.2.2)).getD 0

/-- Delay of a camera (R49). -/
def Image.camDelay (m : Image) (c : Nat) : Nat := ((m.camList.find? (fun r => r.1 = c)).map (·.2)).getD 0

/-- The greatest bar delay, D_max (R217). -/
def Image.maxDelay (m : Image) : Nat := m.barList.foldl (fun x r => max x r.2.2) 0

/-- The structure that governs a consumer: the pending overlay's once it has switched, else the current one (R114). -/
def State.imageFor (s : State) (c : Consumer) : Image := if s.ld.switched.contains c then s.ld.overlay else s.ld.current

/-- The die of a consumer. -/
def consumerDie (c : Consumer) : Nat :=
  match c with
  | .bar p => p / 2
  | .cam d => d
  | .block d _ => d

/-- The line delay of a consumer (R49). -/
def State.delay (s : State) (c : Consumer) : Nat :=
  match c with
  | .bar p => s.ld.current.pacerDelay p
  | .cam d => s.ld.current.camDelay d
  | .block _ _ => 0

/-- A head that is fitted (R98). -/
structure Head where
  /-- its class, by 256 * die of its bar + index: the class as that die's bank holds it (R110) -/
  cls : Nat
  bar : Nat
  segs : Nat
  xOff : Nat
  yOff : Int
  deriving DecidableEq, Repr

/-- The entry of a head, when it is USED. -/
def Image.head? (m : Image) (h : Nat) : Option Head :=
  match tget? m.heads h with
  | none => none
  | some e =>
    let w := e.ws.getD 0 0
    if bit w 23 then some ⟨256 * ((m.pacerOf (bits w 4 4)).getD 0 / 2) + bits w 8 8, bits w 4 4, bits w 0 4 + 1, e.ws.getD 1 0, signed 24 (e.ws.getD 2 0)⟩ else none

/-- A lane in service (R352): its physical lane in the die, the lane whose nozzle addresses it carries (R260), its head and
segment. -/
structure Lane where
  phys : Nat
  addr : Nat
  head : Nat
  seg : Nat
  deriving DecidableEq, Repr

/-- What a lane of a die carries when it is in service (R96, R260). -/
def Image.lane? (m : Image) (d l : Nat) : Option Lane :=
  match tget? m.lanes (72 * d + l) with
  | none => none
  | some e =>
    if l < 64 then (if bit e.w 23 then some ⟨l, l, bits e.w 15 8, bits e.w 9 6⟩ else none)
    else if bit e.w 5 then some ⟨l, 8 * (l - 64) + bits e.w 6 3, bits e.w 15 8, bits e.w 9 6⟩ else none

/-- The lane of a die that carries the nozzle addresses of a working lane (R260): the lane itself, or the spare of its group that takes it. -/
def Image.laneAt (m : Image) (d lane : Nat) : Option Lane :=
  match m.lane? d lane with
  | some l => some l
  | none => (m.lane? d (64 + lane / 8)).filter (fun l => l.addr = lane)

/-- The head that a nozzle address of a die lies on, by the lane that carries it. -/
def Image.headAt (m : Image) (d a : Nat) : Option Nat := (m.laneAt d (a / 2048)).map Lane.head

/-- The pacer of a head's bar. -/
def Image.headPacer (m : Image) (h : Nat) : Option Nat := (m.head? h).bind (fun e => m.pacerOf e.bar)

/-- The pacer of the bar that the lane of a nozzle address of a die serves (R281). -/
def Image.nozzlePacer (m : Image) (d a : Nat) : Option Nat := (m.headAt d a).bind m.headPacer

/-- The structure that governs what lies on one pacer in the current structure and on one in a pending overlay's: the overlay's once such a
pacer's bar has switched (R114). -/
def State.imageBy (s : State) (now next : Option Nat) : Image :=
  if next.any (fun p => s.ld.switched.contains (.bar p)) || now.any (fun p => s.ld.switched.contains (.bar p)) then s.ld.overlay else s.ld.current

/-- The structure that governs a head. -/
def State.imageOfHead (s : State) (h : Nat) : Image := s.imageBy (s.ld.current.headPacer h) (s.ld.overlay.headPacer h)

/-- A head as the structure that governs it gives it. -/
def State.headNow (s : State) (h : Nat) : Option Head := (s.imageOfHead h).head? h

/-- The structure that governs a nozzle address of a die. -/
def State.imageOfNozzle (s : State) (d a : Nat) : Image := s.imageBy (s.ld.current.nozzlePacer d a) (s.ld.overlay.nozzlePacer d a)

/-- The number listed for a field stands in a register of this BAR0 address. -/
def keyAddr (key : Nat) : Nat := key / 32

/-- The consumer that owns a field, by the address of its register (R49): the bar fields of RAS and LNP belong to the bar of their
pacer, and every other field to its block. Entries of memories are listed above the registers: the nozzle table at 0x1000000 and the
nozzle address, the camera init tables at 0x1200000, the LED frames at 0x1300000, and TRIM of a head at 0x1400000 and the head. -/
def State.consumerAt (s : State) (a : Nat) : Consumer :=
  if 0x1000000 ≤ a && a < 0x1200000 then
    let d := (a - 0x1000000) / 131072
    let n := (a - 0x1000000) % 131072
    match (s.imageOfNozzle d n).nozzlePacer d n with
    | some p => .bar p
    | none => .block d 2
  else if 0x1200000 ≤ a && a < 0x1300000 then .block ((a - 0x1200000) / 64) 5
  else if 0x1300000 ≤ a && a < 0x1400000 then .block ((a - 0x1300000) / 512) 0xA
  else if 0x1400000 ≤ a then
    let h := a - 0x1400000
    .bar (((s.imageOfHead h).headPacer h).getD 0)
  else match addrDie a with
    | none => .block 0 (0x10 + a / 0x10000)
    | some d =>
      let off := a % 0x10000
      match addrBlock a with
      | 2 => if 0x28 ≤ off && off < 0x4000 then .block d 2 else .bar (2 * d + if off < 0x4000 then off / 4 % 2 else (off - 0x4000) / 0x1000)
      | 3 =>
        if 0x80 ≤ off && off < 0xC0 then .bar (2 * d + s.rd (F.LNP_GRP_PACER d (off / 4 % 8)))
        else if off = 8 || off = 0xC then .bar (2 * d + off / 4 % 2)
        else .block d 3
      | blk => .block d blk

/-- The pacer of the datum bar (R101). -/
def State.datumPacer (s : State) : Nat :=
  ((s.ld.current.bars.find? (fun r => bit (r.ws.getD 0 0) 22)).map (fun r => bits (r.ws.getD 0 0) 0 5)).getD 0

/-- The consumer of a field: INTERVAL and CHK_EN of HLTH belong to the datum bar (R400), every other field to the consumer of its
address. -/
def State.consumerOf (s : State) (key : Nat) : Consumer :=
  let a := keyAddr key
  if a = 0xD0004 || (0xD0040 ≤ a && a < 0xD0080 && key % 32 = 0) then .bar s.datumPacer else s.consumerAt a

/-- A field is a print field (R56): nozzle table entries and TRIM are, and the registers' fields as their tables say. -/
def isPrint (key : Nat) : Bool :=
  (0x1000000 ≤ key / 32 && key / 32 < 0x1200000) || 0x1400000 ≤ key / 32 || ((fieldOf key).map (fun f => decide (f.kind = FKind.stp ∨ f.kind = FKind.enstp))).getD false

/-- A field is a print field of a bar; a nozzle table entry on a lane that serves no bar is a plain field (R281). -/
def State.printField (s : State) (key : Nat) : Bool :=
  isPrint key && (match s.consumerOf key with
    | .bar _ => true
    | _ => false)

/-- The parts that fields give a commit: each consumer with its print fields and with its plain fields. -/
def State.partsOf (s : State) (fs : List (Nat × Nat)) : List (Consumer × Bool) :=
  (fs.map (fun f => (s.consumerOf f.1, s.printField f.1))).eraseDups

/-- A commit carries a field as a print field: those of an overlay come with plain sections, and are plain (R88). -/
def State.printIn (s : State) (origin : Origin) (key : Nat) : Bool := origin != .overlay && s.printField key

/-! Pending commits. -/

/-- Pending apply-line commits. -/
def State.linePending (s : State) : List Commit := s.epoch.commits.filter (fun c => !c.safe)

/-- Pending safe-point commits. -/
def State.safePending (s : State) : List Commit := s.epoch.commits.filter (fun c => c.safe)

/-- A commit that carries an apply line is pending (R48). -/
def State.linedPending (s : State) : Bool := s.epoch.commits.any (fun c => c.hasLine)

/-- The next commit ID: 0x000001 follows 0xFFFFFF (R54). -/
def nextId (id : Nat) : Nat := if id < 0xFFFFFF then id + 1 else 1

/-- The dies a commit touches, one bit each. -/
def Commit.dies (c : Commit) : Nat := forUpTo 8 (fun d m => m + 2 ^ d * nat (c.parts.any (fun p => consumerDie p.1 = d))) 0

/-- The completion record of a commit (R65). -/
def Commit.record (c : Commit) (status : Nat) : List Nat :=
  [c.id, status + 2 ^ 4 * nat c.safe + 2 ^ 5 * nat c.snap + 2 ^ 8 * c.dies, c.line % 2 ^ 24, c.line / 2 ^ 24,
   c.lastLine % 2 ^ 24, c.lastLine / 2 ^ 24, c.fields.length, if c.safe then 0 else c.requested % 2 ^ 24]

/-- Posts the completion record and repeats its words 0 and 1 (R64). -/
def State.reportCommit (s : State) (c : Commit) (status : Nat) : State :=
  let r := c.record status
  let s := if s.on F.EPOCH_CPL_RING_EN then s.post (s.rd F.EPOCH_CPL_RING) 1 r else s
  (s.wr F.EPOCH_LAST_ID_WORD (r.getD 0 0)).wr F.EPOCH_LAST_STATUS_WORD (r.getD 1 0)

/-- The least apply line that a commit captured now can take (R58). -/
def State.leastLine (s : State) : Nat := s.pkgLine + s.rd F.EPOCH_MIN_LEAD_LEAD

/-- The number under which a field counts as the same field (R61): CURVE of a nozzle, which a calibration commit carries alone, lies in
the nozzle's word. -/
def fieldPlace (key : Nat) : Nat :=
  if 0x1000000 ≤ key / 32 && key / 32 < 0x1200000 && key % 32 = 16 then key - 16 else key

/-- What a commit breaks at capture, in the order of R64; 0 for nothing. -/
def State.captureStatus (s : State) (safe : Bool) (fs : List (Nat × Nat)) (a : Nat) (stageFull bufferBad : Bool) : Nat :=
  if stageFull then 3
  else if !safe && !s.lineValid then 8
  else if bufferBad then 4
  else if (if safe then 4 ≤ s.safePending.length else 16 ≤ s.linePending.length) then 6
  else if safe && s.linePending.any (fun c => c.fields.any (fun f => fs.any (fun g => fieldPlace g.1 = fieldPlace f.1))) then 5
  else if !safe && s.on F.EPOCH_CTL_LATE_POLICY && a < s.leastLine then 2
  else 0

/-- The apply line in effect (R55, R56, R58, R59). -/
def State.lineInEffect (s : State) (safe lined : Bool) (a : Nat) : Nat :=
  if safe then (if lined then s.leastLine else s.pkgLine)
  else s.linePending.foldl (fun x c => max x c.line) (max a s.leastLine)

/-- Arms a snapshot, replacing one that is armed (R70, R72). -/
def State.armSnap (s : State) (line : Nat) (timed : Bool) : State :=
  (s.onEpoch fun e => { e with armed := some ⟨line, timed, [], [], [], [], 0⟩ }).wr F.SNAP_STAT_STATE 1

/-! The pair link (R511, R512). -/

/-- Changes what this unit keeps of its pair. -/
def State.onPair (s : State) (f : Pair → Pair) : State := { s with pair := f s.pair }

/-- Role of the unit: 0 UNPAIRED, 1 JOINING, 2 STANDBY, 3 ALONE, 4 ACTIVE, 5 FENCED (R514). -/
def State.role (s : State) : Nat := s.rd F.PAIR_STAT_ROLE

/-- The ten words of a message with its SEQ (R511): CRC-32 over the first eight. -/
def PairMsg.words (m : PairMsg) (seq : Nat) : List Nat :=
  let ws := [m.type + 2 ^ 8 * (seq % 65536), m.line % 2 ^ 24, m.line / 2 ^ 24 % 2 ^ 24] ++ (m.body ++ List.replicate 5 0).take 5
  let crc := crc32 (wordBytes ws)
  ws ++ [crc % 2 ^ 24, crc / 2 ^ 24]

/-- Sends a message to the partner while the link is up. -/
def State.pairSend (s : State) (type line : Nat) (body : List Nat) : State :=
  if s.on F.PAIR_STAT_LINK then s.onPair fun p => { p with sent := ⟨type, line, body.map (· % 2 ^ 24)⟩ :: p.sent } else s

/-- Sends a CONTROL message with a code and its line H (R512). -/
def State.pairControl (s : State) (code h : Nat) : State := s.pairSend 5 s.pkgLine [code, h % 2 ^ 24, h / 2 ^ 24]

/-- The unit is active and sequences commits for its partner, which is STANDBY, or JOINING after its catch-up line (R523). -/
def State.sequences (s : State) : Bool := s.role = 4 || (s.role = 3 && s.pair.joinLine.any (fun l => l ≤ s.pkgLine))

/-- The unit's commits are matched to the active's: it is STANDBY, or JOINING after its catch-up line (R523). -/
def State.matched (s : State) : Bool := s.role = 2 || (s.role = 1 && s.pair.joinLine.any (fun l => l ≤ s.pkgLine))

/-- CRC of the captured fields, by rising BAR0 offset; for an overlay, of its image tag (R512). -/
def State.fieldsCrc (s : State) (origin : Origin) (fs : List (Nat × Nat)) : Nat :=
  let ws := s.ld.words.reverse
  if origin = .overlay then crc32 (wordBytes ((ws.drop (ws.length - 8)).take 6))
  else crc32 (wordBytes ((sortBy (fun a b => decide (a.1 ≤ b.1)) fs).flatMap (fun f => [keyAddr f.1, f.2])))

/-- The active sends a COMMIT message for every commit (R523). -/
def State.sendCommit (s : State) (origin : Origin) (id line status : Nat) (fs : List (Nat × Nat)) : State :=
  if !s.sequences then s
  else
    let crc := s.fieldsCrc origin fs
    s.pairSend 0x10 line [id, status + 2 ^ 4 * nat (decide (origin = .cal) || decide (origin = .imported)), crc % 2 ^ 24, crc / 2 ^ 24, fs.length]

/-- Captures a commit (R54 to R67) or rejects it; tells whether it was accepted. The parts are the consumers that must apply it. -/
def State.capture (s : State) (safe snap : Bool) (origin : Origin) (fs : List (Nat × Nat)) (parts : List (Consumer × Bool))
    (a : Nat) (stageFull bufferBad : Bool) : State × Bool :=
  let id := s.rd F.EPOCH_NEXT_ID_ID
  let st := s.captureStatus safe fs a stageFull bufferBad
  let lined := !safe || (s.lineValid && parts.any (·.2))
  let line := s.lineInEffect safe lined a
  let c : Commit := ⟨id, s.epoch.lastId, safe, snap, origin, fs, a, if st = 0 then line else if safe then s.pkgLine else a, lined,
    !safe && a < line, parts, parts, s.pkgLine, false, false, s.fieldsCrc origin fs⟩
  let s1 := (s.wr F.EPOCH_NEXT_ID_ID (nextId id)).onEpoch fun e => { e with lastId := id }
  if st != 0 then ((((s1.reportCommit c st).cause 17).event 0 0x0240 [id, st]).sendCommit origin id a st fs, false)
  else
    let s2 := (s1.onEpoch fun e => { e with commits := e.commits ++ [c] }).sendCommit origin id line (nat c.advanced) fs
    let s3 := if !safe && a < s.leastLine then s2.event 0 0x0241 [] else s2
    (if snap && !safe then s3.armSnap line false else s3, true)

/-- A standby captures a commit that waits, without an ID, for the active's COMMIT message (R523). -/
def State.waitCapture (s : State) (c : PairCapture) : State := s.onPair fun p => { p with captures := p.captures ++ [c] }

/-- A capture of a context's arm or stop waits for its COMMIT message. -/
def State.waitsFor (s : State) (j : Nat) : Bool := s.pair.captures.any (fun c => c.origin = .arm j || c.origin = .stop j)

/-- Changes a pending commit. -/
def State.setCommit (s : State) (id : Nat) (f : Commit → Commit) : State :=
  s.onEpoch fun e => { e with commits := e.commits.map (fun c => if c.id = id then f c else c) }

/-- A pending commit by its ID. -/
def State.commit? (s : State) (id : Nat) : Option Commit := s.epoch.commits.find? (fun c => c.id = id)

/-- Takes a commit off the pending ones. -/
def State.dropCommit (s : State) (id : Nat) : State :=
  s.onEpoch fun e => { e with commits := e.commits.filter (fun c => c.id != id) }

/-- The commit is queued for its camera already. -/
def Camera.holds (c : Camera) (id : Nat) : Bool :=
  let has (x : CciSet) : Bool := x.ids.contains id || x.also.contains id
  c.sent.any has || c.waiting.any has || (match c.cci with
    | some (.set x) => has x
    | _ => false)

/-- A consumer has taken in a commit that it applies later: a camera its frame fields (R381, R382), the display its part (R609). -/
def State.tookIn (s : State) (id : Nat) (k : Consumer) : Bool :=
  match k with
  | .block d 5 => (tget? s.cams d).any (fun c => c.holds id)
  | .block _ 0x1C => s.disp.arrived.any (fun a => a.1 = id)
  | _ => false

/-- The die of a consumer has reached the line of a part of a commit, where the part carries one (R50, R55, R56). -/
def State.lineReached (s : State) (c : Commit) (k : Consumer) (print : Bool) : Bool :=
  if c.safe && !(c.hasLine && print) then true else decide (c.line + s.delay k ≤ s.dieLine (consumerDie k))

/-- The LED chain, 2 x die + number, that a plain field of an LED block is for. -/
def ledChainOf (key : Nat) : Nat :=
  if 0x1300000 ≤ key / 32 then (key / 32 - 0x1300000) / 256 else 2 * ((key / 32 - 0x800000) / 0x100000) + key / 32 / 4 % 2

/-- The moment is a safe point of a consumer for fields (R57): for motion a profile tick (R430), for LED chains their latch gaps. A ZIP unit
takes its values at the start of each stream (R254), the camera block and the display take their fields in and apply them at their own safe
points (R381, R609), and the safe points of the other blocks come with every frame, sample or command. -/
def State.atSafePoint (s : State) (k : Consumer) (fs : List (Nat × Nat)) : Bool :=
  match k with
  | .block d 6 => decide (s.time d % 10000 ≤ 5)
  | .block _ 0xA => fs.all (fun f => (tget? s.chains (ledChainOf f.1)).all (fun x => x.out.all (fun t => t ≤ s.clk)))
  | _ => true

/-- The fields of a commit that a part of it carries. -/
def State.fieldsFor (s : State) (c : Commit) (k : Consumer) (print : Bool) : List (Nat × Nat) :=
  c.fields.filter (fun f => s.consumerOf f.1 = k && s.printIn c.origin f.1 = print)

/-- A consumer may apply a part of a commit: the part is outstanding; no earlier commit of the same kind has a part outstanding on the
consumer, unless the consumer has taken it in (R80; DEDUCED, notes/assumptions/53); no earlier commit of the other kind has such a part
whose line has been reached (R59); the consumer's die has reached the line; and the moment is a safe point of the consumer (R57). -/
def State.mayApply (s : State) (c : Commit) (k : Consumer) (print : Bool) : Bool :=
  c.remaining.contains (k, print)
    && !(s.epoch.commits.takeWhile (fun x => x.id != c.id)).any
        (fun x => !s.tookIn x.id k && (if x.safe = c.safe then x.remaining.any (fun p => p.1 = k)
          else x.remaining.contains (k, print) && s.lineReached x k print))
    && s.lineReached c k print && s.atSafePoint k (s.fieldsFor c k print)

/-- The commit every consumer of a die has applied, with all before it (R71). -/
def State.appliedId (s : State) (d : Nat) : Nat :=
  match s.epoch.commits.find? (fun c => c.remaining.any (fun p => consumerDie p.1 = d)) with
  | some c => c.prev
  | none => s.epoch.lastId

end Sys2Proof.Machine
end

