-- ==== Sys2Proof/Machine/JobOps.lean ====
section
/-! DEFINITION. Contexts, jobs in force, page streams and underrun (R203 to R228). -/

namespace Sys2Proof.Machine

open Sys2Proof

/-- A context that holds no job. -/
def Ctx.free : Ctx := ⟨.free, 0, 0, none, (0, 0), 0, 0, none, [], []⟩

/-- Changes contexts and streams. -/
def State.onJobs (s : State) (f : Jobs → Jobs) : State := { s with jobs := f s.jobs }

/-- A context. -/
def State.ctx (s : State) (j : Nat) : Ctx := tget s.jobs.ctxs j Ctx.free

/-- Changes a context. -/
def State.setCtx (s : State) (j : Nat) (c : Ctx) : State := s.onJobs fun q => { q with ctxs := tset q.ctxs j c }

/-- State of a context as JOB_INFO_0 codes it. -/
def CtxState.code (c : CtxState) : Nat :=
  match c with
  | .free => 0
  | .loading => 1
  | .ready => 2
  | .armed => 3
  | .running => 4
  | .ending => 5

/-- The context's job counts at substrate lines: it is ARMED, RUNNING or ENDING. -/
def Ctx.live (c : Ctx) : Bool := c.st = .armed || c.st = .running || c.st = .ending

/-- The least of lines. -/
def leastOf (l : List Nat) : Option Nat := l.foldl (fun m x => match m with
  | none => some x
  | some y => some (min x y)) none

/-- The end line of a job: the lowest of the final and the pending ones (R215); none when unbounded. -/
def Ctx.endLine (c : Ctx) : Option Nat := leastOf ((match c.final with
  | none => []
  | some e => [e]) ++ c.ends.map (·.2))

/-- A line lies below an end line. -/
def below (l : Nat) (e : Option Nat) : Bool :=
  match e with
  | none => true
  | some x => decide (l < x)

/-- The contexts whose jobs have a start line at or before a substrate line. -/
def State.started (s : State) (l : Nat) : List (Nat × Ctx) := s.jobs.ctxs.filter (fun e => e.2.live && decide (e.2.start ≤ l))

/-- The job in force at a substrate line (R213): the started one with the highest start line, of equal ones that of the later arm,
provided the line lies below its end. -/
def State.jobAt (s : State) (l : Nat) : Option (Nat × Ctx) :=
  let later (a b : Nat × Ctx) : Bool :=
    a.2.start < b.2.start || (a.2.start = b.2.start &&
      (s.epoch.commits.takeWhile (fun c => c.id != b.2.commit)).any (fun c => c.id = a.2.commit))
  match (s.started l).foldl (fun m e => match m with
      | none => some e
      | some x => if later x e then some e else some x) none with
  | none => none
  | some e => if below l e.2.endLine then some e else none

/-- A bar is in a job's BARS. -/
def CtxBlock.hasBar (b : CtxBlock) (bar : Nat) : Bool := bit b.bars bar

/-- The plane entry of a bar. -/
def CtxBlock.plane (b : CtxBlock) (bar : Nat) : Plane := b.planes.getD bar ⟨0, 0, 0⟩

/-- Page and line in the page of a substrate line (R214). -/
def Ctx.pageOf (c : Ctx) (l : Nat) : Nat × Nat :=
  match c.block with
  | none => (0, 0)
  | some b => ((l - c.start) / b.pageLines, (l - c.start) % b.pageLines)

/-- The first page boundary of the job in force at the datum that is no lower than a line (R212). -/
def State.boundaryFrom (s : State) (l : Nat) : Nat :=
  match s.jobAt s.pkgLine with
  | none => l
  | some (_, c) => match c.block with
    | none => l
    | some b => if l ≤ c.start then c.start else c.start + ceilDiv (l - c.start) b.pageLines * b.pageLines

/-- The page stream of a bar under a context. -/
def State.stream (s : State) (j bar : Nat) : Stream := tget s.jobs.streams (16 * j + bar) ⟨0, 0, [], [], none, [], []⟩

/-- Changes a page stream. -/
def State.setStream (s : State) (j bar : Nat) (x : Stream) : State :=
  s.onJobs fun q => { q with streams := tset q.streams (16 * j + bar) x }

/-- Changes a descriptor of a stream. -/
def Stream.setDesc (x : Stream) (ring seq : Nat) (f : PDesc → PDesc) : Stream :=
  { x with descs := x.descs.map (fun d => if d.ring = ring ∧ d.seq = seq then f d else d) }

/-- A descriptor covers a page. -/
def PDesc.covers (d : PDesc) (k : Nat) : Bool := d.page ≤ k && k ≤ d.page + d.repeats

/-- Slots that no descriptor in use and no held page takes (R221). -/
def Stream.freeSlot (x : Stream) : Option Nat :=
  (List.range 3).find? (fun n => !(x.held == some n) && !x.descs.any (fun d => d.slot == some n))

/-- The ring is bound to a context that is ARMED, RUNNING or ENDING, for a bar (R219). -/
def State.binding (s : State) (q : Nat) : Option (Nat × Nat) :=
  s.jobs.ctxs.findSome? (fun e =>
    if !e.2.live then none
    else match e.2.block with
      | none => none
      | some b => ((List.range 16).find? (fun n => b.hasBar n && (b.plane n).ring = q)).map (fun n => (e.1, n)))

/-- Answers a page descriptor with its words 3 to 7 (R222, R224). -/
def State.answerPage (s : State) (j : Nat) (d : PDesc) (status pages replaced code : Nat) : State :=
  match s.win.entries.find? (fun e => e.ring = d.ring ∧ e.seq = d.seq) with
  | none => s
  | some e =>
    let c := s.ctx j
    let l := c.start + d.page * (c.block.map CtxBlock.pageLines).getD 0
    s.answer e status [l % 2 ^ 24, l / 2 ^ 24, pages, replaced, code]

/-- The status with which a descriptor whose pages have passed is answered, and the code of word 7 (R223, R224). -/
def PDesc.outcome (d : PDesc) : Nat × Nat :=
  match d.st with
  | .aborted c => (20, c)
  | .packet => (22, 0)
  | .reclaimed => (5, 0)
  | _ => if d.replaced = 0 then (0, 0) else (16, 0)

/-- Where a bar takes a line from (R226). -/
inductive LineSource | nofire | bytes (data : List Nat)
  deriving DecidableEq, Repr

/-- Line `i` of a slot. -/
def Stream.slotLine (x : Stream) (n i : Nat) : LineSource :=
  match tget? x.slots n with
  | none => .nofire
  | some p => .bytes ((p.data.drop (i * p.lineBytes)).take p.lineBytes)

/-- Line `i` of the held slot, or NOFIRE without one. -/
def Stream.heldLine (x : Stream) (i : Nat) : LineSource :=
  match x.held with
  | none => .nofire
  | some n => x.slotLine n i

/-- The line of the underrun policy (R226). -/
def Stream.policy (x : Stream) (hold : Bool) (i : Nat) : LineSource :=
  if hold then x.heldLine i else .nofire

/-- Counts a replaced line against the bar and its descriptor (R224, R227). -/
def State.countReplaced (s : State) (j bar k : Nat) : State :=
  let x := s.stream j bar
  ((s.setStream j bar { x with descs := x.descs.map (fun d => if d.covers k then { d with replaced := d.replaced + 1 } else d) }).inc
    (F.JOB_UNDER_LINES bar)).life ((s.ld.current.pacerOf bar).getD 0 / 2) 4 1

/-- A line of a page that a stream does not have (R225): its descriptor is missing, aborted, reclaimed, refused, or has not produced
the line. -/
def Stream.missing (x : Stream) (k i : Nat) : Bool :=
  match x.descs.find? (fun d => d.covers k) with
  | none => true
  | some d =>
    if d.blank || d.hold then false
    else match d.st, d.slot with
      | .filling, some n => decide (((tget? x.slots n).map PageSlot.produced).getD 0 ≤ i)
      | .complete, some _ => false
      | _, _ => true

/-- The line that a stream holds for a page (R226). -/
def Stream.lineOf (x : Stream) (k i : Nat) : LineSource :=
  match x.descs.find? (fun d => d.covers k) with
  | none => .nofire
  | some d =>
    if d.blank then .nofire
    else if d.hold then x.heldLine i
    else match d.slot with
      | none => .nofire
      | some n => x.slotLine n i

/-- A page underruns on a bar: 0x0510 is recorded and source 25 caused (R227); an active unit tells its partner the first replaced line
(R230). -/
def State.underrun (s : State) (j bar p k i : Nat) : State :=
  let x := s.stream j bar
  let s := s.setStream j bar { x with under := tset x.under k i }
  let s := if s.sequences then s.pairSend 0x13 (((s.ctx j).start) + k * (((s.ctx j).block.map CtxBlock.pageLines).getD 0) + i) [bar, k] else s
  (s.event (p / 2) 0x0510 [bar, k, i]).causeAt (p / 2) 25

/-- The source of a substrate line on a bar, when the raster pipeline begins it (R226, R230): what it is, and the state in which
underruns are reported and counted. On a standby, a page underruns from the active's first replaced line on, and data missing where
the active printed are counted. `first` tells that this line begins the page's underrun. -/
def State.sourceOf (s : State) (bar p l : Nat) (standby : Bool) : LineSource × Bool × State :=
  match s.jobAt l with
  | none => (.nofire, false, s)
  | some (j, c) => match c.block with
    | none => (.nofire, false, s)
    | some b =>
      if !b.hasBar bar then (.nofire, false, s)
      else
        let (k, i) := c.pageOf l
        let x := s.stream j bar
        let s := s.setStream j bar { x with unbegun := max x.unbegun (k + 1) }
        let under := (tget? x.under k).any (fun u => u ≤ i)
        let partner := (tget? x.partnerUnder k).any (fun u => u ≤ i)
        if under then (x.policy b.hold i, false, s.countReplaced j bar k)
        else if standby then
          if partner then
            let x := s.stream j bar
            (x.policy b.hold i, true, (s.underrun j bar p k i).countReplaced j bar k)
          else if x.missing k i then
            (x.policy b.hold i, false, (s.inc (F.JOB_UNDER_LINES bar)).event (p / 2) 0x0521 [])
          else (x.lineOf k i, false, s)
        else if x.missing k i then (x.policy b.hold i, true, (s.underrun j bar p k i).countReplaced j bar k)
        else (x.lineOf k i, false, s)

end Sys2Proof.Machine
end

