-- ==== Sys2Proof/Machine/MapOps.lean ====
section
/-! DEFINITION. What the structure image says of heads, lanes and nozzles (R96 to R101, R256 to R260), the values in effect for a
substrate line (R55, R281), and the row delays (R273, R274). -/

namespace Sys2Proof.Machine

open Sys2Proof

/-- A word of a class as a die's bank holds it, by its number in R100. -/
def Image.classWord (m : Image) (c n : Nat) : Nat := ((tget? m.classes c).map (fun e => e.ws.getD (n - 1) 0)).getD 0

/-- The waveform number of a drop code in a class (R100): four bits each, six to a word. -/
def Image.wave (m : Image) (c code : Nat) : Nat := bits (m.classWord c (5 + code / 6)) (4 * (code % 6)) 4

/-- The lanes of a die in service. -/
def Image.lanesOf (m : Image) (d : Nat) : List Lane := (List.range 72).filterMap (m.lane? d)

/-- The lanes in service of a local group: eight working lanes and the spare. -/
def Image.groupLanes (m : Image) (d g : Nat) : List Lane :=
  (m.lanesOf d).filter (fun l => if l.phys < 64 then l.phys / 8 = g else l.phys - 64 = g)

/-- The head on a group's lowest-numbered lane in service (R312). -/
def Image.groupHead (m : Image) (d g : Nat) : Option Nat := (m.groupLanes d g).head?.map Lane.head

/-- The bar of a group. -/
def Image.groupBar (m : Image) (d g : Nat) : Option Nat :=
  match m.groupHead d g with
  | none => none
  | some h => (m.head? h).map Head.bar

/-- The pacer of the bar of a group, 0 or 1 in the die, for a group of a bar of the die. -/
def Image.groupPacer (m : Image) (d g : Nat) : Option Nat :=
  match m.groupBar d g with
  | none => none
  | some b => match m.pacerOf b with
    | none => none
    | some p => if p / 2 = d then some (p % 2) else none

/-- The structure that governs a group. -/
def State.imageOfGroup (s : State) (g : Nat) : Image :=
  let at' (m : Image) : Option Nat := (m.groupPacer (g / 8) (g % 8)).map (2 * (g / 8) + ·)
  s.imageBy (at' s.ld.current) (at' s.ld.overlay)

/-- The head on a group's lowest-numbered lane in service, in the structure that governs it. -/
def State.groupHeadNow (s : State) (g : Nat) : Option Nat := (s.imageOfGroup g).groupHead (g / 8) (g % 8)

/-- A word of the class of a head, as the structure that governs the head gives it. -/
def State.classOf (s : State) (h n : Nat) : Nat := ((s.headNow h).map (fun e => (s.imageOfHead h).classWord e.cls n)).getD 0

/-- A nozzle of a bar (R12, R258): its position, row, head and address. -/
structure Nozzle where
  pos : Nat
  row : Nat
  head : Nat
  addr : Nat
  deriving DecidableEq, Repr

/-- Pixel origin of a head (R258). -/
def pixelOrigin (xOff xres : Nat) : Nat := (xOff * xres + 127000) / 254000

/-- The mapped slots of a segment of a class (R99): slot, row and nozzle index. -/
def Image.segSlots (m : Image) (c seg : Nat) : List (Nat × Nat × Nat) :=
  ((((tget? m.geoms c).map Ents.ws).getD []).drop (2048 * seg)).take 2048 |>.zipIdx |>.filterMap
    (fun (w, i) => if bit w 23 then some (i, bits w 22 1, bits w 0 16) else none)

/-- The slot of a nozzle address of a die carries a nozzle (R12). -/
def Image.isMapped (m : Image) (d a : Nat) : Bool :=
  match m.laneAt d (a / 2048) with
  | none => false
  | some l => (m.head? l.head).any (fun h => (m.segSlots h.cls l.seg).any (fun x => x.1 = a % 2048))

/-- A nozzle address refers to a nozzle (R12). -/
def State.isNozzle (s : State) (a : Nat) : Bool :=
  decide (a < 131072 * s.dies) && (s.imageOfNozzle (a / 131072) (a % 131072)).isMapped (a / 131072) (a % 131072)

/-- Default of a policy entry (R103). -/
def policyDefault (key : Nat) : Nat :=
  match key with
  | 0x100 => 1024
  | 0x101 => 1280
  | 0x102 => 1004
  | 0x103 => 5
  | 0x104 => 2
  | 0x200 => 20
  | 0x201 => 2
  | 0x202 => 3
  | 0x300 => 30
  | 0x400 => 60
  | 0x401 => 95
  | 0x500 => 1000
  | _ => 0

/-- A policy entry of a die's structure, or its default. -/
def Image.pol (m : Image) (d key : Nat) : Nat := tget m.policy (4096 * d + key) (policyDefault key)

/-- The nozzles on a lane of a die. -/
def Image.laneNozzles (m : Image) (d xres : Nat) (l : Lane) : List Nozzle :=
  match m.head? l.head with
  | none => []
  | some h => (m.segSlots h.cls l.seg).map
      (fun (i, r, x) => ⟨pixelOrigin h.xOff xres + x, r, l.head, 131072 * d + 2048 * l.addr + i⟩)

/-- The nozzle map of a bar (R258): a bar's lanes lie on its pacer's die (R97). -/
def Image.nozzles (m : Image) (d bar xres : Nat) : List Nozzle :=
  ((m.lanesOf d).filter (fun l => (m.head? l.head).any (fun h => h.bar = bar))).flatMap (m.laneNozzles d xres)

/-- Plane width W: one more than the highest mapped position (R256). -/
def planeWidth (ns : List Nozzle) : Nat := ns.foldl (fun w n => max w (n.pos + 1)) 0

/-- The nozzles of a row at a position, that of the lower head (R259) first. -/
def nozzlesAt (m : Image) (xres : Nat) (ns : List Nozzle) (p r : Nat) : List Nozzle :=
  let org (n : Nozzle) : Nat := pixelOrigin ((m.head? n.head).map Head.xOff |>.getD 0) xres
  let before (a b : Nozzle) : Bool := org a < org b || (org a = org b && a.head < b.head)
  match ns.filter (fun n => n.pos = p && n.row = r) with
  | [a, b] => if before b a then [b, a] else [a, b]
  | l => l

/-- The stitch zone of two heads in a row: its first position and its length (R259). -/
def zoneOf (ns : List Nozzle) (r a b : Nat) : Nat × Nat :=
  let at' (h : Nat) : List Nat := (ns.filter (fun n => n.head = h && n.row = r)).map Nozzle.pos
  let shared := (at' a).filter (fun p => (at' b).contains p)
  (shared.foldl min (shared.headD 0), shared.length)

/-! Values in effect for a substrate line. -/

/-- The value that pending commits give a field at a substrate line on a consumer, over the effective one (R55, R281). -/
def State.atLine (s : State) (k : Consumer) (l : Int) (f : Fld) : Nat :=
  s.epoch.commits.foldl (fun v c =>
    if c.hasLine && c.origin != .overlay && c.remaining.contains (k, true) && decide ((c.line : Int) ≤ l) then
      ((c.fields.find? (fun x => x.1 = f.key)).map (·.2)).getD v
    else v) (s.rd f)

/-- The structure in effect for a substrate line on a consumer (R114). -/
def State.imageAt (s : State) (k : Consumer) (l : Int) : Image :=
  if s.epoch.commits.any (fun c => c.origin = .overlay && c.remaining.any (fun p => p.1 = k) && decide ((c.line : Int) ≤ l))
  then s.ld.overlay else s.imageFor k

/-- A pacer's word of the nozzle table (R267): CURVE, HOST_OUT and HOST_IN. -/
def nozzleWord (addr : Nat) : Fld := ⟨0x1000000 + addr, 0, 10, 0x20⟩

/-- EB_OUT of a nozzle (R267). -/
def nozzleEbOut (addr : Nat) : Fld := ⟨0x1000000 + addr, 10, 1, 0⟩

/-- CURVE of a nozzle table entry as a calibration commit carries it, without the flags (R420): it is listed at bit 16. -/
def nozzleCurve (addr : Nat) : Fld := ⟨0x1000000 + addr, 16, 6, 0x20⟩

/-- A nozzle's word with another CURVE. -/
def withCurve (w k : Nat) : Nat := w / 64 * 64 + k % 64

/-- A nozzle's word in effect for a substrate line on its bar's consumer (R281). -/
def State.nozzleAt (s : State) (k : Consumer) (l : Int) (addr : Nat) : Nat :=
  s.epoch.commits.foldl (fun v c =>
    if c.hasLine && c.remaining.contains (k, true) && decide ((c.line : Int) ≤ l) then
      let v := ((c.fields.find? (fun x => x.1 = (nozzleWord addr).key)).map (·.2)).getD v
      match c.fields.find? (fun x => x.1 = (nozzleCurve addr).key) with
      | some x => withCurve v x.2
      | none => v
    else v) (s.rd (nozzleWord addr))

/-- TRIM of a head (R333): a print field of its bar, held as signed 10 mV. -/
def trimOf (h : Nat) : Fld := ⟨0x1400000 + h, 0, 12, 0⟩

/-- The field listed under a number, with its width and reset value: a register's, or one of the memories above the registers. -/
def fldOf (key : Nat) : Fld :=
  let a := key / 32
  if a < 0x1000000 then ⟨a, key % 32, ((fieldOf key).map (·.width)).getD 24, ((fieldOf key).map (·.reset)).getD 0⟩
  else if a < 0x1200000 then
    (if key % 32 = 10 then nozzleEbOut (a - 0x1000000) else if key % 32 = 16 then nozzleCurve (a - 0x1000000) else nozzleWord (a - 0x1000000))
  else if a < 0x1300000 then ⟨a, 0, 24, 0⟩
  else if a < 0x1400000 then (if key % 32 = 16 then ⟨a, 16, 8, 0xFE⟩ else ⟨a, 0, 16, 0⟩)
  else trimOf (a - 0x1400000)

/-- A field takes effect; CURVE alone goes into its nozzle's word. -/
def State.wrKey (s : State) (key v : Nat) : State :=
  if 0x1000000 ≤ key / 32 && key / 32 < 0x1200000 && key % 32 = 16 then
    let f := nozzleWord (key / 32 - 0x1000000)
    s.wr f (withCurve (s.rd f) v)
  else s.wr (fldOf key) v

/-- Fields take effect. -/
def State.writeAll (s : State) (fs : List (Nat × Nat)) : State := fs.foldl (fun s f => s.wrKey f.1 f.2) s

/-- The values of an accepted commit are what the STAGED view returns (R53). -/
def State.noteStaged (s : State) (fs : List (Nat × Nat)) : State :=
  fs.foldl (fun s f =>
    if 0x1000000 ≤ f.1 / 32 && f.1 / 32 < 0x1200000 && f.1 % 32 = 16 then
      let w := nozzleWord (f.1 / 32 - 0x1000000)
      { s with staged := tset s.staged w.key (withCurve ((tget? s.staged w.key).getD (s.rd w)) f.2) }
    else { s with staged := tset s.staged f.1 f.2 }) s

/-- A nozzle is out, by its word and EB_OUT (R267). -/
def nozzleOut (w : Nat) (eb : Bool) : Bool := bit w 8 || (eb && !bit w 9)

/-- Across-web resolution of a die (R258). -/
def State.xres (s : State) (d : Nat) : Nat := s.rd (F.RAS_GEOM_XRES d)

/-- Pending overlays that reach a substrate line. -/
def State.overlaysAt (s : State) (l : Int) : List Commit :=
  s.epoch.commits.filter (fun c => c.origin = .overlay && decide ((c.line : Int) ≤ l))

/-- XRES of a die in effect for a substrate line: that of a pending overlay which reaches it (R83, R113), else the register's (DEDUCED,
notes/assumptions/124). -/
def State.xresAt (s : State) (d : Nat) (l : Int) : Nat :=
  let f := F.RAS_GEOM_XRES d
  (s.overlaysAt l).foldl (fun v c => ((c.fields.find? (fun x => x.1 = f.key)).map (·.2)).getD v) (s.rd f)

/-- Plane width W of a pacer's bar in effect for a substrate line (R83, R256): that of the structure and the resolution which a pending overlay
gives the line, where it gives any, else WIDTH of RAS_W. -/
def State.widthAt (s : State) (p : Nat) (l : Int) : Nat :=
  let d := p / 2
  match s.overlaysAt l with
  | [] => s.rd (F.RAS_W_WIDTH d (p % 2))
  | _ =>
    let m := s.imageAt (.bar p) l
    ((m.barOf p).map (fun b => planeWidth (m.nozzles d b (s.xresAt d l)))).getD 0

/-- Bytes of a plane line (R256) at a substrate line: W pixels of the plane's code width. -/
def State.lineBytes (s : State) (p : Nat) (l : Int) (code : Nat) : Nat := ceilDiv (s.widthAt p l * 2 ^ code) 8

/-- LEAD_eff of a pacer (R262). -/
def State.leadEff (s : State) (p : Nat) : Nat :=
  min (s.rd (F.RAS_PCTL_LEAD (p / 2) (p % 2))) (s.rd F.EPOCH_MIN_LEAD_LEAD - 16)

/-- Delay of row `r` of a head at a YREG: whole lines, fraction, and whether it is clamped (R273, R274). -/
def State.rowDelay (s : State) (p : Nat) (m : Image) (yreg : Int) (h r : Nat) : Nat × Nat × Bool :=
  match m.head? h with
  | none => (0, 0, false)
  | some e =>
    let o := e.yOff + r * s.rd (F.RAS_ROW_ROW_SEP (p / 2) (e.cls % 256)) + yreg
    let lim := 2 ^ s.rd (F.RAS_DL_DEPTH (p / 2) (p % 2)) - s.leadEff p - 2
    if o < 0 then (0, 0, true)
    else
      let w := o.toNat / 256
      if lim < w then (lim, 0, true) else (w, o.toNat % 256, false)

/-- YREG of a pacer for a substrate line. -/
def State.yregAt (s : State) (p : Nat) (l : Int) : Int :=
  signed 16 (s.atLine (.bar p) l (F.RAS_YREG_YREG (p / 2) (p % 2)))

/-- The rows of the heads of a bar that carry nozzles: heads of its lanes in service. -/
def Image.barHeads (m : Image) (d bar : Nat) : List Nat :=
  (((m.lanesOf d).map Lane.head).filter (fun h => (m.head? h).any (fun e => e.bar = bar))).eraseDups

/-- The row delays of a pacer's bar for a substrate line, by 2 x head + row. -/
def State.rowDelays (s : State) (p : Nat) (m : Image) (l : Int) : Tab Nat :=
  match m.barOf p with
  | none => []
  | some bar =>
    (m.barHeads (p / 2) bar).foldl (fun t h =>
      [0, 1].foldl (fun t r => tset t (2 * h + r) (s.rowDelay p m (s.yregAt p l) h r).1) t) []

/-! The press. -/

/-- Changes the path from the encoder to the heads. -/
def State.onPress (s : State) (f : Press → Press) : State := { s with press := f s.press }

/-- The raster pipeline of a pacer. -/
def State.raster (s : State) (p : Nat) : Raster := tget s.press.rasters p ⟨0, [], none, 0, none, false, []⟩

/-- Changes a raster pipeline. -/
def State.setRaster (s : State) (p : Nat) (r : Raster) : State := s.onPress fun q => { q with rasters := tset q.rasters p r }

/-- The nozzle entries of every slot of a head are reset (R261): CURVE 32 and every flag 0. The head's slots are those of its lanes in the
structure given. -/
def State.resetHeadNozzles (s : State) (m : Image) (h line : Nat) : State :=
  let die := ((m.head? h).bind (fun e => m.pacerOf e.bar)).getD 0 / 2
  let lanes := ((m.lanesOf die).filter (fun l => l.head = h)).map (fun l => 64 * die + l.addr)
  let keep (e : Nat × Nat) : Bool :=
    let a := e.1 / 32
    a < 0x1000000 || 0x1000000 + 131072 * s.dies ≤ a || !lanes.contains ((a - 0x1000000) / 2048)
  ({ s with live := s.live.filter keep, staged := s.staged.filter keep }).event die 0x0706 [h, line]

/-- The rows' delays of a bar as they stand: what a change of registration is judged against (R276). -/
def State.delaysNow (s : State) (p : Nat) : Tab Nat :=
  let m := s.imageFor (.bar p)
  match m.barOf p with
  | none => []
  | some bar =>
    let y := signed 16 (s.rd (F.RAS_YREG_YREG (p / 2) (p % 2)))
    (m.barHeads (p / 2) bar).foldl (fun t h => [0, 1].foldl (fun t r => tset t (2 * h + r) (s.rowDelay p m y h r).1) t) []

/-- MAX_W of a pacer: the largest delay in force, after clamping (R284). -/
def State.maxDelay (s : State) (p : Nat) : State :=
  s.wr (F.RAS_DL_MAX_W (p / 2) (p % 2)) ((s.delaysNow p).foldl (fun x e => max x e.2) 0)

/-- The clamp of row delays is judged (R274): CLAMP, 0x0703 and source 27 for each row out of range; MAX_W follows. -/
def State.judgeClamp (s : State) (p : Nat) : State :=
  let d := p / 2
  let m := s.imageFor (.bar p)
  match m.barOf p with
  | none => s
  | some bar =>
    let rows := (m.barHeads d bar).flatMap (fun h => [(h, 0), (h, 1)])
    let y := signed 16 (s.rd (F.RAS_YREG_YREG d (p % 2)))
    let s := s.maxDelay p
    rows.foldl (fun s (h, r) =>
      if (s.rowDelay p m y h r).2.2 then
        ((s.wr (F.RAS_STAT_CLAMP d) (setBit (s.rd (F.RAS_STAT_CLAMP d)) (p % 2))).event d 0x0703 [p % 2, h, r]).causeAt d 27
      else s) s

/-- A commit has changed row delays (R276): the lines it skips are counted and 0x0704 is recorded once. -/
def State.judgeSkips (s : State) (p : Nat) (before : Tab Nat) : State :=
  let now := s.delaysNow p
  let n := before.foldl (fun x e => max x (e.2 - (tget? now e.1).getD e.2)) 0
  if n = 0 then s else (s.incBy (F.RAS_SKIP_COUNT (p / 2) (p % 2)) n).event (p / 2) 0x0704 [p % 2, n]

end Sys2Proof.Machine
end

