-- ==== Sys2Proof/Machine/RasterOps.lean ====
section
/-! DEFINITION. The computation of a line (R264 to R272): rank, masks, stitching, substitution, curves and waveforms. -/

namespace Sys2Proof.Machine

open Sys2Proof

/-- The dither rank of position `p` on page line `i` (R265). -/
def rank (p i : Nat) : Nat :=
  let x := p % 8
  let y := i % 8
  forUpTo 3 (fun j v => v ||| (nat (bit (x ^^^ y) j) * 2 ^ (5 - 2 * j)) ||| (nat (bit y j) * 2 ^ (4 - 2 * j))) 0

/-- What the computation of a line draws on: the structure, the resolution, the bar's nozzles, the plane width, the job's code width
in bits, page and page line, mask tiles and mask set, STITCH, SUBST_ORDER, and for each nozzle address its word of the nozzle table
and EB_OUT. -/
structure LineEnv where
  image : Image
  xres : Nat
  nozzles : List Nozzle
  width : Nat
  bits : Nat
  page : Nat
  line : Nat
  tiles : List Nat
  maskSet : Nat
  stitch : Bool
  neighbourOnly : Bool
  word : Nat → Nat
  ebOut : Nat → Bool
  curve : Nat → Nat → Nat

/-- Greatest drop code. -/
def LineEnv.cmax (e : LineEnv) : Nat := 2 ^ e.bits - 1

/-- A nozzle is out (R267). -/
def LineEnv.out (e : LineEnv) (n : Nozzle) : Bool := nozzleOut (e.word n.addr) (e.ebOut n.addr)

/-- The nozzles of row `r` at position `p`, head a first. -/
def LineEnv.heads (e : LineEnv) (p r : Nat) : List Nozzle := nozzlesAt e.image e.xres e.nozzles p r

/-- The preferred row at a position (R265). -/
def LineEnv.rowpref (e : LineEnv) (p : Nat) : Nat :=
  let ts := (List.range 16).filter (fun t => bit e.maskSet t)
  let r :=
    if ts.isEmpty then 0
    else
      let t := ts.getD ((e.line / 64 + p / 64 + e.page) % ts.length) 0
      nat (bit (e.tiles.getD (64 * t + e.line % 64) 0) (p % 64))
  if (e.heads p r).isEmpty then 1 - r else r

/-- The nozzle of row `r` at `p` with the stitch applied, and the one on the other head (R266). -/
def LineEnv.pair (e : LineEnv) (p r : Nat) : Option Nozzle × Option Nozzle :=
  match e.heads p r with
  | [] => (none, none)
  | [n] => (some n, none)
  | a :: b :: _ =>
    let (start, v) := zoneOf e.nozzles r a.head b.head
    let z := p - start
    let takeB := if e.stitch then decide (v ≤ 2 * z) else decide (rank p e.line * v < 32 * (2 * z + 1))
    if takeB then (some b, some a) else (some a, some b)

/-- The firing nozzle for a position and whether it is a substitute (R268). -/
def LineEnv.choose (e : LineEnv) (p : Nat) : Option (Nozzle × Bool) :=
  let r := e.rowpref p
  let (a, b) := e.pair p r
  let (c, d) := e.pair p (1 - r)
  let cands := [a, b] ++ if e.neighbourOnly then [] else [c, d]
  match cands.findSome? (fun o => o.filter (fun n => !e.out n)) with
  | none => none
  | some n => some (n, some n != a)

/-- The code a nozzle's curve gives (R270). -/
def LineEnv.curved (e : LineEnv) (n : Nozzle) (c p : Nat) : Nat :=
  let w := e.curve (Machine.bits (e.word n.addr) 0 6) c
  min (if rank p e.line < Machine.bits w 8 6 then Machine.bits w 4 4 else Machine.bits w 0 4) e.cmax

/-- Pixel `j` of a plane line (R257). -/
def pixel (data : List Nat) (b j : Nat) : Nat := bits (data.getD (j * b / 8) 0) (j * b % 8) b

/-- What a line comes to: codes by nozzle address, and the substituted and lost drops. -/
structure LineSum where
  codes : Tab Nat
  missed : List (Nat × Nat)
  subst : Nat
  lost : Nat
  deriving DecidableEq, Repr

/-- The first pass of R264: every pixel that is not 0 goes to its nozzle or is missed. -/
def LineEnv.place (e : LineEnv) (data : List Nat) (xreg : Int) : LineSum :=
  (List.range e.width).foldl (fun (t : LineSum) (p : Nat) =>
    let j := (p : Int) - xreg
    let c := if j < 0 || (e.width : Int) ≤ j then 0 else pixel data e.bits j.toNat
    if c = 0 then t
    else match e.choose p with
      | none => { t with missed := t.missed ++ [(p, c)] }
      | some (n, sub) => { t with codes := tset t.codes n.addr (e.curved n c p), subst := t.subst + nat sub }) ⟨[], [], 0, 0⟩

/-- The second pass of R264: a missed drop passes to a neighbouring position or is lost. -/
def LineEnv.substitute (e : LineEnv) (t : LineSum) : LineSum :=
  t.missed.foldl (fun t (p, c) =>
    let up := if p + 1 < e.width then [p + 1] else []
    let down := if 0 < p then [p - 1] else []
    let qs := if e.line % 2 = 0 then down ++ up else up ++ down
    match qs.findSome? e.choose with
    | none => { t with lost := t.lost + 1 }
    | some (m, sub) =>
      { t with codes := tset t.codes m.addr (min e.cmax (tget t.codes m.addr 0 + c)), subst := t.subst + 1 + nat sub }) t

/-- Slot values of the record: WAVE of each mapped slot's code, low `b` bits (R264, R271); those that are not 0, by local lane x 2048
+ slot. -/
def LineEnv.waves (e : LineEnv) (codes : Tab Nat) : Tab Nat :=
  e.nozzles.foldl (fun t n =>
    let v := e.image.wave (((e.image.head? n.head).map Head.cls).getD 0) (tget codes n.addr 0) % 2 ^ e.bits
    if v = 0 then t else tset t (n.addr % 131072) v) []

/-! The check pattern (R397 to R401). -/

/-- Changes Eyebright's state. -/
def State.onEye (s : State) (f : Eye → Eye) : State := { s with eye := f s.eye }

/-- Slots of 32 lines in the gap of a job (R397). -/
def CtxBlock.slots (b : CtxBlock) : Nat := min 15 ((b.gap - 4) / 32)

/-- The bars of a job that are checked, in effect for a line (R398, R400). -/
def State.checkedBars (s : State) (b : CtxBlock) (l : Int) : List Nat :=
  (List.range 16).filter (fun n => b.hasBar n && s.atLine (.bar s.datumPacer) l (F.HLTH_BAR_CHK_EN n) != 0)

/-- The cycle C of a job (R398). -/
def State.checkCycle (s : State) (b : CtxBlock) (l : Int) : Nat :=
  let i := if b.check = 0 then s.atLine (.bar s.datumPacer) l F.HLTH_INTERVAL_INTERVAL else b.check
  max i (ceilDiv (s.checkedBars b l).length b.slots)

/-- The ladder group whose check gap is that of page `k` (R398). -/
def State.checkGroup (s : State) (b : CtxBlock) (l : Int) (k : Nat) : Option Nat :=
  let g := ceilDiv (s.checkedBars b l).length b.slots
  let c := s.checkCycle b l
  (List.range g).find? (fun q => k % c = q * c / g)

/-- What a slot of a page's gap carries (R398, R399). -/
def State.slotUse (s : State) (j : Nat) (b : CtxBlock) (l : Int) (k slot : Nat) : Option SlotUse :=
  match s.eye.claims.find? (fun c => c.ctx = j && c.page = k && c.slot = slot) with
  | some c => some c.use
  | none =>
    if (s.eye.since : Int) ≤ l && s.eye.upTo.all (fun u => l < u) && s.eye.checking then
      match s.checkGroup b l k with
      | none => none
      | some q => ((s.checkedBars b l)[q * b.slots + slot]?).map SlotUse.ladder
    else none

/-- The gap slot in which a substrate line lies, with the line in it and what it carries, when it is claimed (R272, R397, R400). -/
def State.claimAt (s : State) (l : Nat) : Option (Nat × SlotUse) :=
  match s.jobAt l with
  | none => none
  | some (j, c) => match c.block with
    | none => none
    | some b =>
      let (k, i) := c.pageOf l
      let g := i - (b.pageLines - b.gap)
      if i < b.pageLines - b.gap || g < 2 || b.slots ≤ (g - 2) / 32 then none
      else (s.slotUse j b l k ((g - 2) / 32)).map (fun u => ((g - 2) % 32, u))

/-- The record of a claimed line (R401). -/
def LineEnv.checkCodes (e : LineEnv) (bar l : Nat) (use : SlotUse) (chkCode : Nat) : Tab Nat :=
  let r := l / 16
  let u := l % 16
  let fires (n : Nozzle) : Option Nat :=
    let hs := e.heads n.pos r
    let st := decide (2 ≤ hs.length)
    let z := if st && (hs.getLast?.map Nozzle.head) = some n.head then 1 else 0
    match use with
    | .white => none
    | .ladder b => if b = bar && n.pos % 8 = u / 2 && u % 2 = z then some (min chkCode e.cmax) else none
    | .strip b c => if b = bar && n.pos % 4 = u / 4 && (!st || u % 4 / 2 = z) then some c else none
  (e.nozzles.filter (fun n => n.row = r)).foldl (fun t n =>
    match fires n with
    | none => t
    | some c =>
      let v := e.image.wave (((e.image.head? n.head).map Head.cls).getD 0) c % 2 ^ e.bits
      if v = 0 then t else tset t (n.addr % 131072) v) []

/-! Beginning a line. -/

/-- Heads of the bar whose nozzle entries a pending overlay or head exchange resets for a line (R261, R334). -/
def State.freshHeads (s : State) (p : Nat) (l : Int) : List Nat :=
  let now := s.imageFor (.bar p)
  let then' := s.imageAt (.bar p) l
  let differs (h : Nat) : Bool :=
    ((tget? now.heads h).map Ents.ws) != ((tget? then'.heads h).map Ents.ws) ||
      (then'.head? h).any (fun e => ((tget? now.classes e.cls).map Ents.ws) != ((tget? then'.classes e.cls).map Ents.ws))
  let exchanged (g : Nat) : Option Nat :=
    if s.on (F.LNP_GRP_NEW (p / 2) g) && s.rd (F.LNP_GRP_STATE (p / 2) g) = 3 && now.groupPacer (p / 2) g = some (p % 2) &&
        s.atLine (.bar p) l (F.LNP_GRP_QUIESCE (p / 2) g) = 0 && s.on (F.LNP_GRP_QUIESCE (p / 2) g) then now.groupHead (p / 2) g
    else none
  ((then'.heads.map (·.1)).filter differs) ++ (List.range 8).filterMap exchanged

/-- EB_OUT of a nozzle in effect for a substrate line: a decision of a pair takes effect from its line (R526). -/
def State.ebOutAt (s : State) (a l : Nat) : Bool :=
  match s.pair.outs.find? (fun o => o.nozzle = a && l < o.line) with
  | some o => o.old != 0
  | none => s.on (nozzleEbOut a)

/-- What the computation of a line of a pacer's bar draws on, for a job's plane (R264, R281). -/
def State.lineEnv (s : State) (p bar : Nat) (l : Nat) (b : CtxBlock) (k i : Nat) : LineEnv :=
  let d := p / 2
  let m := s.imageAt (.bar p) l
  let fresh := s.freshHeads p l
  let ns := m.nozzles d bar (s.xresAt d l)
  let isFresh (a : Nat) : Bool := ns.any (fun n => n.addr = a && fresh.contains n.head)
  { image := m
    xres := s.xresAt d l
    nozzles := ns
    width := planeWidth ns
    bits := 2 ^ (b.plane bar).code
    page := k
    line := i
    tiles := b.tiles
    maskSet := (b.plane bar).maskSet
    stitch := s.atLine (.bar p) l (F.RAS_PCTL_STITCH d (p % 2)) != 0
    neighbourOnly := s.on F.HLTH_KM_SUBST_ORDER
    word := fun a => if isFresh a then 0x20 else s.nozzleAt (.bar p) l a
    ebOut := fun a => !isFresh a && s.ebOutAt a l
    curve := fun c e => s.atLine (.bar p) l (F.RAS_CURVE_WORD d (p % 2) c e) }

/-- A record joins the delay line: it takes the place of the one with its index (R275). One that a row has read before is late already
(R277). -/
def State.storeRec (s : State) (p : Nat) (x : LineRec) : State :=
  let r := s.raster p
  let size := 2 ^ s.rd (F.RAS_DL_DEPTH (p / 2) (p % 2))
  s.setRaster p { r with
    recs := { x with late := r.missing.contains x.line } :: r.recs.filter (fun y => y.line % size != x.line % size)
    missing := r.missing.filter (fun l => l != x.line) }

/-- Lost drops are counted page by page; at a page's end they are recorded (R283). `last` tells that the line is the page's last. -/
def State.countLost (s : State) (p : Nat) (page : Option (Nat × Nat)) (lost : Nat) (last : Bool) : State :=
  let r := s.raster p
  let tell (s : State) (k : Option (Nat × Nat)) (n : Nat) : State :=
    if n = 0 then s else s.event (p / 2) 0x0702 [p % 2, (k.map (·.2)).getD 0, n]
  let s := if r.page != page then tell s r.page r.lost else s
  let n := (if r.page != page then 0 else r.lost) + lost
  if last then (tell s page n).setRaster p { s.raster p with page := page, lost := 0 }
  else s.setRaster p { s.raster p with page := page, lost := n }

end Sys2Proof.Machine
end

