-- ==== Sys2Proof/Machine/Rings.lean ====
section
/-! DEFINITION. Doorbells, the reading of ring entries, and the posting of records (R174 to R181). -/

namespace Sys2Proof.Machine

open Sys2Proof

/-- How far an index lies ahead of another (R174). -/
def ahead (a b : Nat) : Nat := (a + 65536 - b) % 65536

/-- A doorbell value is accepted (R174): it lies between the ring's current indices. -/
def State.doorbellOk (s : State) (q v : Nat) : Bool :=
  let idx := s.rd (F.QUE_IDX_INDEX q)
  let db := s.rd (F.QUE_DB_INDEX q)
  s.rd (F.QUE_CTL_STATE q) = 2 &&
    (if s.ringToHost q then decide (ahead v db ≤ ahead idx db)
     else decide (ahead v idx ≤ s.ringSize q) && decide (ahead db idx ≤ ahead v idx))

/-- A write to QUE_DB_n (R174, R179). -/
def State.doorbell (s : State) (q v : Nat) : State :=
  if !s.doorbellOk q v then s.dbErr q v
  else
    let s := s.wr (F.QUE_DB_INDEX q) v
    if s.ringToHost q then s.drainRing q (s.ring q).reserve.length else s

/-- R174: the host writes an index to a ring's doorbell. -/
def execDoorbell (q v : Nat) (s : State) : Host.Outcome State Fault Refusal :=
  guarded (q < s.ringCount)
    (s.served 0x50000 (s.doorbell q v))

/-- The length of an entry of a kind on a ring; none for a kind that is not valid there (R176, R207, R220, R252). Context commands
are valid on the CMD rings of D0. -/
def entryLen (type q kind : Nat) : Option Nat :=
  match kind with
  | 0 => some 1
  | 0x10 => if type = 1 then some 7 else none
  | 0x20 => if type = 0 && q < 32 then some 3 else none
  | 0x21 => if type = 0 && q < 32 then some 4 else none
  | 0x22 => if type = 0 && q < 32 then some 4 else none
  | 0x23 => if type = 0 && q < 32 then some 2 else none
  | 0x30 => if type = 2 then some 5 else none
  | 0x31 => if type = 2 then some 7 else none
  | 0x32 => if type = 2 then some 3 else none
  | _ => none

/-- An entry of a WORK ring that has not started: its command has not begun, or its work waits for a unit. A NOP does not count. -/
def State.unstarted (s : State) (q : Nat) (e : Entry) : Bool :=
  e.ring = q && e.kind != 0 && (!e.begun || s.zip.dwait.any (fun x => x.2.ring = q && x.2.seq = e.seq)
    || s.zip.cwait.any (fun x => decide (x.2.owner = .work q e.seq)))

/-- The Rangar reads a ring: it is ON and host to device, holds an entry, and, for a STREAM ring, is bound to a context (R219); a WORK
entry stays in its ring while the die's ZIP is not ON, and until the entry before it has started, since they start in ring order (R252,
R253). -/
def State.readable (s : State) (q : Nat) : Bool :=
  let type := s.rd (F.QUE_CTL_TYPE q)
  s.rd (F.QUE_CTL_STATE q) = 2 && !s.ringToHost q && s.rd (F.QUE_IDX_INDEX q) != s.rd (F.QUE_DB_INDEX q) &&
    (if type = 1 then (s.binding q).isSome
     else if type = 2 then s.rd (F.ZIP_CTL_STATE (q / 32)) = 2 && !s.win.entries.any (s.unstarted q)
     else true)

/-- Takes the next entry of a ring in hand: its 16 words are read in one operation (R175). -/
def State.takeEntry (s : State) (q : Nat) : State × Entry :=
  let i := s.rd (F.QUE_IDX_INDEX q)
  let r := s.ring q
  let e : Entry := ⟨q, r.total, s.loadWords (s.entryAddr q i) 16, false⟩
  (((s.setRing q { r with total := r.total + 1 }).wr (F.QUE_IDX_INDEX q) ((i + 1) % 65536)).onWin fun w => { w with entries := w.entries ++ [e] }, e)

/-- R175, R176: the Rangar reads the next entry of a ring; an entry with a bad kind or length is answered so, and any other waits for its
command. -/
def execRingEntryRead (q : Nat) (s : State) : Host.Outcome State Fault Refusal :=
  guarded (q < s.ringCount)
    (if !s.readable q then s
     else
       let (s, e) := s.takeEntry q
       let w := e.words.getD 0 0
       match entryLen (s.rd (F.QUE_CTL_TYPE q)) q (bits w 0 8) with
       | none => s.badEntry e 1
       | some n => if bits w 8 4 = n then s else s.badEntry e 2)

/-- R176: a NOP is answered once every earlier entry of its ring has been. -/
def execNop (q : Nat) (s : State) : Host.Outcome State Fault Refusal :=
  guarded (q < s.ringCount)
    (match s.entryOf q [0] with
     | none => s
     | some e => if s.win.entries.any (fun x => x.ring = q && x.seq < e.seq) then s else s.answer e 0 [])

/-- R179: the oldest record that waits is written into its ring, held in the reserve, or dropped. -/
def execRecordPost (s : State) : Host.Outcome State Fault Refusal :=
  match s.win.postings with
  | .post q kind body :: rest => .next ((s.onWin fun w => { w with postings := rest }).ringPost q kind body)
  | _ => .next s

/-- Entries that a stopping ring has not read are answered FLUSHED (R178). The loop runs once for each. -/
def State.flushRing (s : State) (q fuel : Nat) : State :=
  match fuel with
  | 0 => s
  | n + 1 =>
    if s.rd (F.QUE_IDX_INDEX q) = s.rd (F.QUE_DB_INDEX q) then s
    else
      let (s, e) := s.takeEntry q
      (s.answer e 6 []).flushRing q n

/-- A device-to-host ring stops (R178): its reserve is written while space remains and the rest is counted in LOST. -/
def State.ringStopping (s : State) (q : Nat) : State :=
  if s.ringToHost q then
    let s := s.drainRing q (s.ring q).reserve.length
    let r := s.ring q
    (s.incBy (F.QUE_ERR_LOST q) (reserved r.reserve)).setRing q { r with reserve := [] }
  else s

/-- The stop of a ring can complete: no entry is in hand (R178). A page descriptor that has been queued and a WORK entry that has started
are no longer in hand: they are answered when their pages have passed or their stream has ended. -/
def State.ringIdle (s : State) (q : Nat) : Bool :=
  !s.win.entries.any (fun e => e.ring = q && (!e.begun || e.kind / 16 = 2))

/-- A host-to-device ring has stopped: every entry that was not read is answered FLUSHED (R178). -/
def State.ringStopped (s : State) (q : Nat) : State := if s.ringToHost q then s else s.flushRing q (s.ringSize q)

end Sys2Proof.Machine
end

