-- ==== Sys2Proof/Machine/JobRows.lean ====
section
/-! DEFINITION. The commands of contexts and page descriptors (R203 to R224). -/

namespace Sys2Proof.Machine

open Sys2Proof

/-! The context block. -/

/-- Words in a context block (R204). -/
def ctxWords : Nat := 3154

/-- The block that words spell (R204 to R206). -/
def ctxBlock (ws : List Nat) : CtxBlock :=
  let w (i : Nat) : Nat := ws.getD i 0
  { jobId := w 2
    pageLines := bits (w 3) 0 17
    gap := bits (w 4) 0 12
    bars := bits (w 5) 0 16
    hold := bit (w 6) 0
    reject := bit (w 6) 1
    speedLimit := w 7
    check := bits (w 8) 0 8
    pages := w 9
    planes := (List.range 16).map (fun b => ⟨bits (w (16 + 4 * b)) 0 2, bits (w (16 + 4 * b)) 8 8, bits (w (17 + 4 * b)) 0 16⟩)
    tiles := (List.range 1024).map (fun r => w (80 + 3 * r) + 2 ^ 24 * w (81 + 3 * r) + 2 ^ 48 * bits (w (82 + 3 * r)) 0 16)
    crc := w 3152 + 2 ^ 24 * w 3153 }

/-- The first word whose MAGIC, FMT, reserved field or CRC is wrong (R208 FORMAT). Plane entries of bars outside BARS are not used and
not checked. -/
def ctxFormat (ws : List Nat) : Option Nat :=
  let bars := ws.getD 5 0
  let crc := crc32 (wordBytes (ws.take 3152))
  let bad (i w : Nat) : Bool :=
    if i = 0 then w != 0x4A4F42
    else if i = 1 then w != 1
    else if i = 3 then decide (131072 ≤ w)
    else if i = 4 then decide (4096 ≤ w)
    else if i = 5 then decide (65536 ≤ w)
    else if i = 6 then decide (4 ≤ w)
    else if i = 8 then decide (256 ≤ w)
    else if 10 ≤ i && i < 16 then w != 0
    else if 16 ≤ i && i < 80 then
      bit bars ((i - 16) / 4) &&
        (if i % 4 = 0 then bits w 2 6 != 0 || bits w 16 8 != 0 else if i % 4 = 1 then bits w 16 8 != 0 else w != 0)
    else if 80 ≤ i && i < 3152 then (i - 80) % 3 = 2 && bits w 16 8 != 0
    else if i = 3152 then w != crc % 2 ^ 24
    else if i = 3153 then w != crc / 2 ^ 24
    else false
  (ws.zipIdx.find? (fun e => bad e.2 e.1)).map (·.2)

/-- The first header field out of its range, by its word (R208 RANGE). -/
def CtxBlock.range (b : CtxBlock) : Option Nat :=
  if b.jobId = 0 then some 2
  else if b.pageLines = 0 || 65536 < b.pageLines then some 3
  else if min (b.pageLines - 1) 4095 < b.gap then some 4
  else if b.bars = 0 then some 5
  else ((List.range 16).find? (fun n => b.hasBar n && (b.plane n).code = 3)).map (fun n => 16 + 4 * n)

/-- The job's bars. -/
def CtxBlock.barList (b : CtxBlock) : List Nat := (List.range 16).filter b.hasBar

/-- Checks 5 to 7 of R209 against a structure: status and bar. -/
def State.structCheck (s : State) (b : CtxBlock) : Option (Nat × Nat) :=
  let m := s.ld.current
  match b.barList.find? (fun n => (m.pacerOf n).isNone) with
  | some n => some (18, n)
  | none =>
    let p (n : Nat) : Nat := (m.pacerOf n).getD 0
    let codesOk (n : Nat) : Bool := let m := s.imageFor (.bar (p n)); (m.barHeads (p n / 2) n).all (fun h =>
      bit (m.classWord (((m.head? h).map Head.cls).getD 0) 4) (b.plane n).code)
    match b.barList.find? (fun n => !codesOk n) with
    | some n => some (19, n)
    | none =>
      let ringOk (n : Nat) : Bool :=
        let q := (b.plane n).ring
        s.ringUsed q && s.rd (F.QUE_CTL_TYPE q) = 1 && q / 32 = p n / 2
      (b.barList.find? (fun n => !ringOk n)).map (fun n => (20, n))

/-! Context commands. -/

/-- Answers a context command with its words 3 to 6 (R207). -/
def State.answerCtx (s : State) (e : Entry) (status detail id line : Nat) : State :=
  s.answer e status [detail, id, line % 2 ^ 24, line / 2 ^ 24]

/-- A context command is rejected: D0 source 24 (R211). -/
def State.rejectCtx (s : State) (e : Entry) (status detail : Nat) : State := (s.answerCtx e status detail 0 0).cause 24

/-- The context that an entry names. -/
def Entry.ctx (e : Entry) : Nat := bits (e.words.getD 2 0) 0 7

/-- R209, R211: CTX_LOAD read from a CMD ring. -/
def execCtxLoad (q : Nat) (s : State) : Host.Outcome State Fault Refusal :=
  guarded (q < s.ringCount)
    (match s.entryOf q [0x20] with
     | none => s
     | some e =>
       let j := e.ctx
       let buf := bits (e.words.getD 3 0) 0 16
       let gen := bits (e.words.getD 3 0) 16 8
       let c := s.ctx j
       let ref := s.refStatus buf gen
       let fail (st detail : Nat) : State :=
         ((if ref = 0 then s.release buf 0 0 else s).rejectCtx e st detail).event 0 0x0506 [j, st, detail]
       if c.st != .free then fail 16 c.st.code
       else match ref with
         | 0 => ((s.hold buf).beginEntry e).setCtx j { Ctx.free with st := .loading, buf := buf, gen := gen, entry := (e.ring, e.seq) }
         | st => fail (min st 4) 0)

/-- Bytes of the usable space of a die's SDRAM: its working ranks (R454). -/
def State.usableBytes (s : State) (d : Nat) : Nat :=
  let ranks := if !s.on (F.MEM_GEOM_TWO_RANKS d) then 2 else if s.on (F.MEM_GEOM_SPARE_EN d) then 3 else 4
  ranks * (if s.on (F.MEM_GEOM_SIZE d) then 2 ^ 34 else 2 ^ 33)

/-- The die of a bar. -/
def State.dieOfBar (s : State) (n : Nat) : Nat := (s.ld.current.pacerOf n).getD 0 / 2

/-- Bytes of the three page slots of a bar (R221). -/
def State.slotBytes (s : State) (b : CtxBlock) (n : Nat) : Nat :=
  3 * b.pageLines * s.lineBytes ((s.ld.current.pacerOf n).getD 0) (s.pkgLine : Nat) (b.plane n).code

/-- The first bar of a job whose page slots do not fit above WIN_BACKED beside those of the other contexts (R221, R453). -/
def State.noRoom (s : State) (b : CtxBlock) : Option Nat :=
  let taken (d : Nat) : Nat :=
    ((s.jobs.ctxs.flatMap (fun e => e.2.alloc)).filter (fun a => s.dieOfBar a.1 = d)).foldl (fun n a => n + a.2) 0
  b.barList.find? (fun n =>
    let d := s.dieOfBar n
    let mine := (b.barList.filter (fun m => m ≤ n && s.dieOfBar m = d)).foldl (fun t m => t + s.slotBytes b m) 0
    s.usableBytes d < s.rd (F.WIN_BACKED_UNITS d) * unitBytes + taken d + mine)

/-- What validation finds: a status and DETAIL, or the block (R209). The page slots are allocated from the usable space (R453);
`noMem` names a bar, if any, for which they fail because of the private structures to which the spec gives no size (log 138). -/
def State.validate (s : State) (c : Ctx) (noMem : Option Nat) : Nat × Nat × CtxBlock :=
  let ws := s.loadWords (s.buf c.buf).addr ctxWords
  let b := ctxBlock ws
  match ctxFormat ws with
  | some i => (17, i, b)
  | none => match b.range with
    | some i => (23, i, b)
    | none => match s.structCheck b with
      | some (st, n) => (st, n, b)
      | none => match s.noRoom b, noMem with
        | some n, _ => (22, n, b)
        | none, some n => if b.hasBar n then (22, n, b) else (0, 0, b)
        | none, none => (0, 0, b)

/-- R209, R211: validation of a LOADING context ends; `noMem` tells the bar, if any, for which no page slots could be allocated. -/
def execCtxValidated (j : Nat) (noMem : Option Nat) (s : State) : Host.Outcome State Fault Refusal :=
  .next
    (let c := s.ctx j
     match (if c.st = .loading then s.win.entries.find? (fun e => e.ring = c.entry.1 && e.seq = c.entry.2) else none) with
     | none => s
     | some e =>
       match s.validate c noMem with
       | (0, _, b) => (((s.answerCtx e 0 0 0 0).setCtx j { c with st := .ready, block := some b, alloc := b.barList.map (fun n => (n, s.slotBytes b n)) }).event 0 0x0501 [j, b.jobId]).cause 24
       | (st, detail, _) =>
         ((((s.release c.buf 0 0).rejectCtx e st detail).setCtx j Ctx.free).event 0 0x0506 [j, st, detail]))

/-- The parts of a job's commit: every bar and camera in use, from the line on (R212). -/
def State.jobParts (s : State) : List (Consumer × Bool) :=
  s.ld.current.barList.map (fun r => (Consumer.bar r.2.1, true)) ++ s.ld.current.camList.map (fun r => (Consumer.cam r.1, true))

/-- The line that an arm or a stop asks for (R212): MODE 0 AT_LINE, 1 BOUNDARY. -/
def State.askedLine (s : State) (e : Entry) : Nat :=
  if bit (e.words.getD 2 0) 8 then s.boundaryFrom s.leastLine else e.words.getD 3 0 + 2 ^ 24 * e.words.getD 4 0

/-- Adds a pending end line to a job (R215). -/
def State.addEnd (s : State) (j line id : Nat) : State :=
  let c := s.ctx j
  s.setCtx j { c with ends := c.ends ++ [(line, id)] }

/-- A ring of the job is bound to another live context: its bar (R210). -/
def State.ringBusy (s : State) (b : CtxBlock) : Option Nat :=
  b.barList.find? (fun n => (s.binding (b.plane n).ring).isSome)

/-- The CTX message of an arm or a stop (R512). -/
def State.sendCtx (s : State) (j line id : Nat) (stop : Bool) : State :=
  let crc := ((s.ctx j).block.map CtxBlock.crc).getD 0
  s.pairSend 0x12 line [id, j + 2 ^ 8 * nat stop, crc % 2 ^ 24, crc / 2 ^ 24]

/-- A context's arm has been captured at a line (R211, R215). -/
def State.ctxArmed (s : State) (j line id : Nat) : State :=
  let c := s.ctx j
  match c.block with
  | none => s
  | some b =>
    let others := (s.jobs.ctxs.filter (fun x => x.2.live && x.1 != j)).map (·.1)
    let s := others.foldl (fun s i => s.addEnd i line id) s
    let ends := if b.pages = 0 then [] else [(line + b.pages * b.pageLines, id)]
    let s := s.setCtx j { c with st := .armed, start := line, commit := id, final := none, ends := ends }
    let s := b.barList.foldl (fun s n => s.setStream j n ⟨0, 0, [], [], none, [], []⟩) s
    s.event 0 0x0502 [j, id, line]

/-- The capture of a context command has been rejected (R211). -/
def State.captureFailed (s : State) (e : Entry) (id : Nat) : State :=
  (s.answerCtx e 25 (bits (s.rd F.EPOCH_LAST_STATUS_WORD) 0 4) id 0).cause 24

/-- R211: CTX_UNLOAD, accepted in READY. -/
def execCtxUnload (q : Nat) (s : State) : Host.Outcome State Fault Refusal :=
  guarded (q < s.ringCount)
    (match s.entryOf q [0x23] with
     | none => s
     | some e =>
       let j := e.ctx
       let c := s.ctx j
       if c.st != .ready then s.rejectCtx e 16 c.st.code
       else ((s.release c.buf 0 0).answerCtx e 0 0 0 0).setCtx j Ctx.free)

/-! Descriptors. -/

/-- The last line of a descriptor's pages, cut at the job's final end line (R216, R224). -/
def Ctx.lastLine (c : Ctx) (b : CtxBlock) (d : PDesc) : Nat :=
  let z := c.start + (d.page + d.repeats + 1) * b.pageLines
  (match c.final with
    | some e => min z e
    | none => z) - 1

/-- Pages of a descriptor that are printed: those that begin below the final end line. -/
def Ctx.pagesOf (c : Ctx) (b : CtxBlock) (d : PDesc) : Nat :=
  match c.final with
  | none => d.repeats + 1
  | some e => min (d.repeats + 1) (ceilDiv (e - c.start) b.pageLines - d.page)

/-- Takes a descriptor off its stream. -/
def State.dropDesc (s : State) (j bar : Nat) (d : PDesc) : State :=
  let x := s.stream j bar
  s.setStream j bar { x with descs := x.descs.filter (fun y => !(y.ring = d.ring && y.seq = d.seq)) }

/-- A descriptor whose pages have passed is answered (R224), unless it has been, as one whose packet was refused (R243). -/
def State.finishDesc (s : State) (j bar : Nat) (b : CtxBlock) (d : PDesc) : State :=
  let (st, code) := d.outcome
  (s.answerPage j d st ((s.ctx j).pagesOf b d) d.replaced code).dropDesc j bar d

/-- A decompressor unit that expands a descriptor's stream goes IDLE, and the packet's buffer is released (R216, R242). -/
def State.stopUnit (s : State) (d : PDesc) : State :=
  let busy := s.zip.dunits.filter (fun e => e.2.st != .idle && !e.2.work && e.2.ring = d.ring && e.2.seq = d.seq)
  if busy.isEmpty then s
  else { s.release d.buf 0 d.tag with zip := { s.zip with dunits := busy.foldl (fun t e => tset t e.1 { e.2 with st := .idle }) s.zip.dunits } }

/-- A descriptor whose pages all lie at or beyond the final end line is answered CUT (R216). -/
def State.cutDesc (s : State) (j bar : Nat) (d : PDesc) : State :=
  (((s.stopUnit d).answerPage j d 19 0 d.replaced 0).dropDesc j bar d).inc (F.JOB_STREAM_ERR_CUT bar)

/-- R222: the next page descriptor of a STREAM ring is checked and queued. -/
def execPageDescriptor (q : Nat) (s : State) : Host.Outcome State Fault Refusal :=
  guarded (q < s.ringCount)
    (match s.entryOf q [0x10], s.binding q with
     | some e, some (j, bar) =>
       let w (i : Nat) : Nat := e.words.getD i 0
       let c := s.ctx j
       let x := s.stream j bar
       let page := w 3
       let blank := bit (w 7) 0
       let hold := bit (w 7) 1
       let next := max x.expected x.unbegun
       let die := q / 32
       let pl := (c.block.map CtxBlock.pageLines).getD 1
       let ref := if blank || hold then 0 else s.refStatus (bits (w 4) 0 16) (bits (w 4) 16 8)
       let d : PDesc := ⟨q, e.seq, page, bits (w 5) 0 16, blank, hold, bits (w 4) 0 16, bits (w 4) 16 8, w 6, w 1, .queued, none, 0⟩
       if bits (w 2) 0 7 != j || bits (w 2) 8 4 != bar then s.answer e 21 []
       else if ref != 0 then s.answer e ref []
       else if next < page then ((s.inc (F.JOB_STREAM_ERR_SEQ bar)).event die 0x0514 [bar, page, next]).answer e 18 []
       else if page < next then ((s.inc (F.JOB_STREAM_ERR_LATE bar)).event die 0x0511 [bar, page]).answer e 17 []
       else if c.final.any (fun z => z ≤ c.start + page * pl) then
         (((s.beginEntry e).setStream j bar { x with expected := page + d.repeats + 1 }).inc (F.JOB_STREAM_ERR_CUT bar)).answerPage j d 19 0 0 0
       else (s.beginEntry e).setStream j bar { x with expected := page + d.repeats + 1, descs := x.descs ++ [d] }
     | _, _ => s)

/-- R224: the oldest descriptor of a ring whose last line has been fired or replaced on its bar is answered. -/
def execPageDone (q : Nat) (s : State) : Host.Outcome State Fault Refusal :=
  guarded (q < s.ringCount)
    (match s.binding q with
     | none => s
     | some (j, bar) => match (s.ctx j).block, (s.stream j bar).descs with
       | some b, d :: _ =>
         let p := (s.ld.current.pacerOf bar).getD 0
         if tget s.jobs.fired p 0 ≤ (s.ctx j).lastLine b d then s else s.finishDesc j bar b d
       | _, _ => s)

/-- The greatest delay among a job's bars and the cameras in use, D_max (R217). -/
def State.jobDelay (s : State) (b : CtxBlock) : Nat :=
  let m := s.ld.current
  let bars := m.barList.foldl (fun x r => if b.hasBar r.1 then max x r.2.2 else x) 0
  m.camList.foldl (fun x r => max x r.2) bars

/-- R217: the package line has reached E + D_max: the job retires. -/
def execJobRetired (j : Nat) (s : State) : Host.Outcome State Fault Refusal :=
  .next
    (let c := s.ctx j
     match c.block, c.final with
     | some b, some e =>
       if !(c.st = .running || c.st = .ending) || s.pkgLine < e + s.jobDelay b then s
       else
         let s := b.barList.foldl (fun s n => (s.stream j n).descs.foldl (fun s d => (s.stopUnit d).finishDesc j n b d) s) s
         let s := s.release c.buf 0 0
         let s := s.onJobs fun q => { q with streams := q.streams.filter (fun x => x.1 / 16 != j) }
         ((s.setCtx j Ctx.free).event 0 0x0505 [j, b.jobId, ceilDiv (e - c.start) b.pageLines]).cause 24
     | _, _ => s)

/-! What a job's commits do when a consumer applies them (R211, R215, R216, R397). -/

/-- The end lines that a commit set become final (R215): the lowest stays; the context becomes ENDING, a page that holds the end line is
cut, and descriptors wholly beyond it are answered CUT. -/
def State.settleEnds (s : State) (id : Nat) : State :=
  s.jobs.ctxs.foldl (fun s e =>
    let j := e.1
    let c := s.ctx j
    let mine := c.ends.filter (fun x => x.2 = id)
    if mine.isEmpty || !c.live then s
    else
      let final := leastOf (c.final.toList ++ mine.map (·.1))
      let s := s.setCtx j { c with final := final, ends := c.ends.filter (fun x => x.2 != id) }
      match c.block, final with
      | some b, some z =>
        if c.st = .armed then
          (if z ≤ c.start then
            let s := b.barList.foldl (fun s n => (s.stream j n).descs.foldl (fun s d => s.cutDesc j n d) s) s
            (((s.release c.buf 0 0).setCtx j Ctx.free).event 0 0x0505 [j, b.jobId, 0]).cause 24
           else s)
        else
          let s := if c.st = .running then ((s.setCtx j { s.ctx j with st := .ending }).event 0 0x0504 [j, z]).cause 24 else s
          let cut := (z - c.start) % b.pageLines != 0
          let s := if cut && c.final != final then s.event 0 0x0512 [j, (z - c.start) / b.pageLines] else s
          b.barList.foldl (fun s n => (s.stream j n).descs.foldl (fun s d =>
            if z ≤ c.start + d.page * b.pageLines then s.cutDesc j n d else s) s) s
      | _, _ => s) s

/-- The first consumer applies a job's commit. A job that a later arm at the same start line replaces does not start (R211). -/
def State.jobApplied (s : State) (c : Commit) : State :=
  match c.origin with
  | .arm j =>
    let x := s.ctx j
    let s :=
      if x.st = .armed && !x.endLine.any (fun z => z ≤ x.start) then
        let s := ((s.setCtx j { x with st := .running }).event 0 0x0503 [j]).cause 24
        if (x.block.map CtxBlock.slots).getD 1 = 0 then s.event 0 0x0B07 [j] else s
      else s
    s.settleEnds c.id
  | .stop _ => s.settleEnds c.id
  | _ => s

/-- A job's commit is cancelled (R211, R215): an ARMED context returns to READY and its descriptors are answered FLUSHED; the end lines
it set no longer count. -/
def State.jobCancelled (s : State) (c : Commit) : State :=
  let s := s.onJobs fun q => { q with ctxs := q.ctxs.map (fun e => (e.1, { e.2 with ends := e.2.ends.filter (fun x => x.2 != c.id) })) }
  match c.origin with
  | .arm j =>
    let x := s.ctx j
    if x.st != .armed then s
    else
      let bars := (x.block.map CtxBlock.barList).getD []
      let s := bars.foldl (fun s n => (s.stream j n).descs.foldl (fun s d => ((s.stopUnit d).answerPage j d 6 0 0 0).dropDesc j n d) s) s
      ((s.setCtx j { x with st := .ready, ends := [], final := none }).event 0 0x0507 [j]).cause 24
  | _ => s

end Sys2Proof.Machine
end

