-- ==== Sys2Proof/Machine/EnOps.lean ====
section
/-! DEFINITION. The enable convention of R36 to R40: a block's control register, its state, and its failures. -/

namespace Sys2Proof.Machine

open Sys2Proof

/-- The control register of a block (R36), the high byte of its event codes (R40), and its index within the block. -/
def blockInfo (b : Block) : Nat × Nat × Nat :=
  match b with
  | .spw d => (0x100080 + 4 * d, 0x01, d)
  | .tkl d => (0x1000E0 + 4 * d, 0x01, d)
  | .ring q => (0x50000 + 4 * q, 0x04, q)
  | .zip d => (dieAt d 0x10000, 0x06, 0)
  | .ras p => (dieAt (p / 2) (0x20000 + 4 * (p % 2)), 0x07, p % 2)
  | .lnp p => (dieAt (p / 2) (0x30000 + 4 * (p % 2)), 0x08, p % 2)
  | .lan g => (dieAt (g / 8) (0x40000 + 4 * (g % 8)), 0x09, g % 8)
  | .cam d => (dieAt d 0x50000, 0x0A, d)
  | .mot a => (dieAt (a / 4) (0x60000 + 0x80 * (a % 4)), 0x0C, a % 4)
  | .fbk f => (dieAt (f / 5) (0x70000 + 0x40 * (f % 5)), 0x0D, f % 5)
  | .emu x => (dieAt (x / 2) (0x70200 + 0x40 * (x % 2)), 0x0D, x % 2)
  | .led c => (dieAt (c / 2) (0xA0000 + 4 * (c % 2)), 0x14, c % 2)
  | .eng e => (dieAt (e / 12) (0xC0000 + 4 * (e % 12)), 0x0F, e % 12)
  | .trg k => (0x80100 + 16 * k, 0x10, k)
  | .hlth => (0xD0000, 0x0B, 0)
  | .cal => (0xE0000, 0x0B, 0)
  | .disp => (0xC0000, 0x15, 0)

/-- Address of a block's control register. -/
def blockCtl (b : Block) : Nat := (blockInfo b).1

/-- The die at which a block stands; package blocks stand with D0, rings with their home die (R170). -/
def blockDie (b : Block) : Nat :=
  match b with
  | .spw d => d
  | .tkl d => d
  | .ring q => q / 32
  | .zip d => d
  | .ras p => p / 2
  | .lnp p => p / 2
  | .lan g => g / 8
  | .cam d => d
  | .mot a => a / 4
  | .fbk f => f / 5
  | .emu x => x / 2
  | .led c => c / 2
  | .eng e => e / 12
  | .trg _ => 0
  | .hlth => 0
  | .cal => 0
  | .disp => 0

/-- A bit field of a block's control register. -/
def blockFld (b : Block) (lo w : Nat) : Fld := ⟨blockCtl b, lo, w, 0⟩

/-- STATE of a block: 0 OFF, 1 STARTING, 2 ON, 3 STOPPING (R36). -/
def State.blockState (s : State) (b : Block) : Nat := s.rd (blockFld b 4 2)

/-- Gives a block a state. -/
def State.setBlockState (s : State) (b : Block) (v : Nat) : State := s.wr (blockFld b 4 2) v

/-- The payload of a start failure or a stop timeout (R40): the block's BAR0 offset, and its index where its chapter puts one in
word 1. -/
def blockPayload (b : Block) : List Nat :=
  match b with
  | .spw d => [blockCtl b / 0x10000, d]
  | .tkl d => [blockCtl b / 0x10000, d]
  | .zip _ => [blockCtl b / 0x10000]
  | .cam _ => [blockCtl b / 0x10000]
  | .hlth => [blockCtl b / 0x10000]
  | .cal => [blockCtl b / 0x10000]
  | .disp => [blockCtl b / 0x10000]
  | .emu x => [blockCtl b / 0x10000, 8 + x % 2]
  | _ => [blockCtl b / 0x10000, (blockInfo b).2.2]

/-- A start fails (R38, R40): START_FAIL is set, PEND_DIS cleared, the block is OFF and the failure is recorded. -/
def State.failStart (s : State) (b : Block) : State :=
  (((s.setBlockState b 0).wr (blockFld b 6 1) 1).wr (blockFld b 2 1) 0).event (blockDie b) (0x100 * (blockInfo b).2.1 + 0xF0) (blockPayload b)

end Sys2Proof.Machine
end

