-- ==== Sys2Proof/Machine/Imaging.lean ====
section
/-! DEFINITION. The image pipeline of a camera (R385 to R387) on a frame held as rows of values. -/

namespace Sys2Proof.Machine

open Sys2Proof

/-- A frame of values by row and column, with its width and height. -/
structure Frame where
  w : Nat
  h : Nat
  rows : List (List Nat)
  deriving DecidableEq, Repr

/-- Coordinates outside the frame are mirrored (R385). -/
def mirror (x : Int) (w : Nat) : Nat :=
  if x < 0 then (-x).toNat else if (w : Int) ≤ x then (2 * (w : Int) - 2 - x).toNat else x.toNat

/-- The value at a column and row, mirrored. -/
def Frame.at (f : Frame) (x y : Int) : Int := (((f.rows.getD (mirror y f.h) []).getD (mirror x f.w) 0 : Nat) : Int)

/-- A stage clamps its result to 12 bits (R385). -/
def clamp12 (v : Int) : Nat := (min 4095 (max 0 v)).toNat

/-- A frame computed site by site. -/
def Frame.map (f : Frame) (g : Nat → Nat → Nat) : Frame :=
  { f with rows := (List.range f.h).map (fun y => (List.range f.w).map (fun x => g x y)) }

/-- The Bayer channel of a site (R385). -/
def channel (x y : Nat) : Nat := 2 * (y % 2) + x % 2

/-- The row from which an invalid line reads (R385): the nearest valid line of its Bayer phase above it, or below it at the top. -/
def sourceRow (valid : List Bool) (y : Nat) : Option Nat :=
  let h := valid.length
  let up := (List.range (y / 2 + 1)).map (fun i => y - 2 * i)
  let down := (List.range h).filterMap (fun i => if y + 2 * i < h then some (y + 2 * i) else none)
  (up ++ down).find? (fun z => valid.getD z false)

/-- The received lines with every invalid line replaced; a line without any source reads open values. -/
def Frame.repaired (w : Nat) (valid : List Bool) (lines : List (List Nat)) : Frame :=
  ⟨w, valid.length, (List.range valid.length).map (fun y =>
    match sourceRow valid y with
    | some z => (List.range w).map (fun x => (lines.getD z []).getD x 0)
    | none => (List.range w).map (fun x => (Config.lostPixel x y).toNat))⟩

/-- Black level (R386). -/
def Frame.black (f : Frame) (bl : Nat → Nat) : Frame := f.map fun x y => clamp12 (f.at x y - bl (channel x y))

/-- A number put into a sorted list. -/
def insertSorted (v : Int) (l : List Int) : List Int :=
  match l with
  | [] => [v]
  | a :: r => if v ≤ a then v :: a :: r else a :: insertSorted v r

/-- The eight same-channel neighbours of a site at distance 2, sorted (R386). -/
def Frame.around (f : Frame) (x y : Int) : List Int :=
  [(-2, -2), (0, -2), (2, -2), (-2, 0), (2, 0), (-2, 2), (0, 2), (2, 2)].foldl
    (fun l (e : Int × Int) => insertSorted (f.at (x + e.1) (y + e.2)) l) []

/-- Defect correction (R386): listed sites, and with a threshold the sites that stand out. -/
def Frame.defects (f : Frame) (listed : List (Nat × Nat)) (thr : Nat) : Frame :=
  f.map fun x y =>
    let p := f.at x y
    if listed.contains (x, y) then clamp12 ((f.at (x - 2) y + f.at (x + 2) y) / 2)
    else if thr = 0 then clamp12 p
    else
      let l := f.around x y
      if l.getD 7 0 + thr < p || p < l.getD 0 0 - thr then clamp12 ((l.getD 3 0 + l.getD 4 0) / 2) else clamp12 p

/-- The shading gain at a site (R386): bilinear between the nodes of a grid of 65 x 33, rounded half up. -/
def gainAt (w h : Nat) (gain : Nat → Nat) (x y : Nat) : Nat :=
  let sx := ceilDiv w 64
  let sy := ceilDiv h 32
  let node (i j : Nat) : Nat := gain (2145 * channel x y + 65 * (y / sy + j) + x / sx + i)
  let u := x % sx
  let v := y % sy
  let sum := (sx - u) * (sy - v) * node 0 0 + u * (sy - v) * node 1 0 + (sx - u) * v * node 0 1 + u * v * node 1 1
  (2 * sum + sx * sy) / (2 * (sx * sy))

/-- Lens shading (R386). -/
def Frame.shaded (f : Frame) (gain : Nat → Nat) : Frame :=
  f.map fun x y => clamp12 ((f.at x y * gainAt f.w f.h gain x y + 512) / 1024)

/-- White balance (R386). -/
def Frame.balanced (f : Frame) (wb : Nat → Nat) : Frame :=
  f.map fun x y => clamp12 ((f.at x y * wb (channel x y) + 512) / 1024)

/-- The colour of a site: 0 R, 1 Gr, 2 Gb, 3 B; BAYER gives that of channel 0 (R385). -/
def colour (bayer x y : Nat) : Nat := channel x y ^^^ bayer

/-- G at an R or B site (R387). -/
def Frame.greenAt (f : Frame) (x y : Int) : Int :=
  let p := f.at
  let dh := (p (x - 1) y - p (x + 1) y).natAbs + (2 * p x y - p (x - 2) y - p (x + 2) y).natAbs
  let dv := (p x (y - 1) - p x (y + 1)).natAbs + (2 * p x y - p x (y - 2) - p x (y + 2)).natAbs
  let gh := (p (x - 1) y + p (x + 1) y) / 2 + (2 * p x y - p (x - 2) y - p (x + 2) y) / 4
  let gv := (p x (y - 1) + p x (y + 1)) / 2 + (2 * p x y - p x (y - 2) - p x (y + 2)) / 4
  if dh < dv then gh else if dv < dh then gv else (gh + gv) / 2

/-- G of every site: computed at R and B sites, the site's own value elsewhere. -/
def Frame.green (f : Frame) (bayer : Nat) : Frame :=
  f.map fun x y =>
    let c := colour bayer x y
    clamp12 (if c = 0 || c = 3 then f.greenAt x y else f.at x y)

/-- Demosaic of a site (R387), from the balanced values and the green plane. -/
def Frame.demosaic (f g : Frame) (bayer x y : Nat) : Pixel :=
  let c := colour bayer x y
  let p := f.at
  let diff (u v : Int) : Int := p u v - g.at u v
  let xi : Int := x
  let yi : Int := y
  let own := f.at x y
  if c = 0 || c = 3 then
    let o := g.at x y + (diff (xi - 1) (yi - 1) + diff (xi + 1) (yi - 1) + diff (xi - 1) (yi + 1) + diff (xi + 1) (yi + 1)) / 4
    if c = 0 then ⟨clamp12 own, clamp12 (g.at x y), clamp12 o⟩ else ⟨clamp12 o, clamp12 (g.at x y), clamp12 own⟩
  else
    let row := clamp12 (own + (diff (xi - 1) yi + diff (xi + 1) yi) / 2)
    let col := clamp12 (own + (diff xi (yi - 1) + diff xi (yi + 1)) / 2)
    if c = 1 then ⟨row, clamp12 own, col⟩ else ⟨col, clamp12 own, row⟩

/-- Colour correction (R386): coefficients row by row, then offsets. -/
def Pixel.corrected (p : Pixel) (ccm : Nat → Int) : Pixel :=
  let out (i : Nat) : Nat :=
    clamp12 ((ccm (3 * i) * p.r + ccm (3 * i + 1) * p.g + ccm (3 * i + 2) * p.b + 512) / 1024 + ccm (9 + i))
  ⟨out 0, out 1, out 2⟩

/-- Luma of a pixel (R390). -/
def Pixel.luma (p : Pixel) : Nat := (77 * p.r + 150 * p.g + 29 * p.b) / 256

/-- Box averages over `n` x `n` pixels (R388). -/
def boxed (n : Nat) (rows : List (List Pixel)) : List (List Pixel) :=
  let w := ((rows.head?.map List.length).getD 0) / n
  (List.range (rows.length / n)).map fun y => (List.range w).map fun x =>
    let ps := (List.range n).flatMap fun j => (List.range n).map fun i => (rows.getD (n * y + j) []).getD (n * x + i) ⟨0, 0, 0⟩
    let mean (f : Pixel → Nat) : Nat := (ps.map f).foldl (· + ·) 0 / (n * n)
    ⟨mean Pixel.r, mean Pixel.g, mean Pixel.b⟩

/-- The gamma-coded pixel (R388). -/
def Pixel.srgb (p : Pixel) : Pixel := ⟨(Config.srgb p.r).toNat, (Config.srgb p.g).toNat, (Config.srgb p.b).toNat⟩

end Sys2Proof.Machine
end

