-- ==== Sys2Proof/Machine/Frames.lean ====
section
/-! DEFINITION. The characters of the head link's sets (R343, R347 to R349): data characters as 0 to 255, a special character as 256 more
than its byte. -/

namespace Sys2Proof.Machine

open Sys2Proof

/-- K28.1, K28.2, K28.3, K28.5, K27.7 and K29.7 (R343, R347). -/
def k281 : Nat := 0x13C
def k282 : Nat := 0x15C
def k283 : Nat := 0x17C
def k285 : Nat := 0x1BC
def k277 : Nat := 0x1FB
def k297 : Nat := 0x1FD

/-- CRC-8 of R347. -/
def crc8 (bs : List Nat) : Nat :=
  bs.foldl (fun c b => forUpTo 8 (fun _ c => if bit c 7 then (2 * c % 256) ^^^ 7 else 2 * c) (c ^^^ b)) 0

/-- A set under a CRC-8: its special character, its data and the CRC of the data. -/
def crcSet (k : Nat) (data : List Nat) : List Nat := k :: data ++ [crc8 data]

/-- The sets of R347 between frames. -/
def idleSet : List Nat := [k285, 0x50, 0x50, 0x50]
def trainSet (rate phys group : Nat) : List Nat := crcSet k285 [0x54, rate, phys, group]
def nofireSet (line : Nat) : List Nat := crcSet k283 (leBytes line 3)
def activeSet (hold : Bool) (epoch : Nat) : List Nat := crcSet k281 (nat hold :: leBytes epoch 3)
def readSet (addr count : Nat) : List Nat := crcSet k282 (1 :: leBytes addr 2 ++ [count])

/-- The data of a set with a special character and a correct CRC-8, when it has `n` data characters. -/
def setData (k n : Nat) (cs : List Nat) : Option (List Nat) :=
  let data := (cs.drop 1).take n
  if cs.length = n + 2 && cs.headD 0 = k && data.all (fun c => c < 256) && cs.getD (n + 1) 0 = crc8 data then some data else none

/-- HOLD and EPOCH of an ACTIVE set. -/
def readActive (cs : List Nat) : Option (Bool × Nat) :=
  match setData k281 4 cs with
  | some d => if d.headD 0 < 2 then some (bit (d.headD 0) 0, ofBytes (d.drop 1)) else none
  | none => none

/-- ADDR and COUNT of a READ command. -/
def readCommand (cs : List Nat) : Option (Nat × Nat) :=
  match setData k282 4 cs with
  | some d => if d.headD 0 = 1 && 1 ≤ d.getD 3 0 && d.getD 3 0 ≤ 64 then some (ofBytes ((d.drop 1).take 2), d.getD 3 0) else none
  | none => none

/-- Bits of a slot: b of R348. -/
def slotBits (code : Nat) : Nat := 2 ^ code

/-- The payload of a LINE frame (R349): slot s at bit s x b, lowest slot in the lowest bits. -/
def linePayload (f : LineFrame) : List Nat :=
  let b := slotBits f.code
  (List.range (256 * b)).map (fun k =>
    (f.slots.filter (fun e => e.1 * b / 8 = k)).foldl (fun n e => n + 2 ^ (e.1 * b % 8) * (e.2 % 2 ^ b)) 0)

/-- Characters 1 to 8 + 256 x b of a LINE frame (R348). -/
def lineBody (f : LineFrame) : List Nat :=
  [f.lane % 8 + 16 * (f.code % 4) + 64 * nat f.tickle] ++ leBytes f.line 3 ++ leBytes f.row1 2 ++ leBytes (f.volt % 4096) 2 ++ linePayload f

/-- The characters of a LINE frame (R348). -/
def lineChars (f : LineFrame) : List Nat := k277 :: lineBody f ++ leBytes (crc32 (lineBody f)) 4 ++ [k297]

/-- The slots of a payload whose value is not 0. -/
def payloadSlots (b : Nat) (payload : List Nat) : List (Nat × Nat) :=
  ((List.range 2048).map (fun s => (s, bits (payload.getD (s * b / 8) 0) (s * b % 8) b))).filter (fun e => e.2 != 0)

/-- The LINE frame that characters spell, when they have the length for its CODE, a correct CRC-32 and an EOF (R348, R359). -/
def readLine (cs : List Nat) : Option LineFrame :=
  let head := cs.getD 1 0
  let code := bits head 4 2
  let n := 8 + 256 * slotBits code
  let body := (cs.drop 1).take n
  if code < 3 && cs.length = n + 6 && cs.headD 0 = k277 && cs.getD (n + 5) 0 = k297 && (cs.drop 1).dropLast.all (fun c => c < 256)
      && ofBytes ((cs.drop (n + 1)).take 4) = crc32 body then
    some ⟨bits head 0 3, code, bit head 6, ofBytes ((cs.drop 2).take 3), ofBytes ((cs.drop 5).take 2), ofBytes ((cs.drop 7).take 2) % 4096,
      payloadSlots (slotBits code) (body.drop 8)⟩
  else none

end Sys2Proof.Machine
end

