-- ==== Sys2Proof/Machine/PressOps.lean ====
section
/-! DEFINITION. Feedback inputs, the web, pacers and lane groups (R285 to R341). -/

namespace Sys2Proof.Machine

open Sys2Proof

/-! Feedback inputs. -/

/-- An input, by 5 x die + number; 4 is WEB. -/
def State.input (s : State) (f : Nat) : Input :=
  tget s.press.inputs f ⟨false, false, false, 0, [], true, false, false, 0, none, 0, false, none, (0, 0)⟩

/-- Changes an input. -/
def State.setInput (s : State) (f : Nat) (x : Input) : State := s.onPress fun q => { q with inputs := tset q.inputs f x }

/-- How many count intervals the speed is averaged over (R294). -/
def State.avg (s : State) (f : Nat) : Nat := 2 ^ s.rd (F.FBK_CTL_AVG (f / 5) (f % 5))

/-- Standstill timeout in SENSE clocks (R294, R295). -/
def State.stillTo (s : State) (f : Nat) : Nat := usTicks (1000 * s.rd (F.FBK_CFG_STILL_TO (f / 5) (f % 5)))

/-- The speed of an input in 1/256 count/s (R294). -/
def Input.speed (x : Input) (now stillTo : Nat) : Int :=
  let s := now - x.edgeAt
  if stillTo ≤ s then 0
  else if x.hold then x.kept
  else match x.hist with
    | t :: t' :: r =>
      let v := (r.length + 1) * 200000000 * 256 / (t - (r.getLast?).getD t')
      let m := if t - t' < s then min v (200000000 * 256 / s) else v
      if x.back then -(m : Int) else m
    | _ => 0

/-- The position of an input with its fraction, in 1/256 count (R296); a stopped input's stays as the stop left it (R304). -/
def Input.position (x : Input) (now : Nat) : Int :=
  match x.frozen, x.hist with
  | some v, _ => v
  | none, t :: t' :: _ =>
    if x.still || x.hold then x.count * 256
    else
      let frac : Int := min 255 (256 * (now - t) / (t - t'))
      if x.back then x.count * 256 - frac else x.count * 256 + frac
  | none, _ => x.count * 256

/-- A count is accepted in a direction (R294). -/
def Input.counted (x : Input) (back : Bool) (t avg : Nat) : Input :=
  let h := if x.still || back != x.back then [] else x.hist
  let h := (t :: h).take (avg + 1)
  { x with hist := h, still := false, back := back, hold := x.hold && h.length < 2, valid := some back, edgeAt := t,
           count := if back then x.count - 1 else x.count + 1 }

/-- An illegal transition restarts the speed measurement (R292, R294); `add` counts are inferred (R293). It is an edge, from which the time to
standstill runs (DEDUCED, notes/assumptions/134). -/
def Input.illegal (x : Input) (now stillTo : Nat) (add : Int) : Input :=
  { x with hist := [], hold := true, kept := x.speed now stillTo, edgeAt := now, count := x.count + add }

/-- A level that first appeared at FIRE clock `stamp` has been sampled at N SENSE clocks in a row (R289). A change of N governs the levels that
appear after it. -/
def State.filtered (s : State) (f stamp : Nat) : Bool :=
  let x := s.input f
  let a := (stamp + 1) / 2
  decide (a + (if a < x.filt.2 then x.filt.1 else s.rd (F.FBK_CFG_FILT (f / 5) (f % 5))) ≤ s.clk + 1)

/-- FILT of inputs has changed from what it was in a state before (R289). -/
def State.noteFilters (s old : State) : State :=
  (List.range (5 * s.dies)).foldl (fun s f =>
    let n := old.rd (F.FBK_CFG_FILT (f / 5) (f % 5))
    if s.rd (F.FBK_CFG_FILT (f / 5) (f % 5)) = n then s else s.setInput f { s.input f with filt := (n, s.clk) }) s

/-- Place of an A/B pair in the sequence of R285: 00, 10, 11, 01. -/
def quadPlace (a b : Bool) : Nat := if a then (if b then 2 else 1) else if b then 3 else 0

/-- What new levels of A and B mean (R285, R286, R292): no count, a count forward or backward, or an illegal transition. -/
inductive Step2 | still | up | down | illegal
  deriving DecidableEq, Repr

/-- Decoding of levels that were accepted together. -/
def decodeLevels (mode : Nat) (inv a b a' b' : Bool) : Step2 :=
  if mode = 1 then
    if !a && a' then (if b' != inv then .up else .down) else .still
  else if mode = 2 then
    if !a && a' && !b && b' then .still
    else if !a && a' then .up
    else if !b && b' then .down
    else .still
  else
    let p := if inv then quadPlace b a else quadPlace a b
    let q := if inv then quadPlace b' a' else quadPlace a' b'
    if p = q then .still else if (p + 1) % 4 = q then .up else if (q + 1) % 4 = p then .down else .illegal

/-! Emulation outputs. -/

/-- An emulation output, by 2 x die + number. -/
def State.emu (s : State) (x : Nat) : Emu := tget s.press.emus x ⟨0, 0, 0, 0, 0, false, false, false, (0, 0), 0⟩

/-- Changes an emulation output. -/
def State.setEmu (s : State) (x : Nat) (e : Emu) : State := s.onPress fun q => { q with emus := tset q.emus x e }

/-- The backlog of an output changes; the time since which it is 0 follows (R300). -/
def Emu.withBacklog (e : Emu) (b : Int) (now : Nat) : Emu :=
  { e with backlog := b, zeroAt := if b = 0 && e.backlog != 0 then now else e.zeroAt }

/-- The level of line A of an output: in step/direction mode its pulse, in quadrature mode the place in the sequence (R299). -/
def Emu.lineA (e : Emu) (step : Bool) (fire : Nat) : Bool := if step then decide (e.pulse.1 ≤ fire && fire < e.pulse.2) else e.a

/-- A count of an output's input (R298, R300). -/
def State.emuCount (s : State) (x : Nat) (back : Bool) : State :=
  let d := x / 2
  let m := x % 2
  let e := s.emu x
  let num := s.rd (F.FBK_EMU_NUM_VALUE d m)
  let den := s.rd (F.FBK_EMU_DEN_VALUE d m)
  let (acc, step) : Nat × Int :=
    if back then (if e.acc < num then (e.acc + den - num, -1) else (e.acc - num, 0))
    else if den ≤ e.acc + num then (e.acc + num - den, 1) else (e.acc + num, 0)
  let b := e.backlog + step
  if 65535 < b.natAbs then
    let s := ((s.setEmu x { e with acc := acc }).inc (F.FBK_EMU_DROP_COUNT d m)).wr (F.FBK_EMU_STAT_OVR d m) 1
    if s.inEpisode 0x0D04 x then s else (s.eventOnce d 0x0D04 x [x]).causeAt d 28
  else s.setEmu x ({ e with acc := acc }.withBacklog b s.clk)

/-- The outputs of a die that follow source `src` count (R298). -/
def State.emuFollow (s : State) (d src : Nat) (back : Bool) : State :=
  [0, 1].foldl (fun s m =>
    let st := s.rd (F.FBK_EMU_CTL_STATE d m)
    if st = 2 && s.rd (F.FBK_EMU_CTL_SRC d m) = src then s.emuCount (2 * d + m) back else s) s

/-! The web of a die. -/

/-- What the pacers of a die share. -/
def State.web (s : State) (d : Nat) : Web := tget s.press.webs d ⟨0, 0, false, [], false, 0⟩

/-- Changes it. -/
def State.setWeb (s : State) (d : Nat) (w : Web) : State := s.onPress fun q => { q with webs := tset q.webs d w }

/-- WEB count of a die, not wrapped. -/
def State.webCount (s : State) (d : Nat) : Int := (s.input (5 * d + 4)).count

/-- The WEB count of a die has changed from `was`: D0's crossing of a multiple of 4,096 is noted, whatever has moved the count (R74). -/
def State.crossRound (s : State) (d : Nat) (was : Int) : State :=
  if d = 0 && s.webCount 0 / 4096 != was / 4096 then s.onEpoch fun e => { e with crossed := true } else s

/-- PITCH in 2^-24 counts (R44). -/
def State.pitch (s : State) : Nat := s.rd F.EPOCH_PITCH_FRAC_PITCH + 2 ^ 24 * s.rd F.EPOCH_PITCH_INT_PITCH

/-- A line pacer, by 2 x die + number. -/
def State.pacer (s : State) (p : Nat) : Pacer :=
  tget s.press.pacers p ⟨0, 0, 0, .fire, 0, 0, false, false, .none, none, [], 0⟩

/-- Changes a pacer. -/
def State.setPacer (s : State) (p : Nat) (x : Pacer) : State := s.onPress fun q => { q with pacers := tset q.pacers p x }

/-- A lane group, by 8 x die + number. -/
def State.group (s : State) (g : Nat) : Group :=
  tget s.press.groups g ⟨0, none, none, false, [], false, none, 0, false, 0, none, [], 0, 0, 0, 0, false, 0, 0, 0, 0, 0, none, [], [], none⟩

/-- Changes a group. -/
def State.setGroup (s : State) (g : Nat) (x : Group) : State := s.onPress fun q => { q with groups := tset q.groups g x }

/-- Changes the groups of a die. -/
def State.onGroups (s : State) (d : Nat) (f : Nat → Group → Group) : State :=
  (List.range 8).foldl (fun s g => s.setGroup (8 * d + g) (f g (s.group (8 * d + g)))) s

/-- A line pacer is ON. -/
def State.pacerOn (s : State) (p : Nat) : Bool := s.rd (F.LNP_CTL_STATE (p / 2) (p % 2)) = 2

/-- The pacer of a group, by 2 x die + number. -/
def State.groupPacer (s : State) (g : Nat) : Nat := 2 * (g / 8) + s.rd (F.LNP_GRP_PACER (g / 8) (g % 8))

/-- Speed in counts per FIRE clock at the last stamp, as numerator and denominator (R315). -/
def Web.v0 (w : Web) : Option (Nat × Nat) :=
  match w.stamps with
  | s :: p1 :: p2 :: _ =>
    let t1 := s - p1
    let t2 := p1 - p2
    let num : Int := (t2 * (t1 + t2) : Nat) + t1 * ((t2 : Int) - t1)
    if num ≤ 0 then none else some (num.toNat, t1 * t2 * (t1 + t2))
  | [s, p1] => some (1, s - p1)
  | _ => none

/-- Rounds a quotient half up. -/
def roundDiv (a : Int) (b : Nat) : Int := (2 * a + b) / (2 * b)

/-- `place` of R315: the FIRE clock at which a target in 2^-24 counts is reached, less ADV. -/
def Web.place (w : Web) (count target : Int) (adv : Nat) : Option Int :=
  match w.stamps, w.v0 with
  | s :: _, some (num, den) => some (s + roundDiv ((target - count * 2 ^ 24) * den) (num * 2 ^ 24) - adv)
  | _, _ => none

/-- The offset O of a row of a head for a substrate line, in 1/256 line (R273); its fraction is 0 when it is clamped (R274). -/
def State.rowFrac (s : State) (p : Nat) (l : Int) (h r : Nat) : Nat :=
  (s.rowDelay p (s.imageAt (.bar p) l) (s.yregAt p l) h r).2.1

/-- φ of a group for a substrate line, in 1/256 line (R312). -/
def State.phi (s : State) (g : Nat) (l : Int) : Nat :=
  let p := s.groupPacer g
  let h := ((s.imageAt (.bar p) l).groupHead (g / 8) (g % 8)).getD 0
  s.atLine (.bar p) l (F.LNP_FDLY_FDLY (p / 2) (p % 2)) + s.rowFrac p l h 0

/-- Target of die line `f` for a group, in 2^-24 counts (R312). -/
def State.target (s : State) (g f : Nat) : Int :=
  let d := g / 8
  let l : Int := f - s.delay (.bar (s.groupPacer g))
  (s.web d).zero * 2 ^ 24 + ((f * 256 + s.phi g l) * s.pitch / 256 : Nat)

/-! Rank limits and bands. -/

/-- SPEED_LIMIT of the job in force on a pacer's bar at a substrate line; 0 for none (R228). -/
def State.speedLimit (s : State) (p : Nat) (l : Int) : Nat :=
  if l < 0 then 0
  else match s.jobAt l.toNat, (s.imageFor (.bar p)).barOf p with
    | some (_, c), some bar => (c.block.map (fun b => if b.hasBar bar then b.speedLimit else 0)).getD 0
    | _, _ => 0

/-- The shortest fire period of the heads of a pacer's bar: of their classes and as they report it (R324); 0 without a bar. -/
def State.headPeriod (s : State) (p : Nat) : Nat :=
  let d := p / 2
  let m := s.imageFor (.bar p)
  match m.barOf p with
  | none => 0
  | some bar =>
    let cls := (m.barHeads d bar).foldl (fun x h => max x (m.classWord ((m.head? h).map Head.cls |>.getD 0) 1)) 0
    (List.range 8).foldl (fun x g =>
      if m.groupPacer d g = some (p % 2) && s.on (F.LAN_GSTAT_IDV d g) then max x (s.rd (F.LNP_HMP_PERIOD d g)) else x) cls

/-- The effective minimum fire period MP of a pacer's bar at a substrate line (R324); 0 without a bar. -/
def State.minPeriod (s : State) (p : Nat) (l : Int) : Nat :=
  let lim := s.speedLimit p l
  if lim = 0 || ((s.imageFor (.bar p)).barOf p).isNone then s.headPeriod p else max (s.headPeriod p) (ceilDiv 400000000 lim)

/-- A policy entry of a block of a die in effect there (R114), or its default (R103). -/
def State.policy (s : State) (d blk key : Nat) : Nat := (s.imageFor (.block d blk)).pol d key

/-- The band thresholds OS, NS, RS and OMIT_MAX of a die (R325). -/
def State.thresholds (s : State) (d : Nat) : Nat × Nat × Nat × Nat :=
  let om := s.policy d 3 0x103
  let os := s.policy d 3 0x100
  (os, min (s.policy d 3 0x101) (1024 * om / (om - 1)), min (s.policy d 3 0x102) os, om)

/-- FLOOR in FIRE clocks (R322). -/
def State.floorOf (s : State) (p : Nat) (l : Int) : Nat := ceilDiv (s.minPeriod p l * 1024) (s.thresholds (p / 2)).2.1

/-- The line rate in 1/1,024 of the maximum, q (R325). -/
def State.speedQ (s : State) (p : Nat) (l : Int) : Nat :=
  match (s.web (p / 2)).stamps with
  | a :: r => match r[15]? with
    | some z => ceilDiv (1024 * s.minPeriod p l * 16 * 2 ^ 24) (s.pitch * (a - z))
    | none => 0
  | [] => 0

/-- The line rate of a die in lines/s over 16 counts; 0 with fewer than 17 stamps. -/
def State.lineRate (s : State) (d : Nat) : Nat :=
  match (s.web d).stamps with
  | a :: r => match r[15]? with
    | some z => 16 * 400000000 * 2 ^ 24 / (s.pitch * (a - z))
    | none => 0
  | [] => 0

/-- BAND of a pacer. -/
def State.band (s : State) (p : Nat) : Nat := s.rd (F.LNP_STAT_BAND (p / 2) (p % 2))

/-- A band change (R326): 1 OMIT, 2 NOFIRE, 0 NORMAL. -/
def State.enterBand (s : State) (p b q : Nat) : State :=
  let d := p / 2
  let x := s.pacer p
  let s := if s.band p = 0 || b = 0 then s.setPacer p { x with omitted := 0, nofired := 0 } else s
  let s := (s.wr (F.LNP_STAT_BAND d (p % 2)) b).causeAt d 29
  if b = 0 then s.event d 0x0804 [p % 2, x.omitted, x.nofired] else s.event d (if b = 1 then 0x0801 else 0x0802) [p % 2, q]

/-- Lines are omitted by a pacer; in an excursion they count toward its record (R326). -/
def State.omitLines (s : State) (p n : Nat) : State :=
  let x := s.pacer p
  ((s.setPacer p { x with omitted := if s.band p = 0 then x.omitted else x.omitted + n }).incBy (F.LNP_OMIT_COUNT (p / 2) (p % 2)) n).life (p / 2) 2 n

/-- `band_step` of R325 for die line `f`. -/
def State.bandStep (s : State) (p f : Nat) : State :=
  let d := p / 2
  let l : Int := f - s.delay (.bar p)
  let q := s.speedQ p l
  let (os, ns, rs, om) := s.thresholds d
  let b := s.band p
  let s := s.wr (F.LNP_STAT_Q d (p % 2)) (min q 4095)
  let (s, b) :=
    if ns < q then (if b = 2 then (s, 2) else (s.enterBand p 2 q, 2))
    else if b = 0 && os < q then
      ((s.enterBand p 1 q).setPacer p { (s.enterBand p 1 q).pacer p with acc := 0, gap := om }, 1)
    else if b != 0 && q < rs then (s.enterBand p 0 q, 0)
    else (s, b)
  let x := s.pacer p
  if b = 2 then
    ((s.setPacer p { x with stepLine := f, step := .nofire, nofired := x.nofired + 1 }).inc (F.LNP_NOFIRE_COUNT d (p % 2))).life d 3 1
  else if b = 1 then
    let acc := x.acc + q - 1024
    if q ≤ acc && om ≤ x.gap + 1 then
      (s.setPacer p { x with stepLine := f, step := .omit, acc := acc - q, gap := 0 }).omitLines p 1
    else s.setPacer p { x with stepLine := f, step := .fire, acc := acc, gap := x.gap + 1 }
  else s.setPacer p { x with stepLine := f, step := .fire }

/-! Rejects. -/

/-- A reject request for a span of substrate lines (R328). -/
def State.reject (s : State) (first last src : Nat) : State :=
  let a := first + s.rd (F.LNP_REJ_CTL_REJ_DELAY 0)
  let z := last + s.rd (F.LNP_REJ_CTL_REJ_DELAY 0) + s.rd (F.LNP_REJ_EXT_REJ_EXT 0)
  let s := s.event 0 0x0810 [first, src]
  let now := s.pkgLine
  let s := if a < now then s.inc (F.LNP_REJ_LATE_COUNT 0) else s
  let x : Span := ⟨a, z, decide (a ≤ now)⟩
  let join (u v : Span) : Span := ⟨min u.first v.first, max u.last v.last, u.started || v.started⟩
  let hits := s.press.spans.filter (fun y => x.first ≤ y.last && y.first ≤ x.last)
  let rest := s.press.spans.filter (fun y => !(x.first ≤ y.last && y.first ≤ x.last))
  let spans :=
    if !hits.isEmpty then rest ++ [hits.foldl join x]
    else if 16 ≤ s.press.spans.length then
      match s.press.spans.getLast? with
      | some y => s.press.spans.dropLast ++ [join y x]
      | none => [x]
    else s.press.spans ++ [x]
  let s := s.onPress fun q => { q with spans := spans }
  if x.started then s.wr (F.LNP_REJ_STAT_REJECT 0) 1 else s

/-- A reject is asked for the page that holds a substrate line on a pacer's bar, or for the line alone with no job in force; the
sources that depend on the job's REJECT ask nothing without it (R328, R329). A span asked for last is not asked for again. -/
def State.rejectPage (s : State) (p : Nat) (l : Int) (src : Nat) (always : Bool) : State :=
  if l < 0 then s
  else
    let l := l.toNat
    let ask (s : State) (a z : Nat) : State :=
      let x := s.pacer p
      if x.asked.contains (src, a, z) then s
      else (s.setPacer p { x with asked := (src, a, z) :: x.asked.filter (fun e => e.1 != src) }).reject a z src
    match s.jobAt l with
    | none => if always then ask s l l else s
    | some (_, c) => match c.block with
      | none => s
      | some b =>
        let bar := (s.imageFor (.bar p)).barOf p
        if !always && (!b.reject || !bar.any b.hasBar) then s
        else
          let a := c.start + (l - c.start) / b.pageLines * b.pageLines
          let z := a + b.pageLines - 1
          ask s a (match c.endLine with
            | some e => min z (e - 1)
            | none => z)

/-! Firing. -/

/-- The unit leads: its role is UNPAIRED, ALONE or ACTIVE (R509). -/
def State.leads (s : State) : Bool := s.role = 0 || s.role = 3 || s.role = 4

/-- A die can fire: its FIRE clock runs and no power warning holds it (R24, R147, R148). -/
def State.mayFire (s : State) (d : Nat) : Bool :=
  !s.press.fireLost.contains d && !s.halted

/-- The unit fires die line `f` of a pacer: it leads, up to H + d_b of a handover, and from the line at which it resumes after a takeover;
a standby fires from H + d_b of a handover (R515, R530, R532). -/
def State.firesLine (s : State) (p f : Nat) : Bool :=
  let h := s.pair.handover.map (· + s.delay (.bar p))
  if s.leads then h.all (fun x => f < x) && decide (tget s.pair.resume p 0 ≤ f) else s.role = 2 && h.any (fun x => x ≤ f)

/-- What ACTIVE carries on a group (R515, R532): the epoch and HOLD of the LAN block, and in a handover HOLD 0 once the old active has
passed H + d_b, and the next epoch with HOLD 1 once the new one has sent a frame of that line or a later one (R516). -/
def State.activeOf (s : State) (g : Nat) : Nat × Bool :=
  let e := s.rd (F.LAN_ACT_EPOCH_EPOCH (g / 8))
  let hold := s.on (F.LAN_ACT_FLAGS_HOLD (g / 8))
  match s.pair.handover with
  | none => (e, hold)
  | some h =>
    let line := h + s.delay (.bar (s.groupPacer g))
    if s.leads then (e, hold && decide (s.dieLine (g / 8) < line))
    else if s.role = 2 && line < (s.group g).next then (e + 1, true)
    else (e, hold)

/-- PMAX_eff of a group (R322): the class's PULSE_MAX and what the head reports, if it reports any. -/
def State.pulseMax (s : State) (g : Nat) : Nat :=
  let m := s.imageFor (.bar (s.groupPacer g))
  let c := ((m.groupHead (g / 8) (g % 8)).bind (fun h => (m.head? h).map (fun e => m.classWord e.cls 3))).getD 0
  let h := (s.group g).pulseMax
  if h = 0 then c else min c h

/-- A strobe width clamped into the range of R322. -/
def State.clampPulse (s : State) (g w : Nat) (l : Int) : Nat :=
  let p := s.groupPacer g
  let m := s.imageFor (.bar p)
  let lo := ((m.groupHead (g / 8) (g % 8)).bind (fun h => (m.head? h).map (fun e => m.classWord e.cls 2))).getD 0
  min (min (max w lo) (s.pulseMax g)) (s.floorOf p l - 40)

/-- Voltage limits of a head: stored ones, or V_NOM less and plus a twentieth (R333). -/
def State.voltLimits (s : State) (m : Image) (h : Nat) : Nat × Nat :=
  let v := ((m.head? h).map (fun e => m.classWord e.cls 9)).getD 0
  tget s.flash.limitTable h (v - v / 20, v + v / 20)

/-- The drive voltage of a head for a TRIM, before and after the clamp of R333. -/
def State.driveVolt (s : State) (m : Image) (h trim : Nat) : Int × Nat :=
  let v : Int := ((m.head? h).map (fun e => m.classWord e.cls 9)).getD 0 + signed 12 trim
  let (lo, hi) := s.voltLimits m h
  (v, (min (hi : Int) (max lo v)).toNat)

/-- A drive voltage outside its limits is recorded when TRIM or the limits change (R333). -/
def State.judgeVolt (s : State) (h : Nat) : State :=
  let m := s.imageOfHead h
  match m.head? h with
  | none => s
  | some e =>
    let (v, c) := s.driveVolt m h (s.rd (trimOf h))
    if v = c then s else s.event ((m.pacerOf e.bar).getD 0 / 2) 0x0812 [h, unsigned 24 v]

/-- Drops fired are counted for their nozzles from full service on (R587), and for the meter (R546). -/
def State.countDrops (s : State) (g : Nat) (drops : List (Nat × Nat)) (tickle : Bool) : State :=
  let s :=
    if s.rd F.BOOT_STAT_STAGE != 7 then s
    else s.onRcd fun r =>
      { r with fires := drops.foldl (fun t e => tset t e.1 (min (tget t e.1 0 + 1) (2 ^ 40 - 1))) r.fires }
  let x := s.group g
  if tickle then s.setGroup g { x with tickled := x.tickled + 1 }
  else s.setGroup g { x with tally := (List.range 15).map (fun i => x.tally.getD i 0 + (drops.filter (fun e => e.2 = i + 1)).length) }

/-- The greatest ADV of a pacer at a substrate line (R316). -/
def State.advLimit (s : State) (p : Nat) (l : Int) : Nat := (s.leadEff p - 8) * s.minPeriod p l

/-- ADV of a pacer is judged against its limit at a substrate line (R316): when it is committed, and when the limit has fallen below it. -/
def State.judgeAdv (s : State) (p : Nat) (l : Int) (committed : Bool) : State :=
  let d := p / 2
  let lim := s.advLimit p l
  let x := s.pacer p
  let above := decide (lim < s.rd (F.LNP_FDLY_ADV d (p % 2)))
  let s := s.setPacer p { x with advOver := above }
  if above && (committed || !x.advOver) then ((s.wr (F.LNP_STAT_ADV_CLAMP d (p % 2)) 1).event d 0x0811 [p % 2, lim]).causeAt d 30 else s

/-! Strobes and their placements. -/

/-- The placement of a group's die line, not yet placed: its target, and the ADV and the width in effect for it (R312, R316, R339). -/
def State.lineMark (s : State) (g f : Nat) : Strobe :=
  let d := g / 8
  let p := s.groupPacer g
  let l : Int := f - s.delay (.bar p)
  ⟨f, s.target g f, min (s.atLine (.bar p) l (F.LNP_FDLY_ADV d (p % 2))) (s.advLimit p l), s.atLine (.bar p) l (F.LNP_PW_PW d (g % 8)), none, 0, []⟩

/-- A group's pending strobe is given up: its placement stays for the trigger of the next line (R320). -/
def Group.withoutStrobe (x : Group) : Group :=
  match x.pend with
  | none => x
  | some b => { x with pend := none, ghost := some b }

/-- A strobe placed from the latest edge (R315). -/
def State.placed (s : State) (d : Nat) (b : Strobe) : Strobe :=
  let w := s.web d
  let c := s.webCount d
  { b with placed := match w.place c b.target b.adv with
      | some t => some t.toNat
      | none => if b.target ≤ c * 2 ^ 24 then w.stamps.head? else none }

/-- The group's strobe, or the placement of its line without one, is placed from the latest edge; a count at or below the ratchet mark places
none (R309, R315, R320). -/
def State.placePending (s : State) (g : Nat) : State :=
  let x := s.group g
  if !(s.web (g / 8)).ahead then s
  else s.setGroup g { x with pend := x.pend.map (s.placed (g / 8)), ghost := x.ghost.map (s.placed (g / 8)) }

/-- A group's triggers go on after die line `f`, which has no strobe (R320, R338). -/
def State.triggersFrom (s : State) (g f : Nat) : State :=
  (s.setGroup g { s.group g with next := f + 1, pend := none, ghost := some (s.lineMark g f) }).placePending g

/-- Pending strobes of a die wait for a new placement (R310). -/
def State.withdrawStrobes (s : State) (d : Nat) : State :=
  let back (b : Strobe) : Strobe := { b with placed := none }
  s.onGroups d fun _ x => { x with pend := x.pend.map back, ghost := x.ghost.map back }

/-! Edges of the web. -/

/-- The line number follows the ratchet mark (R44, R45). -/
def State.advanceLine (s : State) (d : Nat) : State :=
  let w := s.web d
  if !s.lineValid || s.pitch = 0 then s
  else
    let n := ((w.hwm - w.zero) * 2 ^ 24 / s.pitch).toNat
    if s.dieLine d < n then s.wrPair (F.DIE_LINE_LO_LINE d) (F.DIE_LINE_HI_LINE d) n else s

/-- Speedwell printing of a die. -/
def State.spw (s : State) (d : Nat) : Spw := tget s.boot.spw d ⟨0, 0, 0, none, false, false, false, 0⟩

/-- Changes it. -/
def State.setSpw (s : State) (d : Nat) (x : Spw) : State := { s with boot := { s.boot with spw := tset s.boot.spw d x } }

/-- The ratchet of Speedwell printing, with its hysteresis of 2 counts (R139). -/
def State.spwRatchet (s : State) (d : Nat) : State :=
  let x := s.spw d
  let c := s.webCount d
  if (tget? s.boot.spw d).isNone then s
  else if x.hwm < c then s.setSpw d { x with hwm := c, ahead := true, reverse := false }
  else s.setSpw d { x with ahead := false, reverse := x.reverse || decide (2 < x.hwm - c) }

/-- The count of a die's WEB has changed (R309 to R311): above the ratchet mark, the mark and the line number follow and REVERSE clears; at
or below it, pending strobes are withdrawn, and a fall below it by more than HYST sets REVERSE. -/
def State.ratchet (s : State) (d : Nat) : State :=
  let s := s.spwRatchet d
  let w := s.web d
  let c := s.webCount d
  if w.hwm < c then
    let s := if w.reverse then (s.event d 0x0806 [w.excursion]).causeAt d 29 else s
    (s.setWeb d { w with hwm := c, ahead := true, reverse := false, excursion := 0 }).advanceLine d
  else
    let gone := (w.hwm - c).toNat
    let s := (s.setWeb d { w with ahead := false, excursion := if w.reverse then max w.excursion gone else w.excursion }).withdrawStrobes d
    if w.reverse || gone ≤ s.rd (F.LNP_HYST_HYST d) then s
    else
      let s := s.setWeb d { s.web d with reverse := true, excursion := gone }
      ((s.event d 0x0805 [gone]).causeAt d 29).inc (F.LNP_REV_COUNT d)

/-- A forward edge of WEB with its stamp, after the count (R307 to R315). -/
def State.webForward (s : State) (d stamp : Nat) : State :=
  let w := s.web d
  let s := (s.setWeb d { w with stamps := (stamp :: w.stamps).take 17 }).life d 5 1
  (List.range 8).foldl (fun s g => s.placePending (8 * d + g)) (s.ratchet d)

/-- A backward edge of WEB, after the count (R308, R310, R311). -/
def State.webBackward (s : State) (d : Nat) : State :=
  (s.setWeb d { s.web d with stamps := [] }).ratchet d

/-- The history of stamps is emptied (R308). -/
def State.breakStamps (s : State) (d : Nat) : State := s.setWeb d { s.web d with stamps := [] }

end Sys2Proof.Machine
end

