-- ==== Sys2Proof/Machine/CameraOps.lean ====
section
/-! DEFINITION. Camera ports: settings sets, triggers, frames and what a closed frame gives (R368 to R394). -/

namespace Sys2Proof.Machine

open Sys2Proof

/-- A camera that has done nothing since reset. -/
def Camera.reset : Camera :=
  ⟨0, none, 0, none, none, none, none, [], 0, 0, [], [], none, [], false, 0, 0, 0, none, (0, 0), false, [], [], ⟨0, 0, []⟩, 0⟩

/-- The camera of a die. -/
def State.cam (s : State) (d : Nat) : Camera := tget s.cams d Camera.reset

/-- Changes a camera. -/
def State.setCam (s : State) (d : Nat) (c : Camera) : State := { s with cams := tset s.cams d c }

/-- Changes a camera. -/
def State.onCam (s : State) (d : Nat) (f : Camera → Camera) : State := s.setCam d (f (s.cam d))

/-- STATE of the CAM block of a die. -/
def State.camState (s : State) (d : Nat) : Nat := s.blockState (.cam d)

/-- An entry of the init table (R376, R393). -/
def initEntry (d e : Nat) : Fld := ⟨0x1200000 + 64 * d + e, 0, 24, 0⟩

/-! LED chains that follow a camera. -/

/-- A chain that has not started. -/
def Chain.none : Chain := ⟨[], [], [], [], 0, 0, 0, Option.none, false, 1024, [], false, Option.none, false, 0⟩

/-- A chain, by 2 x die + number. -/
def State.chain (s : State) (c : Nat) : Chain := tget s.chains c Chain.none

/-- Changes a chain. -/
def State.setChain (s : State) (c : Nat) (x : Chain) : State := { s with chains := tset s.chains c x }

/-- MODE of a chain: 0 STATIC, 1 UV, 2 FOLLOW. -/
def State.ledMode (s : State) (c : Nat) : Nat := s.rd (F.LED_CTL_MODE (c / 2) (c % 2))

/-- A chain is ON. -/
def State.ledOn (s : State) (c : Nat) : Bool := s.rd (F.LED_CTL_STATE (c / 2) (c % 2)) = 2

/-- The hot fence of a die keeps its chains dark (R640). -/
def State.ledFenced (s : State) (c : Nat) : Bool := s.on (F.MON_STAT_HOT_FENCE (c / 2))

/-- A trigger with a flash issues: a FOLLOW chain cuts the frame that it is sending, and its gate is due around the flash (R600). -/
def State.followGate (s : State) (c : Nat) : State :=
  if !s.ledOn c || s.ledMode c != 2 || s.ledFenced c then s
  else
    let x := s.chain c
    let lit := s.clk + max (20 * s.rd (F.CAM_FLASH_FLASH_DLY (c / 2))) 240
    let cut := x.out.any (fun a => s.clk < a)
    let s := if cut then s.inc (F.LED_CNT_CUTS (c / 2) (c % 2)) else s
    s.setChain c { x with
      gateAt := some (lit - usTicks 1, lit + 20 * s.rd (F.CAM_FLASH_FLASH_W (c / 2))), out := if cut then none else x.out, again := x.again || cut }

/-! Settings sets. -/

/-- The kinds of field of the CAM block (R380). -/
inductive CamField | enable | port | trigger | frame
  deriving DecidableEq, Repr

/-- The kind of a CAM field, by the offset of its register in the block. -/
def camField (key : Nat) : CamField :=
  if 0x1000000 ≤ key / 32 then .frame
  else
    let off := key / 32 % 0x10000
    if off = 0 then (if key % 32 = 0 then .enable else .port)
    else if off = 4 || off = 8 || off = 0x28 then .port
    else if off = 0xC || off = 0x10 || off = 0x14 || off = 0x18 || off = 0x20 || off = 0x24 then .trigger
    else .frame

/-- A port field in force: while the block runs, the value of its start, although a commit may have changed the field (R84, R380). -/
def State.port (s : State) (d : Nat) (f : Fld) : Nat := tget (s.cam d).portHeld f.key (s.rd f)

/-- A port field of one bit in force. -/
def State.portOn (s : State) (d : Nat) (f : Fld) : Bool := s.port d f != 0

/-- The consumer's part of a commit that carries plain fields of a camera is applied. -/
def State.camApplied (s : State) (d : Nat) (ids : List Nat) : State :=
  ids.foldl (fun s i => s.setCommit i fun c => { c with remaining := c.remaining.filter (fun p => p != (.block d 5, false)), lastLine := s.pkgLine }) s

/-- The highest commit of a set. -/
def CciSet.newest (x : CciSet) : Nat := x.ids.getLast?.getD 0

/-- Every commit that is applied with a set. -/
def CciSet.all (x : CciSet) : List Nat := x.ids ++ x.also

/-- The fields of a set govern from now on: they take effect, the commits are applied, and SEQ follows unless the sensor refused the
set (R383, R384). -/
def State.govern (s : State) (d : Nat) (x : CciSet) : State :=
  let s := (s.writeAll x.fields).camApplied d x.all
  if x.nack || x.ids.isEmpty then s else s.onCam d fun c => { c with seq := x.newest }

/-- What is sent for a list of entries (R375): entries with consecutive addresses go as one write; in the init table an entry with address
0xFFFF waits. -/
def cciOps (init : Bool) : List Nat → List CciOp
  | [] => []
  | e :: es =>
    let a := e / 256 % 65536
    let v := e % 256
    if init && a = 0xFFFF then .wait v :: cciOps init es
    else match cciOps init es with
      | .write b vs :: l => if b = a + 1 then .write a (v :: vs) :: l else .write a [v] :: .write b vs :: l
      | l => .write a [v] :: l

/-- The CCI master sends to the sensor, at the address and speed of the port fields in force (R374). -/
def State.cciSend (s : State) (d : Nat) (ops : List CciOp) : State :=
  let khz := match s.port d (F.CAM_CCI_CTL_SPEED d) with
    | 0 => 100
    | 1 => 400
    | _ => 1000
  let dev := s.port d (F.CAM_CCI_CTL_DEV d)
  s.onCam d fun c => { c with bus := ⟨dev, khz, ops⟩ }

/-- The entries of the settings set, with field values that are still to take effect (R382). -/
def State.setEntries (s : State) (d : Nat) (fs : List (Nat × Nat)) : List Nat :=
  let value (f : Fld) : Nat := ((fs.reverse.find? (fun p => p.1 = f.key)).map Prod.snd).getD (s.rd f)
  (List.range (value (F.CAM_SET_CNT_COUNT d))).map fun e => value (F.CAM_SET_ENTRY d e)

/-- The CCI master starts the set that waits, when it is free (R381): it carries the effective values of all frame fields (R382). -/
def State.startCci (s : State) (d : Nat) : State :=
  match (s.cam d).cci, (s.cam d).waiting with
  | none, some x =>
    (s.onCam d fun c => { c with cci := some (.set x), waiting := none }).cciSend d
      (cciOps false (s.setEntries d ((s.cam d).sent.flatMap CciSet.fields ++ x.fields)))
  | _, _ => s

/-- A commit's frame fields reach a die whose camera is ON (R381, R382): they join the set that waits. -/
def State.queueSet (s : State) (d id : Nat) (fs : List (Nat × Nat)) : State :=
  let s := s.onCam d fun c =>
    let x : CciSet := match c.waiting with
      | none => ⟨[id], fs, false, 0, false, none, []⟩
      | some y => { y with ids := y.ids ++ [id], fields := y.fields ++ fs }
    { c with waiting := some x }
  s.startCci d

/-- The CCI master sends a settings set (CCI_BUSY). -/
def Camera.settling (c : Camera) : Bool :=
  match c.cci with
  | some (.set _) | some .first => true
  | _ => false

/-- A camera has taken in sets that do not govern yet. -/
def Camera.busySets (c : Camera) : Bool :=
  !c.sent.isEmpty || c.waiting.isSome || (match c.cci with
    | some (.set _) => true
    | _ => false)

/-- A commit joins the newest set that the camera has taken in, with fields that take effect with it: commits of a camera are applied in
order (R80). -/
def State.joinSet (s : State) (d id : Nat) (fs : List (Nat × Nat)) : State :=
  let add (x : CciSet) : CciSet :=
    if fs.isEmpty then { x with also := x.also ++ [id] } else { x with ids := x.ids ++ [id], fields := x.fields ++ fs }
  s.onCam d fun c =>
    match c.waiting, c.cci with
    | some x, _ => { c with waiting := some (add x) }
    | none, some (.set x) => { c with cci := some (.set (add x)) }
    | none, _ => { c with sent := c.sent.dropLast ++ (c.sent.getLast?.map add).toList }

/-- Port fields are committed (R84, R380): a block that runs keeps those in force until its next start, with PORT_PEND. -/
def State.commitPort (s : State) (d : Nat) (fs : List (Nat × Nat)) : State :=
  if fs.isEmpty || s.camState d = 0 then s.writeAll fs
  else
    let held := fs.foldl (fun t f => if (tget? t f.1).isSome then t else tset t f.1 (s.rd (fldOf f.1))) (s.cam d).portHeld
    ((s.onCam d fun c => { c with portHeld := held }).writeAll fs).wr (F.CAM_STAT_PORT_PEND d) 1

/-- A commit's fields reach the CAM block of a die (R380 to R382): trigger fields take effect at once, and frame fields wait for their frame
while the block is ON. The commit is applied when its own fields and those of the commits taken in before it are in effect; from its first
fields on it can no longer be cancelled (R63). -/
def State.applyCam (s : State) (d id : Nat) (fs : List (Nat × Nat)) : State :=
  let of (k : CamField) : List (Nat × Nat) := fs.filter (fun f => decide (camField f.1 = k))
  if (s.cam d).holds id then s
  else
    let s := (s.commitPort d (of .port)).writeAll (of .trigger)
    let s := if (of .port ++ of .trigger).isEmpty then s else s.setCommit id fun c => { c with begun := true }
    if s.camState d = 2 && !(of .frame).isEmpty then s.queueSet d id (of .frame)
    else if (s.cam d).busySets then s.joinSet d id (of .frame)
    else (s.writeAll (of .frame)).camApplied d [id]

/-- A trigger, or in FREE mode a Frame Start, falls at SENSE time `now` as number `n` (R381, R384): sets sent at least GUARD before it
get the frame from which they govern, refused ones govern at once, and those whose frame it is take effect, in the order of their commits
(R80). -/
def State.governSets (s : State) (d now n : Nat) : State :=
  let guard := usTicks (s.port d (F.CAM_CCI_CTL_GUARD d))
  let lat := s.port d (F.CAM_CTL_LAT d)
  let mark (x : CciSet) : CciSet := { x with missed := true }
  let s := s.onCam d fun c =>
    { c with
      cci := (match c.cci with
        | some (.set x) => some (.set (mark x))
        | o => o)
      waiting := c.waiting.map mark
      sent := c.sent.map (fun x =>
        match x.governs with
        | some _ => x
        | none => if x.nack then { x with governs := some n } else if x.sentAt + guard ≤ now then { x with governs := some (n + lat) } else x) }
  let due := (s.cam d).sent.takeWhile (fun x => x.governs.any (fun g => g ≤ n))
  let s := s.onCam d fun c => { c with sent := c.sent.drop due.length }
  due.foldl (fun s x => s.govern d x) s

/-- A NACK of a settings set (R384). -/
def State.cciNack (s : State) (d addr id : Nat) : State :=
  (((s.inc (F.CAM_ERR_CCI d)).wr (F.CAM_STAT_SET_FAIL d) 1).event d 0x0A06 [d, addr, id]).causeAt d 33

/-- The work that follows the init table and the settings set of a start (R376). -/
def State.nextCci (s : State) (d : Nat) (done : Option CciWork) : State :=
  let init := s.rd (F.CAM_INIT_ADDR_INIT_CNT d)
  let set := s.rd (F.CAM_SET_CNT_COUNT d)
  let work : Option CciWork := match done with
    | none => if 0 < init then some .init else if 0 < set then some .first else none
    | some .init => if 0 < set then some .first else none
    | _ => none
  let s := s.onCam d fun c => { c with cci := work }
  match work with
  | some .init => s.cciSend d (cciOps true ((List.range init).map fun e => s.rd (initEntry d e)))
  | some .first => s.cciSend d (cciOps false (s.setEntries d []))
  | _ => s

/-! Start and stop. -/

/-- A start fails at once (R389, R392): MEM is not in service, a port field is out of its range, or VIS_RING is no VIS ring of the
die. -/
def State.camStartFails (s : State) (d : Nat) : Bool :=
  let w := s.rd (F.CAM_WIDTH_SIZE d)
  let h := s.rd (F.CAM_HEIGHT_SIZE d)
  let q := s.rd (F.CAM_OUT_VIS_RING d)
  s.rd (F.DIE_STAT_STAGE d) < 5 || w % 2 != 0 || w < 64 || 8192 < w || h % 2 != 0 || h < 64 || 4096 < h ||
    (s.on (F.CAM_OUT_VIS_EN d) && !(s.ringUsed q && q / 32 = d && s.rd (F.QUE_CTL_TYPE q) = 6))

/-- A start begins (R380, R392): the port fields committed last take effect and the CCI master sends the init table. -/
def State.camStart (s : State) (d : Nat) : State :=
  ((s.wr (F.CAM_STAT_PORT_PEND d) 0).onCam d fun c => { c with portHeld := [] }).nextCci d none

/-- Up to where triggers have been judged: the die line, or the time base in TIME mode. -/
def State.trigNow (s : State) (d : Nat) : Nat := if s.rd (F.CAM_TRIG_MODE d) = 2 then s.time d else s.dieLine d

/-- A start completes: triggering begins. -/
def State.camStarted (s : State) (d : Nat) : State :=
  s.onCam d fun c => { c with judged := s.trigNow d, lastTrig := none, cci := none }

/-- A trigger stays unmatched (R378). -/
def State.frameMissing (s : State) (d : Nat) : State :=
  match (s.cam d).unmatched with
  | none => s
  | some t => (((s.inc (F.CAM_FLT_MISSING d)).event d 0x0A03 [d, t.number]).causeAt d 33).onCam d fun c =>
      { c with unmatched := none, darkReq := c.darkReq || t.dark }

/-- The block has stopped (R378, R382): an unmatched trigger is missing, and frame fields that waited take effect. -/
def State.camStopped (s : State) (d : Nat) : State :=
  let s := s.frameMissing d
  let c := s.cam d
  let sets := c.sent ++ (match c.cci with
    | some (.set x) => [x]
    | _ => []) ++ c.waiting.toList
  let s := s.onCam d fun c => { c with sent := [], cci := none, waiting := none }
  sets.foldl (fun s x => (s.writeAll x.fields).camApplied d x.all) s

/-! Triggers. -/

/-- How many trigger points lie at or below a line or time, for a base and a period (R377). -/
def pointsTo (base period x : Nat) : Nat := if period = 0 || x < base then 0 else (x - base) / period + 1

/-- The trigger points passed since triggers were last judged: how many, and the last of them (R377). In TIME mode points are in ns. -/
def State.trigPoints (s : State) (d : Nat) : Nat × Nat :=
  let c := s.cam d
  let period := s.rd (F.CAM_TPER_PERIOD d)
  match s.rd (F.CAM_TRIG_MODE d) with
  | 1 =>
    let base := s.rdPair (F.CAM_TBASE_LO_BASE d) (F.CAM_TBASE_HI_BASE d)
    let n := pointsTo base period (s.dieLine d)
    if s.lineValid then (n - pointsTo base period c.judged, base + (n - 1) * period) else (0, 0)
  | 2 =>
    let p := 1000 * period
    let base := if p = 0 then 0 else 1000 * s.rd (F.CAM_TBASE_LO_BASE d) % p
    let n := pointsTo base p (s.time d)
    (n - pointsTo base p c.judged, base + (n - 1) * p)
  | _ => (0, 0)

/-- Triggers are skipped (R377): counted, and once per episode recorded with the count when the episode ends. -/
def State.skipTriggers (s : State) (d n : Nat) : State :=
  if n = 0 then s
  else ((s.incBy (F.CAM_SKIP_TRIG d) n).openEpisode 0x0A04 d).onCam d fun c => { c with skips := c.skips + n, skipAt := s.clk }

/-- The lines of a frame meet a claimed slot. -/
def State.meetsClaim (s : State) (l0 : Int) (h : Nat) (flip : Bool) : Bool :=
  (List.range h).any (fun r =>
    let l : Int := if flip then l0 - r else l0 + r
    decide (0 ≤ l) && (s.claimAt l.toNat).isSome)

/-- The number of the next frame: 0xFFFFFF marks ORPHAN frames and is passed over (R378). -/
def nextFrame (n : Nat) : Nat := if n + 1 < 0xFFFFFF then n + 1 else 0

/-- A trigger issues (R378, R379) at die line or time `f`. -/
def State.issueTrigger (s : State) (d f : Nat) : State :=
  let s := s.frameMissing d
  let timed := s.rd (F.CAM_TRIG_MODE d) = 2
  let n := (s.cam d).count + 1
  let s := s.governSets d s.clk n
  let at' : Int := if timed then s.pkgLine else f
  let l0 := at' - s.delay (.cam d) + signed 16 (s.rd (F.CAM_ROW0_ROW0 d))
  let dark := (s.cam d).darkReq && !s.meetsClaim l0 (s.port d (F.CAM_HEIGHT_SIZE d)) (s.on (F.CAM_ROW0_FLIP d))
  let due := if dark || s.rd (F.CAM_FLASH_FLASH_W d) = 0 then none else some (s.clk + 20 * s.rd (F.CAM_FLASH_FLASH_DLY d))
  let s := if due.isNone then s else [2 * d, 2 * d + 1].foldl (fun s c => s.followGate c) s
  s.onCam d fun c =>
    let k := nextFrame c.number
    { c with
      number := k
      count := n
      lastTrig := some s.clk
      unmatched := some ⟨k, l0, s.time d, timed, dark⟩
      trigTo := s.clk + usTicks 10
      flashDue := due
      darkReq := c.darkReq && !dark }

/-! Frames. -/

/-- Gain of the active shading bank (R386, R393). -/
def State.shadeGain (s : State) (d a : Nat) : Nat := tget (s.cam d).shade (16384 * s.rd (F.CAM_TBL_BANK d) + a) 0

/-- A word of the active defect table. -/
def State.defectWord (s : State) (d a : Nat) : Nat := tget (s.cam d).defects (16384 * s.rd (F.CAM_TBL_BANK d) + a) 0

/-- The values of a frame in 12 bits: RAW10 values are shifted left by 2 (R385). -/
def State.wideFrame (s : State) (d : Nat) (f : Frame) : Frame :=
  let shift := if s.portOn d (F.CAM_CTL_FMT d) then 1 else 4
  f.map fun x y => (f.rows.getD y []).getD x 0 * shift

/-- The frame after black level (R386). -/
def State.blackFrame (s : State) (d : Nat) (f : Frame) : Frame := f.black fun c => s.rd (F.CAM_BL_BL d c)

/-- The pixels of a frame after black level (R386, R387). -/
def State.develop (s : State) (d : Nat) (f : Frame) : List (List Pixel) :=
  let listed :=
    if s.on (F.CAM_DPC_STATIC d) then
      (List.range (s.rd (F.CAM_TBL_DP_COUNT d))).map (fun i => (s.defectWord d (2 * i), s.defectWord d (2 * i + 1)))
    else []
  let f := f.defects listed (s.rd (F.CAM_DPC_THR d))
  let f := if s.on (F.CAM_TBL_LSC_EN d) then f.shaded (s.shadeGain d) else f
  let f := f.balanced fun c => s.rd (F.CAM_WB_GAIN d c)
  let bayer := s.port d (F.CAM_CTL_BAYER d)
  let g := f.green bayer
  (List.range f.h).map fun y => (List.range f.w).map fun x =>
    (f.demosaic g bayer x y).corrected fun k => signed 13 (s.rd (F.CAM_CCM_VALUE d k))

/-- Sum of a list. -/
def total (l : List Nat) : Nat := l.foldl (· + ·) 0

/-- The mean of a channel over the pixels of valid lines; without any it is open (R372, R389). -/
def State.meanOf (s : State) (ps : List Pixel) (f : Pixel → Nat) : Nat × State :=
  if ps.isEmpty then s.draw 12 else (total (ps.map f) / ps.length, s)

/-- Archive of a closed frame (R391): the header words, one to a 32-bit slot as in a packet (R5; DEDUCED, notes/assumptions/143), and the
pixels of ARCH_FMT. -/
def archiveBytes (fmt : Nat) (header : List Nat) (raw : List (List Nat)) (rgb : List (List Pixel)) : List Nat :=
  header.flatMap (fun w => leBytes w 4) ++
    (if fmt = 0 then raw.flatMap (fun l => l.flatMap (fun v => leBytes v 2))
     else if fmt = 2 then rgb.flatMap (fun l => l.flatMap (fun p => leBytes p.r 2 ++ leBytes p.g 2 ++ leBytes p.b 2))
     else rgb.flatMap (fun l => l.flatMap (fun p => [p.srgb.r, p.srgb.g, p.srgb.b])))

/-- A compression of the camera waits or runs. -/
def State.archiving (s : State) (d : Nat) : Bool :=
  s.zip.cwait.any (fun e => decide (e.2.owner = .archive d)) || s.zip.cunits.any (fun e => e.2.job.any (fun j => decide (j.owner = .archive d)))

/-- The archive decision at a frame's close (R391): whether it is wanted, and whether it can start. -/
def State.archiveWish (s : State) (d number : Nat) : Bool × Bool :=
  let every := s.rd (F.CAM_OUT_ARCH_EVERY d)
  ((every != 0 && number % every = 0) || (s.cam d).archReq, !(s.cam d).archQ.isEmpty && !s.archiving d)

/-- A camera gives a new preview: a display layer that shows it has changed (R612). -/
def State.previewShown (s : State) (d : Nat) : State :=
  let shows := (List.range 4).any (fun k => s.on (F.DISP_LCTL_EN k) && s.on (F.DISP_LCTL_SRC k) && s.rd (F.DISP_LCTL_CAM k) = d)
  { s with disp := { s.disp with changed := s.disp.changed || shows } }

/-- The open frame closes (R371 to R373, R388 to R391); a stop that has waited for Frame End closes it as SHORT (R392). -/
def State.closeFrame (s : State) (d : Nat) (cut : Bool) : State :=
  match (s.cam d).frame with
  | none => s
  | some o =>
    let w := s.port d (F.CAM_WIDTH_SIZE d)
    let h := s.port d (F.CAM_HEIGHT_SIZE d)
    let lines := o.lines.reverse
    let got := lines.length
    let short := cut || decide (got < h)
    let long := 0 < o.dropped
    let number := (o.trig.map Trigger.number).getD 0xFFFFFF
    let s := if short then (((s.inc (F.CAM_FLT_SHORT d)).event d 0x0A01 [d, number, got]).causeAt d 33) else s
    let s := if long then (((s.inc (F.CAM_FLT_LONG d)).event d 0x0A02 [d, number, o.dropped]).causeAt d 33) else s
    let valid := (List.range h).map (fun y => (lines.getD y (false, [])).1)
    let rawf := Frame.repaired w valid (lines.map (·.2))
    let wide := s.wideFrame d rawf
    let rgb := s.develop d (s.blackFrame d wide)
    let flip := s.on (F.CAM_ROW0_FLIP d)
    let seq := (s.cam d).seq
    let ps := (List.range h).flatMap (fun y => if valid.getD y false then rgb.getD y [] else [])
    let vn := (valid.filter id).length
    let s := (List.range 64).foldl (fun s k => s.wr (F.CAM_HIST_COUNT d k) (ps.filter (fun p => p.luma / 64 = k)).length) s
    let s := ((s.wr (F.CAM_FRAME_FRAME d) number).wr (F.CAM_SEQ_SEQ d) seq).wr (F.CAM_LINES_VALID d) vn
    let s := ((s.wr (F.CAM_LINES_SHORT d) (nat short)).wr (F.CAM_LINES_LONG d) (nat long)).wr (F.CAM_LINES_ORPHAN d) (nat o.trig.isNone)
    let plane : VisionPlane := ⟨o.trig, seq, short, flip, valid, rgb, wide.rows, false⟩
    let s := s.onCam d fun c =>
      { c with
        frame := none
        planes := (plane :: c.planes).take 2
        preview := if s.on (F.CAM_OUT_DISP_EN d) then
            some ((boxed (2 ^ s.rd (F.CAM_OUT_DSCALE d)) rgb).map (fun l => l.map Pixel.srgb)) else c.preview }
    let s := if s.on (F.CAM_OUT_DISP_EN d) then s.previewShown d else s
    let (mr, s) := s.meanOf ps Pixel.r
    let (mg, s) := s.meanOf ps Pixel.g
    let (mb, s) := s.meanOf ps Pixel.b
    let clipped := (ps.filter (fun p => p.r = 4095 || p.g = 4095 || p.b = 4095)).length
    let (wanted, able) := s.archiveWish d number
    let t := o.trig.getD ⟨0xFFFFFF, 0, 0, false, false⟩
    let l0 := unsigned 48 t.l0
    let flags := nat short + 2 * nat long + 4 * nat (vn != h) + 8 * nat (wanted && able) + 16 * nat t.timed + 32 * nat flip
    let body := [number, seq, l0 % 2 ^ 24, l0 / 2 ^ 24, t.time % 2 ^ 24, t.time / 2 ^ 24 % 2 ^ 24, t.time / 2 ^ 48, flags,
      vn + 2 ^ 13 * d, mr + 2 ^ 12 * mg, mb, min clipped 0xFFFFFF, min o.dropped 0xFFFFFF]
    let fmt := s.rd (F.CAM_OUT_ARCH_FMT d)
    let s :=
      if wanted then
        let s := s.onCam d fun c => { c with archReq := false }
        if able then
          let q := (s.cam d).archQ.headD (0, 0)
          let job : CJob := ⟨.archive d, 0, s.rd (F.ZIP_COMP_LVL_LVL0 d), archiveBytes fmt (body ++ [h, w, fmt]) rawf.rows rgb, none, [(q.1, 0)], false⟩
          { (s.onCam d fun c => { c with archQ := c.archQ.drop 1 }) with zip := { s.zip with cwait := s.zip.cwait ++ [(d, job)] } }
        else (s.inc (F.CAM_SKIP_ARCH d)).event d 0x0A09 [d, number]
      else s
    if s.on (F.CAM_OUT_VIS_EN d) && o.trig.isSome then (s.post (s.rd (F.CAM_OUT_VIS_RING d)) 6 body).causeAt d 32 else s

/-- A checked receiver error (R370): kind 1 header, 2 CRC, 3 length. -/
def State.csiError (s : State) (d kind : Nat) : State :=
  ((if kind = 1 then s.inc (F.CAM_ERR_HDR d) else s.inc (F.CAM_ERR_CRC d)).windowed d 0x0A05 (4 * d + kind) [d, kind] true (some (256 * d + 33)))

end Sys2Proof.Machine
end

