-- ==== Sys2Proof/Machine/MeterOps.lean ====
section
/-! DEFINITION. The Camdel meter: totals, flags, results, the audit trail, snapshots (R537 to R568). -/

namespace Sys2Proof.Machine

open Sys2Proof

/-- Changes the meter. -/
def State.onMeter (s : State) (f : Meter → Meter) : State := { s with meter := f s.meter }

/-- The meter counts: it is in RUN. -/
def Meter.runs (m : Meter) : Bool := m.st = 1

/-- Records an event of the meter and causes D0 source 42 (R567). -/
def State.mtrEvent (s : State) (code : Nat) (payload : List Nat) : State := (s.event 0 code payload).cause 42

/-- A channel's parameters. -/
def MtrParams.chan (p : MtrParams) (c : Nat) : MtrChan := tget p.chans c ⟨false, 0, 0, 0, 10000, 0, 65536⟩

/-- A mass entry. -/
def MtrParams.entry (p : MtrParams) (e : Nat) : MtrMass := tget p.masses e ⟨0, false, List.replicate 15 0⟩

/-- Drops of each slot value at the masses of an entry. -/
def MtrMass.sum (e : MtrMass) (n : List Nat) : Nat := ((n.zip e.mass).map (fun x => x.1 * x.2)).foldl (· + ·) 0

/-- The valid mass entry of a rank (R543). -/
def MtrParams.entryOf (p : MtrParams) (rank : Nat) : Option MtrMass :=
  ((List.range 16).map p.entry).find? (fun e => e.valid && e.rank = rank)

/-- A counter of 48 bits as reported: it saturates (R568). -/
def sat48 (n : Nat) : Nat := min n (2 ^ 48 - 1)

/-- LEN or WEB in mm. -/
def lenMm (n : Nat) : Nat := sat48 (n / (2 ^ 16 * 1000000))

/-- DROPS of a channel. -/
def Meter.drops (m : Meter) (c : Nat) : Nat := sat48 (tget m.totals.drops c 0)

/-- AREA of a channel in square mm (R543). -/
def Meter.area (m : Meter) (c : Nat) : Nat := sat48 (tget m.totals.area c 0 / 1000000000)

/-- VOL of a channel in nL: MASS over DENSITY (R543). -/
def Meter.vol (m : Meter) (c : Nat) : Nat := sat48 (tget m.totals.mass c 0 / (2 ^ 16 * 10 * (m.params.chan c).density))

/-- UNRATED of a channel. -/
def Meter.unratedOf (m : Meter) (c : Nat) : Nat := min (tget m.totals.unrated c 0) 0xFFFFFF

/-- A tap of a fitted die is down (R548). -/
def State.tapDown (s : State) : Bool := !(List.range s.dies).all (fun d => ((tget? s.meter.taps d).map MtrTap.up).getD false)

/-- MTR_OK (R540). -/
def State.mtrOk (s : State) : Bool :=
  let m := s.meter
  m.runs && m.sealed && m.params.lscale != 0 && !m.indFault && !m.indStale && !s.tapDown

/-- MTR_STAT as read (R568). -/
def State.mtrStat (s : State) : Nat :=
  let m := s.meter
  let flags : List Bool := [!m.sealed, m.params.lscale = 0, m.totalsLost, m.indFault, m.indStale, s.tapDown, m.act.isSome, m.locked,
    m.hwm.isNone, m.running.isSome, m.patchBad, s.mtrOk, m.lenWin.isSome, m.massWin.isSome]
  m.st + ((flags.zipIdx).map (fun x => 2 ^ (x.2 + 2) * nat x.1)).foldl (· + ·) 0

/-- PATCH_ID: 0 when the meter runs its ROM alone. -/
def Meter.patchId (m : Meter) : Nat := (m.running.map Patch.id).getD 0

/-- Meter operating seconds (R555). -/
def State.mtrOps (s : State) : Nat := s.meter.ops + (if s.meter.runs then (s.clk - s.meter.runAt) / 200000000 else 0)

/-- Network time of the meter in ns (R549). -/
def State.mtrTime (s : State) : Nat := s.meter.net.1 + 5 * (s.clk - s.meter.net.2)

/-- The 64-bit time as three words (R6). -/
def timeWords (t : Nat) : List Nat := [bits t 0 24, bits t 24 24, bits t 48 16]

/-- A value of 48 bits as two words. -/
def twoWords (v : Nat) : List Nat := [v % 2 ^ 24, v / 2 ^ 24 % 2 ^ 24]

/-- The key of K-slot 2 (R194). -/
def State.mtrKey (s : State) : Option (List Nat) := tget? s.auth.keys 2

/-- Takes a snapshot at a time, for a cause (R564). -/
def State.mtrSnap (s : State) (why time : Nat) : State :=
  let m := s.meter
  let n := (m.snapSeq + 1) % 2 ^ 24
  let chans := (List.range 16).flatMap (fun c => twoWords (m.drops c) ++ twoWords (m.area c) ++ twoWords (m.vol c))
  let ws := [(Config.snapCause why).toNat, n] ++ timeWords time ++ twoWords (lenMm m.totals.len) ++ twoWords (lenMm m.totals.web) ++
    [m.sealCount] ++ chans ++ [s.mtrStat]
  let rec_ := ws ++ wordTag (s.mtrKey.getD []) ws
  s.onMeter fun m => { m with snapSeq := n, snaps := (rec_ :: m.snaps).take 8192 }

/-- Writes an audit entry: the seal counter advances, the entry joins the trail, and a snapshot is taken (R554, R555, R564). -/
def State.mtrAudit (s : State) (type op index old new counter : Nat) : State :=
  let m := s.meter
  let sn := min (m.sealCount + 1) 0xFFFFFF
  let ops := s.mtrOps
  let ws := [type + 2 ^ 8 * op + 2 ^ 16 * index, sn, ops % 2 ^ 24, ops / 2 ^ 24 % 256] ++ timeWords s.mtrTime ++ [0] ++
    twoWords old ++ twoWords new ++ [counter % 2 ^ 24, counter / 2 ^ 24]
  let crc := crc32 (wordBytes ws)
  let full := decide (1024 ≤ m.trail.length)
  let entry := ws ++ [crc % 2 ^ 24, crc / 2 ^ 24]
  let s := s.onMeter fun m => { m with sealCount := sn, trail := if full then m.trail else m.trail ++ [entry] }
  let s := if m.trail.length = 1023 then s.mtrEvent 0x120B [sn] else s
  s.mtrSnap 1 s.mtrTime

/-- Writes the result of a submission, posts it and records it (R559, R567). -/
def State.mtrResult (s : State) (c : AuthCmd) (status detail : Nat) : State :=
  let key := s.mtrKey
  let ws := [c.opcode + 2 ^ 8 * c.slot + 2 ^ 11 * status + 2 ^ 18 * nat key.isNone, c.counter % 2 ^ 24, c.counter / 2 ^ 24, detail,
    s.rd F.AUTH_UNIT_UNIT]
  let body := ws ++ (match key with
    | some k => wordTag k ws
    | none => List.replicate 6 0)
  let s := s.onMeter fun m => { m with res := body }
  let s := if s.on F.AUTH_RES_RING_RING_EN then s.post (s.rd F.AUTH_RES_RING_RING) 4 body else s
  let s := s.cause 42
  if status = 0 then s.mtrEvent 0x1201 [c.opcode, s.meter.sealCount] else s.mtrEvent 0x1202 [c.opcode, status, detail]

/-- Writes a copy of the totals to meter flash, after the newest one (R561, R563). -/
def State.saveTotals (s : State) (brown : Bool) : State :=
  let ops := s.mtrOps
  s.onMeter fun m =>
    let n := ((m.saved.head?.map Copy.seq).getD 0 + 1) % 2 ^ 24
    { m with saved := ⟨n, ⟨ops, brown, m.totals⟩⟩ :: m.saved, totalsAt := s.clk }

/-! Envelopes (R558). -/

/-- The status of an envelope at the keyed port. -/
def State.mtrEnvStatus (s : State) (env : List Nat) : Nat :=
  let m := s.meter
  let op := envOpcode env
  if m.act.isSome then 11
  else if envFormStatus env != 0 then envFormStatus env
  else if envOpcodeStatus env != 0 then envOpcodeStatus env
  else if envSlot env != opcodeSlot op || envSlot env != 2 then 5
  else if s.mtrKey.isNone then 12
  else if envWord env 4 != 0 && envWord env 4 != s.rd F.AUTH_UNIT_UNIT then 6
  else if m.locked then 7
  else if m.hwm.isNone && op != 0x1C then 8
  else if !envTagOk env (s.mtrKey.getD []) then 9
  else if op = 0x1C then (if envCounter env = m.nonce then 0 else 10)
  else if envCounter env ≤ m.cnt then 10
  else 0

/-- A tag failure counts, and the eighth within 1 s locks the meter's port for 1 s. -/
def State.mtrTagFailed (s : State) : State :=
  let times := s.clk :: s.meter.tagTimes.filter (fun t => s.clk < t + 200000000)
  s.onMeter fun m =>
    if 8 ≤ times.length then { m with tagTimes := [], tagFail := min (m.tagFail + 1) 255, locked := true, lockedAt := s.clk }
    else { m with tagTimes := times, tagFail := min (m.tagFail + 1) 255 }

/-- An accepted envelope: the counter is taken, and the meter acts on it next. -/
def State.mtrAccept (s : State) (c : AuthCmd) : State :=
  s.onMeter fun m => if c.opcode = 0x1C then { m with act := some c } else { m with act := some c, cnt := c.counter }

/-- The counter mark is taken, in force and in both copies in meter flash (R188). -/
def Meter.setMark (m : Meter) (v : Nat) : Meter := { m with hwm := some v, marks := m.marks.writeBoth v }

/-- A new mark is written before the meter acts on a command whose counter exceeds the stored one (R188). -/
def Meter.markFor (m : Meter) (c : AuthCmd) : Meter :=
  if c.opcode != 0x1C && m.hwm.any (fun h => h < c.counter) then m.setMark (min (c.counter + 4096) (2 ^ 32 - 1)) else m

/-- An envelope is submitted at the keyed port (R558, R559). -/
def State.mtrSubmit (s : State) (env : List Nat) : State :=
  let st := s.mtrEnvStatus env
  let c : AuthCmd := ⟨envOpcode env, envSlot env, envCounter env, envPayload env, none⟩
  let s' :=
    if st = 0 then s.mtrAccept c
    else (if st = 9 then s.mtrTagFailed else s).mtrResult c st 0
  if c.opcode = 0x1C && (st = 0 || st = 10) then
    let (v, s') := s'.draw 32
    s'.onMeter fun m => { m with nonce := v }
  else s'

/-- The command that the meter acts on next, when it runs and the opcode is the given one. -/
def State.mtrCmd (s : State) (op : Nat) : Option AuthCmd :=
  if s.meter.runs then s.meter.act.bind fun c => if c.opcode = op then some c else none else none

/-- A command is judged and carried out (R557, R559): the seal state it needs, if any; a DETAIL of its own checks; whether it writes an
audit entry; and whether its flash writes succeed, the mark's first among them. -/
def State.mtrDo (s : State) (c : AuthCmd) (needs : Option Bool) (bad : Nat) (audits written : Bool) (f : State → State) : State :=
  let s := s.onMeter fun m => { (if written then m.markFor c else m) with act := none }
  if needs.any (fun x => s.meter.sealed != x) then s.mtrResult c 13 1
  else if bad != 0 then s.mtrResult c 13 bad
  else if audits && 1024 ≤ s.meter.trail.length then s.mtrResult c 13 5
  else if !written then s.mtrResult c 13 4
  else (f s).mtrResult c 0 0

/-- Changes the parameters, in force and in meter flash. -/
def State.onParams (s : State) (f : MtrParams → MtrParams) : State :=
  s.onMeter fun m => { m with params := f m.params, savedParams := m.savedParams.writeBoth (f m.params) }

/-- CRC-32 of words, as OLD and NEW of an audit entry hold a change of several words (R555). -/
def wordsCrc (ws : List Nat) : Nat := crc32 (wordBytes ws)

/-- The words of a channel, as SET_CHANNEL carries them. -/
def MtrChan.words (c : Nat) (x : MtrChan) : List Nat := [c + 16 * nat x.enable, x.name1, x.name2, x.cell, x.density, x.sources]

/-- The words of a mass entry, as SET_MASS carries them. -/
def MtrMass.words (e : Nat) (x : MtrMass) : List Nat := [e + 16 * nat x.valid, x.rank] ++ x.mass

/-- A payload word. -/
def AuthCmd.w (c : AuthCmd) (i : Nat) : Nat := c.payload.getD i 0

/-- A 48-bit value of two payload words. -/
def AuthCmd.w48 (c : AuthCmd) (i : Nat) : Nat := c.w i + 2 ^ 24 * c.w (i + 1)

/-! The web and the taps. -/

/-- The position X in 2^-16 nm (R541). -/
def Meter.x (m : Meter) : Int := m.mark * m.params.lscale

/-- The count rises or falls by one; the mark and the web length follow (R541, R550). -/
def Meter.step (m : Meter) (back : Bool) : Meter :=
  let n := if back then m.count - 1 else m.count + 1
  if m.mark < n then
    { m with count := n, mark := n, totals := { m.totals with web := m.totals.web + m.params.lscale } }
  else { m with count := n }

/-- Printed length at a COUNT record of source `src` (R542). -/
def Meter.printed (m : Meter) (src : Nat) : Meter :=
  let x := m.x - (((tget m.params.offs src 0) * 1000000 * 2 ^ 16 : Nat) : Int)
  if !m.started then { m with started := true, m := x }
  else if x ≤ m.m then m
  else if x - m.m ≤ (m.params.gap : Int) * 1000000 * 2 ^ 16 then
    { m with m := x, totals := { m.totals with len := m.totals.len + (if m.params.lscale = 0 then 0 else (x - m.m).toNat) } }
  else { m with m := x }

/-- Drops, area and mass at a COUNT record (R543). -/
def State.mtrCount (s : State) (src group rank : Nat) (n : List Nat) : State :=
  let m := s.meter
  let t := m.totals
  let total := n.foldl (· + ·) 0
  match (List.range 16).find? (fun c => bit (m.params.chan c).sources src) with
  | none => s.onMeter fun m => { m with totals := { t with unmapped := t.unmapped + total } }
  | some c =>
    let ch := m.params.chan c
    let t := { t with
      drops := tset t.drops c (tget t.drops c 0 + total), area := tset t.area c (tget t.area c 0 + total * ch.cell) }
    match m.params.entryOf rank with
    | some e =>
      let win := match m.massWin with
        | some (k, w) => some (k, if k = c then w + e.sum n else w)
        | none => none
      s.onMeter fun m => { m with
        massWin := win
        totals := { t with mass := tset t.mass c (tget t.mass c 0 + ch.mfact * e.sum n) } }
    | none =>
      let s := s.onMeter fun m => { m with totals := { t with unrated := tset t.unrated c (tget t.unrated c 0 + total) } }
      if m.unknown.contains (src, group, rank) then s
      else (s.onMeter fun m => { m with unknown := m.unknown ++ [(src, group, rank)] }).mtrEvent 0x120A [src / 2, group, rank]

/-- TYPE, PACER, GROUP and the words between the first and the CRC of a tap record (R547). -/
def TapBody.parts (b : TapBody) : Nat × Nat × Nat × List Nat :=
  match b with
  | .count p g rank n k => (0, p, g, [rank] ++ (List.range 15).map (fun i => n.getD i 0) ++ [k])
  | .snap t => (1, 0, 0, timeWords t)
  | .time t => (2, 0, 0, timeWords t)
  | .idle => (3, 0, 0, [])

/-- The words of a record on the tap of die `d`, its CRC-32 last (R547). -/
def TapRec.words (d : Nat) (r : TapRec) : List Nat :=
  let (type, p, g, body) := r.body.parts
  let ws := (type + 2 ^ 2 * p + 2 ^ 3 * g + 2 ^ 6 * d + 2 ^ 9 * r.seq) :: body
  let crc := wordsCrc ws
  ws ++ [crc % 2 ^ 24, crc / 2 ^ 24]

/-- A record goes out on a die's tap with the next SEQ (R547). -/
def State.tapPut (s : State) (d : Nat) (body : TapBody) : State :=
  s.onMeter fun m =>
    let n := tget m.seqs d 0
    { m with seqs := tset m.seqs d ((n + 1) % 32768), wire := tset m.wire d (tget m.wire d [] ++ [⟨n, body⟩]) }

/-- A meter snapshot request goes out on D0's tap with its firing time (R504, R549). -/
def State.snapMark (s : State) : State := s.tapPut 0 (.snap (s.time 0))

/-- Takes the oldest record off a die's tap. -/
def State.tapTake (s : State) (d : Nat) : Option (TapRec × State) :=
  match tget s.meter.wire d [] with
  | [] => none
  | r :: rest => some (r, s.onMeter fun m => { m with wire := tset m.wire d rest })

/-- A good record arrives: missing SEQ values count, and a tap that was down starts afresh (R548). -/
def State.tapGood (s : State) (d seq : Nat) : State :=
  match tget? s.meter.taps d with
  | some t =>
    let missing := if t.up then (seq + 32768 - t.seq - 1) % 32768 else 0
    let s := s.onMeter fun m => { m with taps := tset m.taps d ⟨true, seq, min (t.gaps + missing) 65535, s.clk⟩ }
    if missing = 0 then s else s.mtrEvent 0x1204 [d, missing]
  | none => s.onMeter fun m => { m with taps := tset m.taps d ⟨true, seq, 0, s.clk⟩ }

/-- A parameter of R550 by its id. -/
def MtrParams.byId (p : MtrParams) (id : Nat) : Nat :=
  match id with
  | 1 => p.gap
  | 2 => p.indX
  | 3 => p.indY
  | 4 => p.inv
  | i => if 16 ≤ i && i < 32 then tget p.offs (i - 16) 0 else if 32 ≤ i && i < 48 then (p.chan (i - 32)).cell
    else if 48 ≤ i && i < 64 then (p.chan (i - 48)).density else 0

/-- Sets a parameter by its id. -/
def MtrParams.setId (p : MtrParams) (id v : Nat) : MtrParams :=
  match id with
  | 1 => { p with gap := v }
  | 2 => { p with indX := v }
  | 3 => { p with indY := v }
  | 4 => { p with inv := v }
  | i => { p with offs := tset p.offs (i - 16) v }

/-! The indication (R565). -/

/-- The content of the rectangle, as numbers: what each row shows. -/
def State.indContent (s : State) : List Nat :=
  let m := s.meter
  let on := (List.range 16).filter (fun c => (m.params.chan c).enable)
  let rows := if on.length ≤ 8 then on else if s.mtrOps / 5 % 2 = 0 then on.take 8 else on.drop 8
  [lenMm m.totals.len, m.sealCount, nat m.sealed, Config.meterRom.toNat, m.patchId, s.mtrStat] ++
    rows.flatMap (fun c =>
      [c, (m.params.chan c).name1, (m.params.chan c).name2, m.area c / 1000, m.vol c / 1000, nat (m.unratedOf c != 0)])

end Sys2Proof.Machine
end

