-- ==== Sys2Proof/Machine/DispOps.lean ====
section
/-! DEFINITION. The bar-side display (R604 to R613): timings, composition, check rectangles, start and stop. -/

namespace Sys2Proof.Machine

open Sys2Proof

/-- Changes the display. -/
def State.onDisp (s : State) (f : Disp → Disp) : State := { s with disp := f s.disp }

/-- An event of the display causes source 40 (R613). -/
def State.dispEvent (s : State) (code : Nat) (payload : List Nat) : State := (s.event 0 code payload).cause 40

/-- Active width and height, and the pixel clock in 0.1 MHz, of a MODE (R605). -/
def dispTiming (mode : Nat) : Nat × Nat × Nat :=
  match mode with
  | 0 => (1920, 1080, 1485)
  | 1 => (1920, 1200, 1540)
  | 2 => (1280, 800, 710)
  | 3 => (1024, 768, 650)
  | 4 => (2560, 1440, 2415)
  | 5 => (3840, 2160, 2970)
  | _ => (0, 0, 0)

/-- Total pixels and lines of a MODE, blanking included (R605). -/
def dispTotal (mode : Nat) : Nat × Nat :=
  match mode with
  | 0 => (2200, 1125)
  | 1 => (2080, 1235)
  | 2 => (1440, 823)
  | 3 => (1344, 806)
  | 4 => (2720, 1481)
  | 5 => (4400, 2250)
  | _ => (0, 0)

/-- SENSE clocks that so many lines of a MODE last (R605). -/
def dispLines (mode lines : Nat) : Nat := lines * (dispTotal mode).1 * 2000 / (dispTiming mode).2.2

/-- SENSE clocks of the active lines of a MODE, with which a frame begins (R605). -/
def dispActive (mode : Nat) : Nat := dispLines mode (dispTiming mode).2.1

/-- SENSE clocks of the vertical blank that follows the active lines (R605). -/
def dispBlank (mode : Nat) : Nat := dispLines mode ((dispTotal mode).2 - (dispTiming mode).2.1)

/-- A link setting, LANES and RATE as DISP_STAT codes them, carries a mode at 24 bits a pixel: eight of ten bits on the link are
payload. -/
def linkCarries (lanes rate mode : Nat) : Bool :=
  let mbit := [1620, 2700, 5400].getD rate 0
  decide ((dispTiming mode).2.2 * 24 ≤ 2 ^ lanes * mbit * 8)

/-! Layers. -/

/-- A layer names a buffer: generations run from 1 (R160). -/
def State.layerNamed (s : State) (k : Nat) : Bool := s.rd (F.DISP_LBUF_GEN k) != 0

/-- What a layer gives a pixel of the frame (R606): nothing, a colour with its alpha, or a colour that the spec leaves open. -/
inductive LayerPixel
  | absent
  | shown (p : Pixel) (alpha : Nat)
  | unknown
  deriving DecidableEq, Repr

/-- FILL of a layer as a colour. -/
def State.layerFill (s : State) (k : Nat) : LayerPixel :=
  let c := s.rd (F.DISP_LFILL_FILL k)
  .shown ⟨bits c 16 8, bits c 8 8, bits c 0 8⟩ 255

/-- Width and height of a layer: LSIZE, or the preview's. -/
def State.layerSize (s : State) (k : Nat) : Nat × Nat :=
  if s.on (F.DISP_LCTL_SRC k) then
    match (s.cam (s.rd (F.DISP_LCTL_CAM k))).preview with
    | some rows => ((rows.headD []).length, rows.length)
    | none => (0, 0)
  else (s.rd (F.DISP_LSIZE_W k), s.rd (F.DISP_LSIZE_H k))

/-- A layer covers a pixel of the frame. -/
def State.layerCovers (s : State) (k x y : Nat) : Bool :=
  let (w, h) := s.layerSize k
  let x0 := s.rd (F.DISP_LPOS_X k)
  let y0 := s.rd (F.DISP_LPOS_Y k)
  s.on (F.DISP_LCTL_EN k) && decide (x0 ≤ x ∧ x < x0 + w ∧ y0 ≤ y ∧ y < y0 + h)

/-- The pixel of a layer (R606, R607): a preview's is opaque; a buffer's bytes are B, G, R, A; a layer that has lost its buffer shows
FILL. What lies past a buffer's end, or in a layer that has never had a buffer, is open. -/
def State.layerPixel (s : State) (k x y : Nat) : LayerPixel :=
  if !s.layerCovers k x y then .absent
  else
    let i := x - s.rd (F.DISP_LPOS_X k)
    let j := y - s.rd (F.DISP_LPOS_Y k)
    if s.on (F.DISP_LCTL_SRC k) then
      match (s.cam (s.rd (F.DISP_LCTL_CAM k))).preview with
      | some rows => match (rows.getD j [])[i]? with
        | some p => .shown p 255
        | none => .absent
      | none => .absent
    else match tget? s.disp.held k with
      | none => if s.layerNamed k then s.layerFill k else .unknown
      | some b =>
        let off := 256 * s.rd (F.DISP_LOFF_OFFSET k) + j * (256 * s.rd (F.DISP_LSTRIDE_STRIDE k)) + 4 * i
        if (s.buf b).bytes < off + 4 then .unknown
        else
          let v := s.loadBytes ((s.buf b).addr + off) 4
          .shown ⟨v.getD 2 0, v.getD 1 0, v.getD 0 0⟩ (v.getD 3 0)

/-- One component blended (R606). -/
def blend (a src dst : Nat) : Nat := (a * src + (255 - a) * dst + 127) / 255

/-- The indication fits the active area (R611): 960 x 240 pixels at IND_X, IND_Y. -/
def State.indFits (s : State) : Bool :=
  let (w, h, _) := dispTiming s.disp.mode
  decide (s.meter.params.indX + 960 ≤ w ∧ s.meter.params.indY + 240 ≤ h)

/-- The indication covers a pixel. -/
def State.indCovers (s : State) (x y : Nat) : Bool :=
  let p := s.meter.params
  s.indFits && decide (p.indX ≤ x ∧ x < p.indX + 960 ∧ p.indY ≤ y ∧ y < p.indY + 240)

/-- A pixel as scanned out (R606, R608), with the pixels that arrived late as layer, column and row: 2^24 x layer + 2^12 x row +
column; none where the spec leaves it open. The indication's pixels depend on its font. -/
def State.compose (s : State) (late : List Nat) (x y : Nat) : Option Pixel :=
  if s.indCovers x y then none
  else
    let bg := s.rd F.DISP_BG_RGB
    (List.range 4).foldl (fun d k =>
      let src := if s.layerCovers k x y && late.contains (2 ^ 24 * k + 2 ^ 12 * y + x) then s.layerFill k else s.layerPixel k x y
      match d, src with
      | none, _ => none
      | _, .unknown => none
      | some p, .absent => some p
      | some p, .shown q alpha =>
        let a := (alpha * s.rd (F.DISP_LCTL_GALPHA k) + 127) / 255
        some ⟨blend a q.r p.r, blend a q.g p.g, blend a q.b p.b⟩) (some ⟨bits bg 16 8, bits bg 8 8, bits bg 0 8⟩)

/-- CRC of a rectangle as scanned out (R610); none where a pixel of it is open. -/
def State.rectCrc (s : State) (late : List Nat) (x y w h : Nat) : Option Nat :=
  let ps := (List.range h).flatMap (fun j => (List.range w).map (fun i => s.compose late (x + i) (y + j)))
  if ps.any Option.isNone then none
  else some (crc32 ((ps.filterMap id).flatMap (fun p => [p.r, p.g, p.b])))

/-- Check rectangle `r` is judged at a frame's end (R610). -/
def State.judgeRect (s : State) (late : List Nat) (r : Nat) : State :=
  let (aw, ah, _) := dispTiming s.disp.mode
  let x := s.rd (F.DISP_RPOS_X r)
  let y := s.rd (F.DISP_RPOS_Y r)
  let w := s.rd (F.DISP_RSIZE_W r)
  let h := s.rd (F.DISP_RSIZE_H r)
  if !s.on (F.DISP_RCTL_EN r) || aw < x + w || ah < y + h then s
  else
    let (crc, s) := match s.rectCrc late x y w h with
      | some c => (c, s)
      | none => s.draw 32
    let s := (s.wr (F.DISP_RCRC_LO_CRC r) crc).wr (F.DISP_RCRC_HI_CRC r) (crc / 2 ^ 24)
    let expected := s.rd (F.DISP_REXP_LO_EXP r) + 2 ^ 24 * (s.rd (F.DISP_REXP_HI_EXP r) % 256)
    if crc = expected then s.endEpisode 0x1505 r
    else
      let s := (s.wr (F.DISP_RCTL_MISMATCH r) 1).inc (F.DISP_RCNT_COUNT r)
      if s.inEpisode 0x1505 r then s else (s.eventOnce 0 0x1505 r [r, s.rd F.DISP_FRAME_FRAME]).cause 40

/-! Buffers of layers. -/

/-- A buffer that a layer gave up is released, unless another layer shows it. -/
def State.layerRelease (s : State) (b : Nat) : State :=
  if s.disp.held.any (fun e => e.2 = b) then s else s.release b 0 0

/-- The buffers that a commit has replaced are released (R82, R607). -/
def State.releaseReplaced (s : State) (id : Nat) : State :=
  let l := ((s.disp.replaced.filter (fun r => r.2.1 = id)).map (·.1)).eraseDups
  l.foldl (fun s b => s.layerRelease b) (s.onDisp fun d => { d with replaced := d.replaced.filter (fun r => r.2.1 != id) })

/-- A frame ends, or the display stops: replaced buffers are released but those of a commit that other consumers have yet to apply, which
stay to its completion (R82, R607). -/
def State.releaseShown (s : State) : State :=
  let ids := ((s.disp.replaced.map (·.2.1)).filter (fun i => (s.commit? i).all (fun c => c.remaining.isEmpty))).eraseDups
  let s := ids.foldl (fun s i => s.releaseReplaced i) s
  s.onDisp fun d => { d with replaced := d.replaced.map (fun r => (r.1, r.2.1, true)) }

/-- Commit `id` has given layer `k` a buffer, or none: the one it replaces is kept to the end of the next frame while frames are
scanned (R607), and else released as the commit completes (R82). -/
def State.layerBuffer (s : State) (k id : Nat) : State :=
  let b := s.rd (F.DISP_LBUF_BUF k)
  let old := tget? s.disp.held k
  if s.layerNamed k && old = some b then s.wr (F.DISP_LSTAT_LOST k) 0
  else
    let s := if s.layerNamed k then ((s.hold b).onDisp fun d => { d with held := tset d.held k b }).wr (F.DISP_LSTAT_LOST k) 0
      else s.onDisp fun d => { d with held := tdel d.held k }
    match old with
    | none => s
    | some o => s.onDisp fun d => { d with replaced := d.replaced ++ [(o, id, false)] }

/-- A layer whose buffer is being reclaimed loses it (R607). -/
def State.layerLost (s : State) (k : Nat) : State :=
  match tget? s.disp.held k with
  | none => s
  | some b =>
    if (s.buf b).st != .reclaiming then s
    else
      let s := s.onDisp fun d => { d with held := tdel d.held k }
      (((s.layerRelease b).wr (F.DISP_LSTAT_LOST k) 1).inc F.DISP_ERR_LOST).dispEvent 0x1503 [k, b]

/-- The display is ON and scans frames, or holds in self-refresh. -/
def State.dispOn (s : State) : Bool := s.rd F.DISP_CTL_STATE = 2

/-- The end of a frame for a layer: SHOWN. -/
def State.layerShown (s : State) (k : Nat) : State :=
  let (w, h) := s.layerSize k
  let (aw, ah, _) := dispTiming s.disp.mode
  s.wr (F.DISP_LSTAT_SHOWN k)
    (nat (s.on (F.DISP_LCTL_EN k) && decide (0 < w ∧ 0 < h ∧ s.rd (F.DISP_LPOS_X k) < aw ∧ s.rd (F.DISP_LPOS_Y k) < ah)))

/-! Start and stop. -/

/-- A start that cannot succeed: MODE 6 or 7 (R615). -/
def State.dispStartFails (s : State) : Bool := decide (6 ≤ s.rd F.DISP_CTL_MODE)

/-- A start takes the fields that act at a start only (R609), and trains. -/
def State.dispStarting (s : State) : State :=
  (((s.onDisp fun d =>
    { d with mode := s.rd F.DISP_CTL_MODE, psr := s.on F.DISP_CTL_PSR_EN, lanesMax := s.rd F.DISP_CTL_LANES_MAX, rateMax := s.rd F.DISP_CTL_RATE_MAX }).wr
    F.DISP_STAT_MODE_PEND 0).wr F.DISP_STAT_LINK 1)

/-- A training result, LANES and RATE or none, that stays within the limits in force and carries the mode (R604, R613). -/
def State.dispTrained (s : State) (found : List Nat) : Bool :=
  match found with
  | [l, r] => l ≤ s.disp.lanesMax && r ≤ s.disp.rateMax && linkCarries l r s.disp.mode
  | _ => false

/-- The link is up at a setting, and frames are scanned. -/
def State.dispUp (s : State) (found : List Nat) : State :=
  (((s.wr F.DISP_STAT_LINK 2).wr F.DISP_STAT_LANES (found.getD 0 0)).wr F.DISP_STAT_RATE (found.getD 1 0)).onDisp fun d =>
    { d with still := 0, changed := false, iseq := s.meter.iseq, frameAt := s.clk, scanned := false }

/-- The link is off. -/
def State.dispDown (s : State) : State :=
  (List.range 4).foldl (fun s k => s.wr (F.DISP_LSTAT_SHOWN k) 0)
    ((((s.wr F.DISP_STAT_LINK 0).wr F.DISP_STAT_LANES 0).wr F.DISP_STAT_RATE 0).wr F.DISP_STAT_IND_SHOWN 0)

/-- Training cannot carry the mode (R613). -/
def State.dispLinkFail (s : State) : State := s.dispDown.dispEvent 0x1501 []

end Sys2Proof.Machine
end

