-- ==== Sys2Proof/Machine/IrqOps.lean ====
section
/-! DEFINITION. Interrupt routing (R473 to R485): coalescing, assignment to a target, eligibility, messages. -/

namespace Sys2Proof.Machine

open Sys2Proof

/-- Priority of a source (R476, R478). -/
def State.prio (s : State) (g : Nat) : Nat := s.rd (F.IRQ_CFG_PRIO (g / 256) (g % 256))

/-- The local numbers that name a source (R473). -/
def sourceDefined (d loc : Nat) : Bool :=
  loc ≤ 12 || (16 ≤ loc && loc ≤ 24 && d = 0) || (25 ≤ loc && loc ≤ 39) || (40 ≤ loc && loc ≤ 43 && d = 0) || loc = 44
    || (64 ≤ loc && loc ≤ 127)

/-- The PCIe configuration space and the MSI-X table after a reset of them, in D3hot or in D0 (R154): MSI-X is disabled, and every entry is
masked with address and data 0 until the driver programs it again (log 137). -/
def HostPort.pcieReset (h : HostPort) (d3hot : Bool) : HostPort :=
  { h with msixTable := [], pcie := { PcieConfig.reset with d3hot := d3hot } }

/-- Word `w` of the MSI-X table, four words an entry: address low and high, data, vector control with the mask in bit 0. An entry is
masked after reset (R152, R154, log 137). -/
def HostPort.msixWord (h : HostPort) (w : Nat) : Nat := tget h.msixTable w (if w % 4 = 3 then 1 else 0)

/-- Vector `v` may not be sent: its mask, the function mask, MSI-X disabled or the function in D3hot (R151, R479). -/
def HostPort.msixHeld (h : HostPort) (v : Nat) : Bool :=
  !h.pcie.msixEnable || h.pcie.funcMask || h.pcie.d3hot || bit (h.msixWord (4 * v + 3)) 0

/-- The message of a vector as its table entry gives it. -/
def HostPort.msixMsg (h : HostPort) (v : Nat) : MsixMsg :=
  ⟨v, h.msixWord (4 * v) + 2 ^ 32 * h.msixWord (4 * v + 1), h.msixWord (4 * v + 2)⟩

/-- Sends MSI-X vector `v`, or marks it pending while it may not be sent (R479). -/
def State.sendMsix (s : State) (v : Nat) : State :=
  s.onHost fun h =>
    if h.msixHeld v then { h with msixPending := if h.msixPending.contains v then h.msixPending else v :: h.msixPending }
    else { h with msixSent := h.msixMsg v :: h.msixSent }

/-- The claim stack of a host target, top first (R478). -/
def State.stackOf (s : State) (t : Nat) : List Claimed := tget s.irq.claims t []

/-- The running priority of a host target: that of the top of its stack, or 0 (R478). -/
def State.runPrio (s : State) (t : Nat) : Nat :=
  match s.stackOf t with
  | [] => 0
  | e :: _ => e.prio

/-- A source is active while an entry of some stack holds it. -/
def State.active (s : State) (g : Nat) : Bool := s.irq.claims.any (fun e => e.2.any (fun c => c.src = g))

/-- The number and bit of a source in the bitmaps of IRQH (R489). -/
def irqhWord (g : Nat) : Nat := g / 256 * 8 + g % 256 / 24

/-- A source is masked in IRQH_MASK (R481). -/
def State.irqMasked (s : State) (g : Nat) : Bool := bit (s.rd (F.IRQH_MASK_MASK (irqhWord g))) (g % 256 % 24)

/-- A source passes every condition of R478 at a target but the room on its stack. -/
def State.wouldBeEligible (s : State) (t g : Nat) : Bool :=
  s.irq.pending.contains g && tget? s.irq.assigned g == some t && !s.active g && !s.irqMasked g
    && decide (max (s.rd (F.IRQH_TCTL_THRESH t)) (s.runPrio t) < s.prio g)

/-- The eligible sources of a target (R478). -/
def State.eligible (s : State) (t : Nat) : List Nat :=
  if (s.stackOf t).length < 8 then s.irq.pending.filter (s.wouldBeEligible t) else []

/-- The source a claim takes: the highest priority, and of equal ones the lowest number (R480). -/
def State.bestEligible (s : State) (t : Nat) : Option Nat :=
  (s.eligible t).foldl
    (fun b g => match b with
      | none => some g
      | some h => if s.prio h < s.prio g || (s.prio h = s.prio g && g < h) then some g else some h) none

/-- Sources held back by a full stack are counted, and an event is recorded once per episode (R484). -/
def State.noteFullStack (s : State) (t : Nat) : State :=
  if (s.stackOf t).length < 8 then s
  else (s.irq.pending.filter (s.wouldBeEligible t)).foldl
    (fun s g => if s.inEpisode 0x0F05 g then s else (s.inc F.IRQH_ERR_STACK_FULL).eventOnce 0 0x0F05 g []) s

/-- Sends the message of a host target that has an eligible source and no message outstanding (R479, R484). -/
def State.deliver (s : State) (t : Nat) : State :=
  let s := s.noteFullStack t
  if (s.eligible t).isEmpty || s.irq.outstanding.contains t then s
  else (s.onIrq fun q => { q with outstanding := t :: q.outstanding }).sendMsix t

/-- Delivers at every host target. -/
def State.deliverAll (s : State) : State := forUpTo 16 (fun t s => s.deliver t) s

/-- An engine begins its code (R469, R471, R472). -/
def State.runsFromNow (s : State) (d e : Nat) : State := { s with eng := { s.eng with runsFrom := tset s.eng.runsFrom (12 * d + e) s.clk } }

/-- A target of a source is enabled: a host target accepts, an engine target is ON or is replaced by the hot spare that is ON
(R471, R476). Targets 16 and up are engines. -/
def State.targetEnabled (s : State) (d t : Nat) : Bool :=
  if t < 16 then s.on (F.IRQH_TCTL_ACCEPT t)
  else s.rd (F.ENG_CTL_STATE d (t - 16)) = 2 || (tget? s.eng.sparedBy d == some (t - 16) && s.rd (F.ENG_CTL_STATE d 11) = 2)

/-- The targets in a source's masks, in the cyclic order H0-H15, E0-E11 (R476). -/
def State.targetsOf (s : State) (g : Nat) : List Nat :=
  let d := g / 256
  let k := g % 256
  (List.range 28).filter fun t =>
    if t < 16 then bit (s.rd (F.IRQ_HMASK_HMASK d k)) t else bit (s.rd (F.IRQ_EMASK_EMASK d k)) (t - 16)

/-- The next enabled target after the one used at the source's previous raise (R476). -/
def State.nextTarget (s : State) (g : Nat) : Option Nat :=
  let ts := (s.targetsOf g).filter (s.targetEnabled (g / 256))
  match tget? s.irq.lastTarget g with
  | none => ts.head?
  | some l => match ts.filter (fun t => l < t) with
    | t :: _ => some t
    | [] => ts.head?

/-- Assigns a pending source that has none to a target, or counts it in NOTARGET; a source of priority 0 is left alone (R476). -/
def State.assignTarget (s : State) (g : Nat) : State :=
  if s.prio g = 0 || (tget? s.irq.assigned g).isSome then s
  else match s.nextTarget g with
    | some t => (s.onIrq fun q => { q with assigned := tset q.assigned g t, lastTarget := tset q.lastTarget g t }).endEpisode 0x0F06 g
    | none => if s.inEpisode 0x0F06 g then s else (s.inc F.IRQH_ERR_NOTARGET).eventOnce 0 0x0F06 g [g]

/-- Assigns every pending source that can be assigned, by rising number, and delivers (R476, R487). -/
def State.assignPending (s : State) : State :=
  ((sortBy (fun a b => decide (a ≤ b)) s.irq.pending).foldl (fun s g =>
    if s.prio g != 0 && (s.nextTarget g).isSome then s.assignTarget g else s) s).deliverAll

/-- A source is raised: the raise travels to IRQH or to the die's engines (R474, R477). -/
def State.raiseSource (s : State) (g : Nat) : State :=
  s.onIrq fun q => { q with counted := tdel q.counted g, firstAt := tdel q.firstAt g, raises := q.raises ++ [g] }

/-- Counts one event of a source and raises it at COUNT (R474). -/
def State.countCause (s : State) (g : Nat) : State :=
  let n := tget s.irq.counted g 0 + 1
  if s.rd (F.IRQ_COAL_COUNT (g / 256) (g % 256)) ≤ n then s.raiseSource g
  else s.onIrq fun q => { q with counted := tset q.counted g n, firstAt := if n = 1 then tset q.firstAt g s.clk else q.firstAt }

end Sys2Proof.Machine
end

