-- ==== Sys2Proof/Machine/Raster.lean ====
section
/-! DEFINITION. Beginning a line and the nozzle table port (R262 to R272, R281). -/

namespace Sys2Proof.Machine

open Sys2Proof

/-- A raster pipeline is ON. -/
def State.rasOn (s : State) (p : Nat) : Bool := s.rd (F.RAS_PCTL_STATE (p / 2) (p % 2)) = 2

/-- The record of a line (R264), written at the die line reached; `code` is the job's CODE. -/
def State.lineRec (s : State) (p : Nat) (l : Nat) (nofire : Bool) (vals : Tab Nat) (code : Nat) : LineRec :=
  ⟨l, nofire, vals, s.rowDelays p (s.imageAt (.bar p) l) l, code, s.dieLine (p / 2), false⟩

/-- A line of a claimed slot has been begun (R397). -/
def State.notePrinted (s : State) (first page line : Nat) (use : SlotUse) (width : Nat) : State :=
  s.onEye fun e =>
    if e.printed.any (fun x => x.line = first) then
      { e with printed := e.printed.map (fun x => if x.line = first then { x with begun := max x.begun (line + 1) } else x) }
    else { e with printed := e.printed ++ [⟨first, page, use, line + 1, width⟩] }

/-- `begin_line` of R264 for a substrate line of a bar. -/
def State.beginLine (s : State) (p bar l : Nat) : State :=
  let d := p / 2
  let n := p % 2
  let s := s.wrPair (F.RAS_BEGUN_LO_LINE d n) (F.RAS_BEGUN_HI_LINE d n) l
  match s.jobAt l with
  | none => s.storeRec p (s.lineRec p l true [] (s.rd (F.RAS_W_CODE d n)))
  | some (j, c) => match c.block with
    | none => s.storeRec p (s.lineRec p l true [] (s.rd (F.RAS_W_CODE d n)))
    | some b =>
      let code := (b.plane bar).code
      let s := s.wr (F.RAS_W_CODE d n) code
      let (k, i) := c.pageOf l
      let last := i + 1 = b.pageLines || c.endLine = some (l + 1)
      let env := s.lineEnv p bar l b k i
      match s.claimAt l with
      | some (line, use) =>
        let s := s.notePrinted (l - line) k line use env.bits
        (s.storeRec p (s.lineRec p l false (env.checkCodes bar line use (s.rd F.HLTH_CTL_CHK_CODE)) code)).countLost p (some (j, k)) 0 last
      | none =>
        let (src, began, s) := s.sourceOf bar p l (s.role = 2)
        let s := if began then s.rejectPage p l 2 false else s
        match src with
        | .nofire => (s.storeRec p (s.lineRec p l true [] code)).countLost p (some (j, k)) 0 last
        | .bytes data =>
          let sum := env.substitute (env.place data (signed 10 (s.atLine (.bar p) l (F.RAS_XREG_XREG d n))))
          let s := (s.incBy (F.RAS_SUBST_COUNT d n) sum.subst).incBy (F.RAS_LOST_COUNT d n) sum.lost
          (s.storeRec p (s.lineRec p l false (env.waves sum.codes) code)).countLost p (some (j, k)) sum.lost last

/-- R262, R264: a pacer's raster pipeline begins its next substrate line at SENSE time `t`, once its die has reached the begin point. -/
def execRasLineBegin (p t : Nat) (s : State) : Host.Outcome State Fault Refusal :=
  guarded (p < 2 * s.dies)
    (let s := s.atTime t
     let r := s.raster p
     match (s.imageFor (.bar p)).barOf p with
     | none => s
     | some bar =>
       if !s.rasOn p || decide ((s.dieLine (p / 2) : Int) < r.next + s.delay (.bar p) - s.leadEff p) then s
       else
         let s := s.setRaster p { r with next := r.next + 1 }
         if r.next < 0 then s else s.beginLine p bar r.next.toNat)

/-- The state with the structure in effect on a die at the snapshot line (R282). -/
def State.atSnapshot (s : State) (d : Nat) : State :=
  match tget? s.snapImages d with
  | some (cur, ov, sw) => { s with ld := { s.ld with current := cur, overlay := ov, switched := sw } }
  | none => s

/-- MAPPED and PACER of a nozzle table entry of a die (R267). -/
def State.nozzlePlace (s : State) (d a : Nat) : Bool × Nat :=
  let m := s.imageOfNozzle d a
  (m.isMapped d a, ((m.nozzlePacer d a).getD 0) % 2)

/-- What a view gives a field: the effective, staged or latched value (R68, R69). -/
def State.viewed (s : State) (f : Fld) (st : Bool) : Nat :=
  match s.rd F.EPOCH_CTL_VIEW with
  | 0 => if st then s.stagedValue f else s.rd f
  | 2 => tget s.snap f.key f.reset
  | _ => s.rd f

/-- RAS_NZ_DATA as it reads (R267, R282): CURVE, HOST_OUT and HOST_IN by the view; EB_OUT, OUT, MAPPED and PACER are status fields. -/
def State.readNozzle (s : State) (d a : Nat) : Nat :=
  let w := s.viewed (nozzleWord (131072 * d + a)) true
  let eb := s.viewed (nozzleEbOut (131072 * d + a)) false
  let (mapped, pacer) := (if s.rd F.EPOCH_CTL_VIEW = 2 then s.atSnapshot d else s).nozzlePlace d a
  w + 2 ^ 10 * eb + 2 ^ 11 * nat (nozzleOut (s.viewed (nozzleWord (131072 * d + a)) false) (eb != 0)) + 2 ^ 12 * nat mapped + 2 ^ 13 * pacer

/-- Each access to RAS_NZ_DATA advances the address (R284). -/
def State.nextNozzle (s : State) (d : Nat) : State :=
  s.wr (F.RAS_NZ_ADDR_ADDR d) ((s.rd (F.RAS_NZ_ADDR_ADDR d) + 1) % 131072)

/-- A write of RAS_NZ_DATA stages one field (R281). -/
def State.writeNozzle (s : State) (d w : Nat) : State :=
  let a := s.rd (F.RAS_NZ_ADDR_ADDR d)
  (s.stageOn d (nozzleWord (131072 * d + a)).key (bits w 0 6 + 2 ^ 8 * bits w 8 2)).nextNozzle d

/-- R267, R281, R284: an access to RAS_NZ_DATA of a die, a write of `data` or a read. -/
def execRasNzDataAccess (d : Nat) (data : Option Word) (s : State) : Host.Outcome State Fault Refusal :=
  guarded (d < s.dies)
    (match data with
     | some w => s.served (dieAt d 0x20000) (s.writeNozzle d w.toNat)
     | none =>
       s.servedRead (dieAt d 0x20000) [0] (let v := s.readNozzle d (s.rd (F.RAS_NZ_ADDR_ADDR d))
         (s.onHost fun h => { h with readData := [v] }).nextNozzle d))

end Sys2Proof.Machine
end

