-- ==== Sys2Proof/Machine/CameraRows.lean ====
section
/-! DEFINITION. The commands and events of the camera ports (R370 to R393). -/

namespace Sys2Proof.Machine

open Sys2Proof

/-- R377, R378: a POSITION or TIME trigger point is reached at SENSE time `t`: a trigger issues, or is skipped while a frame is open or
before FMIN has passed. -/
def execCamTrigger (d t : Nat) (s : State) : Host.Outcome State Fault Refusal :=
  guarded (d < s.dies)
    (let s := s.atTime t
     let (n, f) := s.trigPoints d
     if s.camState d != 2 || n = 0 then s
     else
       let c := s.cam d
       let s := s.onCam d fun c => { c with judged := s.trigNow d }
       let s := s.skipTriggers d (if s.rd (F.CAM_TRIG_MODE d) = 1 then n - 1 else 0)
       if c.frame.isSome || c.lastTrig.any (fun l => s.clk < l + usTicks (s.rd (F.CAM_FMIN_FMIN d))) then s.skipTriggers d 1
       else s.issueTrigger d f)

/-- R378: CAM_FLASH goes high, FLASH_DLY after its trigger, for FLASH_W. -/
def execCamFlashPulse (d t : Nat) (s : State) : Host.Outcome State Fault Refusal :=
  guarded (d < s.dies)
    (let s := s.atTime t
     match (s.cam d).flashDue with
     | none => s
     | some a =>
       if a ≤ s.clk then s.onCam d fun c => { c with flashDue := none, flash := (a, a + 20 * s.rd (F.CAM_FLASH_FLASH_W d)) } else s)

/-- R371, R378, R382: a Frame Start packet on a virtual channel: an open frame closes and a frame opens, of the trigger that waits or
ORPHAN. A stop opens no frame: its receiver is disabled once the open one has closed (R392). -/
def execFrameStart (d vc t : Nat) (s : State) : Host.Outcome State Fault Refusal :=
  guarded (d < s.dies)
    (let s := s.atTime t
     if vc != s.port d (F.CAM_CTL_VC d) then s
     else if s.camState d != 2 then s.closeFrame d false
     else
       let s := s.closeFrame d false
       let s :=
         if s.rd (F.CAM_TRIG_MODE d) = 0 then
           let n := (s.cam d).count + 1
           (s.governSets d s.clk n).onCam d fun c => { c with count := n }
         else s
       let trig := (s.cam d).unmatched
       let s := s.onCam d fun c => { c with unmatched := none, frame := some ⟨trig, [], 0⟩ }
       if trig.isSome then s else (s.inc (F.CAM_SKIP_ORPHAN d)).windowed d 0x0A08 d [d] true)

/-- R368, R370, R371, R373: a long packet: its virtual channel and data type, whether its header or its CRC failed, and its pixels. -/
def execCsiPacket (d vc dt : Nat) (hdrBad crcBad : Bool) (pixels : List Nat) (s : State) : Host.Outcome State Fault Refusal :=
  guarded (d < s.dies)
    (if s.camState d != 2 && s.camState d != 3 then s
     else if hdrBad then s.csiError d 1
     else if vc != s.port d (F.CAM_CTL_VC d) || dt = 0x12 || (0x30 ≤ dt && dt ≤ 0x37) then s
     else if dt != (if s.portOn d (F.CAM_CTL_FMT d) then 0x2C else 0x2B) then s.csiError d 1
     else match (s.cam d).frame with
       | none => s
       | some o =>
         let w := s.port d (F.CAM_WIDTH_SIZE d)
         let s := if crcBad then s.csiError d 2 else s
         let s := if pixels.length != w then s.csiError d 3 else s
         if s.port d (F.CAM_HEIGHT_SIZE d) ≤ o.lines.length then
           (s.inc (F.CAM_DROP_LINES d)).onCam d fun c => { c with frame := some { o with dropped := o.dropped + 1 } }
         else
           s.onCam d fun c => { c with frame := some { o with lines := (!crcBad && decide (w ≤ pixels.length), pixels.take w) :: o.lines } })

/-- R371: a Frame End packet on a virtual channel: the open frame closes. -/
def execFrameEnd (d vc t : Nat) (s : State) : Host.Outcome State Fault Refusal :=
  guarded (d < s.dies)
    (let s := s.atTime t
     if vc = s.port d (F.CAM_CTL_VC d) then s.closeFrame d false else s)

/-- R374, R376, R381, R384: the CCI master's work ends at SENSE time `t`, refused at a sensor address or with a byte read. -/
def execCciTransferDone (d : Nat) (nack : Option Nat) (data : Byte) (t : Nat) (s : State) : Host.Outcome State Fault Refusal :=
  guarded (d < s.dies)
    (let s := s.atTime t
     match (s.cam d).cci with
     | none => s
     | some .raw =>
       let s := s.onCam d fun c => { c with cci := none }
       let s := (s.wr (F.CAM_RAW_CTL_BUSY d) 0).wr (F.CAM_RAW_CTL_NACK d) (nat nack.isSome)
       if s.on (F.CAM_RAW_CTL_RD d) && nack.isNone then s.wr (F.CAM_RAW_CTL_RDATA d) data.toNat else s
     | some (.set x) =>
       let s := s.onCam d fun c =>
         { c with cci := none, sent := c.sent ++ [{ x with sentAt := s.clk, nack := nack.isSome }] }
       let s := match nack with
         | some a => s.cciNack d a x.newest
         | none => s
       let s := if x.missed then s.event d 0x0A07 [d, x.newest] else s
       s.startCci d
     | some w =>
       match nack with
       | some a =>
         let s := s.onCam d fun c => { c with cci := none }
         let s := if w = .first then s.cciNack d a 0 else s
         if s.camState d = 1 then s.failStart (.cam d) else s
       | none => s.nextCci d (some w))

/-- A single CCI transfer (R376): it starts while the block is OFF and no transfer runs, else it is ignored and sets NACK. -/
def State.rawGo (s : State) (d : Nat) : State :=
  if s.camState d = 0 && (s.cam d).cci.isNone then
    let e := s.rd (F.CAM_RAW_ENTRY d)
    let op : CciOp := if s.on (F.CAM_RAW_CTL_RD d) then .read (e / 256) else .write (e / 256) [e % 256]
    (((s.wr (F.CAM_RAW_CTL_BUSY d) 1).wr (F.CAM_RAW_CTL_NACK d) 0).onCam d fun c => { c with cci := some .raw }).cciSend d [op]
  else s.wr (F.CAM_RAW_CTL_NACK d) 1

/-- R376: CAM_RAW GO with RD. -/
def execCamRawGo (d : Nat) (rd : Bool) (s : State) : Host.Outcome State Fault Refusal :=
  guarded (d < s.dies)
    (s.served (dieAt d 0x50000) ((s.wr (F.CAM_RAW_CTL_RD d) (nat rd)).rawGo d))

/-- R391: CAM_ARCH_REQ GO: the next frame that closes is archived. -/
def execCamArchReq (d : Nat) (s : State) : Host.Outcome State Fault Refusal :=
  guarded (d < s.dies)
    (s.served (dieAt d 0x50000) (s.onCam d fun c => { c with archReq := true }))

/-- A buffer for archives (R391): queued when it is DEVICE-owned, of the current generation, and the queue has room. -/
def State.archWrite (s : State) (d buf gen : Nat) : State :=
  if s.refStatus buf gen = 0 && decide ((s.cam d).archQ.length < 8) then
    (s.hold buf).onCam d fun c => { c with archQ := c.archQ ++ [(buf, gen)] }
  else s.inc (F.CAM_SKIP_ARCH d)

/-- R391: a write of CAM_ARCH_Q. -/
def execCamArchQWrite (d buf gen : Nat) (s : State) : Host.Outcome State Fault Refusal :=
  guarded (d < s.dies)
    (s.served (dieAt d 0x50000) (s.archWrite d buf gen))

/-- CAM_TBL_DATA as it reads: an entry of the active bank (R393). -/
def State.readTable (s : State) (d : Nat) : Nat :=
  let a := s.rd (F.CAM_TBL_ADDR_ADDR d)
  if s.on (F.CAM_TBL_ADDR_TABLE d) then s.defectWord d a else s.shadeGain d a

/-- Each read of CAM_TBL_DATA advances the address. -/
def State.nextTable (s : State) (d : Nat) : State := s.wr (F.CAM_TBL_ADDR_ADDR d) ((s.rd (F.CAM_TBL_ADDR_ADDR d) + 1) % 16384)

/-- R393: a read of CAM_TBL_DATA. -/
def execCamTblDataRead (d : Nat) (s : State) : Host.Outcome State Fault Refusal :=
  guarded (d < s.dies)
    (s.servedRead (dieAt d 0x50000) [0] (let v := s.readTable d
     (s.onHost fun h => { h with readData := [v] }).nextTable d))

/-- Each access to CAM_INIT_DATA advances the address. -/
def State.nextInit (s : State) (d : Nat) : State := s.wr (F.CAM_INIT_ADDR_ADDR d) ((s.rd (F.CAM_INIT_ADDR_ADDR d) + 1) % 64)

/-- CAM_INIT_DATA as it reads in the selected view. -/
def State.readInit (s : State) (d : Nat) : Nat := s.viewed (initEntry d (s.rd (F.CAM_INIT_ADDR_ADDR d))) true

/-- A write of CAM_INIT_DATA stages one field (R393). -/
def State.writeInit (s : State) (d w : Nat) : State :=
  (s.stageOn d (initEntry d (s.rd (F.CAM_INIT_ADDR_ADDR d))).key w).nextInit d

/-- R393, R396: an access to CAM_INIT_DATA, a write of `data` or a read. -/
def execCamInitDataAccess (d : Nat) (data : Option Word) (s : State) : Host.Outcome State Fault Refusal :=
  guarded (d < s.dies)
    (match data with
     | some w => s.served (dieAt d 0x50000) (s.writeInit d w.toNat)
     | none =>
       s.servedRead (dieAt d 0x50000) [0]
         (let v := s.readInit d
          (s.onHost fun h => { h with readData := [v] }).nextInit d))

/-- R392: a stop has waited 100 ms for Frame End: the open frame closes as it is. -/
def execCamStopFrameTimeout (d t : Nat) (s : State) : Host.Outcome State Fault Refusal :=
  guarded (d < s.dies)
    (let s := s.atTime t
     if s.camState d = 3 && decide ((s.cam d).stopAt + usTicks 100000 ≤ s.clk) then s.closeFrame d true else s)

end Sys2Proof.Machine
end

