-- ==== Sys2Proof/Machine/Package.lean ====
section
/-! DEFINITION. The package (R616 to R619, R621 to R623): balls, signal strips, gateway positions and supply balls. Rows and columns count
from 1. -/

namespace Sys2Proof.Machine

open Sys2Proof

/-- Rows and columns of the ball array of a variant, by its dies (R616). -/
def ballArray (dies : Nat) : Nat := if dies = 2 then 51 else if dies = 4 then 65 else 81

/-- The letters of rows (R617). -/
def rowLetters : List Char := "ABCDEFGHJKLMNPTUVWY".toList

/-- The name of the row of index `i` (R617). -/
def rowName (i : Nat) : String :=
  let letter (n : Nat) : Char := rowLetters.getD (n - 1) 'A'
  if i ≤ 19 then String.ofList [letter i] else String.ofList [letter ((i - 1) / 19), letter ((i - 1) % 19 + 1)]

/-- The package row and column of position (r, c) of the strip of a die (R618). -/
def stripBall (dies d r c : Nat) : Nat × Nat :=
  match dies with
  | 2 => (r, if d = 0 then c else 52 - c)
  | 4 => (if d / 2 = 0 then r else 66 - r, if d % 2 = 0 then c else 66 - c)
  | _ => (if d / 4 = 0 then r else 82 - r, 20 * (d % 4) + c)

/-- The signals of a strip (R619); `neg` marks the N ball of a pair. -/
inductive StripSignal
  | lane (group place : Nat) (neg : Bool)
  | spareLane (group : Nat) (neg : Bool)
  | clock (group : Nat) (neg : Bool)
  | back (group : Nat) (neg : Bool)
  | strobe (group : Nat) (neg : Bool)
  | sdram (channel subchannel : Nat)
  | dphy (pair : Nat) (neg : Bool)
  | cciScl | cciSda | camTrig | camFlash | fbkVref
  | fbk (input line : Nat) (neg : Bool)
  | step (axis : Nat)
  | dir (axis : Nat)
  | ms (axis bit : Nat)
  | emu (output line : Nat)
  | ledData (chain : Nat)
  | ledRet (chain : Nat)
  | vss
  deriving DecidableEq, Repr

/-- The column of the P balls of a local group (R619). -/
def groupColumn (n : Nat) : Nat := 2 * n + 1 + n / 2

/-- The signal of a group on a row of its columns (R619). -/
def groupSignal (n r : Nat) (neg : Bool) : StripSignal :=
  if r ≤ 8 then .lane n (r - 1) neg else if r = 9 then .spareLane n neg else if r = 10 then .clock n neg
  else if r = 11 then .back n neg else .strobe n neg

/-- The signal of position (r, c) of a strip (R619). -/
def stripSignal (r c : Nat) : StripSignal :=
  if 1 ≤ r && r ≤ 12 then
    match (List.range 8).find? (fun n => c = groupColumn n || c = groupColumn n + 1) with
    | some n => groupSignal n r (c != groupColumn n)
    | none => .vss
  else if 13 ≤ r && r ≤ 28 then .sdram ((r - 13) / 8) ((c - 1) / 10)
  else if r = 29 then
    if 1 ≤ c && c ≤ 10 then .dphy ((c - 1) / 2) (c % 2 = 0)
    else match c with
      | 12 => .cciScl
      | 13 => .cciSda
      | 14 => .camTrig
      | 15 => .camFlash
      | 16 => .fbkVref
      | _ => .vss
  else if r = 30 || r = 31 then
    if c ≤ 12 then .fbk (2 * (r - 30) + (c - 1) / 6) ((c - 1) % 6 / 2) (c % 2 = 0)
    else if r = 30 then (if c % 2 = 1 then .step ((c - 13) / 2) else .dir ((c - 13) / 2))
    else .ms ((c - 13) / 4) (3 - (c - 13) % 4)
  else if r = 32 then
    if c ≤ 8 then .ms (2 + (c - 1) / 4) (3 - (c - 1) % 4)
    else if c ≤ 14 then .emu ((c - 9) / 3) ((c - 9) % 3)
    else if c ≤ 18 then (if c % 2 = 1 then .ledData ((c - 15) / 2) else .ledRet ((c - 15) / 2))
    else .vss
  else .vss

/-- The strip position of a ball of the test set of a chain of a die (R602, R621); none where no ball is tested. -/
def ledTestBall (m i : Nat) : Option (Nat × Nat) :=
  if i < 2 then some (32, 15 + 2 * m + i)
  else if i < 6 then some (31, 12 + 2 * m + i)
  else if i = 6 then some (32, 14 + 2 * m)
  else if i = 7 && m = 0 then some (32, 17)
  else none

/-- The signals at the gateway's shared positions (R622). -/
inductive GatewaySignal
  | pcieTx (lane : Nat) (neg : Bool)
  | pcieRx (lane : Nat) (neg : Bool)
  | pcieRefclk (neg : Bool)
  | perst
  | pairTx (lane : Nat) (neg : Bool)
  | pairRx (lane : Nat) (neg : Bool)
  | ethTx (neg : Bool)
  | ethRx (neg : Bool)
  | ethRefclk (neg : Bool)
  | edpLane (lane : Nat) (neg : Bool)
  | edpAux (neg : Bool)
  | edpHpd
  | eventFlash (line : Nat)
  | web (line : Nat) (neg : Bool)
  | refClk (neg : Bool)
  | resetN | pwrWarn | pwrSafe | leading | reject | speedLim
  | mtrA (neg : Bool)
  | mtrB (neg : Bool)
  | mtrMark | mtrOk | mtrXi | mtrXo
  | meterFlash (line : Nat)
  | vddMtr | vddioMtr | vssMtr
  | vss
  deriving DecidableEq, Repr

/-- The signal at a shared position (R622). -/
def gatewaySignal (p : Nat) : GatewaySignal :=
  let neg (first : Nat) : Bool := (p - first) % 2 = 1
  if p = 0 then .vss
  else if p ≤ 16 then .pcieTx ((p - 1) / 2) (neg 1)
  else if p ≤ 32 then .pcieRx ((p - 17) / 2) (neg 17)
  else if p ≤ 34 then .pcieRefclk (neg 33)
  else if p = 35 then .perst
  else if p = 36 then .vss
  else if p ≤ 54 then .pairTx ((p - 37) / 2) (neg 37)
  else if p ≤ 72 then .pairRx ((p - 55) / 2) (neg 55)
  else if p = 73 then .vss
  else if p ≤ 75 then .ethTx (neg 74)
  else if p ≤ 77 then .ethRx (neg 76)
  else if p ≤ 79 then .ethRefclk (neg 78)
  else if p ≤ 87 then .edpLane ((p - 80) / 2) (neg 80)
  else if p ≤ 89 then .edpAux (neg 88)
  else if p = 90 then .edpHpd
  else if p = 91 then .vss
  else if p ≤ 97 then .eventFlash (p - 92)
  else if p ≤ 103 then .web ((p - 98) / 2) (neg 98)
  else if p ≤ 105 then .refClk (neg 104)
  else if p ≤ 112 then [.resetN, .pwrWarn, .pwrSafe, .leading, .reject, .speedLim, .vss].getD (p - 106) .vss
  else if p ≤ 114 then .mtrA (neg 113)
  else if p ≤ 116 then .mtrB (neg 115)
  else if p ≤ 120 then [.mtrMark, .mtrOk, .mtrXi, .mtrXo].getD (p - 117) .vss
  else if p ≤ 126 then .meterFlash (p - 121)
  else [.vddMtr, .vddioMtr, .vssMtr].getD (p - 127) .vss

/-- The package row and column of a shared position (R622): along a row and then a column that leaves out that row, or row by row. -/
def gatewayBall (dies p : Nat) : Nat × Nat :=
  let rest (row n : Nat) : Nat := if n < row then n else n + 1
  match dies with
  | 2 => (45 + (p - 1) / 20, 16 + (p - 1) % 20)
  | 4 => if p ≤ 65 then (33, p) else (rest 33 (p - 65), 33)
  | _ => if p ≤ 81 then (41, p) else (rest 41 (p - 81), 81)

/-- The rails (R625). -/
inductive Rail
  | vss | vddCore | vddEng | vddq | serdes09 | serdes12 | vddio18 | vddio33
  deriving DecidableEq, Repr

/-- The line of the supply area on which a ball lies, counted inward from the strip (R623). -/
def supplyLine (dies row col : Nat) : Nat :=
  match dies with
  | 2 => if 32 < row then row - 32 else 5 + (if col ≤ 26 then col - 20 else 32 - col)
  | 4 => if col ≤ 33 then col - 20 else 46 - col
  | _ => if row ≤ 41 then row - 32 else 50 - row

/-- The rail of a supply ball (R623); `nth` counts the VDDIO balls of its die on line 5 from the lowest column or row. -/
def supplyRail (dies row col nth : Nat) : Rail :=
  if (row + col) % 2 = 0 then .vss
  else match supplyLine dies row col with
    | 1 => .serdes12
    | 2 => .serdes09
    | 3 => .vddq
    | 4 => .vddq
    | 5 => if nth % 2 = 0 then .vddio18 else .vddio33
    | n => if n % 2 = 0 then .vddCore else .vddEng

end Sys2Proof.Machine
end

