-- ==== Sys2Proof/Machine/LedOps.lean ====
section
/-! DEFINITION. LED chains: effective levels, factors, gates (R592 to R603). -/

namespace Sys2Proof.Machine

open Sys2Proof

/-- The number under which a channel's frame data is listed: device and channel of a chain. -/
def ledAddr (c dev ch : Nat) : Nat := 0x1300000 + (c * 64 + dev) * 4 + ch

/-- LEVEL of a channel. -/
def ledLevel (c dev ch : Nat) : Fld := ⟨ledAddr c dev ch, 0, 16, 0⟩

/-- PHASE of a channel: AUTO after reset (R614). -/
def ledPhase (c dev ch : Nat) : Fld := ⟨ledAddr c dev ch, 16, 8, 0xFE⟩

/-- Devices of a chain. -/
def State.ledDevs (s : State) (c : Nat) : Nat := s.rd (F.LED_CTL_DEVS (c / 2) (c % 2)) + 1

/-- The factor of a device in force (R598, R601). -/
def Chain.factor (x : Chain) (dev : Nat) : Nat :=
  let f := tget x.factors dev 1024
  if x.stale.contains dev then min f 512 else f

/-- Effective levels and wire phases of a frame, by 4 x device + channel (R597). A fenced or stopping chain sends every level 0. -/
def State.ledFrame (s : State) (c : Nat) (dark : Bool) : Tab (Nat × Nat) :=
  let x := s.chain c
  let scale := if s.ledMode c = 1 then x.scale else 1024
  let wire := (List.range (s.ledDevs c)).flatMap (fun dev => [(dev, 0), (dev, 1), (dev, 2)])
  ((wire.foldl (fun (acc, t) (dev, ch) =>
    let eff := if dark then 0 else min 65535 (s.rd (ledLevel c dev ch) * x.factor dev * scale / 1048576)
    let ph := s.rd (ledPhase c dev ch)
    if ph = 255 then (acc, t ++ [(4 * dev + ch, (eff, 255))])
    else if ph ≤ 253 then (acc, t ++ [(4 * dev + ch, (eff, ph))])
    else (acc + eff, t ++ [(4 * dev + ch, (eff, acc * 254 / 65536 % 254))])) ((0, []) : Nat × Tab (Nat × Nat)))).2

/-- Length of a frame in SENSE clocks: 72 bits of 1.0 microsecond for each device (R593). -/
def State.ledLength (s : State) (c : Nat) : Nat := usTicks (72 * s.ledDevs c)

/-- A frame goes out (R596, R597). -/
def State.ledSend (s : State) (c : Nat) (dark : Bool) : State :=
  let x := s.chain c
  s.setChain c { x with sent := s.ledFrame c dark, sentAt := s.clk, out := some (s.clk + s.ledLength c), again := false, dark := false }

/-- A chain may begin a frame: the latch after the last return frame has ended, and no gate is up or due (R596, R600). -/
def State.ledFree (s : State) (c : Nat) : Bool :=
  let x := s.chain c
  x.out.isNone && x.freeAt ≤ s.clk && !x.gate && x.gateAt.isNone

/-- One frame with every level 0 goes out, at once or as soon as the chain may begin a frame (R603, R640). -/
def State.ledDark (s : State) (c : Nat) : State :=
  let s := s.setChain c { s.chain c with gate := false, gateAt := none, dark := true }
  if s.ledFree c then s.ledSend c true else s

/-- SENSE clocks until the camera of a FOLLOW chain triggers next, from TPER and the present line rate, or exactly in TIME mode (R600);
none when no trigger is to come. -/
def State.nextTrigIn (s : State) (d : Nat) : Option Nat :=
  let period := s.rd (F.CAM_TPER_PERIOD d)
  if s.camState d != 2 || period = 0 then none
  else match s.rd (F.CAM_TRIG_MODE d) with
    | 1 =>
      let base := s.rdPair (F.CAM_TBASE_LO_BASE d) (F.CAM_TBASE_HI_BASE d)
      let line := s.dieLine d
      let togo := if line < base then base - line else period - (line - base) % period
      if s.lineRate d = 0 then none else some (togo * 200000000 / s.lineRate d)
    | 2 =>
      let p := 1000 * period
      let base := 1000 * s.rd (F.CAM_TBASE_LO_BASE d) % p
      some ((p - (s.time d + p - base) % p) / 5)
    | _ => none

/-- A frame's cycle ends before the next trigger (R596, R600). -/
def State.ledFits (s : State) (c : Nat) : Bool :=
  if s.ledMode c != 2 then true
  else match s.nextTrigIn (c / 2) with
    | none => true
    | some n => decide (usTicks (97 * s.ledDevs c + 55) ≤ n)

/-- The factor that a device temperature gives on a die (R598). -/
def State.derate (s : State) (d : Nat) (t : Int) : Nat :=
  let kneeAt : Nat := s.policy d 0xA 0x400
  let zeroAt : Nat := s.policy d 0xA 0x401
  let knee : Int := kneeAt
  let zero : Int := zeroAt
  if t ≤ knee then 1024 else if zero ≤ t then 0 else ((zero - t) * 1024 / (zero - knee)).toNat

/-- A valid status word of a device (R598, R601). -/
def State.ledStatus (s : State) (c dev st : Nat) : State :=
  let d := c / 2
  let m := c % 2
  let x := s.chain c
  let t : Int := (bits st 0 8 : Nat) - (40 : Int)
  let f := if bit st 14 then 0 else s.derate d t
  let s := s.setChain c { x with
    status := tset x.status dev (st, s.clk), stale := x.stale.filter (fun i => i != dev), factors := tset x.factors dev f }
  let s :=
    if f < 1024 && !s.inEpisode 0x1404 c then (s.eventOnce d 0x1404 c [m, dev, unsigned 24 t]).causeAt d 39
    else if (s.chain c).factors.all (fun e => e.2 = 1024) then s.endEpisode 0x1404 c
    else s
  let bad := bits st 8 6 != 0 || bit st 15
  let x := s.chain c
  if !bad then s.setChain c { x with faulty := x.faulty.filter (fun i => i != dev) }
  else if x.faulty.contains dev then s
  else ((s.setChain c { x with faulty := x.faulty ++ [dev] }).event d 0x1403 [m, dev, bits st 8 8]).causeAt d 39

/-- The return chain is broken (R601). -/
def State.ledBreak (s : State) (c : Nat) : State :=
  let d := c / 2
  let m := c % 2
  let s := s.wr (F.LED_STAT_BREAK d m) 1
  if s.inEpisode 0x1402 c then s else ((s.inc (F.LED_CNT_BREAKS d m)).eventOnce d 0x1402 c []).causeAt d 39

/-- A chain starts (R602, R603): no frame within 60 microseconds. A pin test that finds a short fails the start and names two balls. -/
def State.ledStarted (s : State) (c : Nat) : State :=
  s.setChain c { Chain.none with since := s.clk, sentAt := s.clk, freeAt := s.clk + usTicks 60, again := true, scaledAt := s.clk }

/-- A short that the pin test finds: two balls of the chain's test set, or one shorted to VSS, named twice (R602, R621). -/
def ledShort (c : Nat) (found : List Nat) : Bool :=
  found.length = 2 && found.all (fun i => (ledTestBall (c % 2) i).isSome)

/-- The pin test of a start finds two balls shorted (R602). -/
def State.ledPinShort (s : State) (c b1 b2 : Nat) : State :=
  ((s.wr (F.LED_STAT_PIN_FAIL (c / 2) (c % 2)) 1).event (c / 2) 0x1401 [c % 2, b1, b2]).causeAt (c / 2) 39

/-- A chain stops (R603): a frame with every level 0, and the factors are cleared. -/
def State.ledStopping (s : State) (c : Nat) : State :=
  let s := s.ledDark c
  s.setChain c { s.chain c with factors := [], stale := [] }

/-- Every chain of a die sends one dark frame and holds (R640). -/
def State.ledDarken (s : State) (d : Nat) : State :=
  [2 * d, 2 * d + 1].foldl (fun s c => if s.ledOn c then s.ledDark c else s) s

/-- Each access to LED_DATA advances CH, then DEV (R614). -/
def State.nextLed (s : State) (d : Nat) : State :=
  let ch := s.rd (F.LED_SEL_CH d)
  if ch < 2 then s.wr (F.LED_SEL_CH d) (ch + 1)
  else (s.wr (F.LED_SEL_CH d) 0).wr (F.LED_SEL_DEV d) ((s.rd (F.LED_SEL_DEV d) + 1) % 64)

/-- The chain, device and channel that LED_SEL of a die selects. -/
def State.ledSel (s : State) (d : Nat) : Nat × Nat × Nat :=
  (2 * d + s.rd (F.LED_SEL_CHAIN d), s.rd (F.LED_SEL_DEV d), s.rd (F.LED_SEL_CH d))

/-- LED_DATA as it reads; channel 3 does not exist. -/
def State.readLed (s : State) (d : Nat) : Nat :=
  let (c, dev, ch) := s.ledSel d
  if ch = 3 then 0 else s.viewed (ledLevel c dev ch) true + 2 ^ 16 * s.viewed (ledPhase c dev ch) true

/-- A write of LED_DATA stages level and phase of a channel. -/
def State.writeLed (s : State) (d w : Nat) : State :=
  let (c, dev, ch) := s.ledSel d
  let s := if ch = 3 then s else (s.stageOn d (ledLevel c dev ch).key (bits w 0 16)).stageOn d (ledPhase c dev ch).key (bits w 16 8)
  s.nextLed d

end Sys2Proof.Machine
end

