-- ==== Sys2Proof/Machine/LinkOps.lean ====
section
/-! DEFINITION. The head link (R342 to R366): groups, their identity and their states, and the adapters. -/

namespace Sys2Proof.Machine

open Sys2Proof

/-- An adapter, by 8 x die + group. -/
def State.adapter (s : State) (g : Nat) : Adapter :=
  tget s.press.adapters g
    ⟨.training, 1, ⟨0, none, List.replicate 9 0⟩, ⟨0, none, List.replicate 9 0⟩, none, none, [], [], 0, 0, [], []⟩

/-- Changes an adapter. -/
def State.setAdapter (s : State) (g : Nat) (a : Adapter) : State := s.onPress fun q => { q with adapters := tset q.adapters g a }

/-- A structure image has been loaded. -/
def State.loaded (s : State) : Bool := s.on F.STRUCT_STAT_LOADED

/-- The lanes in service of a group, one bit for each physical lane 0-8 (R352). -/
def State.serviceMask (s : State) (g : Nat) : Nat :=
  if !s.loaded then 0xFF
  else ((s.imageOfGroup g).groupLanes (g / 8) (g % 8)).foldl (fun m l => setBit m (if l.phys < 64 then l.phys % 8 else 8)) 0

/-- The rate set that the EQ settings give a group (R102, R342). -/
def State.eqRate (s : State) (g : Nat) : Nat := bits (s.rd (F.LAN_EQ_SETTING (g / 8) (8 * (g % 8)))) 15 3

/-- An event of the LAN block causes source 31 (R364). -/
def State.lanEvent (s : State) (g code : Nat) (payload : List Nat) : State :=
  (s.event (g / 8) code payload).causeAt (g / 8) 31

/-- The class of a group's head. -/
def State.groupClass (s : State) (g : Nat) : Option Nat := (s.groupHeadNow g).bind (fun h => ((s.imageOfGroup g).head? h).map Head.cls)

/-- The rank of a group's class, RANK (R100). -/
def State.groupRank (s : State) (g : Nat) : Option Nat := (s.groupClass g).map (fun c => bits ((s.imageOfGroup g).classWord c 4) 8 16)

/-- A valid identity whose rank is the class's (R332). -/
def State.rankMatches (s : State) (g : Nat) : Bool :=
  s.on (F.LAN_GSTAT_IDV (g / 8) (g % 8)) && s.groupRank g = some (s.rd (F.LNP_HRANK_RANK (g / 8) (g % 8)))

/-- State of a group (R334): 0 NOHEAD, 1 FIRING, 2 FENCED, 3 QUIESCED. -/
def State.grpState (s : State) (g : Nat) : Nat := s.rd (F.LNP_GRP_STATE (g / 8) (g % 8))

/-- Changes the state of a group. -/
def State.setGrpState (s : State) (g v : Nat) : State := s.wr (F.LNP_GRP_STATE (g / 8) (g % 8)) v

/-- A group with an identity is judged against its class: another rank is recorded (R332, R334). -/
def State.judgeGroup (s : State) (g : Nat) : State :=
  let d := g / 8
  let i := g % 8
  if !s.on (F.LAN_GSTAT_IDV d i) || s.grpState g != 0 then s
  else match s.groupRank g with
    | none => s
    | some r =>
      if r != s.rd (F.LNP_HRANK_RANK d i) then (s.event d 0x080B [i, s.rd (F.LNP_HRANK_RANK d i), r]).causeAt d 30 else s

/-- At its trigger a group changes its state (R334): FIRING once its identity is read and its rank matches, NOHEAD once its link is down or its
identity lost. A trip of the watchdog, the clearing of FAULT and QUIESCE act at once (DEDUCED, notes/assumptions/135). -/
def State.settleGroup (s : State) (g : Nat) : State :=
  if s.grpState g = 0 && s.rankMatches g && !s.on (F.LNP_GRP_QUIESCE (g / 8) (g % 8)) then s.setGrpState g 1
  else if s.grpState g = 1 && !s.on (F.LAN_GSTAT_IDV (g / 8) (g % 8)) then s.setGrpState g 0
  else s

/-- LNP_HMP of a group: the greater of what its head reports and its class's MIN_PERIOD (R324). -/
def State.headPeriodField (s : State) (g : Nat) : State :=
  s.wr (F.LNP_HMP_PERIOD (g / 8) (g % 8)) (max (s.group g).period (((s.groupClass g).map (fun c => (s.imageOfGroup g).classWord c 1)).getD 0))

/-- LINK of a group. -/
def State.link (s : State) (g : Nat) : Nat := s.rd (F.LAN_GSTAT_LINK (g / 8) (g % 8))

/-- Changes LINK; a link that comes UP has been heard. -/
def State.setLink (s : State) (g v : Nat) : State :=
  let x := s.group g
  (s.wr (F.LAN_GSTAT_LINK (g / 8) (g % 8)) v).setGroup g { x with since := s.clk, heard := if v = 4 then s.clk else x.heard }

/-- A link that has failed goes OFF and starts its retry timer of 1 ms (R355). -/
def State.retryLink (s : State) (g : Nat) : State :=
  (s.setLink g 0).setGroup g { (s.setLink g 0).group g with retryAt := s.clk + usTicks 1000 }

/-- Groups of the fitted dies whose link is UP. -/
def State.upGroups (s : State) : List Nat := (List.range (8 * s.dies)).filter (fun g => s.rd (F.LAN_GSTAT_LINK (g / 8) (g % 8)) = 4)

/-- STATUS flags of a group's adapter as last reported (R353). -/
def State.adapterFlags (s : State) (g : Nat) : Nat := s.rd (F.LAN_GSTAT_FLAGS (g / 8) (g % 8))

/-- Half or more of the UP groups report FOLLOW of the other input (R514). -/
def State.followsOther (s : State) : Bool :=
  let up := s.upGroups
  let other := up.filter (fun g => !bit (s.adapterFlags g) 5 && bit (s.adapterFlags g) 4 != s.on F.PAIR_CFG_INPUT)
  !up.isEmpty && up.length ≤ 2 * other.length

/-- Since when the groups have followed the other input, as a STATUS packet of one of them arrives (R514). -/
def State.noteFollow (s : State) : State :=
  let since := if s.followsOther then some (s.pair.followAt.getD s.clk) else none
  s.onPair fun p => { p with followAt := since }

/-- A group's link goes down with a cause (R355, R364): its identity is lost, and a host read of its adapter ends with LINK (R366). -/
def State.linkDown (s : State) (g cause : Nat) : State :=
  let d := g / 8
  let i := g % 8
  let s := ((s.retryLink g).wr (F.LAN_GSTAT_IDV d i) 0).wr (F.LNP_HRANK_RANK d i) 0
  let s := ((s.lanEvent g 0x0902 [i, cause]).inc (F.LAN_RERR_DOWNS d i)).life d 11 1
  let s := s.setGroup g { s.group g with reading := false, mismatch := none }
  match tget? s.press.reads d with
  | some r =>
    if r.group = i then ((s.wr (F.LAN_MRD_STAT_BUSY d) 0).wr (F.LAN_MRD_STAT_RESULT d) 2).onPress fun q => { q with reads := tdel q.reads d }
    else s
  | none => s

/-- What is wrong with an identity record (R354, R364): 0 nothing, 2 MAGIC or FMT, 3 CRC, 4 SEGS. -/
def State.identFault (s : State) (g : Nat) (b : List Nat) : Nat :=
  if b.getD 0 0 != 0x48 || b.getD 1 0 != 0x49 || b.getD 2 0 != 1 then 2
  else if crc32 (b.take 28) != ofBytes ((b.drop 28).take 4) then 3
  else
    let segs := (s.groupHeadNow g).bind (fun h => ((s.imageOfGroup g).head? h).map Head.segs)
    if s.loaded && segs.any (fun n => n != b.getD 3 0 + 1) then 4
    else 0

/-- A valid identity record is read (R332, R354, R355): the link is UP, and the head is judged. -/
def State.identified (s : State) (g : Nat) (b : List Nat) : State :=
  let d := g / 8
  let i := g % 8
  let serial := ofBytes ((b.drop 6).take 6)
  let period := ofBytes ((b.drop 12).take 3)
  let old := (s.group g).serial
  let s := ((if s.link g = 4 then s else s.setLink g 4).wr (F.LAN_GSTAT_IDV d i) 1).wrPair (F.LAN_SER_LO_SERIAL d i) (F.LAN_SER_HI_SERIAL d i) serial
  let s := s.wr (F.LNP_HRANK_RANK d i) (ofBytes ((b.drop 4).take 2))
  let s := s.setGroup g { s.group g with reading := false, serial := serial, period := period, pulseMax := ofBytes ((b.drop 15).take 2) }
  let s := s.headPeriodField g
  let s := s.judgeAdv (s.groupPacer g) ((s.dieLine d : Int) - s.delay (.bar (s.groupPacer g))) false
  let s := s.lanEvent g 0x0901 [i, s.rd (F.LAN_GSTAT_RATE d i)]
  let s :=
    if s.grpState g = 3 && serial != old then
      ((s.wr (F.LNP_GRP_NEW d i) 1).event d 0x080C [i, s.rd (F.LNP_GRP_HEAD d i)]).causeAt d 30
    else s
  s.judgeGroup g

/-- QUIESCE of a group changes at its commit's line (R334): NOFIRE frames from that die line on, so that a pending strobe of an earlier line
still fires. -/
def State.quiesce (s : State) (g : Nat) (on : Bool) : State :=
  let d := g / 8
  let i := g % 8
  if on then
    let x := s.group g
    (s.setGrpState g 3).setGroup g (if x.pend.any (fun b => b.line < s.dieLine d) then x else x.withoutStrobe)
  else if s.grpState g != 3 then s
  else if !s.rankMatches g then s.setGrpState g 0
  else
    let s := s.setGrpState g 1
    if !s.on (F.LNP_GRP_NEW d i) then s
    else
      let p := s.groupPacer g
      let line := s.dieLine d - s.delay (.bar p)
      (s.resetHeadNozzles (s.imageFor (.bar p)) (s.rd (F.LNP_GRP_HEAD d i)) line).wr (F.LNP_GRP_NEW d i) 0

/-- The SENSE clocks of 100 ns, for which a ball that is driven low has been high (R331). -/
def stuckClocks : Nat := 20

/-- A watchdog trip (R331, R334): the group's strobes go low and it is fenced. -/
def State.fenceGroup (s : State) (g code : Nat) (payload : List Nat) : State :=
  let d := g / 8
  let i := g % 8
  let s := ((s.event d code payload).causeAt d 30).life d 12 1
  let s := s.setGroup g (s.group g).withoutStrobe
  if s.grpState g = 3 then s else (s.setGrpState g 2).wr (F.LNP_GRP_FAULT d i) 1

/-- FAULT of a group is written 1 (R334): a fenced group returns to FIRING when its ball is low and its identity valid; with the ball high
0x0808 is recorded again. In any other state the bit clears. -/
def State.clearFault (s : State) (g : Nat) (high : Bool) : State :=
  let d := g / 8
  let i := g % 8
  if s.grpState g != 2 then s.wr (F.LNP_GRP_FAULT d i) 0
  else if high then (s.event d 0x0808 [i, stuckClocks]).causeAt d 30
  else if !s.on (F.LAN_GSTAT_IDV d i) then s
  else (s.setGrpState g 1).wr (F.LNP_GRP_FAULT d i) 0

/-! The adapter. -/

/-- Changes the input of an adapter. -/
def Adapter.onInput (a : Adapter) (inB : Bool) (f : AdapterInput → AdapterInput) : Adapter :=
  if inB then { a with inB := f a.inB } else { a with inA := f a.inA }

/-- The eligible input with the highest epoch; at equal epochs the one followed, else A (R360). -/
def Adapter.best (a : Adapter) : Option Bool :=
  match a.inA.heard, a.inB.heard with
  | none, none => none
  | some _, none => some false
  | none, some _ => some true
  | some _, some _ =>
    if a.inA.epoch < a.inB.epoch then some true
    else if a.inB.epoch < a.inA.epoch then some false
    else match a.follow with
      | some b => some b
      | none => some false

/-- The adapter chooses its input: a change takes effect at the next strobe of the new one (R360). -/
def Adapter.choose (a : Adapter) : Adapter :=
  match a.best with
  | none => { a with follow := none, change := none, held := [] }
  | some b => if a.follow = some b then { a with change := none } else { a with change := some b }

/-- Flags of STATUS character 1 (R353): present and faults, FOLLOW, NO_ACTIVE. -/
def Adapter.statusFlags (a : Adapter) : Nat :=
  a.flags % 16 + 16 * nat (a.follow = some true) + 32 * nat (a.inA.heard.isNone && a.inB.heard.isNone)

end Sys2Proof.Machine
end

