-- ==== Sys2Proof/Machine/MotionOps.lean ====
section
/-! DEFINITION. Motion axes: the generators, the gear, the follower and the emission of steps (R428 to R448). -/

namespace Sys2Proof.Machine

open Sys2Proof

/-- An axis after reset. -/
def Axis.reset : Axis :=
  ⟨0, 0, 0, false, 0, false, 0, 0, 0, 0, false, 1, [], 0, 0, 0, 0, false, [], 0, false, false, none, (0, 1), 0, 0, 0, 0, 0, 0, 1, 1,
   0, 0, 0, 0, 0, 0, 0, 0, 0, false, 0, 0⟩

/-- An axis, by 4 x die + number. -/
def State.axis (s : State) (a : Nat) : Axis := tget s.axes a Axis.reset

/-- Changes an axis. -/
def State.setAxis (s : State) (a : Nat) (x : Axis) : State := { s with axes := tset s.axes a x }

/-- One fine step. -/
def fine : Int := 2 ^ 32

/-- The WEB count of the die of an axis (R287). -/
def State.axisWeb (s : State) (a : Nat) : Int := (s.input (5 * (a / 4) + 4)).count

/-- The count of F input `i` of the die of an axis. -/
def State.axisInput (s : State) (a i : Nat) : Int := (s.input (5 * (a / 4) + i)).count

/-- An axis runs under the limits of Speedwell service (R447). -/
def State.axisSlow (s : State) (a : Nat) : Bool := decide (s.rd (F.DIE_STAT_STAGE (a / 4)) < 7)

/-- The boot block lets an axis run in Speedwell service (R134). -/
def State.axisAllowed (s : State) (a : Nat) : Bool :=
  if a < 24 then bit (s.boot.block.getD 2 0) a else bit (s.boot.block.getD 3 0) (a - 24)

/-- Full steps/s as 2^-32 fine steps a tick (R429). -/
def speedOf (n : Nat) : Nat := n * 256 * 2 ^ 32 / 100000

/-- 16 full steps/s^2 as 2^-32 fine steps a tick a tick (R429). -/
def rateOf (n : Nat) : Nat := n * 16 * 256 * 2 ^ 32 / 10000000000

/-- VMAX or |VEL| in force as a speed; in Speedwell service the pulse rate at KMIN stays at or below AX_VMAX (R447). -/
def State.axisSpeed (s : State) (a n : Nat) : Nat :=
  if s.axisSlow a then
    min (speedOf n) (s.boot.block.getD 4 0 * 2 ^ s.rd (F.MOT_MS_KMIN (a / 4) (a % 4)) * 2 ^ 32 / 100000)
  else speedOf n

/-- An acceleration field in force; in Speedwell service it is clamped to AX_ACC (R447). -/
def State.axisRate (s : State) (a n : Nat) : Nat := rateOf (if s.axisSlow a then min n (s.boot.block.getD 5 0) else n)

/-- The deceleration in force (R434). -/
def State.axisDec (s : State) (a : Nat) (x : Axis) : Nat := s.axisRate a (max x.keptDec x.dec)

/-! The trapezoidal generator (R432). -/

/-- Braking distance at a deceleration; 0 at standstill. -/
def brakeDist (speed dt : Nat) : Nat := speed * speed / (2 * dt)

/-- A distance is nearer than braking allows; nothing is far enough without a deceleration. -/
def nearer (x : Int) (speed dt : Nat) : Bool := if dt = 0 then decide (0 < speed) else decide (x < brakeDist speed dt)

/-- An axis brakes to standstill and holds there. -/
def Axis.brakeOn (x : Axis) (dt : Nat) : Axis :=
  let v := x.v.sign * ((x.v.natAbs - dt : Nat) : Int)
  { x with p := x.p + v, v := v, braked := false, rev := false }

/-- One tick toward target `t`, or without end when there is none, up or down; tells whether a reversal ended (R432, R435). -/
def Axis.travel (x : Axis) (vt acc dt dwell : Nat) (t : Option Int) (up : Bool) : Axis × Bool :=
  let d : Int := match t with
    | some t => t - x.p
    | none => if up then 1 else -1
  if x.v = 0 && d = 0 then ({ x with braked := false }, false)
  else if x.v = 0 && 0 < x.dwell then ({ x with dwell := x.dwell - 1, braked := false }, false)
  else
    let dir := if x.v != 0 then x.v.sign else d.sign
    let sp := x.v.natAbs
    let ahead := dir * d
    let turn := decide (ahead ≤ 0) || (t.isSome && nearer ahead sp dt)
    let brake : Nat :=
      if turn then dt
      else if t.isSome && ahead ≤ brakeDist sp dt + sp then sp * sp / (2 * ahead.toNat)
      else if vt < sp then min dt (sp - vt)
      else 0
    let rev := turn || x.rev
    let sp' := if 0 < brake then sp - brake else min vt (sp + acc)
    let x := { x with rev := rev, braked := 0 < brake && !rev }
    match t with
    | some t =>
      if !rev && decide (0 < ahead) && ahead ≤ sp' then ({ x with p := t, v := 0 }, false)
      else if sp' = 0 && rev then ({ x with v := 0, rev := false, dwell := dwell }, true)
      else ({ x with p := x.p + dir * sp', v := dir * sp' }, false)
    | none =>
      if sp' = 0 && rev then ({ x with v := 0, rev := false, dwell := dwell }, true)
      else ({ x with p := x.p + dir * sp', v := dir * sp' }, false)

/-! Anchors. -/

/-- The gear is anchored at the present position (R442). -/
def State.anchorGear (s : State) (a : Nat) (x : Axis) : Axis := { x with pa := x.p, wa := s.axisWeb a }

/-- The follow target is the present position, and no segment is in progress (R440, R441). -/
def Axis.anchorFollow (x : Axis) : Axis := { x with tb := x.p / fine, acc := 0, segA := x.p, segB := x.p, segLen := 1, segK := 1 }

/-- The deviation is anchored (R444). -/
def State.anchorDev (s : State) (a : Nat) (x : Axis) : Axis :=
  { x with e0 := x.e, c0 := s.axisInput a (s.rd (F.MOT_SRC_ESRC (a / 4) (a % 4))), dev := 0, devTicks := 0 }

/-- The jerk filter is empty: every position it averages is the present one. -/
def Axis.emptyFilter (x : Axis) : Axis := { x with past := [x.p], out := x.p, outWas := x.p }

/-- The reference of the gear at a WEB count (R442). -/
def Axis.gearAt (x : Axis) (w : Int) : Int := x.pa + fine * (x.ratio.1 * (w - x.wa) / x.ratio.2)

/-- A class suits a mode (R431). -/
def State.modeSuits (s : State) (a mode : Nat) : Bool :=
  if s.on (F.MOT_CTL_CLASS (a / 4) (a % 4)) then mode = 3 else mode != 3

/-! Start and stop (R446). -/

/-- A start fails. In Speedwell service only the axes of AXES run, in modes 0 and 1 (R447). -/
def State.axisStartFails (s : State) (a : Nat) : Bool :=
  let d := a / 4
  let n := a % 4
  let mode := s.rd (F.MOT_CTL_MODE d n)
  !s.modeSuits a mode || (mode != 3 && (s.rd (F.MOT_ACC_RATE d n) = 0 || s.rd (F.MOT_DEC_RATE d n) = 0)) ||
    (mode = 3 && s.rd (F.FBK_CTL_STATE d (s.rd (F.MOT_SRC_BSRC d n))) != 2) ||
    s.rd (F.MOT_GDEN_DEN d n) = 0 || s.rd (F.MOT_BDEN_DEN d n) = 0 || (s.axisSlow a && (!s.axisAllowed a || 2 ≤ mode))

/-- An axis starts: standstill, an empty filter, and new anchors; position and REFD stay. -/
def State.axisStarted (s : State) (a : Nat) : State :=
  let d := a / 4
  let n := a % 4
  let x := s.axis a
  let x := { x with
    mode := s.rd (F.MOT_CTL_MODE d n), v := 0, rev := false, dwell := 0, braked := false, keptDec := 0, held := false,
    dec := s.rd (F.MOT_DEC_RATE d n), gat := false, armed := none, lag := 0, lagTicks := 0 }
  s.setAxis a (s.anchorDev a (s.anchorGear a x.emptyFilter.anchorFollow))

/-- The pulses of an axis stop at once, where it has emitted them, and the axis loses its reference (R147, R444, R446). -/
def State.axisHalt (s : State) (a : Nat) : State :=
  let x := s.axis a
  (s.setAxis a { x with p := fine * x.e, v := 0, rev := false, dwell := 0, braked := false, pulses := [] }.emptyFilter).wr
    (F.MOT_STAT_REFD (a / 4) (a % 4)) 0

/-- A commit has written fields of an axis: SETPOS_HI and GAT_HI act at the next tick, and with TSYNC a TGT or VEL is held (R443, R445,
R448). -/
def State.axisCommitted (s : State) (a : Nat) (wrote : Fld → Bool) : State :=
  let d := a / 4
  let n := a % 4
  let x := s.axis a
  let moves := wrote (F.MOT_TGT_LO_TGT d n) || wrote (F.MOT_TGT_HI_TGT d n) || wrote (F.MOT_VEL_VEL d n)
  s.setAxis a { x with
    setpos := x.setpos || wrote (F.MOT_SETPOS_HI_SETPOS d n)
    gat := x.gat || wrote (F.MOT_GAT_HI_GAT d n)
    held := x.held || (moves && s.on (F.MOT_CTL_TSYNC d n)) }

/-- A time trigger releases the moves that a die's axes hold (R448, R504). -/
def State.releaseMoves (s : State) (d : Nat) : State :=
  [0, 1, 2, 3].foldl (fun s n => s.setAxis (4 * d + n) { s.axis (4 * d + n) with held := false }) s

/-! Class B (R440). -/

/-- A count of F input `i` of a die reaches the axes that follow it. -/
def State.axesFollow (s : State) (d i : Nat) (back : Bool) : State :=
  [0, 1, 2, 3].foldl (fun s n =>
    let a := 4 * d + n
    let x := s.axis a
    if s.rd (F.MOT_CTL_STATE d n) = 2 && x.mode = 3 && s.rd (F.MOT_SRC_BSRC d n) = i then
      let num := signed 24 (s.rd (F.MOT_BNUM_NUM d n))
      let den : Int := s.rd (F.MOT_BDEN_DEN d n)
      let acc := if back then x.acc - num else x.acc + num
      let tb := x.tb + acc / den
      let len := match (s.input (5 * d + i)).hist with
        | t :: t' :: _ => ceilDiv (t - t') 2000
        | _ => Config.followMax
      s.setAxis a { x with tb := tb, acc := acc % den, segA := x.p, segB := fine * tb, segLen := max 1 len, segK := 0 }
    else s) s

/-! The emission of steps (R437 to R439). -/

/-- Pulses still due at a resolution code: floor toward minus infinity. -/
def Axis.due (x : Axis) (k : Nat) : Int := x.out / (fine * 2 ^ k) - x.e / 2 ^ k

/-- The code that the speed asks for (R438): PLIM in pulses/s. -/
def Axis.codeFor (x : Axis) (kmin kmax plim : Nat) : Nat :=
  let rate (k : Nat) : Nat := x.v.natAbs * 2 ^ (8 - k)
  let fits (k : Nat) : Bool := decide (rate k * 100000 ≤ plim * 256 * 2 ^ 32)
  let up := ((List.range (kmax + 1)).find? (fun k => kmin ≤ k && fits k)).getD kmax
  if x.k < up then up
  else if kmin < x.k && decide (rate (x.k - 1) * 100000 * 4 ≤ plim * 256 * 2 ^ 32 * 3) then x.k - 1
  else x.k

/-- Instants of `m` pulses spread over a span of SENSE clocks (R437). -/
def spread (t0 span m : Nat) : List Nat := (List.range m).map (fun j => t0 + (2 * j + 1) * span / (2 * m))

/-- What a tick emits: up to 50 pulses, the first at the old code while a coarser one waits for its boundary, then at the new one.
Answers the axis, how many pulses came before and after the change, and whether the code changed. -/
def Axis.emit (x : Axis) (knew : Nat) : Axis × Nat × Nat × Bool :=
  let dir := (x.due x.k).sign
  let before : Nat :=
    if knew ≤ x.k then 0
    else ((List.range 51).find? (fun j : Nat => decide ((x.e + dir * (j : Int) * 2 ^ x.k) % 2 ^ knew = 0))).getD 51
  let due := min (x.due x.k).natAbs 50
  if knew = x.k || due < before then ({ x with e := x.e + dir * due * 2 ^ x.k }, due, 0, false)
  else
    let e := x.e + dir * before * 2 ^ x.k
    let y := { x with e := e, k := knew }
    let n := y.due knew
    let more := if before = 0 || n.sign = dir then min n.natAbs (50 - before) else 0
    ({ y with e := e + n.sign * more * 2 ^ knew }, before, more, true)

/-- The pin code of a resolution code: MSMAP[k] (R439). -/
def State.msCode (s : State) (a k : Nat) : Nat :=
  if k < 6 then bits (s.rd (F.MOT_MSMAP_LO_MAP (a / 4) (a % 4))) (4 * k) 4 else bits (s.rd (F.MOT_MSMAP_HI_MAP (a / 4) (a % 4))) (4 * (k - 6)) 4

/-- Emission at a tick that starts at SENSE time `t`, toward code `knew`: DIR, the pulses and their instants, the pins, the count of
code changes, and the counts of the emulation outputs that follow the axis (R298, R437, R439). -/
def State.axisEmit (s : State) (a t knew : Nat) (x : Axis) : State :=
  let d := a / 4
  let n := a % 4
  let (y, m1, m2, sw) := x.emit knew
  let m := m1 + m2
  let back := if m = 0 then x.back else decide (y.e < x.e)
  let off := max (if m != 0 && back != x.back then s.rd (F.MOT_STEP_DSET d n) else 0) (x.msReady - t)
  let times := spread (t + off) (2000 - off) m
  let head := times.take m1
  let ready := if sw then max (t + off) ((head.getLast?).getD x.lastPulse + 40) + 4 * s.rd (F.MOT_STEP_MSET d n) else x.msReady
  let times := if sw then head ++ spread ready (t + 2000 - ready) m2 else times
  let s := s.setAxis a { y with
    back := back
    pulses := times
    lastPulse := (times.getLast?).getD x.lastPulse
    msReady := ready
    dirPin := back != s.on (F.MOT_CTL_DIR_INV d n)
    msPins := s.msCode a y.k
    stepWidth := s.rd (F.MOT_STEP_PW d n) }
  let s := if sw && !s.on (F.MOT_CTL_CLASS d n) then s.inc (F.MOT_MSCHG_COUNT d n) else s
  (List.range m).foldl (fun s _ => s.emuFollow d (5 + n) back) s

/-! The tick. -/

/-- An event of an axis, with its interrupt where R449 gives one. -/
def State.axisEvent (s : State) (a code : Nat) (more : List Nat) (irq : Bool) : State :=
  let s := s.event (a / 4) code (a % 4 :: more)
  if irq then s.causeAt (a / 4) 35 else s

/-- A committed SETPOS is taken (R445). -/
def State.axisSetpos (s : State) (a : Nat) : State :=
  let x := s.axis a
  if !x.setpos then s
  else
    let s := s.setAxis a { x with setpos := false }
    if x.v != 0 then s.axisEvent a 0x0C07 [] true
    else
      let e := signed 48 (s.rdPair (F.MOT_SETPOS_LO_SETPOS (a / 4) (a % 4)) (F.MOT_SETPOS_HI_SETPOS (a / 4) (a % 4)))
      let x := ({ x with setpos := false, p := fine * e, e := e }).emptyFilter.anchorFollow
      (s.setAxis a (s.anchorDev a (s.anchorGear a x))).wr (F.MOT_STAT_REFD (a / 4) (a % 4)) 1

/-- The deviation is compared; beyond DEVWIN for DEVT ticks the axis stalls (R444). -/
def State.axisStall (s : State) (a : Nat) : State :=
  let d := a / 4
  let n := a % 4
  let x := s.axis a
  let c := s.axisInput a (s.rd (F.MOT_SRC_ESRC d n)) - x.c0
  let num := signed 24 (s.rd (F.MOT_ENUM_NUM d n))
  let den : Int := s.rd (F.MOT_EDEN_DEN d n)
  let exact := (x.e - x.e0) * den - num * c
  let beyond := decide (s.rd (F.MOT_DEVWIN_DEVWIN d n) * den < exact.natAbs)
  let ticks := if beyond then x.devTicks + 1 else 0
  let dev := exact.tdiv den
  let s := s.setAxis a { x with dev := dev, devTicks := ticks }
  if s.on (F.MOT_SRC_DEV_EN d n) && !s.on (F.MOT_STAT_STALL d n) && s.rd (F.MOT_DEVWIN_DEVT d n) ≤ ticks then
    (((s.axisHalt a).wr (F.MOT_STAT_STALL d n) 1).inc (F.MOT_CNT_STALLS d n)).axisEvent a 0x0C03 [unsigned 24 dev] true
  else s

/-- A newly committed DEC is taken; one that would not stop the axis at its target waits for the next move (R434). -/
def State.axisTakeDec (s : State) (a : Nat) (finite : Bool) : State :=
  let d := a / 4
  let n := a % 4
  let x := s.axis a
  let new := s.rd (F.MOT_DEC_RATE d n)
  if new = x.dec then s
  else
    let ahead := x.v.sign * (x.tgt * fine - x.p)
    if finite && x.braked && decide (0 < ahead) && nearer ahead x.v.natAbs (s.axisRate a new) then
      ((s.setAxis a { x with dec := new, keptDec := max x.keptDec (max x.dec new) }).wr (F.MOT_STAT_ACCEL_DEFERRED d n) 1).inc
        (F.MOT_CNT_DEFERRALS d n) |>.axisEvent a 0x0C01 [x.dec, new] true
    else s.setAxis a { x with dec := new }

/-- The positions that the jerk filter averages: a move that starts from standstill fixes how many (R436). -/
def State.axisFilter (s : State) (a : Nat) (moved : Bool) (x : Axis) : Axis :=
  let d := a / 4
  let n := a % 4
  let jerk := if s.axisSlow a then 0 else s.rd (F.MOT_JERK_JERK d n)
  let top := max (s.rd (F.MOT_ACC_RATE d n)) (s.rd (F.MOT_DEC_RATE d n))
  let nj := if !moved then x.nj else if jerk = 0 then 1 else min 1024 (max 1 (ceilDiv (top * 390625) (1000 * jerk)))
  let past := (x.p :: x.past).take 1024
  let oldest := (past.getLast?).getD x.p
  let win := (past.take nj) ++ List.replicate (nj - past.length) oldest
  { x with nj := nj, past := past, outWas := x.out, out := (win.foldl (· + ·) 0).tdiv nj }

/-- The generator of POSITION and VELOCITY runs for a tick (R432 to R436). -/
def State.axisTravel (s : State) (a : Nat) : State :=
  let d := a / 4
  let n := a % 4
  let x := s.axis a
  let s := s.axisTakeDec a (x.mode = 0)
  let x := s.axis a
  let vt := s.axisSpeed a (if x.mode = 1 then x.vel.natAbs else s.rd (F.MOT_VMAX_VMAX d n))
  let t : Option Int := if x.mode = 1 then none else some (fine * x.tgt)
  let up := if x.vel = 0 then decide (0 ≤ x.v) else decide (0 < x.vel)
  let (y, turned) := x.travel vt (s.axisRate a (s.rd (F.MOT_ACC_RATE d n))) (s.axisDec a x) (s.rd (F.MOT_DWELL_DWELL d n)) t up
  let y := if y.v = 0 then { y with keptDec := 0 } else y
  let s := s.setAxis a (s.axisFilter a (x.v = 0 && y.v != 0) y)
  if !turned then s
  else
    let (w, s) := if x.mode = 1 then s.draw 24 else (unsigned 24 x.tgt, s)
    (s.inc (F.MOT_CNT_REVERSALS d n)).axisEvent a 0x0C02 [w] false

/-- The axis brakes at its deceleration to standstill and holds (R431, R432, R441, R446). -/
def State.axisBrake (s : State) (a : Nat) : State :=
  let s := s.axisTakeDec a false
  let y := (s.axis a).brakeOn (s.axisDec a (s.axis a))
  let y := if y.v = 0 then { y with keptDec := 0 } else y
  s.setAxis a (s.axisFilter a false y)

/-- A position moves to a reference by at most VMAX; the commanded position follows at once (R440, R442). -/
def State.axisTo (s : State) (a : Nat) (r : Int) : State :=
  let x := s.axis a
  let vt : Int := s.axisSpeed a (s.rd (F.MOT_VMAX_VMAX (a / 4) (a % 4)))
  let v := max (-vt) (min vt (r - x.p))
  s.setAxis a { x with p := x.p + v, v := v, past := [x.p + v], outWas := x.out, out := x.p + v }

/-- A ratio change applies: the gear is anchored at the reference of the old ratio (R443). -/
def Axis.newRatio (x : Axis) (w num : Int) (den : Nat) : Axis :=
  { x with pa := x.gearAt w, wa := w, ratio := (num, den), armed := none }

/-- The gear takes its fields, and arms or applies a ratio change (R442, R443). -/
def State.axisRatio (s : State) (a : Nat) : State :=
  let d := a / 4
  let n := a % 4
  let x := s.axis a
  let w := s.axisWeb a
  let num := signed 24 (s.rd (F.MOT_GNUM_NUM d n))
  let den := s.rd (F.MOT_GDEN_DEN d n)
  let m := signed 48 (s.rdPair (F.MOT_GAT_LO_GAT d n) (F.MOT_GAT_HI_GAT d n))
  if x.gat then
    if 0 ≤ w - m then
      ((s.setAxis a { x.newRatio w num den with gat := false }).wr (F.MOT_STAT_GEAR_LATE d n) 1).axisEvent a 0x0C06 [unsigned 24 w] true
    else s.setAxis a { x with gat := false, armed := some (m, num, den) }
  else match x.armed with
    | some (m, num, den) =>
      if 0 ≤ w - m then (s.setAxis a (x.newRatio w num den)).axisEvent a 0x0C05 [unsigned 24 w] false else s
    | none => s.setAxis a { x with ratio := (num, den) }

/-- The reference of an axis in GEAR or FOLLOW mode: that of the gear, or the follow target (R441, R442). -/
def State.axisRef (s : State) (a : Nat) : Int :=
  let x := s.axis a
  if x.mode = 2 then x.gearAt (s.axisWeb a) else fine * x.tb

/-- The lag of an axis in GEAR or FOLLOW mode is taken and compared; beyond FLIM for 10 ticks in a row the axis brakes and holds (R441). -/
def State.axisLag (s : State) (a : Nat) : State :=
  let d := a / 4
  let n := a % 4
  let x := s.axis a
  let lag := s.axisRef a - x.p
  let ticks := if s.rd (F.MOT_FLIM_FLIM d n) * 2 ^ 32 < lag.natAbs then x.lagTicks + 1 else 0
  let s := s.setAxis a { x with lag := lag, lagTicks := ticks }
  if !s.on (F.MOT_STAT_FOLLOW_LAG d n) && 10 ≤ ticks then
    (s.wr (F.MOT_STAT_FOLLOW_LAG d n) 1).axisEvent a 0x0C04 [unsigned 24 (lag.tdiv fine)] true
  else s

/-- The follower moves along its segment (R440). -/
def State.axisFollow (s : State) (a : Nat) : State :=
  let x := s.axis a
  let k := min x.segLen (x.segK + 1)
  (s.setAxis a { x with segK := k }).axisTo a (x.segA + ((x.segB - x.segA) * k).tdiv x.segLen)

/-- A change of MODE waits for standstill, and one into GEAR anchors the gear (R431); in Speedwell service modes 2 and 3 wait, since it offers
modes 0 and 1 only (R447; DEDUCED, notes/assumptions/133). Tells whether the axis brakes for it. -/
def State.axisMode (s : State) (a : Nat) : State × Bool :=
  let x := s.axis a
  let mode := s.rd (F.MOT_CTL_MODE (a / 4) (a % 4))
  if mode = x.mode then (s, false)
  else if x.v != 0 then (s, true)
  else if !s.modeSuits a mode || (s.axisSlow a && 2 ≤ mode) then (s, true)
  else
    let x := { x with mode := mode, dwell := 0, rev := false }
    (s.setAxis a (if mode = 2 then { s.anchorGear a x with
      ratio := (signed 24 (s.rd (F.MOT_GNUM_NUM (a / 4) (a % 4))), s.rd (F.MOT_GDEN_DEN (a / 4) (a % 4))) } else x), false)

/-- TGT and VEL come into force unless they are held (R433, R448). -/
def State.axisTargets (s : State) (a : Nat) : State :=
  let d := a / 4
  let n := a % 4
  let x := s.axis a
  if x.held && s.on (F.MOT_CTL_TSYNC d n) then s
  else s.setAxis a { x with
    held := false
    tgt := signed 48 (s.rdPair (F.MOT_TGT_LO_TGT d n) (F.MOT_TGT_HI_TGT d n))
    vel := signed 24 (s.rd (F.MOT_VEL_VEL d n)) }

/-- The tick of R430 that the time base of a die has reached. -/
def State.tickIndex (s : State) (d : Nat) : Nat := s.time d / 10000

/-- The time base of a die reaches a multiple of 10 us at this SENSE sample (R430). -/
def State.onTick (s : State) (d : Nat) : Bool := s.time d % 10000 ≤ 5

/-- A profile tick of an axis that starts at SENSE time `t` (R430 to R445). An axis that the hot fence has halted stays so until HOT_FENCE is
cleared (R640; DEDUCED, notes/assumptions/122). -/
def State.axisTick (s : State) (a t : Nat) : State :=
  let d := a / 4
  let n := a % 4
  let s := s.axisSetpos a
  let st := s.rd (F.MOT_CTL_STATE d n)
  if (st != 2 && st != 3) || s.halted || s.on (F.MON_STAT_HOT_FENCE d) then
    let x := s.axis a
    s.setAxis a { x with outWas := x.out, pulses := [] }
  else
    let s := (s.axisTargets a).axisStall a
    if s.on (F.MOT_STAT_STALL d n) then s
    else
      let (s, changing) := s.axisMode a
      let mode := (s.axis a).mode
      let s := if mode = 2 then s.axisRatio a else s
      let s :=
        if st = 3 || changing || s.on (F.MOT_STAT_FOLLOW_LAG d n) || (mode ≤ 1 && s.on (F.MOT_CTL_STOP d n)) then s.axisBrake a
        else if mode ≤ 1 then s.axisTravel a
        else if mode = 2 then s.axisTo a (s.axisRef a)
        else s.axisFollow a
      let s := if 2 ≤ mode && st = 2 && !changing then s.axisLag a else s
      let x := s.axis a
      let kmin := s.rd (F.MOT_MS_KMIN d n)
      if s.on (F.MOT_CTL_CLASS d n) then s.axisEmit a t kmin { x with k := kmin }
      else s.axisEmit a t (if s.axisSlow a then kmin else x.codeFor kmin (s.rd (F.MOT_MS_KMAX d n)) (1000 * s.rd (F.MOT_MS_PLIM d n))) x

end Sys2Proof.Machine
end

