-- ==== Sys2Proof/Machine/TimeOps.lean ====
section
/-! DEFINITION. The discipline of the time base and the time triggers (R491 to R506). -/

namespace Sys2Proof.Machine

open Sys2Proof

/-- Changes the clock. -/
def State.onClock (s : State) (f : Clock → Clock) : State := { s with clock := f s.clock }

/-- Puts a rate correction in force, in 1/64 ppb; TIME_ADJ reads it (R491, R494). -/
def State.setRate (s : State) (r : Int) : State :=
  { s.wr F.TIME_ADJ_RATE (unsigned 24 r) with rate := (5 * 2 ^ 32 * r).tdiv 64000000000 }

/-- Records an event of the clock and causes its source. -/
def State.timeEvent (s : State) (code : Nat) (payload : List Nat) : State := (s.event 0 code payload).cause 37

/-- Decides a step of the time base by a difference, to be made 20 microseconds later (R498). -/
def State.decideStep (s : State) (diff : Int) (why : Nat) : State :=
  s.onClock fun c => { c with steps := c.steps ++ [⟨diff, why, s.clk + usTicks 20⟩] }

/-- A servo update (R497): the rule's gains are open, so RATE is free within 100 ppm. -/
def State.servo (s : State) : State :=
  let (v, s) := s.draw 24
  let r : Int := (v % 12800001 : Nat) - 6400000
  (s.setRate r).onClock fun c => { c with updates := (r :: c.updates).take 64 }

/-- The servo takes an offset in ns: it steps or slews (R497). -/
def State.takeOffset (s : State) (o : Int) : State :=
  let s := s.wr F.TIME_OFFSET_O (unsigned 24 (max (-8388608) (min 8388607 o)))
  if s.rd F.TIME_STEP_STEP * 1000 < o.natAbs then s.decideStep (-o * 2 ^ 32) 1
  else s.servo

/-- The discipline is lost (R499): RATE is held at the mean of the last 64 updates. -/
def State.ptpLost (s : State) : State :=
  let st := s.rd F.TIME_STAT_STATE
  if st != 1 && st != 2 then s
  else
    let u := s.clock.updates
    let s := if u.isEmpty then s else s.setRate ((u.foldl (· + ·) 0).tdiv u.length)
    (s.wr F.TIME_STAT_STATE 3).timeEvent 0x1002 []

/-- SRC takes a value (R494, R499); 3 is 0. -/
def State.setTimeSrc (s : State) (v : Nat) : State :=
  let v := if v = 3 then 0 else v
  if v = s.rd F.TIME_CTL_SRC then s
  else
    let s := if s.rd F.TIME_CTL_SRC = 1 then s.ptpLost else s
    let s := s.wr F.TIME_CTL_SRC v
    if v = 1 then s.onClock fun c => { c with good := 0, bad := 0, updates := [], heard := [], master := none, delay := 0 }
    else (s.setRate s.clock.adj).wr F.TIME_STAT_STATE 0

/-- A write of TIME_ADJ (R500). -/
def State.setAdj (s : State) (v : Nat) : State :=
  if s.rd F.TIME_CTL_SRC = 1 then s.wr F.TIME_STAT_SET_REFUSED 1
  else (s.setRate (signed 24 v)).onClock fun c => { c with adj := signed 24 v }

/-- A write of TIME_SET word 2: the time is to become the value written, counted from now (R498, R500). -/
def State.setTime (s : State) (v : Nat) : State :=
  if s.rd F.TIME_CTL_SRC = 1 then s.wr F.TIME_STAT_SET_REFUSED 1
  else
    let waiting := s.clock.steps.foldl (fun n x => n + x.diff) 0
    let now := tget s.timeBase 0 0
    s.decideStep (((v % 2 ^ 64 * 2 ^ 32 : Nat) : Int) - (now : Int) - waiting) 2

/-! Triggers. -/

/-- CMP of a trigger. -/
def State.trgCmp (s : State) (k : Nat) : Nat := s.rd (F.TRG_CMP_LO_CMP k) + 2 ^ 24 * s.rd (F.TRG_CMP_HI_CMP k)

/-- A compare value has been reached, by signed difference of the low 32 bits of the time base (R501). -/
def State.reached (s : State) (c : Nat) : Bool := decide ((s.time 0 + 2 ^ 32 - c % 2 ^ 32) % 2 ^ 32 < 2 ^ 31)

/-- The number of the last instant of a periodic trigger at or before a time, counted from its compare value (R502). -/
def State.trgInstants (s : State) (k t : Nat) : Int := ((t : Int) - s.trgCmp k) / (1000 * s.rd (F.TRG_PER_PER k) : Nat)

/-- A trigger fires (R502, R504): a MON conversion is asked for, held moves are released, or a marker goes out on D0's tap. -/
def State.trgFires (s : State) (k : Nat) : State :=
  let s := s.inc (F.TRG_PER_FIRES k)
  let s := if s.on (F.TRG_CTL_IRQ_EN k) then s.cause 37 else s
  let dies := s.rd (F.TRG_CTL_DIES k)
  match s.rd (F.TRG_CTL_TARGET k) with
  | 1 => s.onClock fun c => { c with convert := c.convert ||| dies }
  | 2 => (List.range s.dies).foldl (fun s d => if bit dies d then s.releaseMoves d else s) s
  | 3 => s.snapMark
  | _ => s

/-- A one-shot trigger fires and is OFF (R502). -/
def State.trgOnce (s : State) (k : Nat) : State := (s.trgFires k).setBlockState (.trg k) 0

/-- A trigger fires if an instant of it has come; `stepped` counts the instants that a step has passed in MISS (R502, R503). -/
def State.trgCheck (s : State) (k : Nat) (stepped : Bool) : State :=
  if s.blockState (.trg k) != 2 then s
  else if !s.on (F.TRG_CTL_MODE k) then (if s.reached (s.trgCmp k) then s.trgOnce k else s)
  else
    let n := (s.trgInstants k (s.time 0) - s.trgInstants k (tget s.clock.judged k 0)).toNat
    let s := s.onClock fun c => { c with judged := tset c.judged k (s.time 0) }
    if n = 0 then s
    else (if stepped then s.incBy (F.TRG_PER_MISS k) (n - 1) else s).trgFires k

/-- A trigger cannot start (R507). -/
def State.trgStartFails (s : State) (k : Nat) : Bool := s.on (F.TRG_CTL_MODE k) && s.rd (F.TRG_PER_PER k) = 0

/-- A trigger has started; a compare value that has been reached already fires it late (R502). -/
def State.trgStarted (s : State) (k : Nat) : State :=
  let s := s.onClock fun c => { c with judged := tset c.judged k (s.time 0) }
  if !s.on (F.TRG_CTL_MODE k) && s.reached (s.trgCmp k) then
    ((s.trgOnce k).wr (F.TRG_CTL_LATE k) 1).event 0 0x1005 []
  else s

/-- Every copy of the time base steps (R498, R503). -/
def State.makeStep (s : State) (x : TimeStep) : State :=
  let old := s.time 0
  let s := { s with timeBase := forUpTo s.dies (fun d t => tset t d (unsigned 96 (tget t d 0 + x.diff))) s.timeBase }
  let ns := x.diff.tdiv (2 ^ 32)
  let s := if s.rd F.TIME_STEP_STEP * 1000 < ns.natAbs then
      let w := unsigned 48 ns
      (s.timeEvent 0x1001 [w % 2 ^ 24, w / 2 ^ 24, x.why]).inc F.TIME_STEPS_COUNT
    else s
  if x.diff < 0 then
    let s := s.onClock fun c => { c with judged := c.judged.map (fun e => (e.1, s.time 0)) }
    (List.range s.dies).foldl (fun s d =>
      if s.rd (F.CAM_TRIG_MODE d) = 2 then s.onCam d fun c => { c with judged := min c.judged (s.time d) } else s) s
  else
    let s := s.onClock fun c => { c with judged := c.judged.map (fun e => (e.1, max e.2 old)) }
    (List.range 16).foldl (fun s k => s.trgCheck k true) s

end Sys2Proof.Machine
end

