-- ==== Sys2Proof/Machine/EyeOps.lean ====
section
/-! DEFINITION. Eyebright: decoding of ladders, verdicts, the k-of-m rule and degraded heads (R402 to R410). -/

namespace Sys2Proof.Machine

open Sys2Proof

/-- HLTH is ON. -/
def State.hlthOn (s : State) : Bool := s.rd F.HLTH_CTL_STATE = 2

/-! The nozzles of the package. -/

/-- The nozzles of a bar in the structure in effect, with the die of its pacer. -/
def State.barNozzles (s : State) (bar : Nat) : List Nozzle :=
  match s.ld.current.pacerOf bar with
  | none => []
  | some p => (s.imageFor (.bar p)).nozzles (p / 2) bar (s.xres (p / 2))

/-- The bar of a nozzle address. -/
def State.nozzleBar (s : State) (a : Nat) : Option Nat :=
  let m := s.imageOfNozzle (a / 131072) (a % 131072)
  ((m.headAt (a / 131072) (a % 131072)).bind m.head?).map Head.bar

/-- The head of a nozzle address. -/
def State.nozzleHead (s : State) (a : Nat) : Option Nat :=
  (s.imageOfNozzle (a / 131072) (a % 131072)).headAt (a / 131072) (a % 131072)

/-- A nozzle is out (R267). -/
def State.nozzleIsOut (s : State) (a : Nat) : Bool := nozzleOut (s.rd (nozzleWord a)) (s.on (nozzleEbOut a))

/-- Nozzles of a head that are out (R410). -/
def State.headOut (s : State) (h : Nat) : Nat :=
  match (s.imageOfHead h).head? h with
  | none => 0
  | some e => ((s.barNozzles e.bar).filter (fun n => n.head = h && s.nozzleIsOut n.addr)).length

/-- Three or more adjacent positions of a head's bar, one of them the head's, have no nozzle in service (R410; DEDUCED, notes/assumptions/20). -/
def State.headGap (s : State) (h : Nat) : Bool :=
  match (s.imageOfHead h).head? h with
  | none => false
  | some e =>
    let ns := s.barNozzles e.bar
    let dead (p : Nat) : Bool := ns.any (fun n => n.pos = p) && (ns.filter (fun n => n.pos = p)).all (fun n => s.nozzleIsOut n.addr)
    (ns.filter (fun n => n.head = h)).any (fun n =>
      [n.pos, n.pos - 1, n.pos - 2].any (fun p => dead p && dead (p + 1) && dead (p + 2)))

/-- A head is judged for degradation (R410). -/
def State.judgeHead (s : State) (h : Nat) : State :=
  let die := ((s.imageOfHead h).headPacer h).getD 0 / 2
  let out := s.headOut h
  let lim := s.rd F.HLTH_LIMS_HEAD_OUT_LIM
  let gap := s.headGap h
  if s.eye.degraded.contains h then
    if out ≤ lim / 2 && !gap then (s.onEye fun e => { e with degraded := e.degraded.filter (· != h) }).event die 0x0B04 [h, out] else s
  else if lim < out || gap then ((s.onEye fun e => { e with degraded := e.degraded ++ [h] }).event die 0x0B03 [h, out]).cause 25
  else s

/-! Looking at a frame. -/

/-- The row of a frame that images a substrate line (R402). -/
def VisionPlane.rowOf (p : VisionPlane) (line : Int) : Option Nat :=
  match p.trig with
  | none => none
  | some t =>
    let r := if p.flip then t.l0 - line else line - t.l0
    if 0 ≤ r && r < p.valid.length then some r.toNat else none

/-- A frame images only lines beyond a substrate line. -/
def VisionPlane.passed (p : VisionPlane) (line : Int) : Bool :=
  p.trig.any fun t => decide (line < if p.flip then t.l0 - (p.valid.length : Int) + 1 else t.l0)

/-- A frame shows a substrate line. -/
def VisionPlane.shows (p : VisionPlane) (line : Int) : Bool := (p.rowOf line).isSome

/-- The pixel of a plane at a row and column; none on an invalid line or outside the frame. -/
def VisionPlane.pixel (p : VisionPlane) (row : Nat) (col : Int) : Option Pixel :=
  if p.valid.getD row false && 0 ≤ col then (p.rgb.getD row [])[col.toNat]? else none

/-- Two frames can be joined (R404): consecutive numbers, neither SHORT. -/
def joinable (now before : VisionPlane) : Bool :=
  match now.trig, before.trig with
  | some a, some b => a.number = nextFrame b.number && !now.short && !before.short
  | _, _ => false

/-- The pixel that images a substrate line at a column: in the frame, or in the last 64 lines of the one joined to it (R404). -/
def lookAt (now : VisionPlane) (before : Option VisionPlane) (line col : Int) : Option Pixel :=
  match now.rowOf line with
  | some r => now.pixel r col
  | none => match before with
    | none => none
    | some b => match b.rowOf line with
      | some r => if b.valid.length ≤ r + 64 then b.pixel r col else none
      | none => none

/-- A bar's channel of a pixel (R403): 0 R, 1 G, 2 B, 3 luma. -/
def Pixel.channel (p : Pixel) (ch : Nat) : Nat :=
  match ch with
  | 0 => p.r
  | 1 => p.g
  | 2 => p.b
  | _ => p.luma

/-- All values of a list, if each is there and below 4,095 (R403). -/
def allSeen (l : List (Option Nat)) : Option (List Nat) :=
  l.foldr (fun o r => match o, r with
    | some v, some vs => if v < 4095 then some (v :: vs) else none
    | _, _ => none) (some [])

/-- What the decoder finds at a spot (R403): twice its contrast, and twice the contrast of each column from x - 2 to x + 2. -/
structure SpotView where
  contrast : Int
  weights : List Int
  deriving DecidableEq, Repr

/-- A spot at a substrate line and a column; none when it is UNSEEN. -/
def viewSpot (look : Int → Int → Option Nat) (inv : Bool) (line col : Int) : Option SpotView :=
  match look line (col - 2), look line (col + 2),
      allSeen ([-1, 0, 1].flatMap (fun dy => [-1, 0, 1].map (fun dx => look (line + dy) (col + dx)))) with
  | some a, some b, some win =>
    if 4095 ≤ a || 4095 ≤ b then none
    else
      let e : Int := a + b
      let lo := win.foldl min 4095
      let hi := win.foldl max 0
      let row : List Int := [(a : Int), ((look line (col - 1)).getD 0 : Nat), ((look line col).getD 0 : Nat), ((look line (col + 1)).getD 0 : Nat), b]
      some ⟨if inv then 2 * hi - e else e - 2 * lo, row.map (fun v => if inv then 2 * v - e else e - 2 * v)⟩
  | _, _, _ => none

/-- The centre of a position in a camera's frame as a fraction of pixel columns over SCALE (R402), for a frame `w` pixels wide. -/
def State.columnOf (s : State) (c w p : Nat) : Int × Nat :=
  let scale := s.rd (F.HLTH_CAMS_SCALE c)
  let num := (16 * (p : Int) + 8 - signed 24 (s.rd (F.HLTH_CAMX_ORG c))) * 256
  if s.on (F.HLTH_CAMS_MIRROR c) then (((w : Int) - 1) * scale - num, scale) else (num, scale)

/-- Positions that a camera owns (R402). -/
def State.owns (s : State) (c p : Nat) : Bool := decide (s.rd (F.HLTH_OWN_LO_POS c) ≤ p ∧ p ≤ s.rd (F.HLTH_OWN_HI_POS c))

/-- The verdict of a spot (R403). -/
def State.judgeSpot (s : State) (c : Nat) (v : SpotView) (num : Int) (scale : Nat) (col : Int) : Spot :=
  if v.contrast < 2 * s.rd F.HLTH_THR_MISS_THR then .missing
  else
    let sum := v.weights.foldl (· + ·) 0
    let mom := (v.weights.zipIdx.map (fun (w, i) => w * (col - 2 + i))).foldl (· + ·) 0
    let lim : Int := s.rd F.HLTH_THR_DEV_LIM
    let far : Bool :=
      if 0 < sum then decide (lim * 4096 * sum * scale < ((mom * scale - num * sum).natAbs : Int) * s.rd (F.HLTH_CAMS_SCALE c))
      else decide (lim * 4096 * scale < (((col + Config.centroid v.weights) * scale - num).natAbs : Int) * s.rd (F.HLTH_CAMS_SCALE c))
    if far then .deviated else .pass

/-- A nozzle's offset within a stitch zone (R401): whether it lies in one, and 1 for head b of it. -/
def State.stitchOf (s : State) (ns : List Nozzle) (n : Nozzle) : Bool × Nat :=
  let hs := nozzlesAt (s.imageOfNozzle (n.addr / 131072) (n.addr % 131072)) (s.xres (n.addr / 131072)) ns n.pos n.row
  let st := decide (2 ≤ hs.length)
  (st, if st && (hs.getLast?.map Nozzle.head) = some n.head then 1 else 0)

/-- Changes what is kept of a nozzle. -/
def State.onHist (s : State) (a : Nat) (f : NzHist → NzHist) : State :=
  s.onEye fun e => { e with hists := tset e.hists a (f (tget e.hists a ⟨[], none, 0⟩)) }

/-- A slot whose last line a frame shows, or that ended before it since the frame before (R404): its look, when all of it can be
looked at. -/
inductive SlotLook | whole | lost
  deriving DecidableEq, Repr

/-- How a printed slot stands to a frame and the one before it (R404): decoded now, lost now, or no concern of this frame. -/
def slotLook (now : VisionPlane) (before : Option VisionPlane) (first : Nat) : Option SlotLook :=
  let a : Int := first
  let z : Int := first + 31
  let inBefore := before.any (fun b => b.shows a && !b.shows z)
  let join := before.any (fun b => joinable now b)
  if now.shows z then (if now.short then some .lost else if now.shows a || (inBefore && join) then some .whole else some .lost)
  else if inBefore then some .lost
  else none

/-- The ladder of a bar is decoded by a camera (R402 to R406). -/
def State.decodeLadder (s : State) (d : Nat) (now : VisionPlane) (before : Option VisionPlane) (x : Printed) (bar : Nat) (lk : SlotLook) : State :=
  let ns := s.barNozzles bar
  let mine := ns.filter (fun n => s.owns d n.pos)
  if mine.isEmpty then s
  else
    let w := (now.rgb.head?.map List.length).getD 0
    let ch := s.rd (F.HLTH_BAR_CH bar)
    let inv := s.on (F.HLTH_BAR_INV bar)
    let before := before.filter (joinable now)
    let look (l c : Int) : Option Nat := (lookAt now before l c).map (fun p => p.channel ch)
    let lineOf (n : Nozzle) : Nat := x.line + 16 * n.row + 2 * (n.pos % 8) + (s.stitchOf ns n).2
    let spot (n : Nozzle) : Spot :=
      let line : Int := lineOf n
      let (num, scale) := s.columnOf d w n.pos
      if lk = .lost || scale = 0 || x.begun < 32 || !s.on (F.HLTH_BAR_CHK_EN bar) then .unseen
      else
        let col := roundDiv num scale
        match viewSpot look inv line col with
        | none => .unseen
        | some v => s.judgeSpot d v num scale col
    let found := mine.map (fun n => (n.addr, spot n, lineOf n))
    let unseen := (found.filter (fun f => f.2.1 = .unseen)).length
    let s := s.incBy F.HLTH_UNSEEN_COUNT unseen
    let s := if 0 < unseen then s.event d 0x0B05 [bar, d, unseen] else s
    let s := found.foldl (fun s f => if f.2.1 = .unseen then s.onHist f.1 fun h => { h with last := some .unseen } else s) s
    let sent := found.filter (fun f => f.2.1 != .unseen)
    let s := if s.matched then s else s.onEye fun e => { e with verdicts := e.verdicts ++ sent.map (fun f => (⟨f.1, bar, x.page, f.2.1⟩ : Verdict)) }
    let s := if s.sequences then sent.foldl (fun s f => s.pairSend 0x20 f.2.2 [f.1, bar + 2 ^ 8 * nat (f.2.1 != .pass), x.page]) s else s
    if unseen = mine.length then s
    else
      let s := s.inc F.HLTH_CHECKS_COUNT
      let (along, s) := s.draw 12
      let (across, s) := s.draw 12
      let s := (s.wr (F.HLTH_REG_ALONG bar) along).wr (F.HLTH_REG_ACROSS bar) across
      let s := if s.sequences then s.pairSend 0x22 s.pkgLine [bar, along + 2 ^ 12 * across] else s
      if s.rd F.HLTH_LIMS_REG_LIM < (signed 12 along).natAbs then s.event d 0x0B06 [bar, along, across] else s

/-! Verdicts. -/

/-- The line from which a change of EB_OUT takes effect in a pair: 16 lines above the last that the pipeline of the nozzle's pacer has begun
(R526). -/
def State.outLine (s : State) (a : Nat) : Nat :=
  match s.nozzleHead a with
  | none => 0
  | some h => match (s.ld.current.head? h).bind (fun e => s.ld.current.pacerOf e.bar) with
    | none => 0
    | some p => ((s.raster p).next + 15).toNat

/-- EB_OUT of a nozzle changes. In a pair the change takes effect from a line, and the active sends a DECISION (R526). -/
def State.setEbOut (s : State) (a : Nat) (out : Bool) (line : Nat) : State :=
  let old := s.rd (nozzleEbOut a)
  let s := s.wr (nozzleEbOut a) (nat out)
  if s.sequences || s.matched then
    let s := s.onPair fun p => { p with outs := p.outs.filter (fun o => o.nozzle != a) ++ [⟨a, line, old⟩] }
    if s.sequences then s.pairSend 0x21 line [a, nat out] else s
  else s

/-- `on_verdict` of R407. -/
def State.onVerdict (s : State) (v : Verdict) : State :=
  let k := s.rd F.HLTH_KM_K
  let m := s.rd F.HLTH_KM_M
  let die := v.nozzle / 131072
  let s := s.onHist v.nozzle fun h => { hist := ((v.spot != .pass) :: h.hist).take m, last := some v.spot, checks := min 255 (h.checks + 1) }
  let h := (tget s.eye.hists v.nozzle ⟨[], none, 0⟩).hist
  let f := (h.filter id).length
  let tell (s : State) (code : Nat) : State := (s.event die code [v.nozzle, v.bar, v.page]).causeAt die 34
  let judge (s : State) : State := match s.nozzleHead v.nozzle with
    | some h => s.judgeHead h
    | none => s
  if !s.on (F.HLTH_BAR_DECIDE v.bar) then s
  else if !s.on (nozzleEbOut v.nozzle) && k ≤ f then
    judge (((tell (s.setEbOut v.nozzle true (s.outLine v.nozzle)) 0x0B01).inc F.HLTH_OUT_COUNT).life (v.nozzle / 131072) 16 1)
  else if s.on (nozzleEbOut v.nozzle) && h.length = m && f = 0 then
    judge ((tell (s.setEbOut v.nozzle false (s.outLine v.nozzle)) 0x0B02).inc F.HLTH_BACK_COUNT)
  else s

/-- The histories and EB_OUT of nozzles are cleared; 0x0B02 is recorded once (R409). In a pair each EB_OUT that changes does so from its
line (R526). -/
def State.clearNozzles (s : State) (which : Nat → Bool) (die word : Nat) (heads : List Nat) : State :=
  let marked := (s.live.filter (fun e => e.1 % 32 = 10 && 0x1000000 ≤ e.1 / 32 && e.1 / 32 < 0x1200000 && which (e.1 / 32 - 0x1000000))).map (·.1)
  let s := if s.sequences || s.matched then marked.foldl (fun s k => s.setEbOut (k / 32 - 0x1000000) false (s.outLine (k / 32 - 0x1000000))) s
    else { s with live := marked.foldl (fun t k => tdel t k) s.live }
  let s := s.onEye fun e => { e with hists := e.hists.filter (fun x => !which x.1) }
  heads.foldl (fun s h => s.judgeHead h) ((s.event die 0x0B02 [word]).causeAt die 34)

/-- A word of the history of a nozzle as it stands (R426): HIST, LEN, LAST and CHECKS. -/
def State.histWord (s : State) (a : Nat) : Nat :=
  let h := tget s.eye.hists a ⟨[], none, 0⟩
  let last := match h.last with
    | none => 0
    | some .pass => 1
    | some .missing => 2
    | some .deviated => 3
    | some .unseen => 4
  h.hist.foldr (fun b n => nat b + 2 * n) 0 + 2 ^ 8 * h.hist.length + 2 ^ 13 * last + 2 ^ 16 * h.checks

/-- Where a snapshot keeps the history of a nozzle, and the state of a head (R424). -/
def histSnap (a : Nat) : Nat := 32 * (0x1500000 + a)

/-- Where a snapshot keeps the state of a head (R424). -/
def headSnap (h : Nat) : Nat := 32 * (0x1600000 + h)

/-- HLTH_NZ_DATA of a nozzle in the selected view (R409, R424). -/
def State.readHist (s : State) (a : Nat) : Nat :=
  if s.rd F.EPOCH_CTL_VIEW = 2 then tget s.snap (histSnap a) 0 + 2 ^ 12 * tget s.snap (nozzleEbOut a).key 0
  else s.histWord a + 2 ^ 12 * s.rd (nozzleEbOut a)

/-- HLTH_HEAD_STAT of a head as it stands. -/
def State.headWord (s : State) (h : Nat) : Nat := min (s.headOut h) 4095 + 2 ^ 12 * nat (s.eye.degraded.contains h)

/-- Each read of HLTH_NZ_DATA advances SLOT within the lane. -/
def State.nextHist (s : State) : State :=
  let a := s.rd F.HLTH_NZ_ADDR_ADDR
  s.wr F.HLTH_NZ_ADDR_ADDR (a / 2048 * 2048 + (a + 1) % 2048)

end Sys2Proof.Machine
end

