-- ==== Sys2Proof/Machine/Inflate.lean ====
section
/-! DEFINITION. Raw DEFLATE decoding as R235 and R236 require, with the error codes of R244. -/

namespace Sys2Proof.Machine

open Sys2Proof

/-- Bits of bytes, lowest bit of each byte first. -/
def byteBits (bs : List Nat) : List Bool := bs.flatMap (fun b => (List.range 8).map (fun i => bit b i))

/-- The number that bits spell, lowest first. -/
def bitsNat (l : List Bool) : Nat := l.foldr (fun b n => nat b + 2 * n) 0

/-- Takes `n` bits as a number, lowest first; none when the input ends. -/
def takeBits (n : Nat) (l : List Bool) : Option (Nat × List Bool) :=
  if l.length < n then none else some (bitsNat (l.take n), l.drop n)

/-- A code of a prefix code: its length, its value with the first bit highest, and its symbol. -/
abbrev HuffCode := Nat × Nat × Nat

/-- The codes that lengths give, by RFC 1951: shorter first, and of equal length in symbol order. -/
def huffCodes (lens : List Nat) : List HuffCode :=
  ((List.range 15).foldl (fun (acc : List HuffCode × Nat) i =>
    let len := i + 1
    let syms := (List.range lens.length).filter (fun s => lens.getD s 0 = len)
    let codes := (List.range syms.length).map (fun k => (len, 2 * acc.2 + k, syms.getD k 0))
    (acc.1 ++ codes, 2 * acc.2 + syms.length)) ([], 0)).1

/-- How much of the code space lengths use, in units of 2^-15. -/
def huffSpace (lens : List Nat) : Nat := lens.foldl (fun a n => if n = 0 then a else a + 2 ^ (15 - n)) 0

/-- A set of lengths is complete. -/
def huffComplete (lens : List Nat) : Bool := huffSpace lens = 2 ^ 15

/-- A distance set is complete, or is exactly one code (R236). -/
def distOk (lens : List Nat) : Bool :=
  huffComplete lens || (decide (huffSpace lens ≤ 2 ^ 15) && (lens.filter (· != 0)).length = 1)

/-- What reading a symbol comes to. -/
inductive SymRead | ended | bad | sym (s : Nat) (rest : List Bool)
  deriving DecidableEq, Repr

/-- Reads a symbol: bits are added to a code until it is one of the set. -/
def readSym (codes : List HuffCode) (len code : Nat) (l : List Bool) : SymRead :=
  if 15 < len then .bad
  else match codes.find? (fun c => c.1 = len && c.2.1 = code) with
    | some c => .sym c.2.2 l
    | none => match l with
      | [] => if len = 15 then .bad else .ended
      | b :: r => readSym codes (len + 1) (2 * code + nat b) r

/-- Least length and extra bits of length symbols 257 to 285. -/
def lengthTable : List (Nat × Nat) :=
  [(3, 0), (4, 0), (5, 0), (6, 0), (7, 0), (8, 0), (9, 0), (10, 0), (11, 1), (13, 1), (15, 1), (17, 1), (19, 2), (23, 2), (27, 2),
   (31, 2), (35, 3), (43, 3), (51, 3), (59, 3), (67, 4), (83, 4), (99, 4), (115, 4), (131, 5), (163, 5), (195, 5), (227, 5), (258, 0)]

/-- Least distance and extra bits of distance symbols 0 to 29. -/
def distTable : List (Nat × Nat) :=
  [(1, 0), (2, 0), (3, 0), (4, 0), (5, 1), (7, 1), (9, 2), (13, 2), (17, 3), (25, 3), (33, 4), (49, 4), (65, 5), (97, 5), (129, 6),
   (193, 6), (257, 7), (385, 7), (513, 8), (769, 8), (1025, 9), (1537, 9), (2049, 10), (3073, 10), (4097, 11), (6145, 11),
   (8193, 12), (12289, 12), (16385, 13), (24577, 13)]

/-- Copies `n` bytes from `dist` back in the output, newest byte first. -/
def copyBack (dist n : Nat) (out : List Nat) : List Nat :=
  forUpTo n (fun _ o => o.getD (dist - 1) 0 :: o) out

/-- State of decoding: output newest first, error code, the bits left. -/
structure Decoding where
  out : List Nat
  err : Nat
  rest : List Bool
  deriving DecidableEq, Repr

/-- Decodes the symbols of a block up to its end; error 6 SYMBOL, 7 DISTANCE, 8 TRUNCATED. Fuel: one unit a symbol. -/
def inflateSyms (lit dist : List HuffCode) (fuel : Nat) (d : Decoding) : Decoding :=
  match fuel with
  | 0 => { d with err := 8 }
  | n + 1 =>
    match readSym lit 0 0 d.rest with
    | .ended => { d with err := 8 }
    | .bad => { d with err := 6 }
    | .sym s l =>
      if s < 256 then inflateSyms lit dist n { d with out := s :: d.out, rest := l }
      else if s = 256 then { d with rest := l }
      else match lengthTable[s - 257]? with
        | none => { d with err := 6 }
        | some (base, ex) => match takeBits ex l with
          | none => { d with err := 8 }
          | some (e, l) => match readSym dist 0 0 l with
            | .ended => { d with err := 8 }
            | .bad => { d with err := 6 }
            | .sym ds l => match distTable[ds]? with
              | none => { d with err := 6 }
              | some (db, dex) => match takeBits dex l with
                | none => { d with err := 8 }
                | some (de, l) =>
                  if d.out.length < db + de then { d with err := 7 }
                  else inflateSyms lit dist n { d with out := copyBack (db + de) (base + e) d.out, rest := l }

/-- The code lengths of the fixed codes. -/
def fixedLit : List Nat := List.replicate 144 8 ++ List.replicate 112 9 ++ List.replicate 24 7 ++ List.replicate 8 8

/-- The distance lengths of the fixed codes. -/
def fixedDist : List Nat := List.replicate 32 5

/-- The order in which the lengths of the code-length code stand. -/
def clOrder : List Nat := [16, 17, 18, 0, 8, 7, 9, 6, 10, 5, 11, 4, 12, 3, 13, 2, 14, 1, 15]

/-- What reading code lengths comes to: an error code, or the lengths (newest first) and the bits left. -/
inductive LensRead | failed (err : Nat) | lens (l : List Nat) (rest : List Bool)
  deriving DecidableEq, Repr

/-- Reads `want` code lengths coded by the code-length code; a repeat that has nothing to repeat or runs beyond the end makes the set
invalid. -/
def readLens (cl : List HuffCode) (want fuel : Nat) (acc : List Nat) (l : List Bool) : LensRead :=
  match fuel with
  | 0 => .lens acc l
  | n + 1 =>
    if want ≤ acc.length then (if acc.length = want then .lens acc l else .failed 5)
    else match readSym cl 0 0 l with
      | .ended => .failed 8
      | .bad => .failed 5
      | .sym s r =>
        if s < 16 then readLens cl want n (s :: acc) r
        else
          let ex := if s = 16 then 2 else if s = 17 then 3 else 7
          let base := if s = 18 then 11 else 3
          match takeBits ex r with
          | none => .failed 8
          | some (e, r) =>
            if s = 16 then (match acc with
              | [] => .failed 5
              | a :: _ => readLens cl want n (List.replicate (base + e) a ++ acc) r)
            else readLens cl want n (List.replicate (base + e) 0 ++ acc) r

/-- A dynamic block: its code sets, then its symbols. -/
def inflateDynamic (fuel : Nat) (d : Decoding) : Decoding :=
  match takeBits 14 d.rest with
  | none => { d with err := 8 }
  | some (h, l) =>
    let hlit := h % 32 + 257
    let hdist := h / 32 % 32 + 1
    let hclen := h / 1024 + 4
    match takeBits (3 * hclen) l with
    | none => { d with err := 8 }
    | some (c, l) =>
      let cls := forUpTo hclen (fun i (t : List Nat) => t.set (clOrder.getD i 0) (c / 8 ^ i % 8)) (List.replicate 19 0)
      if !huffComplete cls then { d with err := 5 }
      else match readLens (huffCodes cls) (hlit + hdist) 320 [] l with
        | .failed e => { d with err := e }
        | .lens a l =>
          let ls := a.reverse
          if !huffComplete (ls.take hlit) || !distOk (ls.drop hlit) then { d with err := 5 }
          else inflateSyms (huffCodes (ls.take hlit)) (huffCodes (ls.drop hlit)) fuel { d with rest := l }

/-- A stored block: from the next byte boundary, LEN and NLEN and LEN bytes. -/
def inflateStored (d : Decoding) : Decoding :=
  let l := d.rest.drop (d.rest.length % 8)
  match takeBits 32 l with
  | none => { d with err := 8 }
  | some (h, l) =>
    let n := h % 65536
    if h / 65536 != 65535 - n then { d with err := 4 }
    else if l.length < 8 * n then
      { d with out := ((List.range (l.length / 8)).map (fun i => bitsNat ((l.drop (8 * i)).take 8))).reverse ++ d.out, err := 8 }
    else
      { d with out := ((List.range n).map (fun i => bitsNat ((l.drop (8 * i)).take 8))).reverse ++ d.out, rest := l.drop (8 * n) }

/-- Blocks up to the final one. Fuel: one unit a block. -/
def inflateBlocks (total fuel : Nat) (d : Decoding) : Decoding :=
  match fuel with
  | 0 => { d with err := 8 }
  | n + 1 =>
    match takeBits 3 d.rest with
    | none => { d with err := 8 }
    | some (h, l) =>
      let d := { d with rest := l }
      let d' := match h / 2 with
        | 0 => inflateStored d
        | 1 => inflateSyms (huffCodes fixedLit) (huffCodes fixedDist) total d
        | 2 => inflateDynamic total d
        | _ => { d with err := 3 }
      if d'.err != 0 || h % 2 = 1 then d' else inflateBlocks total n d'

/-- Decodes a raw DEFLATE stream of bytes. -/
def inflate (bs : List Nat) : Inflated :=
  let l := byteBits bs
  let d := inflateBlocks (l.length + 1) (l.length + 1) ⟨[], 0, l⟩
  ⟨d.out.reverse, d.err, bs.length - d.rest.length / 8⟩

end Sys2Proof.Machine
end

