-- ==== Sys2Proof/Machine/CalOps.lean ====
section
/-! DEFINITION. Calibration runs, their slots, measurements, checks and commits, and export and import (R412 to R423). -/

namespace Sys2Proof.Machine

open Sys2Proof

/-- CAL is ON. -/
def State.calOn (s : State) : Bool := s.rd F.CAL_CTL_STATE = 2

/-- The state field of a run: bars 0-15, cameras at 16 + number. -/
def runState (r : Nat) : Fld := if r < 16 then F.CAL_BAR_STATE r else F.CAL_CAM_STATE (r - 16)

/-- The result field of a run: 1 APPLIED, 2 IMPLAUSIBLE, 3 DISAGREE, 4 CANCELLED, 5 NO_VIEW. -/
def runResult (r : Nat) : Fld := if r < 16 then F.CAL_BAR_RESULT r else F.CAL_CAM_RESULT (r - 16)

/-- The cause field of a run (R418). -/
def runCause (r : Nat) : Fld := if r < 16 then F.CAL_BAR_CAUSE r else F.CAL_CAM_CAUSE (r - 16)

/-- Channel and number of a run, as its events carry them (R420). -/
def runName (r : Nat) : List Nat := if r < 16 then [1, r] else [2, r - 16]

/-- A run by its number. -/
def State.run? (s : State) (r : Nat) : Option CalRun := (s.eye.runs.find? (fun e => e.1 = r)).map (·.2)

/-- Changes a run. -/
def State.onRun (s : State) (r : Nat) (f : CalRun → CalRun) : State :=
  s.onEye fun e => { e with runs := e.runs.map (fun x => if x.1 = r then (x.1, f x.2) else x) }

/-- A run goes IDLE with a result and a cause. -/
def State.endRun (s : State) (r result cause : Nat) : State :=
  let s := s.onEye fun e => { e with runs := e.runs.filter (fun x => x.1 != r) }
  let s := if 16 ≤ r then s.onCam (r - 16) fun c => { c with darkReq := false } else s
  ((s.wr (runState r) 0).wr (runResult r) result).wr (runCause r) cause

/-- A run fails (R418): every value stays as it was, and 0x0B11 is recorded with the cause. -/
def State.failRun (s : State) (r cause : Nat) : State :=
  (((s.endRun r (if cause = 7 then 5 else 2) cause).inc F.CAL_FAILS_COUNT).event 0 0x0B11 (runName r ++ [cause])).cause 26

/-- A run that is not APPLYING is cancelled (R414, R423, R424). -/
def State.cancelRun (s : State) (r : Nat) : State := if s.rd (runState r) = 3 then s else s.endRun r 4 0

/-- Every run that is not APPLYING is cancelled. -/
def State.cancelRuns (s : State) : State := s.eye.runs.foldl (fun s e => s.cancelRun e.1) s

/-! Slots. -/

/-- The first line from which slots can be assigned (R399). -/
def State.slotFloor (s : State) : Nat := s.pkgLine + s.rd F.EPOCH_MIN_LEAD_LEAD

/-- CMAX of a bar under the job in force at a line (R414). -/
def State.barCmax (s : State) (bar l : Nat) : Option Nat :=
  match s.jobAt l with
  | none => none
  | some (_, c) => c.block.bind (fun b => if b.hasBar bar && 0 < b.slots then some (2 ^ (2 ^ (b.plane bar).code) - 1) else none)

/-- The free slots of the first gaps that are not check gaps (R399), each with its context, page, slot and first line. The search covers
64 pages. -/
def State.freeSlots (s : State) : List (Nat × Nat × Nat × Nat) :=
  let floor := s.slotFloor
  match s.jobAt floor with
  | none => []
  | some (j, c) => match c.block with
    | none => []
    | some b =>
      let k0 := (c.pageOf floor).1
      (List.range 64).flatMap fun i =>
        let k := k0 + i
        let g := c.start + k * b.pageLines + (b.pageLines - b.gap)
        if g < floor || (s.jobAt g).map (·.1) != some j || (s.hlthOn && (s.checkGroup b g k).isSome) then []
        else (List.range b.slots).filterMap fun n =>
          if s.eye.claims.any (fun x => x.ctx = j && x.page = k && x.slot = n) then none else some (j, k, n, g + 2 + 32 * n)

/-- What a run asks its next slot for. -/
def useOf (r code : Nat) : SlotUse := if r < 16 then .strip r code else .white

/-- Slots go to runs in the order in which they started; WHITE slots are shared by the camera runs that want one (R399, R414). -/
def State.assignSlots (s : State) : State :=
  let step (acc : State × List (Nat × Nat × Nat × Nat)) (r : Nat) : State × List (Nat × Nat × Nat × Nat) :=
    let (s, free) := acc
    match s.run? r with
    | none => (s, free)
    | some x =>
      let x :=
        if r < 16 && x.wanted.isEmpty && x.claims.isEmpty && x.sums.isEmpty then
          match s.barCmax r s.slotFloor with
          | some m => { x with wanted := (List.range m).map (· + 1) }
          | none => x
        else x
      let white := if r < 16 then none else s.eye.claims.find? (fun c => c.use = .white && s.slotFloor ≤ c.line)
      let (x, free) := x.wanted.foldl (fun (y : CalRun × List (Nat × Nat × Nat × Nat)) code =>
        match white, y.2 with
        | some c, f => ({ y.1 with wanted := y.1.wanted.filter (· != code), claims := y.1.claims ++ [(c, [])], whites := y.1.whites + 1 }, f)
        | none, (j, k, n, l) :: f =>
          ({ y.1 with wanted := y.1.wanted.filter (· != code), claims := y.1.claims ++ [(⟨j, k, n, l, useOf r code⟩, [])],
                      whites := y.1.whites + (if r < 16 then 0 else 1) }, f)
        | none, [] => y) (x, free)
      (s.onRun r fun _ => x, free)
  ((s.eye.runs.map (·.1)).foldl step (s, s.freeSlots)).1

/-- A run starts (R414): a trigger while it is not IDLE is ignored, and a standby starts none (R420). -/
def State.startRun (s : State) (r : Nat) : State :=
  if !s.calOn || s.rd (runState r) != 0 || s.matched then s
  else
    let x : CalRun := ⟨if r < 16 then [] else [0], [], 0, [], none, 0, none, none, ⟨[], [], []⟩⟩
    let s := s.onEye fun e => { e with runs := e.runs ++ [(r, x)] }
    let s := if 16 ≤ r then s.onCam (r - 16) fun c => { c with darkReq := true } else s
    ((((s.wr (runState r) 1).wr (runResult r) 0).wr (runCause r) 0).inc F.CAL_RUNS_COUNT).assignSlots

/-- A slot yields no measurement (R414): another is asked for, and the fifth time the run ends with NO_VIEW. -/
def State.slotLost (s : State) (r code : Nat) (c : Claim) : State :=
  let s := s.onRun r fun x => { x with lost := x.lost + 1, wanted := x.wanted ++ [code], claims := x.claims.filter (fun e => e.1 != c) }
  match s.run? r with
  | some x => if 5 ≤ x.lost then s.failRun r 7 else s.assignSlots
  | none => s

/-! Computing a density run (R415, R416, R418). -/

/-- A fraction: numerator and denominator above 0. -/
abbrev Frac := Int × Nat

/-- A fraction is less than another. -/
def Frac.lt (a b : Frac) : Bool := decide (a.1 * b.2 < b.1 * a.2)

/-- Puts a fraction into a rising list. -/
def Frac.insert (v : Frac) (l : List Frac) : List Frac :=
  match l with
  | [] => [v]
  | a :: r => if Frac.lt a v then a :: Frac.insert v r else v :: a :: r

/-- The median of fractions, the lower of the two middle ones of an even number (DESIGN CHOICE, notes/assumptions/21). -/
def Frac.median (l : List Frac) : Option Frac :=
  let t := l.foldl (fun l v => Frac.insert v l) []
  t[(t.length - 1) / 2]?

/-- A fraction lies within hundredths. -/
def Frac.within (f : Frac) (lo hi : Nat) : Bool := decide ((lo : Int) * f.2 ≤ 100 * f.1 ∧ 100 * f.1 ≤ (hi : Int) * f.2)

/-- `curve_entry` of R416 as LO, HI and T of RAS_CURVE. -/
def curveEntry (cmax k c : Nat) : Nat :=
  if c = 0 || cmax < c then c + 2 ^ 4 * c
  else if k < 32 then c + 2 ^ 4 * min (c + 1) cmax + 2 ^ 8 * min 63 (roundDiv (64 * c * (32 - k) : Nat) (128 + k)).toNat
  else
    let r := min 63 (roundDiv (64 * c * (k - 32) : Nat) (128 + k)).toNat
    if r = 0 then c + 2 ^ 4 * c else c - 1 + 2 ^ 4 * c + 2 ^ 8 * (64 - r)

/-- The curve tables of every pacer for a run's CMAX (R416). -/
def State.curveFields (s : State) (cmax : Nat) : List (Nat × Nat) :=
  (List.range (2 * s.dies)).flatMap fun p => (List.range 64).flatMap fun k => (List.range 16).map fun c =>
    ((F.RAS_CURVE_WORD (p / 2) (p % 2) k c).key, curveEntry cmax k c)

/-- A nozzle's measured sum at a code. -/
def CalRun.sum? (x : CalRun) (a c : Nat) : Option Int := tget? x.sums (16 * a + c)

/-- What a density run of a bar comes to: the cause of R418, or its values. -/
def State.density (s : State) (bar : Nat) (x : CalRun) (cmax : Nat) : Nat × CalValues :=
  let ns := s.barNozzles bar
  let codes := (List.range cmax).map (· + 1)
  let full (n : Nozzle) : Bool := codes.all (fun c => (x.sum? n.addr c).isSome)
  let measured := ns.filter full
  let med (row c : Nat) : Int :=
    ((Frac.median (ns.filterMap (fun n => if n.row = row then (x.sum? n.addr c).map (fun v => ((v, 1) : Frac)) else none))).getD (0, 1)).1
  let medSum (row : Nat) : Int := codes.foldl (fun a c => a + med row c) 0
  let rho (n : Nozzle) : Frac := (codes.foldl (fun a c => a + (x.sum? n.addr c).getD 0) 0, (medSum n.row).toNat)
  let heads := (ns.map Nozzle.head).eraseDups
  let rhoH (h : Nat) : Frac := (Frac.median ((measured.filter (fun n => n.head = h)).map rho)).getD (0, 1)
  let vnom (h : Nat) : Nat := s.classOf h 9
  let dTrim (h : Nat) : Int := roundDiv ((vnom h : Int) * ((rhoH h).2 - (rhoH h).1)) (2 * (rhoH h).1.toNat)
  let rho1 (n : Nozzle) : Frac := ((rho n).1 * (rhoH n.head).2, (rho n).2 * (rhoH n.head).1.toNat)
  let odd := measured.filter (fun n => !(rho1 n).within 50 150)
  let cause :=
    if measured.length * 100 < 98 * ns.length then 1
    else if measured.any (fun n => medSum n.row ≤ 0) || heads.any (fun h => !(rhoH h).within 70 130) then 2
    else if heads.any (fun h => vnom h / 50 < (dTrim h).natAbs) then 3
    else if measured.length < 100 * odd.length then 4
    else 0
  let index (n : Nozzle) : Nat :=
    (min 63 (max 0 (roundDiv (160 * (rho1 n).1 - 128 * (rho1 n).2) (rho1 n).2))).toNat
  let curves := (measured.filter (fun n => (rho1 n).within 50 150)).map (fun n => ((nozzleCurve n.addr).key, index n))
  let trims := heads.map (fun h => ((trimOf h).key, unsigned 12 (signed 12 (s.rd (trimOf h)) + dTrim h)))
  (cause, ⟨curves ++ s.curveFields cmax ++ trims, [], []⟩)

/-! Computing a camera run (R417, R418). -/

/-- Nodes of a channel's shading grid. -/
def nodeCount : Nat := 2145

/-- What a camera run comes to: the cause of R418, or its values. `sums` holds for each node the sum of its values and, one above, their
number. -/
def State.shading (s : State) (cam : Nat) (x : CalRun) : Nat × CalValues :=
  let bl := x.black.getD []
  let node (c n : Nat) : Frac := (tget x.sums (2 * (4096 * c + n)) 0, (tget x.sums (2 * (4096 * c + n) + 1) 0).toNat)
  let top (c : Nat) : Frac := (List.range nodeCount).foldl (fun f n => if Frac.lt f (node c n) then node c n else f) (0, 1)
  let gain (c n : Nat) : Nat :=
    let f := node c n
    if f.1 ≤ 0 then 0 else (roundDiv (1024 * (top c).1 * f.2) ((top c).2 * f.1.toNat)).toNat
  let gains : Tab Nat := (List.range 4).flatMap fun c => (List.range nodeCount).map fun n => (nodeCount * c + n, gain c n)
  let bad := bl.any (fun b => 512 < b) || gains.any (fun g => g.2 < 1024 || 4095 < g.2)
  let fields := ((List.range 4).map fun c => ((F.CAM_BL_BL cam c).key, bl.getD c 0)) ++
    [((F.CAM_TBL_BANK cam).key, 1 - s.rd (F.CAM_TBL_BANK cam))]
  (if bad then 5 else 0, ⟨fields, [(cam, gains)], []⟩)

/-! Checking and applying. -/

/-- Two passes agree (R419). -/
def CalValues.agree (a b : CalValues) : Bool :=
  let old (k : Nat) : Option Nat := (a.fields.find? (fun f => f.1 = k)).map (·.2)
  let near (lim : Nat) (k v : Nat) : Bool := (old k).all (fun o => ((o : Int) - v).natAbs ≤ lim)
  let curves := b.fields.filter (fun f => 0x1000000 ≤ f.1 / 32 && f.1 / 32 < 0x1200000)
  let trims := b.fields.filter (fun f => 0x1400000 ≤ f.1 / 32)
  let levels := b.fields.filter (fun f => f.1 / 32 < 0x1000000 && decide (f.1 / 32 % 0x100000 / 0x10000 = 5) && f.1 / 32 % 0x10000 < 0x90)
  let far := curves.filter (fun f => !near 1 f.1 f.2)
  decide (1000 * far.length ≤ curves.length)
    && trims.all (fun f => (old f.1).all (fun o => (signed 12 o - signed 12 f.2).natAbs ≤ 2))
    && levels.all (fun f => near 8 f.1 f.2)
    && b.shade.all (fun e => match a.shade.find? (fun x => x.1 = e.1) with
      | none => true
      | some x => e.2.all (fun g => (tget? x.2 g.1).all (fun o => 100 * ((o : Int) - g.2).natAbs ≤ 2 * o)))

/-- Shading gains are written to the inactive bank (R420). -/
def State.writeShade (s : State) (v : CalValues) : State :=
  v.shade.foldl (fun s e =>
    let bank := 1 - s.rd (F.CAM_TBL_BANK e.1)
    s.onCam e.1 fun c => { c with shade := e.2.foldl (fun t g => tset t (16384 * bank + g.1) g.2) c.shade }) s

/-! The block of R422. -/

/-- The words of a section (R422). -/
def calSection (type target : Nat) (body : List Nat) : List Nat := (type + 2 ^ 8 * target) :: body.length :: body

/-- The block of R422 with its CRC, and with more sections after its own. -/
def State.calBlockWith (s : State) (extra : List (List Nat)) : List Nat :=
  let curve (d w : Nat) : Nat :=
    (List.range 4).foldl (fun n i => n + s.rd (nozzleWord (131072 * d + 4 * w + i)) % 64 * 2 ^ (6 * i)) 0
  let dies := List.range s.dies
  let sections :=
    dies.map (fun d => calSection 1 d ((List.range 32768).map (curve d))) ++
    [calSection 2 0 ((List.range 256).map (fun h => s.rd (trimOf h)))] ++
    dies.map (fun d => calSection 3 d ((List.range 4).map (fun c => s.rd (F.CAM_BL_BL d c)))) ++
    dies.map (fun d => calSection 4 d ((List.range 8580).map (s.shadeGain d))) ++
    [calSection 5 0 ((List.range 256).map (fun h => tget s.eye.tcal h 0))] ++ extra
  let words := [0x43414C, 1 + 2 ^ 8 * s.dies, s.rd F.STRUCT_CUR_ID_VALUE, sections.length, s.pkgLine % 2 ^ 24, s.pkgLine / 2 ^ 24, 0, 0] ++
    sections.flatten
  let crc := crc32 (wordBytes words)
  words ++ [crc % 2 ^ 24, crc / 2 ^ 24]

/-- The block that an export writes (R422). -/
def State.calBlock (s : State) : List Nat := s.calBlockWith []

/-- Words in groups of five. -/
def fives (fuel : Nat) (ws : List Nat) : List (List Nat) :=
  match fuel with
  | 0 => []
  | n + 1 => if ws.isEmpty then [] else ws.take 5 :: fives n (ws.drop 5)

/-- Sends the words of a block as BULK messages (R512). -/
def State.sendBulk (s : State) (ws : List Nat) : State := (fives ws.length ws).foldl (fun s x => s.pairSend 0x30 0 x) s

/-- The commit that carries calibration values (R420): an apply-line commit at the first page boundary of the datum.
In a pair, BULK messages with the values go before it (R523). -/
def State.captureCal (s : State) (v : CalValues) (origin : Origin) : State × Bool × Nat :=
  let id := s.rd F.EPOCH_NEXT_ID_ID
  let s := s.writeShade v
  let s := if s.sequences then s.sendBulk (s.writeAll v.fields).calBlock else s
  let (s, ok) := s.capture false false origin v.fields (s.partsOf v.fields) (s.boundaryFrom s.slotFloor) false false
  (if ok then s.noteStaged v.fields else s, ok, id)

/-- A run's measurements are complete (R414): they are computed and checked, and applied, repeated or dropped. -/
def State.finishRun (s : State) (r : Nat) (cause : Nat) (v : CalValues) : State :=
  match s.run? r with
  | none => s
  | some x =>
    if cause != 0 then s.failRun r cause
    else if s.on F.CAL_CTL_MODE && x.first.isNone then
      let s := s.onRun r fun _ => ⟨if r < 16 then [] else [0], [], 0, [], none, 0, some v, none, v⟩
      (if 16 ≤ r then s.onCam (r - 16) fun c => { c with darkReq := true } else s).assignSlots
    else if s.on F.CAL_CTL_MODE && !x.first.all (fun f => f.agree v) then
      (((s.endRun r 3 0).inc F.CAL_FAILS_COUNT).event 0 0x0B12 (runName r)).cause 26
    else
      let (s, ok, id) := (s.wr (runState r) 3).captureCal v .cal
      if ok then s.onRun r fun x => { x with commit := some id, values := v } else s.failRun r 6

/-- Head temperature of a head, as its group reports it (R353). -/
def State.headTemp (s : State) (h : Nat) : Nat :=
  match (List.range (8 * s.dies)).find? (fun g => s.groupHeadNow g = some h) with
  | some g => s.rd (F.LAN_TEMP_HEAD (g / 8) (g % 8))
  | none => 0

/-- The heads of a bar. -/
def State.headsOf (s : State) (bar : Nat) : List Nat := ((s.barNozzles bar).map Nozzle.head).eraseDups

/-- The die temperature (R637): the greatest of four sensors. -/
def State.dieTemp (s : State) (d : Nat) : Int :=
  (List.range 4).foldl (fun t n => max t (signed 12 (s.rd (F.MON_T_TEMP d n)))) (-2048)

/-- A commit has completed: a run or import that waited for it is applied (R414, R420). -/
def State.calCompleted (s : State) (id : Nat) : State :=
  let s := match s.eye.runs.find? (fun e => e.2.commit = some id) with
    | none => s
    | some (r, _) =>
      let s := s.onEye fun e =>
        if r < 16 then { e with tcal := (s.headsOf r).foldl (fun t h => tset t h (s.headTemp h)) e.tcal, drift := tdel e.drift r }
        else { e with camTemp := tset e.camTemp (r - 16) (s.dieTemp (r - 16)), drift := tdel e.drift r }
      (((s.endRun r 1 0).inc F.CAL_APPLIED_COUNT).event 0 0x0B10 (runName r ++ [id])).cause 26
  match s.eye.imports.find? (fun e => e.1 = id) with
  | none => s
  | some (_, v) =>
    (s.onEye fun e => { e with imports := e.imports.filter (fun x => x.1 != id), tcal := v.tcal.foldl (fun t x => tset t x.1 x.2) e.tcal }).inc
      F.CAL_APPLIED_COUNT

/-- A commit has been cancelled: a run that waited for it fails (R414). -/
def State.calCancelled (s : State) (id : Nat) : State :=
  let s := match s.eye.runs.find? (fun e => e.2.commit = some id) with
    | none => s
    | some (r, _) => s.failRun r 6
  s.onEye fun e => { e with imports := e.imports.filter (fun x => x.1 != id) }

/-! Automatic triggers (R412). -/

/-- The head of a group reports a temperature: its bar's run starts when it has moved far enough. -/
def State.tempMoved (s : State) (g : Nat) : State :=
  match s.groupHeadNow g with
  | none => s
  | some h => match s.headNow h with
    | none => s
    | some e =>
      let move := (signed 12 (s.rd (F.LAN_TEMP_HEAD (g / 8) (g % 8))) - signed 12 (tget s.eye.tcal h 0)).natAbs
      let s := s.onEye fun q => { q with drift := tset q.drift e.bar (max (tget q.drift e.bar 0) move) }
      if s.on F.CAL_CTL_AUTO_BAR && s.rd F.CAL_TRIG_TEMP_DELTA < move then s.startRun e.bar else s

/-- A die's sensors report: its camera's run starts when the die has moved far enough since its last run. -/
def State.camTempMoved (s : State) (d : Nat) : State :=
  match tget? s.eye.camTemp d with
  | none => s
  | some t =>
    let move := (s.dieTemp d - t).natAbs
    let s := s.onEye fun q => { q with drift := tset q.drift (16 + d) (max (tget q.drift (16 + d) 0) move) }
    if s.on F.CAL_CTL_AUTO_CAM && s.rd F.CAL_TRIG_TEMP_DELTA < move then s.startRun (16 + d) else s

/-! Measuring in frames. -/

/-- Cameras that see a bar: those that are ON and own one of its positions. -/
def State.viewers (s : State) (ns : List Nozzle) : List Nat :=
  (List.range s.dies).filter (fun d => s.camState d = 2 && ns.any (fun n => s.owns d n.pos))

/-- A density strip is measured by a camera (R415). -/
def State.measureStrip (s : State) (d : Nat) (now : VisionPlane) (before : Option VisionPlane) (r code : Nat) (c : Claim) : State :=
  let ns := s.barNozzles r
  let w := (now.rgb.head?.map List.length).getD 0
  let ch := s.rd (F.HLTH_BAR_CH r)
  let inv := s.on (F.HLTH_BAR_INV r)
  let before := before.filter (joinable now)
  let look (l c : Int) : Option Nat := (lookAt now before l c).map (fun p => p.channel ch)
  let sumOf (n : Nozzle) : Option Int :=
    let (num, scale) := s.columnOf d w n.pos
    let col := roundDiv num scale
    let vs := (List.range 4).map (fun i => viewSpot look inv ((c.line + 16 * n.row + 4 * (n.pos % 4) + i : Nat) : Int) col)
    if scale = 0 || vs.any Option.isNone then none
    else some (vs.foldl (fun a v => a + (v.map SpotView.contrast).getD 0) 0)
  let s := s.onRun r fun x =>
    { x with
      sums := (ns.filter (fun n => s.owns d n.pos)).foldl (fun t n => match sumOf n with
        | some v => tset t (16 * n.addr + code) v
        | none => t) x.sums
      claims := x.claims.map (fun e => if e.1 = c then (e.1, d :: e.2) else e) }
  match s.run? r with
  | none => s
  | some x =>
    let done (e : Claim × List Nat) : Bool := (s.viewers ns).all (fun v => e.2.contains v)
    let s := s.onRun r fun x => { x with claims := x.claims.filter (fun e => !done e) }
    if x.wanted.isEmpty && x.claims.all done then
      match s.barCmax r c.line with
      | none => s
      | some m =>
        let (cause, v) := s.density r x m
        s.finishRun r cause v
    else s

/-- A WHITE slot is measured by its camera (R417): every node within 16 rows of one of its lines. -/
def State.measureWhite (s : State) (d : Nat) (now : VisionPlane) (c : Claim) : State :=
  let r := 16 + d
  let w := (now.rgb.head?.map List.length).getD 0
  let h := now.valid.length
  let sx := ceilDiv w 64
  let sy := ceilDiv h 32
  let rows := (List.range 32).filterMap (fun (i : Nat) => now.rowOf ((c.line + i : Nat) : Int))
  let black := s.blackFrame d ⟨w, h, now.raw⟩
  let nodeAt (t : Tab Int) (ch i j : Nat) : Tab Int :=
    if !rows.any (fun y => ((y : Int) - (j * sy : Nat)).natAbs ≤ 16) then t
    else
      let xs := (List.range w).filter (fun (x : Nat) => 2 * ((x : Int) - (i * sx : Nat)).natAbs ≤ sx)
      let vs := rows.flatMap (fun y => if now.valid.getD y false then
        xs.filterMap (fun x => if channel x y = ch then some ((black.rows.getD y []).getD x 0) else none) else [])
      if vs.isEmpty then t
      else
        let k := 2 * (4096 * ch + 65 * j + i)
        tset (tset t k (total vs : Nat)) (k + 1) (vs.length : Nat)
  let s := s.onRun r fun x =>
    { x with
      claims := x.claims.filter (fun e => e.1 != c)
      sums := (List.range 4).foldl (fun t ch => (List.range 33).foldl (fun t j => (List.range 65).foldl (fun t i => nodeAt t ch i j) t) t) x.sums }
  s

/-- A camera run whose nodes and dark frame are there is computed; one that lacks nodes asks for another WHITE slot, up to 64. -/
def State.judgeWhite (s : State) (d : Nat) : State :=
  let r := 16 + d
  match s.run? r with
  | none => s
  | some x =>
    if s.rd (runState r) != 1 || !x.claims.isEmpty || !x.wanted.isEmpty then s
    else
      let all := (List.range 4).all (fun c => (List.range nodeCount).all (fun n => (tget? x.sums (2 * (4096 * c + n))).isSome))
      if all then
        (if x.black.isNone then s
         else
           let (cause, v) := s.shading d x
           s.finishRun r cause v)
      else if 64 ≤ x.whites then s.failRun r 1
      else (s.onRun r fun x => { x with wanted := [0] }).assignSlots

/-- The dark frame of a camera run (R417): BL of each channel is its mean over the valid lines, rounded half up. -/
def State.takeDark (s : State) (d : Nat) (now : VisionPlane) : State :=
  let r := 16 + d
  let values (c : Nat) : List Nat :=
    now.raw.zipIdx.flatMap (fun (l, y) => if now.valid.getD y false then
      l.zipIdx.filterMap (fun (v, x) => if channel x y = c then some v else none) else [])
  let sets := (List.range 4).map values
  if sets.any List.isEmpty then s.onCam d fun c => { c with darkReq := true }
  else (s.onRun r fun x => { x with black := some (sets.map (fun l => (roundDiv (total l : Nat) l.length).toNat)) }).judgeWhite d

/-- The slots of calibration runs that a closed frame decides (R404, R414, R417); one that no frame of the camera has shown, as of a page
that was cut (R400), yields no measurement once a frame lies beyond it. -/
def State.measureFrame (s : State) (d : Nat) (now : VisionPlane) (before : Option VisionPlane) : State :=
  let s := match now.trig, s.run? (16 + d) with
    | some t, some x => if t.dark && x.black.isNone then s.takeDark d now else s
    | _, _ => s
  let jobs := s.eye.runs.flatMap (fun e => e.2.claims.map (fun c => (e.1, c)))
  jobs.foldl (fun s (r, c, seen) =>
    if (16 ≤ r && r != 16 + d) || seen.contains d || (r < 16 && !(s.barNozzles r).any (fun n => s.owns d n.pos)) then s
    else
      let code := match c.use with
        | .strip _ k => k
        | _ => 0
      match slotLook now before c.line with
      | none => if now.passed ((c.line + 31 : Nat) : Int) then s.slotLost r code c else s
      | some lk =>
        let printed := s.eye.printed.any (fun x => x.line = c.line && x.begun = 32)
        if lk = .lost || !printed then s.slotLost r code c
        else if r < 16 then s.measureStrip d now before r code c
        else (s.measureWhite d now c).judgeWhite d) s

/-! Export and import (R421 to R423). -/

/-- Words that bytes spell, three bytes each. -/
def bytesWords (fuel : Nat) (bs : List Nat) : List Nat :=
  match fuel with
  | 0 => []
  | n + 1 => if bs.length < 3 then [] else ofBytes (bs.take 3) :: bytesWords n (bs.drop 3)

/-- What reading the sections of an import comes to: a status and a word offset, or the values. -/
inductive CalRead
  | bad (status offset : Nat)
  | good (v : CalValues)
  deriving DecidableEq, Repr

/-- The body length that a section's type fixes (R422). -/
def sectionLen (type : Nat) : Option Nat :=
  match type with
  | 1 => some 32768
  | 2 => some 256
  | 3 => some 4
  | 4 => some 8580
  | 5 => some 256
  | _ => none

/-- A TRIM of an import exceeds a tenth of V_NOM (R423); the index of the first such head. -/
def State.trimBad (s : State) (body : List Nat) : Option Nat :=
  (List.range 256).find? (fun h =>
    let v := s.classOf h 9
    (s.headNow h).isSome && v / 10 < (signed 12 (body.getD h 0)).natAbs)

/-- The values of a section. -/
def State.sectionValues (s : State) (type target : Nat) (body : List Nat) (v : CalValues) : CalValues :=
  match type with
  | 1 => { v with fields := v.fields ++ body.zipIdx.flatMap (fun (w, i) => (List.range 4).map (fun j =>
      ((nozzleCurve (131072 * target + 4 * i + j)).key, bits w (6 * j) 6))) }
  | 2 => { v with fields := v.fields ++ body.zipIdx.map (fun (w, h) => ((trimOf h).key, w % 4096)) }
  | 3 => { v with fields := v.fields ++ body.zipIdx.map (fun (w, c) => ((F.CAM_BL_BL target c).key, w % 4096)) }
  | 4 => { v with shade := v.shade ++ [(target, body.zipIdx.map (fun (w, a) => (a, w % 8192)))],
                  fields := v.fields ++ [((F.CAM_TBL_BANK target).key, 1 - s.rd (F.CAM_TBL_BANK target))] }
  | _ => { v with tcal := v.tcal ++ body.zipIdx.map (fun (w, h) => (h, w % 4096)) }

/-- Reads the sections of an import from a word offset (R422, R423). -/
def State.readSections (s : State) (n at' : Nat) (ws : List Nat) (v : CalValues) : CalRead :=
  match n with
  | 0 => if ws.length = 2 then .good v else .bad 3 at'
  | k + 1 =>
    let type := bits (ws.getD 0 0) 0 8
    let target := bits (ws.getD 0 0) 8 8
    let len := ws.getD 1 0
    let body := (ws.drop 2).take len
    let perDie := type = 1 || type = 3 || type = 4
    if (sectionLen type).isNone || (if perDie then decide (s.dies ≤ target) else decide (target != 0)) then .bad 3 at'
    else if sectionLen type != some len || body.length != len then .bad 3 (at' + 1)
    else match (if type = 2 then s.trimBad body else none) with
      | some h => .bad 6 (at' + 2 + h)
      | none => s.readSections k (at' + 2 + len) (ws.drop (2 + len)) (s.sectionValues type target body v)

/-- The checks of R423 on an import's block, in order. -/
def State.readImport (s : State) (data : List Nat) : CalRead :=
  let ws := bytesWords data.length data
  let n := ws.length
  if ws.getD 0 0 != 0x43414C then .bad 3 0
  else if bits (ws.getD 1 0) 0 8 != 1 || n < 10 then .bad 3 1
  else if crc32 (wordBytes (ws.take (n - 2))) != ws.getD (n - 2) 0 + 2 ^ 24 * ws.getD (n - 1) 0 then .bad 5 (n - 2)
  else if ws.getD 2 0 != s.rd F.STRUCT_CUR_ID_VALUE then .bad 4 2
  else if bits (ws.getD 1 0) 8 4 != s.dies then .bad 3 1
  else s.readSections (ws.getD 3 0) 8 (ws.drop 8) ⟨[], [], []⟩

/-- A transfer ends with a status (R421). -/
def State.endXfer (s : State) (status : Nat) : State :=
  ((s.wr F.CAL_XFER_STAT_BUSY 0).wr F.CAL_XFER_STAT_STATUS status).onEye fun e => { e with xfer := none }

/-- An import's buffer is released when validation ends (R421). -/
def State.endImport (s : State) (status : Nat) : State := (s.release (s.rd F.CAL_XFER_BUF_BUF) 0 0).endXfer status

/-- An import is refused: 0x0B14 carries the status and the word offset (R423). -/
def State.refuseImport (s : State) (status offset : Nat) : State :=
  ((s.endImport status).event 0 0x0B14 [status, offset]).cause 26

/-- An import is applied as one commit (R423). -/
def State.applyImport (s : State) (v : CalValues) : State :=
  let (s, ok, id) := (s.cancelRuns.endImport 0).captureCal v .imported
  if ok then ((s.onEye fun e => { e with imports := e.imports ++ [(id, v)] }).event 0 0x0B13 [id]).cause 26 else s

end Sys2Proof.Machine
end

