-- ==== Sys2Proof/Machine/Deflate.lean ====
section
/-! DEFINITION. What a compressor writes for an input at a level (R246 to R248): a search through hash chains, one block for each run of the
input, and the elements of the stream. The spec fixes what a stream may be; which of the allowed matches, code lengths and repeat codes are
taken it leaves open, and the constants of Config choose among them (log 139). -/

namespace Sys2Proof.Machine

open Sys2Proof

/-! The search (R246). -/

/-- Greatest chain depth of a level. -/
def chainDepth (level : Nat) : Nat := [4, 8, 16, 32, 64, 128, 512, 1024, 4096].getD (level - 1) 4096

/-- Matching of a level is lazy. -/
def lazyLevel (level : Nat) : Bool := 4 ≤ level

/-- How many bytes from two places on agree, up to `most`. -/
def agreeing (a b : List Nat) (most : Nat) : Nat :=
  match a, b, most with
  | x :: xs, y :: ys, n + 1 => if x = y then agreeing xs ys n + 1 else 0
  | _, _, _ => 0

/-- Distances of the places that the search looks at for position `i`: those in the 32 KiB window with the same 3-byte prefix, the nearest
first, as far as the chain depth. -/
def chainAt (level : Nat) (input : List Nat) (i : Nat) : List Nat :=
  (((List.range (min i 32768)).map (· + 1)).filter (fun d =>
    agreeing (input.drop i) (input.drop (i - d)) 3 = 3)).take (chainDepth level)

/-- A piece of the input: a byte by itself, or bytes that stand `dist` back. -/
inductive Token | lit (b : Nat) | copy (len dist : Nat)
  deriving DecidableEq, Repr

/-- Input bytes that a token stands for. -/
def Token.size (t : Token) : Nat :=
  match t with
  | .lit _ => 1
  | .copy len _ => len

/-- The token at position `i` of a run that ends at `stop`: a match of 3 to 258 bytes at a distance of the chain, or the byte itself; without
lazy matching a match is taken where there is one. -/
def tokenAt (level : Nat) (input : List Nat) (i stop : Nat) : Token :=
  let chain := chainAt level input i
  let longest (d : Nat) : Nat := agreeing (input.drop i) (input.drop (i - d)) (min 258 (stop - i))
  let (len, dist) := Config.matchChoice level input i
  if chain.contains dist && 3 ≤ len && len ≤ longest dist then .copy len dist
  else match chain with
    | d :: _ => if !lazyLevel level && 3 ≤ longest d then .copy (longest d) d else .lit (input.getD i 0)
    | [] => .lit (input.getD i 0)

/-- The tokens of a run from position `i` on. The loop runs once for each token at most. -/
def tokensFrom (level : Nat) (input : List Nat) (i stop fuel : Nat) : List Token :=
  match fuel with
  | 0 => []
  | n + 1 =>
    if stop ≤ i then []
    else
      let t := tokenAt level input i stop
      t :: tokensFrom level input (i + t.size) stop n

/-! Codes. -/

/-- The entry of a table of least values that a value falls under: its number, least value and extra bits. -/
def entryFor (table : List (Nat × Nat)) (v : Nat) : Nat × Nat × Nat :=
  (table.zipIdx.foldl (fun (b : Nat × Nat × Nat) e => if e.1.1 ≤ v then (e.2, e.1.1, e.1.2) else b) (0, 0, 0))

/-- The literal/length symbols of tokens, the end of the block last. -/
def litSyms (ts : List Token) : List Nat :=
  ts.map (fun t => match t with
    | .lit b => b
    | .copy len _ => 257 + (entryFor lengthTable len).1) ++ [256]

/-- The distance symbols of tokens. -/
def distSyms (ts : List Token) : List Nat :=
  ts.filterMap (fun t => match t with
    | .lit _ => none
    | .copy _ dist => some (entryFor distTable dist).1)

/-- Lengths of a complete code over the symbols of a list: as equal as they can be. -/
def flatLens (size : Nat) (syms : List Nat) : List Nat :=
  let used := (List.range size).filter syms.contains
  let used := if used.length < 2 then used ++ ((List.range size).filter (fun x => !used.contains x)).take (2 - used.length) else used
  let n := used.length
  let k := Nat.log2 (n - 1) + 1
  let short := 2 ^ k - n
  (List.range size).map (fun x => if !used.contains x then 0 else if used.idxOf x < short then k - 1 else k)

/-- Code lengths for an alphabet: any complete set of at most `most` bits that codes every symbol used. -/
def codeLens (size most : Nat) (syms : List Nat) : List Nat :=
  let l := (Config.codeLengths size syms).map BitVec.toNat
  if l.length = size && syms.all (fun x => l.getD x 0 != 0) && l.all (fun n => n ≤ most) && huffComplete l then l else flatLens size syms

/-- The bits of a number, lowest first. -/
def numBits (v n : Nat) : List Bool := (List.range n).map (fun i => bit v i)

/-- The bits of a symbol's code, the first bit highest. -/
def codeBits (lens : List Nat) (sym : Nat) : List Bool :=
  match (huffCodes lens).find? (fun c => c.2.2 = sym) with
  | some (n, v, _) => (numBits v n).reverse
  | none => []

/-- The code-length codes for lengths from the `i`-th on: symbol and extra bits. A repeat is of 3 or more; any repeat that the lengths allow
may be taken. -/
def lenCodes (lens : List Nat) (i fuel : Nat) : List (Nat × List Bool) :=
  match fuel with
  | 0 => []
  | n + 1 =>
    match lens[i]? with
    | none => []
    | some v =>
      let run := ((lens.drop i).takeWhile (· = v)).length
      let r := Config.repeatChoice lens i
      if v = 0 && 3 ≤ r && r ≤ min run 138 then
        (if r ≤ 10 then (17, numBits (r - 3) 3) else (18, numBits (r - 11) 7)) :: lenCodes lens (i + r) n
      else if 0 < i && lens.getD (i - 1) 0 = v && 3 ≤ r && r ≤ min run 6 then (16, numBits (r - 3) 2) :: lenCodes lens (i + r) n
      else (v, []) :: lenCodes lens (i + 1) n

/-! Blocks (R247, R248). A stream is a list of elements, each a list of bits. -/

/-- The elements of a dynamic-Huffman block: header fields, code-length codes, literals and matches. -/
def dynamicBlock (final : Bool) (ts : List Token) : List (List Bool) :=
  let lit := (codeLens 286 15 (litSyms ts))
  let dist := if (distSyms ts).isEmpty then [1] else codeLens 30 15 (distSyms ts)
  let codes := lenCodes (lit ++ dist) 0 (lit.length + dist.length)
  let cl := codeLens 19 7 (codes.map (·.1))
  let element (t : Token) : List Bool :=
    match t with
    | .lit b => codeBits lit b
    | .copy len d =>
      let (ls, lb, lx) := entryFor lengthTable len
      let (ds, db, dx) := entryFor distTable d
      codeBits lit (257 + ls) ++ numBits (len - lb) lx ++ codeBits dist ds ++ numBits (d - db) dx
  [numBits (nat final) 1, numBits 2 2, numBits (lit.length - 257) 5, numBits (dist.length - 1) 5, numBits 15 4]
    ++ clOrder.map (fun x => numBits (cl.getD x 0) 3)
    ++ codes.map (fun c => codeBits cl c.1 ++ c.2) ++ ts.map element ++ [codeBits lit 256]

/-- The elements of a stored block that begins at a bit position. -/
def storedBlock (final : Bool) (at_ : Nat) (bytes : List Nat) : List (List Bool) :=
  let pad := (8 - (at_ + 3) % 8) % 8
  [numBits (nat final) 1, numBits 0 2, List.replicate pad false ++ numBits bytes.length 16, numBits (65535 - bytes.length) 16]
    ++ bytes.map (fun b => numBits b 8)

/-- Bits of elements. -/
def elementBits (es : List (List Bool)) : Nat := es.foldl (fun n e => n + e.length) 0

/-- The blocks of an input from position `i` on, one for each run of up to 65,536 bytes: dynamic, or stored when a stored block would be no
larger; the last one carries BFINAL. A stored block holds at most 65,535 bytes, which is what its LEN can give. -/
def blocksFrom (level : Nat) (input : List Nat) (i at_ fuel : Nat) : List (List Bool) :=
  match fuel with
  | 0 => []
  | n + 1 =>
    let stop := min input.length (i + 65536)
    let final := stop = input.length
    let run := (input.drop i).take (stop - i)
    let d := dynamicBlock final (tokensFrom level input i stop (stop - i))
    let st := storedBlock final at_ run
    let es := if run.length < 65536 && elementBits st ≤ elementBits d then st else d
    if final then es else es ++ blocksFrom level input stop (at_ + elementBits es) n

/-- The elements of the stream of an input. -/
def deflateElements (level : Nat) (input : List Nat) : List (List Bool) := blocksFrom level input 0 0 (input.length / 65536 + 1)

/-- Bytes of bits, lowest bit first; the last byte is filled with zeros. -/
def packBits (l : List Bool) : List Nat := (List.range (ceilDiv l.length 8)).map (fun i => bitsNat ((l.drop (8 * i)).take 8))

/-- The raw DEFLATE stream of an input at a level. -/
def deflate (level : Nat) (input : List Nat) : List Nat := packBits (deflateElements level input).flatten

/-- The bit positions at which the elements of a stream end, counted from `at_`. -/
def elementEnds (at_ : Nat) (es : List (List Bool)) : List Nat :=
  (es.foldl (fun (b : Nat × List Nat) e => (b.1 + e.length, (b.1 + e.length) :: b.2)) (at_, [])).2.reverse

end Sys2Proof.Machine
end

