-- ==== Sys2Proof/Machine/ZipOps.lean ====
section
/-! DEFINITION. Decompressor and compressor units (R232 to R253). -/

namespace Sys2Proof.Machine

open Sys2Proof

/-- ZIP of a die is ON. -/
def State.zipOn (s : State) (d : Nat) : Bool := s.rd (F.ZIP_CTL_STATE d) = 2

/-- Changes the ZIP blocks. -/
def State.onZip (s : State) (f : Zip → Zip) : State := { s with zip := f s.zip }

/-- An idle decompressor unit. -/
def DUnit.none : DUnit := ⟨.idle, false, 0, 0, 0, 0, 0, 0, 0, 0, 0, 0, 0, 0, ⟨[], 0, 0⟩, 0, 0⟩

/-- Decompressor unit `u` of a die. -/
def State.dunit (s : State) (d u : Nat) : DUnit := tget s.zip.dunits (8 * d + u) DUnit.none

/-- Changes a decompressor unit. -/
def State.setDUnit (s : State) (d u : Nat) (x : DUnit) : State := s.onZip fun z => { z with dunits := tset z.dunits (8 * d + u) x }

/-- The lowest-numbered idle decompressor unit of a die. -/
def State.idleUnit (s : State) (d : Nat) : Option Nat := (List.range 8).find? (fun u => (s.dunit d u).st = .idle)

/-- Units of a die on WORK streams. -/
def State.onWork (s : State) (d : Nat) : Nat := ((List.range 8).filter (fun u => (s.dunit d u).st != .idle && (s.dunit d u).work)).length

/-! The plane packet (R232 to R234). -/

/-- The header of a packet: words 0 to 15. -/
structure PacketHead where
  ws : List Nat
  deriving DecidableEq, Repr

/-- OUT_SIZE of a header. -/
def PacketHead.outSize (h : PacketHead) : Nat := h.ws.getD 4 0 + 2 ^ 24 * h.ws.getD 5 0

/-- IN_LEN of a header. -/
def PacketHead.inLen (h : PacketHead) : Nat := h.ws.getD 6 0 + 2 ^ 24 * h.ws.getD 7 0

/-- OUT_CRC of a header. -/
def PacketHead.crc (h : PacketHead) : Nat := h.ws.getD 8 0 + 2 ^ 24 * bits (h.ws.getD 9 0) 0 8

/-- USE of a header. -/
def PacketHead.use (h : PacketHead) : Bool := bit (h.ws.getD 1 0) 12

/-- Check 1 of R234: MAGIC, FMT, reserved fields and HDR_CRC. -/
def PacketHead.ok (h : PacketHead) : Bool :=
  let w (i : Nat) : Nat := h.ws.getD i 0
  let crc := crc32 (wordBytes (h.ws.take 14))
  w 0 = 0x504C4E && bits (w 1) 0 8 = 1 && bits (w 1) 13 11 = 0 && bits (w 2) 16 8 = 0 && bits (w 3) 16 8 = 0 && bits (w 9) 8 16 = 0 &&
    w 10 = 0 && w 11 = 0 && w 12 = 0 && w 13 = 0 && 1 ≤ h.outSize && 1 ≤ h.inLen && w 14 = crc % 2 ^ 24 && w 15 = crc / 2 ^ 24

/-- The header of the packet at an address. -/
def State.packetHead (s : State) (a : Nat) : PacketHead := ⟨s.loadWords a 16⟩

/-- The 64 bytes of a header with USE 1 (R247). -/
def packetBytes (outSize inLen crc : Nat) : List Nat :=
  let ws := [0x504C4E, 1 + 2 ^ 12, 0, 0, outSize % 2 ^ 24, outSize / 2 ^ 24, inLen % 2 ^ 24, inLen / 2 ^ 24, crc % 2 ^ 24, crc / 2 ^ 24, 0, 0, 0, 0]
  let c := crc32 (wordBytes ws)
  (ws ++ [c % 2 ^ 24, c / 2 ^ 24]).flatMap (fun w => leBytes w 4)

/-! Decompressors. -/

/-- The bar of a unit's page stream, or 0xFFFFFF for WORK (R245). -/
def DUnit.barWord (x : DUnit) : Nat := if x.work then 0xFFFFFF else x.stream % 16

/-- An abort other than FLUSHED is recorded and counted (R245). -/
def State.zipError (s : State) (d unit code tag bar : Nat) (comp : Bool) : State :=
  if code = 14 then s
  else
    let ev := if comp then 0x0604 else if code = 10 then 0x0602 else if code = 12 then 0x0603 else 0x0601
    let s := s.event d ev [if comp then 8 + unit else unit, code, tag, bar]
    let s := if comp then s.inc (F.ZIP_CERR_ABORT d) else if code = 10 then s.inc (F.ZIP_ERR_LIMIT d)
      else if code = 12 then s.inc (F.ZIP_ERR_CRC d) else s.inc (F.ZIP_ERR_DEC d)
    let s := ((s.wr (F.ZIP_LAST_ERR_CODE d) code).wr (F.ZIP_LAST_ERR_UNIT d) unit).wr (F.ZIP_LAST_ERR_COMP d) (nat comp)
    (s.wr (F.ZIP_LAST_ERR_BAR d) bar).causeAt d 26

/-- The WORK entry that a unit serves. -/
def State.workEntry (s : State) (ring seq : Nat) : Option Entry := s.win.entries.find? (fun e => e.ring = ring && e.seq = seq)

/-- Answers a WORK entry: error code, bytes, CRC (R252). -/
def State.answerWork (s : State) (ring seq status code bytes crc : Nat) : State :=
  match s.workEntry ring seq with
  | none => s
  | some e => s.answer e status [code, bytes % 2 ^ 24, bytes / 2 ^ 24, crc % 2 ^ 24, crc / 2 ^ 24]

/-- A unit goes IDLE. -/
def State.idleDUnit (s : State) (d u : Nat) : State := s.setDUnit d u { s.dunit d u with st := .idle }

/-- A decompressor unit aborts with a code (R242 to R245). -/
def State.abortUnit (s : State) (d u code : Nat) : State :=
  let x := s.dunit d u
  let s := (s.idleDUnit d u).zipError d u code x.tag x.barWord false
  if !x.work then
    let j := x.stream / 16
    let bar := x.stream % 16
    (s.setStream j bar ((s.stream j bar).setDesc x.ring x.seq fun p => { p with st := .aborted code, slot := none })).release x.inBuf 0 x.tag
  else if x.ring = 0xFFFF then s.refuseImport (if code = 12 then 5 else 3) 0
  else ((s.release x.inBuf 0 x.tag).release x.outBuf x.written x.tag).answerWork x.ring x.seq 16 code x.written (crc32 (x.result.out.take x.written))

/-- Output of a unit: `dec` bytes decoded and `n` of them in SDRAM (R240 to R242). -/
def State.stage (s : State) (d u dec n : Nat) : State :=
  let x := s.dunit d u
  let sum := s.rdPair (F.ZIP_OUT_LO_BYTES d) (F.ZIP_OUT_HI_BYTES d) + (dec - x.decoded)
  let s := s.wrPair (F.ZIP_OUT_LO_BYTES d) (F.ZIP_OUT_HI_BYTES d) sum
  let s := s.setDUnit d u { x with decoded := dec, written := n }
  if !x.work then
    let j := x.stream / 16
    let bar := x.stream % 16
    let y := s.stream j bar
    s.setStream j bar { y with slots := tset y.slots x.slot ⟨x.result.out.take n, if x.lineBytes = 0 then 0 else n / x.lineBytes, x.lineBytes⟩ }
  else if x.ring = 0xFFFF then s
  else s.storeBytes (x.outAddr + x.written) ((x.result.out.take n).drop x.written)

/-- How many bytes a unit's stream puts out before it ends or aborts. -/
def DUnit.limit (x : DUnit) : Nat := min x.result.out.length x.outSize

/-- A page stream has finished (R226, R243): the page slot becomes the held slot when no line of its pages underran. -/
def State.pageProduced (s : State) (j bar ring seq : Nat) : State :=
  let y := s.stream j bar
  match y.descs.find? (fun p => p.ring = ring && p.seq = seq) with
  | none => s
  | some p =>
    let y := y.setDesc ring seq fun p => { p with st := .complete }
    s.setStream j bar (if p.replaced = 0 && !y.under.any (fun e => p.covers e.1) then { y with held := p.slot } else y)

/-- A unit's stream passes its end checks (R243). -/
def State.finishUnit (s : State) (d u : Nat) : State :=
  let x := s.dunit d u
  let s := (s.stage d u x.limit x.limit).idleDUnit d u
  if !x.work then (s.release x.inBuf 0 x.tag).pageProduced (x.stream / 16) (x.stream % 16) x.ring x.seq
  else if x.ring = 0xFFFF then s.onEye fun e => { e with xfer := some (.validating x.result.out) }
  else ((s.release x.inBuf 0 x.tag).release x.outBuf x.limit x.tag).answerWork x.ring x.seq 0 0 x.limit (crc32 x.result.out)

/-- A unit reads the header of its packet, of which `a` is the address, and runs or aborts (R234, R243). Check 3 is left to the caller. -/
def State.runUnit (s : State) (d u : Nat) (x : DUnit) (a : Nat) : State :=
  let h := s.packetHead a
  let b := s.buf x.inBuf
  let space := if x.work && x.ring != 0xFFFF then (s.buf x.outBuf).addr + (s.buf x.outBuf).bytes - x.outAddr else h.outSize
  let s := s.setDUnit d u { x with st := .run }
  if !h.ok || b.addr + b.bytes < a + 64 + h.inLen then s.abortUnit d u 1
  else if space < h.outSize then s.abortUnit d u 2
  else s.setDUnit d u { x with
    st := .run, outSize := h.outSize, inLen := h.inLen, crc := h.crc, result := inflate (s.loadBytes (a + 64) h.inLen) }

/-! Compressors. -/

/-- An idle compressor unit. -/
def CUnit.none : CUnit := ⟨Option.none, 0, false, [], [], 0, 0⟩

/-- Compressor unit `u` of a die. -/
def State.cunit (s : State) (d u : Nat) : CUnit := tget s.zip.cunits (2 * d + u) CUnit.none

/-- Changes a compressor unit. -/
def State.setCUnit (s : State) (d u : Nat) (x : CUnit) : State := s.onZip fun z => { z with cunits := tset z.cunits (2 * d + u) x }

/-- Bytes that a chain of buffers takes. -/
def State.chainRoom (s : State) (chain : List (Nat × Nat)) : Nat :=
  chain.foldl (fun n e => n + ((s.buf e.1).bytes - e.2)) 0

/-- Bytes written into each buffer of a chain, in order (R249). -/
def State.chainBytes (s : State) (chain : List (Nat × Nat)) (n : Nat) : List (Nat × Nat) :=
  match chain with
  | [] => []
  | e :: r =>
    let k := min n ((s.buf e.1).bytes - e.2)
    (e.1, k) :: s.chainBytes r (n - k)

/-- Writes bytes along a chain. -/
def State.writeChain (s : State) (chain : List (Nat × Nat)) (bs : List Nat) : State :=
  match chain with
  | [] => s
  | e :: r =>
    let k := (s.buf e.1).bytes - e.2
    (s.storeBytes ((s.buf e.1).addr + e.2) (bs.take k)).writeChain r (bs.drop k)

/-- The chain and the input buffer are released in order (R249). -/
def State.releaseChain (s : State) (j : CJob) (n : Nat) : State :=
  let s := (s.chainBytes j.chain n).foldl (fun s e => s.release e.1 e.2 j.tag) s
  match j.inBuf with
  | none => s
  | some i => s.release i 0 j.tag

/-- An event dump ends with a status (R589). -/
def State.dumpEnd (s : State) (status : Nat) : State :=
  ((s.wr F.EVT_DUMP_STAT_BUSY 0).wr F.EVT_DUMP_STAT_STATUS status).cause 43

/-- A compression's owner hears of its end: error code 0 or that of R244, and the bytes written. -/
def State.tellOwner (s : State) (j : CJob) (code bytes : Nat) : State :=
  match j.owner with
  | .work ring seq => s.answerWork ring seq (if code = 0 then 0 else 16) code bytes (crc32 j.input)
  | .dump => s.dumpEnd (if code = 0 then 0 else 3)
  | .archive _ => s
  | .calState => s.endXfer (if code = 0 then 0 else 7)

/-- Bytes of a unit's output that a chain of `room` bytes can take: an element goes out whole or stays in the unit's register (R248). -/
def CUnit.fits (x : CUnit) (room : Nat) : Nat :=
  if x.out.length ≤ room then x.out.length
  else if room < 64 then room
  else (x.ends.filter (fun e => e ≤ 8 * room)).foldl max 512 / 8

/-- A compression aborts (R245, R249, R250) with `n` bytes of its output in its chain. -/
def State.endComp (s : State) (d u code n : Nat) : State :=
  let x := s.cunit d u
  match x.job with
  | none => s
  | some j =>
    let s := (s.setCUnit d u CUnit.none).zipError d u code j.tag 0xFFFFFF true
    ((s.writeChain j.chain (x.out.take n)).releaseChain j n).tellOwner j code n

/-- A compression aborts at a stall, with what its chain has taken (R248, R250). -/
def State.abortComp (s : State) (d u code : Nat) : State :=
  let x := s.cunit d u
  s.endComp d u code (x.fits (s.chainRoom ((x.job.map CJob.chain).getD [])))

/-- A compression aborts while it runs (R244, R253): how much of its output has been written by then the spec leaves open (log 140). -/
def State.cutComp (s : State) (d u code : Nat) : State :=
  let x := s.cunit d u
  if x.stalled then s.abortComp d u code
  else
    let (v, s) := s.draw 48
    s.endComp d u code (v % (x.fits (s.chainRoom ((x.job.map CJob.chain).getD [])) + 1))

/-- What a compressor has to write goes along its chain as far as it reaches, by whole elements; beyond that the unit stalls (R248). -/
def State.pumpComp (s : State) (d u : Nat) : State :=
  let x := s.cunit d u
  match x.job with
  | none => s
  | some j =>
    let room := s.chainRoom j.chain
    let stalled := decide (room < x.out.length)
    (s.writeChain j.chain (if stalled then x.out.take (x.fits room) else [])).setCUnit d u { x with stalled := stalled, stalledAt := s.clk }

/-- A compressor unit takes a compression (R246, R247, R251): 64 zero bytes and then the stream go out. -/
def State.startComp (s : State) (d u : Nat) (j : CJob) : State :=
  let producer : Bool := match j.owner with
    | .work _ _ => false
    | _ => true
  let level := if producer then s.rd (if u = 0 then F.ZIP_COMP_LVL_LVL0 d else F.ZIP_COMP_LVL_LVL1 d) else j.level
  let out := List.replicate 64 0 ++ deflate level j.input
  let sum := s.rdPair (F.ZIP_CIN_LO_BYTES d) (F.ZIP_CIN_HI_BYTES d) + j.input.length
  ((s.wrPair (F.ZIP_CIN_LO_BYTES d) (F.ZIP_CIN_HI_BYTES d) sum).setCUnit d u
    { CUnit.none with job := some j, level := level, out := out, ends := elementEnds 512 (deflateElements level j.input),
                      stallMs := s.rd (F.ZIP_STALL_TO_MS d) }).pumpComp d u

/-- Work of a WORK entry that waits for a unit lets go of its buffers. -/
def State.dropWork (s : State) (e : Entry) : State :=
  let mine (o : CompOwner) : Bool := decide (o = .work e.ring e.seq)
  let bufs := (s.zip.dwait.filter (fun x => x.2.ring = e.ring && x.2.seq = e.seq)).flatMap (fun x => [x.2.inBuf, x.2.outBuf])
    ++ (s.zip.cwait.filter (fun x => mine x.2.owner)).flatMap (fun x => x.2.inBuf.toList ++ x.2.chain.map (·.1))
  (bufs.foldl (fun s i => s.letGo i) s).onZip fun z =>
    { z with dwait := z.dwait.filter (fun x => !(x.2.ring = e.ring && x.2.seq = e.seq)), cwait := z.cwait.filter (fun x => !mine x.2.owner) }

/-- The entry of a WORK ring that was read and has not started stays in its ring (R253): the ring's index goes back to it. -/
def State.returnWork (s : State) (q : Nat) : State :=
  match s.win.entries.find? (s.unstarted q) with
  | none => s
  | some e =>
    ((s.dropWork e).onWin fun w => { w with entries := w.entries.filter (fun x => !(x.ring = e.ring && x.seq = e.seq)) }).wr
      (F.QUE_IDX_INDEX q) ((s.rd (F.QUE_IDX_INDEX q) + 65535) % 65536)

/-- The WORK rings of a die of which an entry is in hand. -/
def State.workRings (s : State) (d : Nat) : List Nat :=
  ((s.win.entries.map Entry.ring).filter (fun q => q / 32 = d && s.rd (F.QUE_CTL_TYPE q) = 2)).eraseDups

/-- ZIP of a die stops (R253): entries that have not started stay in their rings; every running unit writes its staging buffer and aborts
with FLUSHED. -/
def State.zipStopping (s : State) (d : Nat) : State :=
  let s := (s.workRings d).foldl (fun s q => s.returnWork q) s
  let s := (List.range 8).foldl (fun s u => if (s.dunit d u).st = .idle then s else (s.stage d u (s.dunit d u).decoded (s.dunit d u).decoded).abortUnit d u 14) s
  [0, 1].foldl (fun s u => if (s.cunit d u).job.isSome then s.cutComp d u 14 else s) s

end Sys2Proof.Machine
end

