-- ==== Sys2Proof/Machine/EnRun.lean ====
section
/-! DEFINITION. Starting and stopping the blocks of R36 to R40: what makes a start fail, what a start and a stop do, and the
transitions of R38. -/

namespace Sys2Proof.Machine

open Sys2Proof

/-- Changes what bring-up keeps. -/
def State.onBoot (s : State) (f : Boot → Boot) : State := { s with boot := f s.boot }

/-- A word of the boot block in force (R135). -/
def State.bb (s : State) (n : Nat) : Nat := s.boot.block.getD n 0

/-- PITCH of the boot block in 2^-24 counts. -/
def State.bbPitch (s : State) : Nat := s.bb 11 + 2 ^ 24 * s.bb 12

/-- The role of an engine: the first FWARE section that its die holds and that names it (R105, R468). -/
def State.engineRole (s : State) (d e : Nat) : Option Nat :=
  (s.ld.current.fware.zipIdx.find? (fun f => bit (f.1.getD 0 0) d && bit (f.1.getD 2 0) e)).map (·.2)

/-- A line pacer or its raster pipeline has no bar in the structure in effect. -/
def State.noBar (s : State) (p : Nat) : Bool := ((s.imageFor (.bar p)).barOf p).isNone

/-- The MEM block of a die is not in service (R133). -/
def State.noMem (s : State) (d : Nat) : Bool := decide (s.rd (F.DIE_STAT_STAGE d) < 5)

/-- A start of Speedwell printing fails (R142). -/
def State.spwStartFails (s : State) (d : Nat) : Bool :=
  s.bb 9 = 0 || s.bb 10 = 0 || s.bbPitch = 0 || s.bb 13 = 0 || s.bb 10 ≤ s.bb 9 || s.blockState (.lnp (2 * d)) != 0 ||
    s.blockState (.lnp (2 * d + 1)) != 0

/-- A lane group of a pacer's bar is down (R145). -/
def State.groupOut (s : State) (p : Nat) : Bool :=
  s.boot.downGroups.any (fun g => g / 8 = p / 2 && (s.imageFor (.bar p)).groupPacer (p / 2) (g % 8) = some (p % 2))

/-- A start of a block fails, by the rule of its chapter. -/
def State.startFails (s : State) (b : Block) : Bool :=
  match b with
  | .spw d => s.spwStartFails d
  | .tkl _ => s.bb 6 = 0 || s.bb 10 = 0 || s.bb 10 ≤ s.bb 6
  | .ring q => s.ringStartFails q
  | .zip d => s.noMem d
  | .ras p => s.noBar p || s.noMem (p / 2) || 2 ^ s.rd (F.RAS_DL_DEPTH (p / 2) (p % 2)) < s.leadEff p + 2
  | .lnp p => s.noBar p || s.groupOut p || s.blockState (.spw (p / 2)) != 0 || s.blockState (.ras p) = 0 || s.blockState (.ras p) = 3
  | .lan _ => false
  | .cam d => s.camStartFails d
  | .mot a => s.axisStartFails a
  | .fbk _ => false
  | .emu x =>
    let num := s.rd (F.FBK_EMU_NUM_VALUE (x / 2) (x % 2))
    8 < s.rd (F.FBK_EMU_CTL_SRC (x / 2) (x % 2)) || num = 0 || s.rd (F.FBK_EMU_DEN_VALUE (x / 2) (x % 2)) < num
  | .led _ => false
  | .eng e => (s.engineRole (e / 12) (e % 12)).isNone || (e % 12 = 11 && s.on (F.ENG_SPARE_SPARE_EN (e / 12))) ||
    tget? s.eng.sparedBy (e / 12) == some (e % 12)
  | .trg k => s.trgStartFails k
  | .hlth => false
  | .cal => false
  | .disp => s.dispStartFails

/-- What a start finds out as it runs fails it: two balls shorted on an LED chain (R602), a link of the display that cannot carry the
mode (R613), a delay line that cannot be allocated (R280). -/
def State.foundFails (s : State) (b : Block) (found : List Nat) : Bool :=
  match b with
  | .led c => ledShort c found
  | .ras _ => !found.isEmpty
  | .disp => !s.dispTrained found
  | _ => false

/-- What is recorded beside the start failure. -/
def State.foundEvent (s : State) (b : Block) (found : List Nat) : State :=
  match b with
  | .led c => s.ledPinShort c (found.getD 0 0) (found.getD 1 0)
  | .disp => s.dispLinkFail
  | _ => s

/-- A group that has not come up is down, until it does or the next structure retrains it; DEGRADED tells whether any is (R145, R150). -/
def State.groupDown (s : State) (g : Nat) (down : Bool) : State :=
  let rest := s.boot.downGroups.filter (fun h => h != g)
  let l := if down then rest ++ [g] else rest
  (s.onBoot fun x => { x with downGroups := l }).wr F.BOOT_STAT_DEGRADED (nat !l.isEmpty)

/-- A start fails (R38, R40). A group that fails during bring-up records 0x0108 and is down (R145, R356); a pacer that waits for its
raster pipeline fails with it (R338). -/
def State.abandonStart (s : State) (b : Block) : State :=
  match b with
  | .lan g =>
    let d := g / 8
    let s := s.wr (F.LAN_GSTAT_LINK d (g % 8)) 0
    if s.rd F.BOOT_STAT_STAGE = 7 then (s.failStart b).groupDown g true
    else
      let s := ((s.setBlockState b 0).wr (blockFld b 6 1) 1).wr (blockFld b 2 1) 0
      (s.event d 0x0108 [d, g]).groupDown g true
  | .ras p =>
    let s := s.failStart b
    if s.blockState (.lnp p) = 1 then s.failStart (.lnp p) else s
  | .disp => (s.wr F.DISP_STAT_LINK 0).failStart b
  | _ => s.failStart b

/-- A start begins. -/
def State.startBegins (s : State) (b : Block) : State :=
  match b with
  | .lan g => s.wr (F.LAN_GSTAT_LINK (g / 8) (g % 8)) 0
  | .cam d => s.camStart d
  | .disp => s.dispStarting
  | _ => s

/-- Begins a start (R38): it fails at once when its chapter says so. -/
def State.beginStart (s : State) (b : Block) : State :=
  if s.startFails b then s.abandonStart b else (s.setBlockState b 1).startBegins b

/-- The start can complete now: a pacer waits for its raster pipeline (R338), a group for UP with an identity (R356), a camera for the
CCI master (R392). -/
def State.startReady (s : State) (b : Block) : Bool :=
  match b with
  | .lnp p => s.blockState (.ras p) != 1
  | .lan g => s.rd (F.LAN_GSTAT_LINK (g / 8) (g % 8)) = 4 && s.on (F.LAN_GSTAT_IDV (g / 8) (g % 8))
  | .cam d => (s.cam d).cci.isNone
  | _ => true

/-- A raster pipeline starts (R280): its records are NOFIRE, and it begins lines from the next begin point. -/
def State.rasStarted (s : State) (p : Nat) : State :=
  let next : Int := (s.dieLine (p / 2) : Int) - s.delay (.bar p) + s.leadEff p + 1
  ((s.setRaster p { s.raster p with next := next, recs := [], judged := none, wasLate := false, missing := [] }).judgeClamp p)

/-- The web of a die is lost for a pacer (R330): WEB_LOST, 0x080D and source 30. -/
def State.webLost (s : State) (p : Nat) : State :=
  ((s.setPacer p { s.pacer p with loss := .lost }).event (p / 2) 0x080D [p % 2]).causeAt (p / 2) 30

/-- A pacer that starts while LOS of its die's WEB is set is in WEB_LOST (R330). -/
def State.loseAtStart (s : State) (p : Nat) : State :=
  if s.on (F.FBK_STAT_LOS (p / 2) 4) && (s.pacer p).loss != .lost then s.webLost p else s

/-- A line pacer starts (R338): the band is NORMAL, and triggers come from the next die line. -/
def State.pacerStarted (s : State) (p : Nat) : State :=
  let d := p / 2
  let s := s.wr (F.LNP_STAT_BAND d (p % 2)) 0
  let s := s.setPacer p { s.pacer p with
    acc := 0, gap := 0, stepLine := 0, step := .fire, omitted := 0, nofired := 0, diverged := none }
  (List.range 8).foldl (fun s i =>
    let g := 8 * d + i
    if s.groupPacer g = p then s.triggersFrom g (s.dieLine d) else s) (s.loseAtStart p)

/-- A line pacer stops (R338): the pending strobes that fall within 10 microseconds stay, and the rest are withdrawn. -/
def State.pacerStopping (s : State) (p : Nat) : State :=
  (List.range 8).foldl (fun s i =>
    let g := 8 * (p / 2) + i
    if s.groupPacer g != p then s
    else
      let x := s.group g
      match x.pend with
      | none => s
      | some b => if b.placed.any (fun f => f ≤ 2 * (s.clk + usTicks 10)) then s else s.setGroup g x.withoutStrobe) s

/-- No strobe of a pacer's groups is pending. -/
def State.pacerIdle (s : State) (p : Nat) : Bool :=
  (List.range 8).all (fun i => s.groupPacer (8 * (p / 2) + i) != p || (s.group (8 * (p / 2) + i)).pend.isNone)

/-- A group's LAN stops (R355): its lanes go idle, LINK is OFF and its identity is lost; a host read of its adapter ends with LINK. -/
def State.lanStopping (s : State) (g : Nat) : State :=
  let d := g / 8
  let i := g % 8
  let s := ((s.setLink g 0).wr (F.LAN_GSTAT_IDV d i) 0).wr (F.LNP_HRANK_RANK d i) 0
  let s := s.setGroup g { s.group g with reading := false, mismatch := none, retryAt := 0 }
  let s := if s.grpState g = 1 then s.setGrpState g 0 else s
  match tget? s.press.reads d with
  | some r =>
    if r.group = i then ((s.wr (F.LAN_MRD_STAT_BUSY d) 0).wr (F.LAN_MRD_STAT_RESULT d) 2).onPress fun q => { q with reads := tdel q.reads d }
    else s
  | none => s

/-- An F input starts (R304, R620): count, fraction and history are 0; a single-ended line, as the receiver finds it, clears LOS. -/
def State.inputStarted (s : State) (f : Nat) (single : Bool) : State :=
  let x := s.input f
  let s := s.setInput f { x with
    count := 0, hist := [], still := true, back := false, hold := false, kept := 0, valid := none, frozen := none, single := single }
  if single then s.wr (F.FBK_STAT_LOS (f / 5) (f % 5)) 0 else s

/-- The stop of an F input freezes its position, and its speed is 0 (R304). -/
def State.inputStopping (s : State) (f : Nat) : State :=
  let x := s.input f
  s.setInput f { x with frozen := some (x.position s.clk), hist := [], hold := false }

/-- Claims run from the first page whose gap the datum has not begun (R424). -/
def State.nextClaimPage (s : State) : Nat := s.boundaryFrom (s.pkgLine + 1)

/-- A start has completed: the block runs. -/
def State.startDone (s : State) (b : Block) (found : List Nat) : State :=
  match b with
  | .spw d => s.setSpw d ⟨s.webCount d, s.webCount d, 0, none, false, false, false, 0⟩
  | .tkl _ => s
  | .ring q => s.ringStarted q
  | .zip _ => s
  | .ras p => s.rasStarted p
  | .lnp p => s.pacerStarted p
  | .lan g => s.groupDown g false
  | .cam d => s.camStarted d
  | .mot a => s.axisStarted a
  | .fbk f => s.inputStarted f (found.contains 1)
  | .emu x => s.setEmu x { (s.emu x).withBacklog 0 s.clk with acc := 0, pos := 0, emitted := 0 }
  | .led c => s.ledStarted c
  | .eng e =>
    let role := (s.engineRole (e / 12) (e % 12)).getD 0
    ((s.wr (F.ENG_STAT_ROLE (e / 12) (e % 12)) (min role 15)).runsFromNow (e / 12) (e % 12)).assignPending
  | .trg k => s.trgStarted k
  | .hlth => s.onEye fun e => { e with checking := true, since := s.nextClaimPage, upTo := none }
  | .cal => s
  | .disp => s.dispUp found

/-- A stop begins, with its flush. -/
def State.stopBegins (s : State) (b : Block) : State :=
  match b with
  | .ring q => (s.returnWork q).ringStopping q
  | .zip d => s.zipStopping d
  | .lnp p => s.pacerStopping p
  | .lan g => s.lanStopping g
  | .led c => s.ledStopping c
  | .cam d => s.onCam d fun c => { c with stopAt := s.clk }
  | .fbk f => s.inputStopping f
  | .hlth => s.onEye fun e => { e with upTo := some s.nextClaimPage, verdicts := [] }
  | .cal => s.cancelRuns
  | .disp => s.dispDown
  | _ => s

/-- The stop can complete now: what the block flushes is out. -/
def State.stopReady (s : State) (b : Block) : Bool :=
  match b with
  | .ring q => s.ringIdle q
  | .lnp p => s.pacerIdle p
  | .cam d => (s.cam d).frame.isNone
  | .mot a => (s.axis a).v = 0 && (s.axis a).out = (s.axis a).p
  | .emu x => (s.emu x).backlog = 0
  | .led c => !(s.chain c).dark && (s.chain c).out.all (fun t => t ≤ s.clk)
  | _ => true

/-- A stop has completed. -/
def State.stopDone (s : State) (b : Block) : State :=
  match b with
  | .ring q => s.ringStopped q
  | .cam d => s.camStopped d
  | .emu x => s.setEmu x { s.emu x with a := false, b := false, z := false, pulse := (0, 0) }
  | .lnp p => s.onGroups (p / 2) fun i x => if s.groupPacer (8 * (p / 2) + i) = p then { x with sent := [], sentNofire := true } else x
  | .disp => s.releaseShown.onDisp fun d => { d with arrived := [] }
  | _ => s

/-- What a stop leaves unflushed when its bound is exceeded is discarded, and counted where the block counts it (R38). -/
def State.stopDiscards (s : State) (b : Block) : State :=
  match b with
  | .lnp p => s.onGroups (p / 2) fun i x => if s.groupPacer (8 * (p / 2) + i) = p then x.withoutStrobe else x
  | .cam d =>
    let n := match (s.cam d).frame with
      | some o => o.lines.length
      | none => 0
    (s.incBy (F.CAM_DROP_LINES d) n).onCam d fun c => { c with frame := none }
  | .mot a => s.axisHalt a
  | .emu x =>
    let e := s.emu x
    (s.incBy (F.FBK_EMU_DROP_COUNT (x / 2) (x % 2)) e.backlog.natAbs).setEmu x (e.withBacklog 0 s.clk)
  | _ => s

/-- The control field of WEB reads EN 1 and STATE ON at all times (R304). -/
def alwaysOn (b : Block) : Bool :=
  match b with
  | .fbk f => f % 5 = 4
  | _ => false

/-- An EN request (R36 to R38). -/
def State.enWrite (s : State) (b : Block) (en : Bool) : State :=
  if alwaysOn b then s
  else
    let s := s.wr (blockFld b 0 1) (nat en)
    match s.blockState b with
    | 0 => if en then s.beginStart b else s
    | 1 => s.wr (blockFld b 2 1) (nat !en)
    | 2 => if en then s else (s.setBlockState b 3).stopBegins b
    | _ => s.wr (blockFld b 1 1) (nat en)

/-- A start completes, with what it has found (R38). -/
def State.completeStart (s : State) (b : Block) (found : List Nat) : State :=
  if s.blockState b != 1 || !s.startReady b then s
  else if s.startFails b then s.abandonStart b
  else if s.foundFails b found then (s.foundEvent b found).abandonStart b
  else
    let s := (s.setBlockState b 2).startDone b found
    if s.on (blockFld b 2 1) then ((s.wr (blockFld b 2 1) 0).setBlockState b 3).stopBegins b else s

/-- A block that has stopped is OFF, or starts again with PEND_EN (R38). -/
def State.afterStop (s : State) (b : Block) : State :=
  let s := (s.setBlockState b 0).stopDone b
  if s.on (blockFld b 1 1) then (s.wr (blockFld b 1 1) 0).beginStart b else s

/-- A shut-down completes with its flush (R38). -/
def State.completeStop (s : State) (b : Block) : State :=
  if s.blockState b != 3 || !s.stopReady b then s else s.afterStop b

/-- A stop exceeds its bound (R38, R40). -/
def State.stopTimeout (s : State) (b : Block) : State :=
  if s.blockState b != 3 then s
  else
    let s := (s.stopDiscards b).wr (blockFld b 7 1) 1
    (s.event (blockDie b) (0x100 * (blockInfo b).2.1 + 0xF1) (blockPayload b)).afterStop b

/-- The index of a block is one that the spec numbers, on a fitted die. -/
def State.blockFitted (s : State) (b : Block) : Bool :=
  decide (blockDie b < s.dies) && (match b with
    | .trg k => decide (k < 16)
    | _ => true)

end Sys2Proof.Machine
end

