-- ==== Sys2Proof/Machine/ImageOps.lean ====
section
/-! DEFINITION. The structure image: its header, its sections, what each section gives, and the rules it is held to (R88 to R105,
R119, R646). A breach is an error code of R119 with the word of the image at which it lies. -/

namespace Sys2Proof.Machine

open Sys2Proof

/-- A section of an image (R93): its index, the offset of its word 0, TYPE, DIE_MASK and its body. -/
structure Sec where
  idx : Nat
  start : Nat
  type : Nat
  mask : Nat
  body : List Nat
  deriving DecidableEq, Repr

/-- The sections that words hold from the first section on; `n` bounds their number. -/
def sectionsFrom (n idx start : Nat) (ws : List Nat) : List Sec :=
  match n with
  | 0 => []
  | k + 1 =>
    match ws with
    | w0 :: w1 :: len :: r =>
      ⟨idx, start, w0 % 256, w1 % 256, r.take len⟩ :: sectionsFrom k (idx + 1) (start + 5 + len) (r.drop (len + 2))
    | _ => []

/-- The words received, in order. -/
def Loader.image (l : Loader) : List Nat := l.words.reverse

/-- A word received. -/
def Loader.word (l : Loader) (n : Nat) : Nat := l.words.getD (l.words.length - 1 - n) 0

/-- The sections received. -/
def Loader.sections (l : Loader) : List Sec := sectionsFrom 4096 0 16 (l.image.drop 16)

/-- Entries of `n` words of a section's body, each with its offset in the image. -/
def entriesOf (n start : Nat) (ws : List Nat) : List (Nat × List Nat) :=
  (List.range (ws.length / n)).map (fun i => (start + n * i, (ws.drop (n * i)).take n))

/-- Entries of the body of a section. -/
def Sec.entries (x : Sec) (n : Nat) : List (Nat × List Nat) := entriesOf n (x.start + 3) x.body

/-- Dies of a mask. -/
def maskDies (m : Nat) : List Nat := (List.range 8).filter (bit m)

/-- The CRC-32 of words as the two words that hold it (R91). -/
def crcWords (ws : List Nat) : List Nat :=
  let c := crc32 (wordBytes ws)
  [c % 2 ^ 24, c / 2 ^ 24]

/-! What a section gives the structure. -/

/-- The entries of an image that is being overlaid do not count as the overlay's own (R117). -/
def Image.unplaced (m : Image) : Image :=
  let one (t : Tab Ent) : Tab Ent := t.map (fun e => (e.1, { e.2 with sec := 0, off := 0 }))
  let run (t : Tab Ents) : Tab Ents := t.map (fun e => (e.1, { e.2 with sec := 0, off := 0 }))
  { m with
    lanes := one m.lanes, heads := run m.heads, geoms := run m.geoms, classes := run m.classes, eq := one m.eq
    bars := m.bars.map (fun e => { e with sec := 0, off := 0 }) }

/-- The number that the registers of a package-uniform field share: RAS_GEOM and RAS_ROW_c of every die (R104). -/
def uniformAt (a : Nat) : Option Nat :=
  match addrDie a with
  | none => none
  | some _ =>
    let off := a % 0x10000
    if addrBlock a = 2 && (off = 0x28 || (0x80 ≤ off && off < 0xC0)) then some (a % 0x100000) else none

/-- Two pairs of a DEFAULTS section give the same field. -/
def samePlace (a b : Nat) : Bool := a = b || ((uniformAt a).isSome && uniformAt a = uniformAt b)

/-- A pair of DEFAULTS is for a die of a mask: the registers of the package are D0's, and a package-uniform field is every die's (R104). -/
def pairFor (mask a : Nat) : Bool := (uniformAt a).isSome || bit mask ((addrDie a).getD 0)

/-- Adds what a section gives to the structure (R646, R96 to R105): each die of its DIE_MASK receives it (R110). What one die alone uses is
kept for that die: bars and cameras, rings, sources, registers, classes and policies; heads are sorted out when the image is whole. Of entries
that name one thing twice the later prevails (DEDUCED, notes/assumptions/127). -/
def Image.accept (m : Image) (x : Sec) : Image :=
  let perDie (k : Nat) (t : Tab Ent) : Tab Ent :=
    (maskDies x.mask).foldl (fun t d => (x.entries 2).foldl (fun t e => tset t (k * d + e.2.getD 0 0) ⟨e.2.getD 1 0, x.idx, e.1⟩) t) t
  let perClass (t : Tab Ents) : Tab Ents :=
    (maskDies x.mask).foldl (fun t d => tset t (256 * d + x.body.headD 0) ⟨x.body.drop 1, x.idx, x.start + 3⟩) t
  match x.type with
  | 0x01 => { m with board := x.body }
  | 0x02 => { m with lanes := perDie 72 m.lanes }
  | 0x03 => { m with heads := (x.entries 3).zipIdx.map (fun (e, h) => (h, ⟨e.2, x.idx, e.1⟩)) }
  | 0x04 => { m with geoms := perClass m.geoms }
  | 0x05 => { m with classes := perClass m.classes }
  | 0x06 =>
    let die (w : Nat) : Nat := if bit w 21 then bits w 0 3 else bits w 1 4
    { m with bars := ((x.entries 2).filter (fun e => bit x.mask (die (e.2.getD 0 0)))).map (fun e => ⟨e.2, x.idx, e.1⟩) }
  | 0x07 => { m with eq := perDie 80 m.eq }
  | 0x08 => { m with routes := (maskDies x.mask).map (fun d => (d, x.body)) ++ m.routes.filter (fun r => !bit x.mask r.1) }
  | 0x09 => { m with rings := ((x.entries 2).filter (fun e => bit x.mask (bits (e.2.getD 0 0) 8 8 / 32))).flatMap (·.2) }
  | 0x0A => { m with irqmap := ((x.entries 3).filter (fun e => bit x.mask ((e.2.headD 0) / 256))).foldl (fun l e =>
      l.filter (fun y => y.headD 0 != e.2.headD 0) ++ [e.2]) m.irqmap }
  | 0x0B => { m with policy := (maskDies x.mask).foldl (fun t d =>
      (x.entries 2).foldl (fun t e => tset t (4096 * d + e.2.getD 0 0) (e.2.getD 1 0)) t) m.policy }
  | 0x0C => { m with fware := m.fware ++ [[x.mask, x.body.getD 0 0, x.body.getD 1 0] ++ (x.body.drop 3).take (x.body.getD 2 0)] }
  | 0x0D => { m with defaults := ((x.entries 2).filter (fun e => pairFor x.mask (e.2.getD 0 0))).foldl (fun l e =>
      l.filter (fun y => !samePlace y.1 (e.2.getD 0 0)) ++ [(e.2.getD 0 0, e.2.getD 1 0)]) m.defaults }
  | _ => m

/-- The heads of a structure when the image is whole: the dies of the HEADMAP section's mask hold its entries, and the others those of the
structure before; a head is its bar's die's (R110). -/
def Image.maskHeads (m before : Image) (mask : Nat) : Image :=
  let die (e : Ents) : Nat := (m.pacerOf (bits (e.ws.getD 0 0) 4 4)).getD 0 / 2
  let kept := before.heads.filter (fun e => bit (e.2.ws.getD 0 0) 23 && !bit mask (die e.2))
  { m with heads := (m.heads.filter (fun e => bit mask (die e.2) && !kept.any (fun k => k.1 = e.1))) ++ kept }

/-! Rules on one section. -/

/-- A breach when a condition holds. -/
def breach (c : Bool) (err word : Nat) : Option (Nat × Nat) := if c then some (err, word) else none

/-- The first breach of a list. -/
def firstOf (l : List (Option (Nat × Nat))) : Option (Nat × Nat) := (l.filterMap id).head?

/-- BOARD (R646). -/
def boardFault (dies : Nat) (x : Sec) : Option (Nat × Nat) :=
  let w (n : Nat) : Nat := x.body.getD n 0
  let at' (n : Nat) : Nat := x.start + 3 + n
  firstOf [breach (x.body.length != 6) 11 (x.start + 2), breach (w 0 != dies) 11 (at' 0), breach (w 1 != 0) 11 (at' 1),
    breach (16 ≤ w 2) 11 (at' 2), breach (w 4 = 0) 11 (at' 4), breach (512 ≤ w 5 || w 5 % 256 = 0) 11 (at' 5)]

/-- LANEMAP (R96). A lane named twice is out of range (DEDUCED, notes/assumptions/128). -/
def lanemapFault (full : Bool) (x : Sec) : Option (Nat × Nat) :=
  let es := x.entries 2
  let lanes := es.map (fun e => e.2.getD 0 0)
  firstOf ([breach (x.body.length % 2 != 0) 11 (x.start + 2)] ++
    (es.zipIdx.map fun (e, i) =>
      let l := e.2.getD 0 0
      let v := e.2.getD 1 0
      breach (72 ≤ l || (lanes.take i).contains l || v % 32 != 0 || (l < 64 && bits v 5 4 != 0)) 11 e.1) ++
    [breach (full && lanes.length != 72) 11 (x.start + 2)])

/-- HEADMAP (R98). -/
def headmapFault (x : Sec) : Option (Nat × Nat) :=
  firstOf ([breach (x.body.length % 3 != 0 || 768 < x.body.length) 11 (x.start + 2)] ++
    ((x.entries 3).map fun e =>
      let w := e.2.getD 0 0
      breach (if bit w 23 then bits w 16 7 != 0 else e.2.any (· != 0)) 11 e.1))

/-- GEOM (R99): a class and every slot of each of up to 64 segments. -/
def geomFault (x : Sec) : Option (Nat × Nat) :=
  let n := x.body.length - 1
  firstOf ([breach (n = 0 || n % 2048 != 0 || 64 * 2048 < n) 11 (x.start + 2), breach (256 ≤ x.body.headD 0) 11 (x.start + 3)] ++
    ((x.body.drop 1).zipIdx.map fun (w, i) => breach (bits w 16 6 != 0) 11 (x.start + 4 + i)))

/-- CLASS (R100). -/
def classFault (x : Sec) : Option (Nat × Nat) :=
  let w (n : Nat) : Nat := x.body.getD n 0
  let at' (n : Nat) : Nat := x.start + 3 + n
  firstOf [breach (x.body.length != 11) 11 (x.start + 2), breach (256 ≤ w 0) 11 (at' 0), breach (w 2 < 200) 11 (at' 2),
    breach (8000 < w 3) 11 (at' 3), breach (bits (w 4) 3 5 != 0) 11 (at' 4)]

/-- BARS (R101). A bar that the variant does not have is out of range (R11; DEDUCED, notes/assumptions/125). -/
def barsFault (dies : Nat) (x : Sec) : Option (Nat × Nat) :=
  let es := x.entries 2
  let cam (w : Nat) : Bool := bit w 21
  let datums := es.filter (fun e => bit (e.2.getD 0 0) 22)
  firstOf ([breach (x.body.length % 2 != 0) 11 (x.start + 2)] ++
    (es.zipIdx.map fun (e, i) =>
      let w := e.2.getD 0 0
      let before := (es.take i).map (fun e => e.2.getD 0 0)
      breach (!bit w 23 ||
        (if cam w then bit w 22 || bits w 3 18 != 0 || dies ≤ bits w 0 3 || before.any (fun v => cam v && bits v 0 3 = bits w 0 3)
         else bits w 12 9 != 0 || bits w 5 3 != 0 || dies ≤ bits w 1 4 || 2 * dies ≤ bits w 8 4 || before.any cam ||
           before.any (fun v => bits v 8 4 = bits w 8 4 || bits v 0 5 = bits w 0 5) || (bit w 22 && e.2.getD 1 0 != 0))) 11 e.1) ++
    [breach (datums.length != 1) 11 ((datums.getLast?.map (·.1)).getD (x.start + 3))])

/-- EQ (R102, R346). -/
def eqFault (x : Sec) : Option (Nat × Nat) :=
  firstOf ([breach (x.body.length % 2 != 0) 11 (x.start + 2)] ++
    ((x.entries 2).map fun e =>
      let l := e.2.getD 0 0
      let v := e.2.getD 1 0
      breach (80 ≤ l || bits v 18 6 != 0 || 16 < bits v 5 5 || 24 < bits v 10 5 || 2 < bits v 15 3 || (72 ≤ l && bits v 5 10 != 0)) 11 e.1))

/-- RINGS (R171). -/
def ringsFault (dies : Nat) (x : Sec) : Option (Nat × Nat) :=
  let es := x.entries 2
  firstOf ([breach (x.body.length % 2 != 0) 11 (x.start + 2)] ++
    (es.zipIdx.map fun (e, i) =>
      let w := e.2.getD 0 0
      let v := e.2.getD 1 0
      breach (!bit w 23 || bits w 16 4 != 0 || bits w 5 3 != 0 || bits w 20 3 = 3 || bits w 20 3 = 7 || bits w 0 5 < 4 || 16 < bits w 0 5 ||
        32 * dies ≤ bits w 8 8 || (es.take i).any (fun y => bits (y.2.getD 0 0) 8 8 = bits w 8 8) || 512 ≤ v ||
        (bit v 8 && 32 * dies ≤ v % 256)) 11 e.1))

/-- IRQMAP (R473, R475). -/
def irqmapFault (dies : Nat) (x : Sec) : Option (Nat × Nat) :=
  firstOf ([breach (x.body.length % 3 != 0) 11 (x.start + 2)] ++
    ((x.entries 3).map fun e =>
      let g := e.2.getD 0 0
      breach (2048 ≤ g || 192 ≤ g % 256 || dies ≤ g / 256 || 2 ^ 20 ≤ e.2.getD 1 0 || 4096 ≤ e.2.getD 2 0) 11 e.1))

/-- The range of a policy entry: table and entry, lowest and highest value (R103); the entries that bound each other are judged
together. -/
def policyRange (key : Nat) : Option (Nat × Nat) :=
  match key with
  | 0x100 => some (922, 1126)
  | 0x101 => some (1035, 1536)
  | 0x102 => some (820, 1024)
  | 0x103 => some (5, 64)
  | 0x104 => some (0, 15)
  | 0x105 => some (0, 1)
  | 0x200 => some (1, 255)
  | 0x201 => some (1, 8)
  | 0x202 => some (1, 8)
  | 0x203 => some (0, 1)
  | 0x300 => some (5, 200)
  | 0x400 => some (40, 90)
  | 0x401 => some (45, 105)
  | 0x500 => some (1, 1000000)
  | _ => none

/-- POLICY (R103). A body of odd length is out of range (DEDUCED, notes/assumptions/128). -/
def policyFault (x : Sec) : Option (Nat × Nat) :=
  firstOf ([breach (x.body.length % 2 != 0) 11 (x.start + 2)] ++
    ((x.entries 2).map fun e =>
      let v := e.2.getD 1 0
      breach (match policyRange (e.2.getD 0 0) with
        | none => true
        | some (lo, hi) => v < lo || hi < v) 12 e.1))

/-- FWARE (R105): class, engine mask, length, code, and 22 words of signature. A malformed body is out of range (DEDUCED,
notes/assumptions/128). -/
def fwareFault (x : Sec) : Option (Nat × Nat) :=
  firstOf [breach (x.body.length < 25 || x.body.getD 2 0 + 25 != x.body.length) 11 (x.start + 2),
    breach (4096 ≤ x.body.getD 1 0) 11 (x.start + 4)]

/-- The SI fields of the register at an address. -/
def siFields (a : Nat) : List FDesc := (fieldsAt a).filter (·.si)

/-- DEFAULTS (R33, R89, R104, R452). -/
def defaultsFault (full : Bool) (dies : Nat) (x : Sec) : Option (Nat × Nat) :=
  let es := x.entries 2
  firstOf ([breach (x.body.length % 2 != 0) 11 (x.start + 2)] ++
    (es.zipIdx.map fun (e, i) =>
      let a := e.2.getD 0 0
      let v := e.2.getD 1 0
      let fs := siFields a
      let inside := fs.foldl (fun n f => n + bits v f.lo f.width * 2 ^ f.lo) 0
      if 0xA0000 ≤ a && a < 0xB0000 then some (19, e.1)
      else breach (fs.isEmpty || inside != v || (match addrDie a with
          | none => false
          | some d => dies ≤ d) ||
        fs.any (fun f => f.from v != bits v f.lo f.width) ||
        (a = 0x20 && (bits v 2 2 = 3 || (bits v 2 2 = 1 && bit v 1))) ||
        ((addrDie a).isSome && addrBlock a = 6 && a % 0x10000 < 0x200 && a % 0x80 = 0x24 && (bits v 4 4 < bits v 0 4 || 8 < bits v 4 4)) ||
        (!full && addrDie a != none && a % 0x100000 = 0x80004) ||
        (es.take i).any (fun y => samePlace (y.2.getD 0 0) a && y.2.getD 1 0 != v)) 11 e.1))

/-- The rules that the body of a section is held to. -/
def sectionFault (full : Bool) (dies : Nat) (x : Sec) : Option (Nat × Nat) :=
  match x.type with
  | 0x01 => boardFault dies x
  | 0x02 => lanemapFault full x
  | 0x03 => headmapFault x
  | 0x04 => geomFault x
  | 0x05 => classFault x
  | 0x06 => barsFault dies x
  | 0x07 => eqFault x
  | 0x09 => ringsFault dies x
  | 0x0A => irqmapFault dies x
  | 0x0B => policyFault x
  | 0x0C => fwareFault x
  | 0x0D => defaultsFault full dies x
  | _ => none

/-! Rules on the whole structure. A breach carries the places of the entries concerned and the types of the sections whose change
can bring it about (R117). -/

/-- A breach of a rule that judges several entries: error, places of the entries as section and word, and types. -/
structure Clash where
  err : Nat
  places : List (Nat × Nat)
  types : List Nat
  deriving DecidableEq, Repr

/-- Place of an entry. -/
def Ent.place (e : Ent) : Nat × Nat := (e.sec, e.off)

/-- Place of the entry of a lane. -/
def Image.lanePlace (m : Image) (d l : Nat) : List (Nat × Nat) := ((tget? m.lanes (72 * d + l)).map Ent.place).toList

/-- Place of the entry of a head. -/
def Image.headPlace (m : Image) (h : Nat) : List (Nat × Nat) := ((tget? m.heads h).map (fun e => (e.sec, e.off))).toList

/-- Places of the sections of a class. -/
def Image.classPlace (m : Image) (c : Nat) : List (Nat × Nat) :=
  ((tget? m.classes c).map (fun e => (e.sec, e.off))).toList ++ ((tget? m.geoms c).map (fun e => (e.sec, e.off))).toList

/-- The latest entry of a policy table among sections. -/
def policyPlaces (xs : List Sec) (keys : List Nat) : List (Nat × Nat) :=
  (xs.filter (fun x => x.type = 0x0B)).flatMap (fun x => ((x.entries 2).filter (fun e => keys.contains (e.2.getD 0 0))).map (fun e => (x.idx, e.1)))

/-- Policy entries that bound each other (R103), on each die. -/
def Image.policyClashes (m : Image) (dies : Nat) (xs : List Sec) : List Clash :=
  (List.range dies).flatMap fun d =>
    (if m.pol d 0x202 < m.pol d 0x201 then [⟨12, policyPlaces xs [0x201, 0x202], [0x0B]⟩] else []) ++
      (if m.pol d 0x401 < m.pol d 0x400 + 5 then [⟨12, policyPlaces xs [0x400, 0x401], [0x0B]⟩] else [])

/-- The datum bar of BOARD is the one flagged in BARS (R646). -/
def Image.datumClashes (m : Image) (xs : List Sec) : List Clash :=
  (m.bars.filter (fun r => bit (r.ws.getD 0 0) 22 && bits (r.ws.getD 0 0) 8 4 != m.board.getD 2 0)).map (fun r =>
    ⟨11, (r.sec, r.off) :: (xs.filter (fun x => x.type = 0x01)).map (fun x => (x.idx, x.start + 5)), [0x01, 0x06]⟩)

/-- A fitted head names a bar in use and a class with its geometry (R98). -/
def Image.headClashes (m : Image) : List Clash :=
  m.heads.filterMap fun (h, _) => match m.head? h with
    | none => none
    | some e =>
      let segs := ((tget? m.geoms e.cls).map (fun g => g.ws.length / 2048)).getD 0
      if (m.pacerOf e.bar).isNone || (tget? m.classes e.cls).isNone || segs < e.segs then
        some ⟨11, m.headPlace h ++ m.classPlace e.cls, [0x03]⟩
      else none

/-- The lanes of a structure that carry a head segment: die, lane, head and segment. -/
def Image.segLanes (m : Image) : List (Nat × Nat × Nat × Nat) :=
  m.lanes.filterMap fun (k, e) => if bit e.w 23 then some (k / 72, k % 72, bits e.w 15 8, bits e.w 9 6) else none

/-- Lanes and heads agree (R97). -/
def Image.laneClashes (m : Image) (dies : Nat) : List Clash :=
  let segs := m.segLanes
  let twice := (segs.zipIdx.filterMap fun ((d, l, h, g), i) =>
    match (segs.take i).find? (fun y => y.2.2 = (h, g)) with
    | some y => some (Clash.mk 11 (m.lanePlace d l ++ m.lanePlace y.1 y.2.1) [0x02])
    | none => none)
  let inUse := (List.range dies).flatMap (fun d => (m.lanesOf d).map (fun l => (d, l)))
  let astray := (segs ++ inUse.map (fun (x : Nat × Lane) => (x.1, x.2.phys, x.2.head, x.2.seg))).filterMap
    fun (d, l, h, g) => match m.head? h with
      | none => some (Clash.mk 11 (m.lanePlace d l ++ m.headPlace h) [0x02, 0x03])
      | some e =>
        if ((m.pacerOf e.bar).map (· / 2)) != some d || e.segs ≤ g then
          some (Clash.mk 11 (m.lanePlace d l ++ m.headPlace h) [0x02, 0x03])
        else none
  let taken := inUse.filterMap fun (d, l) =>
    if l.phys < 64 then none
    else match tget? m.lanes (72 * d + l.addr) with
      | none => none
      | some e => if bit e.w 23 then some (Clash.mk 11 (m.lanePlace d l.phys ++ m.lanePlace d l.addr) [0x02]) else none
  twice ++ astray ++ taken

/-- The value that DEFAULTS gives the register of a package-uniform field, or 0. -/
def Image.uniform (m : Image) (off : Nat) : Nat := ((m.defaults.find? (fun p => uniformAt p.1 = some off)).map (·.2)).getD 0

/-- The pairs of a DEFAULTS section that give a package-uniform field. -/
def uniformPlaces (xs : List Sec) (off : Nat) : List (Nat × Nat) :=
  (xs.filter (fun x => x.type = 0x0D)).flatMap (fun x =>
    ((x.entries 2).filter (fun e => uniformAt (e.2.getD 0 0) = some off)).map (fun e => (x.idx, e.1)))

/-- The rules of a bar's nozzle map (R259). -/
def Image.mapClashes (m : Image) (xs : List Sec) : List Clash :=
  let xres := m.uniform 0x20028
  m.barList.flatMap fun (bar, p, _) =>
    let ns := m.nozzles (p / 2) bar xres
    let places (hs : List Nat) : List (Nat × Nat) :=
      hs.flatMap (fun h => m.headPlace h ++ ((m.head? h).map (fun e => m.classPlace e.cls)).getD []) ++
        ((m.lanesOf (p / 2)).filter (fun l => hs.contains l.head)).flatMap (fun l => m.lanePlace (p / 2) l.phys)
    let key (n : Nozzle) : Nat := (2 ^ 24 * n.row + n.pos) * 256 + n.head
    let sorted := sortBy (fun a b => decide (key a ≤ key b)) ns
    let next := sorted.zip (sorted.drop 1)
    let twice := next.filter (fun (a, b) => key a = key b)
    let three := (next.zip (sorted.drop 2)).filter (fun ((a, _), c) => a.row = c.row && a.pos = c.pos)
    let shared := (next.filter (fun (a, b) => a.row = b.row && a.pos = b.pos && a.head != b.head)).map (fun (a, b) => (a.row, a.head, b.head, a.pos))
    let broken := ((shared.map (fun z => (z.1, z.2.1, z.2.2.1))).eraseDups).filter fun z =>
      let ps := (shared.filter (fun y => (y.1, y.2.1, y.2.2.1) = z)).map (fun y => y.2.2.2)
      ps.foldl max 0 + 1 - ps.foldl min (ps.headD 0) != ps.length
    let heads := ((m.heads.map (·.1)).filter (fun h => (m.head? h).any (fun e => e.bar = bar)))
    let ty := [0x02, 0x03, 0x04, 0x0D]
    (twice.map (fun (a, _) => Clash.mk 11 (places [a.head]) ty)) ++
      (three.map (fun ((a, b), c) => Clash.mk 11 (places [a.head, b.head, c.head]) ty)) ++
      (broken.map (fun z => Clash.mk 11 (places [z.2.1, z.2.2]) ty)) ++
      ((ns.filter (fun n => 65536 ≤ n.pos)).map (fun n => Clash.mk 11 (places [n.head]) ty)) ++
      ((heads.filter (fun h => (m.head? h).any (fun e => 16 ≤ e.cls % 256))).map (fun h => Clash.mk 11 (m.headPlace h) [0x03])) ++
      (if xres < 300 || 2400 < xres then [Clash.mk 11 (uniformPlaces xs 0x20028) [0x0D]] else [])

/-- The heads of one group agree (R313). -/
def Image.groupClashes (m : Image) (dies : Nat) : List Clash :=
  (List.range (8 * dies)).filterMap fun g =>
    let ls := m.groupLanes (g / 8) (g % 8)
    let view (l : Lane) : Option (Nat × Nat × Int) := (m.head? l.head).map (fun e => (e.bar, e.cls, e.yOff % 256))
    match ls with
    | [] => none
    | a :: r =>
      if r.all (fun l => view l = view a) then none
      else some ⟨11, ls.flatMap (fun l => m.lanePlace (g / 8) l.phys ++ m.headPlace l.head), [0x02, 0x03]⟩

/-- Lane settings of a lane; a lane that no EQ section names is neutral (R102). -/
def Image.eqOf (m : Image) (d l : Nat) : Nat := ((tget? m.eq (80 * d + l)).map Ent.w).getD 24

/-- The baud rates of the rate sets, in Mbaud (R102). -/
def rateBaud (r : Nat) : Nat := [1250, 2500, 3125].getD r 1250

/-- One rate set to a group (R342), and frames that fit the fire period (R351). -/
def Image.rateClashes (m : Image) (dies : Nat) : List Clash :=
  (List.range (8 * dies)).flatMap fun g =>
    let d := g / 8
    let i := g % 8
    let ls := (List.range 8).map (8 * i + ·) ++ [64 + i, 72 + i]
    let places := ls.flatMap (fun l => ((tget? m.eq (80 * d + l)).map Ent.place).toList)
    let rate := bits (m.eqOf d (72 + i)) 15 3
    let mixed := if ls.all (fun l => bits (m.eqOf d l) 15 3 = rate) then [] else [Clash.mk 11 places [0x07]]
    let slow := ((m.groupLanes d i).filterMap (fun l => (m.head? l.head).map Head.cls)).eraseDups.filterMap fun c =>
      let w := m.classWord c 4
      let b := if bit w 2 then 4 else if bit w 1 then 2 else 1
      if m.classWord c 1 * rateBaud rate < (26 + 256 * b) * 4000 then
        some (Clash.mk 11 (places ++ m.classPlace c ++ (m.groupLanes d i).flatMap (fun l => m.lanePlace d l.phys ++ m.headPlace l.head)) [0x05, 0x07])
      else none
    mixed ++ slow

/-- Every breach of the rules that judge entries together. -/
def Image.clashes (m : Image) (dies : Nat) (xs : List Sec) : List Clash :=
  m.policyClashes dies xs ++ m.datumClashes xs ++ m.headClashes ++ m.laneClashes dies ++ m.mapClashes xs ++ m.groupClashes dies ++ m.rateClashes dies

/-- The place of a breach (R117): the latest entry concerned that the image carries, else word 0 of its section of such a type. -/
def Clash.place (c : Clash) (xs : List Sec) : Nat × Nat :=
  let p := c.places.foldl (fun b e => if b.2 < e.2 then e else b) (0, 0)
  if p.2 != 0 then p
  else (((xs.filter (fun x => c.types.contains x.type)).getLast?).map (fun x => (x.idx, x.start))).getD (0, 0)

/-! Comparing structures. -/

/-- What a structure gives a bar: its lanes, its head entries, and the classes and geometries of its heads. -/
def Image.barView (m : Image) (bar : Nat) :
    List (Nat × Nat × Nat × Nat) × List (Nat × List Nat) × List (Nat × List Nat) × List (Nat × List Nat) :=
  let mine := m.heads.filter (fun e => (m.head? e.1).any (fun h => h.bar = bar))
  let cls := mine.filterMap (fun e => (m.head? e.1).map Head.cls)
  let d := ((m.pacerOf bar).getD 0) / 2
  (((m.lanesOf d).filter (fun l => mine.any (fun e => e.1 = l.head))).map (fun l => (l.phys, l.addr, l.head, l.seg)),
   mine.map (fun e => (e.1, e.2.ws)),
   (m.classes.filter (fun e => cls.contains e.1)).map (fun e => (e.1, e.2.ws)),
   (m.geoms.filter (fun e => cls.contains e.1)).map (fun e => (e.1, e.2.ws)))

/-- What a camera that owns positions `lo` to `hi` decodes on a bar (R402): position, row and head of the nozzles there, whatever lane carries
them. -/
def Image.ownView (m : Image) (bar p xres lo hi : Nat) : List Nat :=
  let ns := (m.nozzles (p / 2) bar xres).filter (fun n => decide (lo ≤ n.pos ∧ n.pos ≤ hi))
  sortBy (fun a b => decide (a ≤ b)) (ns.map (fun n => (2 * n.pos + n.row) * 256 + n.head))

end Sys2Proof.Machine
end

