-- ==== Sys2Proof/Machine/LoaderOps.lean ====
section
/-! DEFINITION. The structure loader (R107 to R118): opening a source, taking words, verifying, storing, switching the banks, and
overlays. -/

namespace Sys2Proof.Machine

open Sys2Proof

/-- Changes the loader. -/
def State.onLd (s : State) (f : Loader → Loader) : State := { s with ld := f s.ld }

/-- State of the loader (R118): 0 IDLE, 1 RECEIVING, 2 VERIFYING, 3 PENDING, 4 APPLYING, 5 STORING. -/
def State.loaderState (s : State) : Nat := s.rd F.STRUCT_STAT_STATE

/-- Changes it. -/
def State.setLoader (s : State) (v : Nat) : State := s.wr F.STRUCT_STAT_STATE v

/-- An overlay is pending. -/
def State.overlayPending (s : State) : Bool := s.rd F.STRUCT_PEND_CID_VALUE != 0

/-- A load is in progress. -/
def State.loading (s : State) : Bool := s.loaderState != 0 && s.loaderState != 3

/-- The state in which the loader rests: PENDING while an overlay is pending, else IDLE. -/
def State.loaderRest (s : State) : State :=
  (s.setLoader (if s.overlayPending then 3 else 0)).onLd fun l =>
    { l with words := [], inbox := [], seen := [], share := [], incoming := Image.empty }

/-! Stages (R133). -/

/-- A die is present (R145). -/
def State.present (s : State) (d : Nat) : Bool := bit (s.rd F.BOOT_DIE_STAT_PRESENT) d

/-- The present dies. -/
def State.presentDies (s : State) : List Nat := (List.range s.dies).filter s.present

/-- BOOT_STAT.STAGE is the lowest stage of the present dies (R133). -/
def State.packStage (s : State) : State :=
  let st := s.presentDies.map (fun d => s.rd (F.DIE_STAT_STAGE d))
  s.wr F.BOOT_STAT_STAGE (st.foldl min (st.headD (s.rd F.BOOT_STAT_STAGE)))

/-- A die enters a stage. -/
def State.setStage (s : State) (d n : Nat) : State := (s.wr (F.DIE_STAT_STAGE d) n).packStage

/-- Every present die enters a stage. -/
def State.setStages (s : State) (n : Nat) : State :=
  (s.presentDies.foldl (fun s d => s.wr (F.DIE_STAT_STAGE d) n) s).packStage

/-- The rows of R127 that have failed: FAIL, and FAIL_STEP with the first of them (R145, R146). -/
def State.setFailed (s : State) (rows : List Nat) : State :=
  let s := (s.onBoot fun b => { b with failed := rows }).wr F.BOOT_STAT_FAIL (nat !rows.isEmpty)
  s.wr F.BOOT_STAT_FAIL_STEP (rows.foldl min (rows.headD 0))

/-- A boot step fails and withholds full service (R145): FAIL with the row of R127, and source 20. -/
def State.bootFail (s : State) (row : Nat) : State :=
  (s.setFailed (s.boot.failed.filter (fun r => r != row) ++ [row])).cause 20

/-! Rejections. -/

/-- A rejection is reported (R117). -/
def State.noteReject (s : State) (err sec word : Nat) : State :=
  let s := (((s.wr F.STRUCT_STAT_ERR err).wr F.STRUCT_STAT_ERR_NEW 1).wr F.STRUCT_ERR_SEC_VALUE sec).wr F.STRUCT_ERR_WORD_VALUE word
  ((s.inc F.STRUCT_REJECTS_COUNT).event 0 0x0210 [err, sec, word]).cause 19

/-- The buffer of a load from the window reaches its release point (R164). -/
def State.releaseSource (s : State) : State :=
  if s.ld.cmd.src = 1 && !s.ld.cmd.auto && (s.loaderState = 1 || s.loaderState = 2) then s.release s.ld.cmd.buf 0 0 else s

/-- The buffer of a load from the window is no longer the device's, before the load leaves VERIFYING (R108). -/
def State.sourceLost (s : State) : Bool := s.ld.cmd.src = 1 && !s.ld.cmd.auto && s.refStatus s.ld.cmd.buf s.ld.cmd.gen != 0

/-- The descriptor of a structure slot that holds an image: MAGIC, LENGTH, IMAGE_ID, the CRC of the image, and its own (R137). -/
def slotDesc (ws : List Nat) : List Nat :=
  let d := [0x534C54, ws.length, ws.getD 4 0] ++ crcWords ws
  d ++ crcWords d

/-- The image of a structure slot, when its MAGIC and both CRCs are correct (R137). -/
def slotImage (slot : List Nat) : Option (List Nat) :=
  let ws := slot.drop 7
  if slot.getD 0 0 = 0x534C54 && (slot.drop 3).take 2 == crcWords (ws.take (slot.getD 1 0)) && (slot.drop 5).take 2 == crcWords (slot.take 5)
  then some (ws.take (slot.getD 1 0)) else none

/-- The image words of a flash slot, 2 A and 3 B as SRC numbers them; none for a slot that is not valid (R137). -/
def State.slotWords (s : State) (src : Nat) : Option (List Nat) :=
  if !s.flash.ok then none else (if src = 2 then s.flash.slotA else s.flash.slotB).bind slotImage

/-- Changes a flash slot, 1 A and 2 B as STORE numbers them. -/
def State.setSlot (s : State) (n : Nat) (ws : Option (List Nat)) : State :=
  s.onFlash fun f => if n = 1 then { f with slotA := ws } else { f with slotB := ws }

/-- Opens the source of a load (R118): the loader waits for its first word. An overlay starts from the active structure (R112). -/
def State.openLoad (s : State) (c : LoadCmd) : State :=
  let s := if c.src = 1 then s.hold c.buf else s
  ((s.setLoader 1).wr F.STRUCT_RCVD_COUNT 0).onLd fun l =>
    { l with cmd := c, words := [], inbox := [], lastAt := s.clk, sec := 0, secAt := 16, seen := [], share := []
             incoming := if c.overlay then l.current.unplaced else Image.empty }

/-- The automatic load tries the slots that are left, and fails with the last (R108, R127, R145). -/
def State.autoTry (s : State) (slots : List Nat) : State :=
  match slots with
  | [] => ((s.onBoot fun b => { b with slotsLeft := [], autoFailed := true }).setStages 2).bootFail 4
  | src :: r =>
    let s := s.onBoot fun b => { b with slotsLeft := r }
    match s.slotWords src with
    | none => ((s.noteReject 1 0 0).event 0 0x0107 [src - 1, 1]).autoTry r
    | some _ => s.openLoad ⟨src, false, 0, false, 0, 0, 0, true⟩

/-- A load in progress is rejected (R117, R118): the inactive banks are emptied. -/
def State.rejectLoad (s : State) (err sec word : Nat) : State :=
  let c := s.ld.cmd
  let s := ((s.releaseSource).noteReject err sec word).loaderRest
  if c.auto then (s.event 0 0x0107 [c.src - 1, err]).autoTry s.boot.slotsLeft else s

/-! The command. -/

/-- A full load finds the Rangar idle (R111). -/
def State.loadIdle (s : State) : Bool :=
  (List.range (2 * s.dies)).all (fun p => s.blockState (.lnp p) = 0)
    && s.jobs.ctxs.all (fun e => e.2.st != .armed && e.2.st != .running && e.2.st != .ending)
    && (List.range s.dies).all (fun d => s.blockState (.spw d) = 0)
    && s.epoch.commits.isEmpty && !s.overlayPending

/-- The parameters of STRUCT_LOAD (R107). -/
def loadCmdOf (ws : List Nat) : LoadCmd :=
  let w (n : Nat) : Nat := ws.getD n 0
  ⟨bits (w 0) 0 2, bit (w 0) 4, bits (w 0) 8 2, bit (w 0) 10, bits (w 1) 0 16, bits (w 1) 16 8, w 2 + 2 ^ 24 * w 3, false⟩

/-- The conditions of a STRUCT_LOAD in their order (R107 to R109, R111, R112); 0 when they hold. -/
def State.loadStatus (s : State) (c : LoadCmd) : Nat :=
  if s.loading || (c.overlay && s.overlayPending) then 15
  else if c.store = 3 || (c.store != 0 && c.overlay) || (c.noApply && c.store = 0) || (c.store != 0 && c.src = c.store + 1) then 21
  else if c.src = 1 && s.refStatus c.buf c.gen != 0 then 18
  else if !c.overlay && !c.noApply && !s.loadIdle then 14
  else if 2 ≤ c.src && (s.slotWords c.src).isNone then 1
  else 0

/-! Words. -/

/-- The word of a source that comes next. -/
def State.nextWord (s : State) : Option Nat :=
  let n := s.ld.words.length
  match s.ld.cmd.src with
  | 0 => s.ld.inbox.head?
  | 1 =>
    let b := s.buf s.ld.cmd.buf
    if b.bytes < 4 * n + 4 then none
    else some (ofBytes ((memRead s.mem (b.addr + 4 * n) 3).map BitVec.toNat))
  | src => some (((s.slotWords src).getD []).getD n 0xFFFFFF)

/-- Types of sections, and whether an overlay may carry them (R88). -/
def secTypes : List (Nat × Bool) :=
  [(0x01, false), (0x02, true), (0x03, true), (0x04, true), (0x05, true), (0x06, false), (0x07, true), (0x08, true), (0x09, false),
   (0x0A, true), (0x0B, true), (0x0C, false), (0x0D, true), (0xFF, true)]

/-- Types of which a full image holds exactly one (R88). -/
def secOnce (t : Nat) : Bool := [0x01, 0x03, 0x06, 0x08, 0x09, 0x0A, 0x0B, 0x0D].contains t

/-- Types of which a full image gives each die one (R88). -/
def secPerDie (t : Nat) : Bool := t = 0x02 || t = 0x07

/-- The checks of the header, at its last word (R92, R107 to R109, R112, R119). The spec does not order them, nor say what becomes of a LENGTH
too short for a header and END: they are judged in this order, and such a LENGTH is an error of LENGTH (DEDUCED, notes/assumptions/126). -/
def State.headerFault (s : State) : Option (Nat × Nat) :=
  let l := s.ld
  let w (n : Nat) : Nat := l.word n
  let c := l.cmd
  let full := bits (w 1) 16 4 = 0
  let room := if c.src = 1 then (s.buf c.buf).bytes / 4 else 8388608
  firstOf ([breach (crcWords (l.image.take 14) != [w 14, w 15]) 5 14, breach (bits (w 1) 8 8 != 1) 2 1,
    breach (bits (w 1) 20 4 != 0 || 1 < bits (w 1) 16 4 || full = c.overlay) 11 1, breach (bits (w 2) 4 20 != 0) 11 2,
    breach (w 2 % 16 != s.dies) 3 2, breach (8388608 < w 3 || w 3 < 27 || room < w 3) 4 3,
    breach (c.store != 0 && 2097152 < w 3) 21 3, breach (w 4 = 0) 11 4, breach (full && w 5 != 0) 11 5,
    breach (!full && w 5 != s.rd F.STRUCT_CUR_ID_VALUE) 10 5, breach (4096 ≤ w 7) 11 7] ++
    [11, 12, 13].map (fun n => breach (w n != 0) 11 n))

/-- A full image has given every section it must (R88, R115). -/
def State.sectionsMissing (s : State) : Bool :=
  let seen := s.ld.seen
  (secTypes.map (·.1)).any fun t =>
    if t = 0xFF then false
    else if secPerDie t then !(List.range s.dies).all (fun d => seen.any (fun x => x.1 = t && bit x.2 d))
    else !seen.any (fun x => x.1 = t)

/-- The check of a section's word 0 (R88, R89, R93, R119). -/
def State.typeFault (s : State) (i w : Nat) : Option (Nat × Nat) :=
  let t := w % 256
  let full := !s.ld.cmd.overlay
  firstOf [
    breach (!secTypes.any (fun x => x.1 = t && (full || x.2)) || (full && secOnce t && s.ld.seen.any (fun x => x.1 = t))) 7 i,
    breach (bits w 8 8 != 1) 2 i, breach (65536 ≤ w) 11 i,
    breach (t = 0xFF && s.ld.sec + 1 != s.ld.word 7) 4 i, breach (t = 0xFF && full && s.sectionsMissing) 7 i]

/-- The check of a section's word 1 (R88, R93, R94, R119, R646). -/
def State.maskFault (s : State) (i t w : Nat) : Option (Nat × Nat) :=
  let m := w % 256
  firstOf [breach (t = 0xFF && m != 1) 7 i, breach (m = 0 || 2 ^ s.dies ≤ m || 256 ≤ w) 11 i,
    breach (!s.ld.cmd.overlay && secPerDie t && s.ld.seen.any (fun x => x.1 = t && x.2 &&& m != 0)) 7 i,
    breach (t = 0x01 && m + 1 != 2 ^ s.dies) 11 i]

/-- The check of a section's word 2 (R93 to R95, R119). -/
def State.lengthFault (s : State) (i t m w : Nat) : Option (Nat × Nat) :=
  firstOf [breach (t = 0xFF && w != 6) 7 i, breach (1048576 < w) 11 i, breach (s.ld.word 3 < s.ld.secAt + 5 + w) 4 i,
    breach (t = 0xFF && s.ld.secAt + 11 != s.ld.word 3) 4 i,
    breach ((maskDies m).any (fun d => 1048576 < tget s.ld.share d 0 + 5 + w)) 13 i]

/-- The section in progress, when its last word has arrived. -/
def Loader.section (l : Loader) : Sec :=
  let n := l.word (l.secAt + 2)
  ⟨l.sec, l.secAt, l.word l.secAt % 256, l.word (l.secAt + 1) % 256, (l.image.drop (l.secAt + 3)).take n⟩

/-- A section is complete (R93, R110): its CRC and its rules are checked, and it is written into the inactive banks. -/
def State.closeSection (s : State) : State :=
  let l := s.ld
  let x := l.section
  let n := x.body.length
  if crcWords ((l.image.drop x.start).take (3 + n)) != [l.word (x.start + 3 + n), l.word (x.start + 4 + n)] then s.rejectLoad 6 l.sec (x.start + 3 + n)
  else match sectionFault (!l.cmd.overlay) s.dies x with
    | some (e, w) => s.rejectLoad e l.sec w
    | none => s.onLd fun l =>
        { l with sec := l.sec + 1, secAt := x.start + 5 + n, seen := l.seen ++ [(x.type, x.mask)], incoming := l.incoming.accept x
                 share := (maskDies x.mask).foldl (fun t d => tset t d (tget t d 0 + 5 + n)) l.share }

/-- LENGTH words have arrived: the rules that judge entries together are checked, and verification begins (R110, R117, R118). -/
def State.received (s : State) : State :=
  let l := s.ld
  let m := { l.incoming with id := l.word 4, dclass := l.word 6, tool := l.word 8 }
  let xs := l.sections
  let m := match xs.find? (fun x => x.type = 0x03) with
    | some x => m.maskHeads (if l.cmd.overlay then l.current.unplaced else Image.empty) x.mask
    | none => m
  if l.seen.getLast?.map (·.1) != some 0xFF then s.rejectLoad 4 l.sec (l.word 3 - 1)
  else match (m.clashes s.dies xs).head? with
    | some c =>
      let p := c.place xs
      s.rejectLoad c.err p.1 p.2
    | none =>
      (s.onLd fun l => { l with incoming := { m with fwClass := (m.fware.headD []).getD 1 m.fwClass } }).setLoader 2

/-- The check of a word by its place in the section in progress. -/
def State.wordFault (s : State) (i w : Nat) : Option (Nat × Nat) :=
  let l := s.ld
  if i = 0 then breach (w != 0x524E47) 1 0
  else if i < 15 then none
  else if i = 15 then s.headerFault
  else if i = l.secAt then s.typeFault i w
  else if i = l.secAt + 1 then s.maskFault i (l.word l.secAt % 256) w
  else if i = l.secAt + 2 then s.lengthFault i (l.word l.secAt % 256) (l.word (l.secAt + 1) % 256) w
  else none

/-- A word has arrived from the source (R110, R118). -/
def State.imageWord (s : State) (w : Nat) : State :=
  let i := s.ld.words.length
  let s := (s.wr F.STRUCT_RCVD_COUNT (i + 1)).onLd fun l => { l with words := w % 2 ^ 24 :: l.words, inbox := l.inbox.drop 1, lastAt := s.clk }
  match s.wordFault i (w % 2 ^ 24) with
  | some (e, at') => s.rejectLoad e s.ld.sec at'
  | none =>
    let s := if 18 ≤ i && i = s.ld.secAt + s.ld.word (s.ld.secAt + 2) + 4 then s.closeSection else s
    if s.loaderState = 1 && 15 ≤ i && i + 1 = s.ld.word 3 then s.received else s

/-! Verification. -/

/-- The image tag holds under K-slot 1 (R94). -/
def State.imageTagOk (s : State) : Bool :=
  let ws := s.ld.image
  s.on (F.AUTH_SLOT_PROV 1) && wordTag (tget s.auth.keys 1 []) (ws.take (ws.length - 8)) = (ws.drop (ws.length - 8)).take 6

/-- The first firmware section whose signature does not hold: its index and the offset of its first signature word (R105). -/
def State.badFirmware (s : State) : Option (Nat × Nat) :=
  (s.ld.sections.find? (fun x => x.type = 0x0C &&
    !Config.signatureValid (x.body.take (x.body.length - 22)) (x.body.drop (x.body.length - 22)))).map
      (fun x => (x.idx, x.start + 3 + x.body.length - 22))

/-! Full loads: the banks switch (R111). -/

/-- The number that a field is listed under belongs to an SI field that a load gives its value: every one but the geometry and the roles of
the ranks of a die in full service (R452). -/
def State.siKey (s : State) (key : Nat) : Bool :=
  let a := keyAddr key
  a < 0x1000000 && ((fieldOf key).map (fun f => f.si && f.kind != FKind.enst)).getD false &&
    !(match addrDie a with
      | some d => addrBlock a = 8 && s.rd (F.DIE_STAT_STAGE d) = 7 && (a % 0x10000 = 4 || 0x20 ≤ a % 0x10000)
      | none => false)

/-- SI fields return to the values of their tables. -/
def State.clearSI (s : State) : State :=
  { s with live := s.live.filter (fun e => !s.siKey e.1), staged := s.staged.filter (fun e => !s.siKey e.1) }

/-- The registers that a pair of DEFAULTS sets (R104); the WEB fields of FBK are package-wide (R291). -/
def State.targetsAt (s : State) (a : Nat) : List Nat :=
  match uniformAt a with
  | some off => (List.range s.dies).map (fun d => 0x800000 + 0x100000 * d + off)
  | none => if webFields a then (List.range s.dies).map (fun d => dieAt d (a % 0x100000)) else [a]

/-- The numbers and values that a pair of DEFAULTS sets. -/
def State.pairFields (s : State) (p : Nat × Nat) : List (Nat × Nat) :=
  (s.targetsAt p.1).flatMap (fun a => (siFields a).map (fun f => ((f.fld a).key, bits p.2 f.lo f.width)))

/-- The numbers and values that an EQ entry, an IRQMAP entry and a POLICY entry set. -/
def eqField (d l v : Nat) : Nat × Nat := ((F.LAN_EQ_SETTING d l).key, v)

/-- Fields of a source (R475). -/
def irqFields (e : List Nat) : List (Nat × Nat) :=
  let g := e.getD 0 0
  [((F.IRQ_CFG_PRIO (g / 256) (g % 256)).key, bits (e.getD 1 0) 16 4), ((F.IRQ_HMASK_HMASK (g / 256) (g % 256)).key, bits (e.getD 1 0) 0 16),
   ((F.IRQ_EMASK_EMASK (g / 256) (g % 256)).key, e.getD 2 0)]

/-- Fields of a policy entry of a die: those that a register of the die, or of the package on D0, holds (R103). -/
def policyFields (d key v : Nat) : List (Nat × Nat) :=
  let own := if d != 0 then [] else match key with
    | 0x200 => [(F.HLTH_INTERVAL_INTERVAL.key, v)]
    | 0x201 => [(F.HLTH_KM_K.key, v)]
    | 0x202 => [(F.HLTH_KM_M.key, v)]
    | 0x203 => [(F.HLTH_KM_SUBST_ORDER.key, v)]
    | 0x300 => [(F.CAL_TRIG_TEMP_DELTA.key, v)]
    | 0x500 => [(F.TIME_STEP_STEP.key, v)]
    | _ => []
  match key with
  | 0x104 => [((F.LNP_HYST_HYST d).key, v)]
  | 0x105 => [((F.FBK_CTL_4_INFER d).key, v)]
  | _ => own

/-- Groups of a pacer take PACER and HEAD from the structure (R312). -/
def State.groupFields (s : State) (m : Image) (g : Nat) : State :=
  (s.wr (F.LNP_GRP_PACER (g / 8) (g % 8)) ((m.groupPacer (g / 8) (g % 8)).getD 0)).wr (F.LNP_GRP_HEAD (g / 8) (g % 8))
    ((m.groupHead (g / 8) (g % 8)).getD 0)

/-- WIDTH of a pacer's planes (R256). -/
def State.widthField (s : State) (m : Image) (p : Nat) : State :=
  s.wr (F.RAS_W_WIDTH (p / 2) (p % 2)) (match m.barOf p with
    | some b => planeWidth (m.nozzles (p / 2) b (s.xres (p / 2)))
    | none => 0)

/-- Every SI field takes its value from the image (R111), and the Ethernet port is active or not by its new enable (R33). -/
def State.setSI (s : State) (m : Image) : State :=
  let s := s.clearSI
  let s := s.writeAll (m.defaults.flatMap s.pairFields |>.filter (fun f => s.siKey f.1))
  let s := s.wr F.PKG_ETH_STAT_ACTIVE (nat (s.on F.PKG_ETH_CTL_ETH_EN && s.on F.PKG_ETH_STAT_LINK))
  let s := (s.wr F.EPOCH_PITCH_FRAC_PITCH (m.board.getD 3 0)).wr F.EPOCH_PITCH_INT_PITCH (m.board.getD 4 0)
  let s := (List.range s.dies).foldl (fun s d =>
    (s.wr (F.FBK_CFG_FILT d 4) (m.board.getD 5 0 % 256)).wr (F.FBK_CTL_4_INV d) (m.board.getD 5 0 / 256)) s
  let s := m.barList.foldl (fun s r => s.wr (F.EPOCH_DELAY_BAR_DELAY r.1) r.2.2) s
  let s := m.camList.foldl (fun s r => s.wr (F.EPOCH_DELAY_CAM_DELAY r.1) r.2) s
  let s := (entriesOf 2 0 m.rings).foldl (fun s e =>
    let w := e.2.getD 0 0
    let v := e.2.getD 1 0
    let q := bits w 8 8
    (((s.wr (F.QUE_CTL_TYPE q) (bits w 20 3)).wr (F.QUE_CTL_DEPTH q) (bits w 0 5)).wr (F.QUE_ANS_RING q) (v % 256)).wr (F.QUE_ANS_EN q) (bits v 8 1)) s
  let s := s.writeAll ((List.range (80 * s.dies)).map (fun i => eqField (i / 80) (i % 80) (m.eqOf (i / 80) (i % 80))))
  let s := s.writeAll (m.irqmap.flatMap irqFields)
  let s := s.writeAll ([0x104, 0x105, 0x200, 0x201, 0x202, 0x203, 0x300, 0x500].flatMap
    (fun k => (List.range s.dies).flatMap (fun d => policyFields d k (m.pol d k))))
  let s := (List.range (8 * s.dies)).foldl (fun s g => s.groupFields m g) s
  (List.range (2 * s.dies)).foldl (fun s p => s.widthField m p) s

/-- A geometry field has changed on a die in full service (R452). -/
def State.judgeGeometry (s : State) (m : Image) : State :=
  (List.range s.dies).foldl (fun s d =>
    if s.rd (F.DIE_STAT_STAGE d) = 7 && m.defaults.any (fun p => p.1 = dieAt d 0x80004 &&
        (siFields p.1).any (fun f => bits p.2 f.lo f.width != s.rd (f.fld p.1))) then s.wr (F.MEM_STAT_GEOM_PEND d) 1
    else s) s

/-- EN of the cameras and LED chains takes its SI value; in full service this is a request (R392, R603). -/
def State.setEnSI (s : State) (m : Image) : State :=
  let blocks := (List.range s.dies).map Block.cam ++ (List.range (2 * s.dies)).map Block.led
  blocks.foldl (fun s b =>
    let en := bit (((m.defaults.find? (fun p => p.1 = blockCtl b)).map (·.2)).getD 0) 0
    if s.rd F.BOOT_STAT_STAGE = 7 then s.enWrite b en else s.wr (blockFld b 0 1) (nat en)) s

/-- The engines stop, and in full service those named in a firmware section start (R469). -/
def State.reloadEngines (s : State) : State :=
  (List.range (12 * s.dies)).foldl (fun s e =>
    let b := Block.eng e
    let s := (((s.wr (blockFld b 0 1) 0).setBlockState b 0).wr (blockFld b 1 1) 0).wr (F.ENG_SPARE_SPARED_FOR (e / 12)) 15
    if s.rd F.BOOT_STAT_STAGE = 7 && (s.engineRole (e / 12) (e % 12)).isSome && !(e % 12 = 11 && s.on (F.ENG_SPARE_SPARE_EN (e / 12))) then
      s.enWrite b true
    else s) { s with eng := { s.eng with sparedBy := [] } }

/-- Lane groups with a lane in service retrain with EN 1, and the others go to OFF (R356). -/
def State.reloadGroups (s : State) : State :=
  (List.range (8 * s.dies)).foldl (fun s g =>
    let b := Block.lan g
    let s := (s.lanStopping g).wr (blockFld b 2 1) 0
    let s := s.wr (blockFld b 1 1) 0
    let up := !(s.ld.current.groupLanes (g / 8) (g % 8)).isEmpty
    ((s.wr (blockFld b 0 1) (nat up)).setBlockState b (nat up)).groupDown g false) s

/-- Ranks as the geometry fits them (R454): 0 absent, 1 working, 2 spare; r is 2 x channel + rank. -/
def State.rankRole (s : State) (d r : Nat) : Nat :=
  if r % 2 = 0 then 1
  else if !s.on (F.MEM_GEOM_TWO_RANKS d) then 0
  else if s.on (F.MEM_GEOM_SPARE_EN d) && s.rd (F.MEM_GEOM_SPARE_CH d) = r / 2 then 2
  else 1

/-- TRAINED and INIT of a die, in BOOT_DIE_STAT and DIE_STAT (R34, R150). -/
def State.memStage (s : State) (d : Nat) (trained init : Bool) : State :=
  let put (m : Nat) (b : Bool) : Nat := if b then setBit m d else clearBit m d
  let s := (s.wr F.BOOT_DIE_STAT_TRAINED (put (s.rd F.BOOT_DIE_STAT_TRAINED) trained)).wr F.BOOT_DIE_STAT_INIT
    (put (s.rd F.BOOT_DIE_STAT_INIT) init)
  (s.wr (F.DIE_STAT_TRAINED d) (nat trained)).wr (F.DIE_STAT_INIT d) (nat init)

/-- SDRAM training of a die starts: it reads the geometry, and the ranks take their roles unless the image has given them
(R128, R452, R454). -/
def State.startTraining (s : State) (d : Nat) : State :=
  let s := (s.wr (F.DIE_STAT_STAGE d) 4).memStage d false false
  if (List.range 4).all (fun r => s.rd (F.MEM_RANK_ROLE d r) = 0) then
    (List.range 4).foldl (fun s r => s.wr (F.MEM_RANK_ROLE d r) (s.rankRole d r)) s
  else s

/-- A step of bring-up that had failed is behind (R145, R146). -/
def State.clearFail (s : State) (row : Nat) : State :=
  if s.boot.failed.contains row then s.setFailed (s.boot.failed.filter (fun r => r != row)) else s

/-- The new banks are active (R95, R111). -/
def State.switchBanks (s : State) : State :=
  let before := s
  let m := s.ld.incoming
  let s := (s.judgeGeometry m).setSI m
  let s := (s.onLd fun l => { l with current := m, switched := [] }).onEpoch fun e => { e with stage := [] }
  let s := s.wr F.EPOCH_QSTAT_STAGE_OVF 0
  let s := (((((s.wr F.STRUCT_STAT_LOADED 1).wr F.STRUCT_CUR_ID_VALUE m.id).wr F.STRUCT_DCLASS_VALUE m.dclass).wr F.STRUCT_FW_CLASS_VALUE m.fwClass).wr
    F.STRUCT_TOOL_TOOL m.tool)
  let s := s.presentDies.foldl (fun s d => s.wr (F.DIE_STAT_BANK d) (1 - s.rd (F.DIE_STAT_BANK d))) s
  let s := ((s.event 0 0x0201 [m.id, m.dclass]).cause 18).life 0 35 1
  let s := (((s.loaderRest).setEnSI m).reloadEngines).reloadGroups
  let s := (List.range (2 * s.dies)).foldl (fun s p => s.judgeClamp p) (s.noteFilters before)
  let s := if s.rd F.BOOT_STAT_STAGE < 4 then (s.presentDies.foldl (fun s d => if s.rd (F.DIE_STAT_STAGE d) < 4 then s.startTraining d else s) s).packStage
    else s
  (s.clearFail 4).assignPending

/-! Overlays (R112 to R114). -/

/-- The fields that an overlay's plain sections set (R113). -/
def State.overlayFields (s : State) (xs : List Sec) : List (Nat × Nat) :=
  xs.flatMap fun x => match x.type with
    | 0x07 => (maskDies x.mask).flatMap (fun d => (x.entries 2).map (fun e => eqField d (e.2.getD 0 0) (e.2.getD 1 0)))
    | 0x0A => ((x.entries 3).filter (fun e => bit x.mask (e.2.headD 0 / 256))).flatMap (fun e => irqFields e.2)
    | 0x0B => (maskDies x.mask).flatMap (fun d => (x.entries 2).flatMap (fun e => policyFields d (e.2.getD 0 0) (e.2.getD 1 0)))
    | 0x0D => ((x.entries 2).filter (fun e => pairFor x.mask (e.2.getD 0 0))).flatMap (fun e => s.pairFields (e.2.getD 0 0, e.2.getD 1 0))
    | _ => []

/-- The consumers of what an overlay's plain sections change and no register holds: policy entries and routes. -/
def overlayUnits (xs : List Sec) : List (Consumer × Bool) :=
  xs.flatMap fun x => match x.type with
    | 0x08 => (maskDies x.mask).map (fun d => (Consumer.block d 0xB, false))
    | 0x0B => (x.entries 2).flatMap (fun e =>
        let k := e.2.getD 0 0
        if 0x100 ≤ k && k ≤ 0x103 then (maskDies x.mask).map (fun d => (Consumer.block d 3, false))
        else if 0x400 ≤ k && k ≤ 0x401 then (maskDies x.mask).map (fun d => (Consumer.block d 0xA, false))
        else [])
    | _ => []

/-- The bars and cameras whose structure an overlay changes (R114). -/
def State.overlayBars (s : State) (m : Image) : List (Consumer × Bool) :=
  let old := s.ld.current
  let bars := old.barList.filter (fun r => old.barView r.1 != m.barView r.1)
  let cams := old.camList.filter (fun c =>
    let lo := s.rd (F.HLTH_OWN_LO_POS c.1)
    let hi := s.rd (F.HLTH_OWN_HI_POS c.1)
    bars.any (fun r => old.ownView r.1 r.2.1 (s.xres 0) lo hi != m.ownView r.1 r.2.1 (s.xres 0) lo hi))
  bars.map (fun r => (Consumer.bar r.2.1, true)) ++ cams.map (fun c => (Consumer.cam c.1, true))

/-- An overlay's commit has been captured with an ID, or rejected (R113, R114). -/
def State.overlayCaptured (s : State) (fs : List (Nat × Nat)) (m : Image) (id : Nat) (ok : Bool) : State :=
  let s := (s.event 0 0x0202 [id, m.id]).cause 18
  if ok then
    ((s.noteStaged (fs.filter (fun f => ((fieldOf f.1).map FDesc.isST).getD false))).wr F.STRUCT_PEND_ID_VALUE m.id).wr F.STRUCT_PEND_CID_VALUE id
      |>.onLd fun l => { l with overlay := m, switched := [] }
  else s

/-- A bar switches to the overlay's structure (R114, R261, R312, R324): a head whose entry or class changes, or whose entry the overlay empties,
has the entries of its slots reset. -/
def State.switchBar (s : State) (p line : Nat) : State :=
  let old := s.ld.current
  let m := s.ld.overlay
  let d := p / 2
  let heads := (m.heads.filter (fun e => match m.head? e.1 with
    | none => false
    | some h => m.pacerOf h.bar = some p &&
        (((tget? old.heads e.1).map Ents.ws) != some e.2.ws ||
          ((tget? old.classes h.cls).map Ents.ws) != ((tget? m.classes h.cls).map Ents.ws)))).map (·.1)
  let gone := (old.heads.filter (fun e => (m.head? e.1).isNone && (old.head? e.1).any (fun h => old.pacerOf h.bar = some p))).map (·.1)
  let s := s.onLd fun l => { l with switched := Consumer.bar p :: l.switched }
  let s := heads.foldl (fun s h => s.resetHeadNozzles m h line) s
  let s := gone.foldl (fun s h => s.resetHeadNozzles old h line) s
  let s := (List.range 8).foldl (fun s i =>
    let g := 8 * d + i
    if m.groupPacer d i = some (p % 2) || old.groupPacer d i = some (p % 2) then ((s.groupFields m g).judgeGroup g).headPeriodField g else s) s
  let s := s.widthField m p
  match m.barOf p with
  | some b => if heads.isEmpty then s else s.cancelRun b
  | none => s

/-- An overlay is complete (R114). -/
def State.overlayDone (s : State) (id : Nat) : State :=
  let m := s.ld.overlay
  let s := s.onLd fun l => { l with current := m, overlay := Image.empty, switched := [] }
  let s := (((s.wr F.STRUCT_CUR_ID_VALUE m.id).wr F.STRUCT_DCLASS_VALUE m.dclass).wr F.STRUCT_TOOL_TOOL m.tool).wr F.STRUCT_PEND_ID_VALUE 0
  let s := s.wr F.STRUCT_PEND_CID_VALUE 0
  let s := s.presentDies.foldl (fun s d => s.wr (F.DIE_STAT_BANK d) (1 - s.rd (F.DIE_STAT_BANK d))) s
  let s := if s.loaderState = 3 then s.setLoader 0 else s
  (s.event 0 0x0203 [id, m.id]).life 0 35 1

/-- A pending overlay has been cancelled (R114, R118). -/
def State.overlayCancelled (s : State) : State :=
  let s := s.onLd fun l => { l with overlay := Image.empty, switched := [] }
  let s := (s.wr F.STRUCT_PEND_ID_VALUE 0).wr F.STRUCT_PEND_CID_VALUE 0
  if s.loaderState = 3 then s.setLoader 0 else s

end Sys2Proof.Machine
end

