-- ==== Sys2Proof/Machine/SdramOps.lean ====
section
/-! DEFINITION. SDRAM controllers: set-points, retirement of ranks (R457 to R465). -/

namespace Sys2Proof.Machine

open Sys2Proof

/-- Changes the SDRAM controllers. -/
def State.onSdram (s : State) (f : Sdram → Sdram) : State := { s with sdram := f s.sdram }

/-- Records an event of a die's MEM block and causes its source (R467). -/
def State.memEvent (s : State) (d code : Nat) (payload : List Nat) : State := (s.event d code payload).causeAt d 36

/-- A set-point is asked for, in training or in service (R461, R462). -/
def State.askSetpoint (s : State) (d sp : Nat) : State :=
  let training := decide (s.rd (F.DIE_STAT_STAGE d) < 5)
  if !training && !bit (s.rd (F.MEM_FREQ_TRAINED d)) sp then s.memEvent d 0x0E08 []
  else if !training && sp = s.rd (F.MEM_STAT_SP d) then
    (s.onSdram fun m => { m with want := tdel m.want d }).wr (F.MEM_STAT_FREQ_PEND d) 0
  else (s.onSdram fun m => { m with want := tset m.want d (sp, s.clk) }).wr (F.MEM_STAT_FREQ_PEND d) 1

/-- No line pacer of a die is ON and no camera frame is open (R462). -/
def State.memQuiet (s : State) (d : Nat) : Bool :=
  s.rd (F.LNP_CTL_STATE d 0) != 2 && s.rd (F.LNP_CTL_STATE d 1) != 2 && (s.cam d).frame.isNone

/-- The spare rank of a die, when there is one and no copy runs. -/
def State.freeSpare (s : State) (d : Nat) : Option Nat :=
  if s.on (F.MEM_STAT_MIGRATING d) then none else (List.range 4).find? (fun r => s.rd (F.MEM_RANK_ROLE d r) = 2)

/-- A working rank is retired, after an uncorrectable read at die address `ue` when one caused it (R465). -/
def State.retire (s : State) (d r : Nat) (ue : Option Nat) : State :=
  if s.rd (F.MEM_RANK_ROLE d r) != 1 then s
  else match s.freeSpare d with
    | none => s.memEvent d 0x0E05 []
    | some sp =>
      let s := match ue with
        | none => s
        | some a => s.memEvent d 0x0E02 [r / 2, r % 2, a]
      let s := ((s.wr (F.MEM_STAT_MIGRATING d) 1).wr (F.MEM_MIG_DONE d) 0).wr (F.MEM_MIG_POISON d) 0
      (s.onSdram fun m => { m with copies := tset m.copies d (r, sp) }).memEvent d 0x0E03 []

/-- A spare stands in for a rank (R465): the rank is retired, and a region A served by one channel is reported. -/
def State.takeSpare (s : State) (d r sp : Nat) : State :=
  let s := (s.wr (F.MEM_RANK_ROLE d r) 3).wr (F.MEM_RANK_ROLE d sp) 1
  if r % 2 = 0 && sp / 2 != r / 2 then (s.wr (F.MEM_STAT_SINGLE_CH d) 1).memEvent d 0x0E0C [] else s

end Sys2Proof.Machine
end

