-- ==== Sys2Proof/Machine/ApplyOps.lean ====
section
/-! DEFINITION. What a consumer does when it applies its part of a commit (R49, R55 to R57), and the completion and cancelling of a
commit (R63 to R66). -/

namespace Sys2Proof.Machine

open Sys2Proof

/-- The blocks of the die views with an enable of their own. -/
def dieBlocks : List Block :=
  (List.range 8).map Block.zip ++ (List.range 16).map Block.ras ++ (List.range 16).map Block.lnp ++ (List.range 64).map Block.lan ++
    (List.range 8).map Block.cam ++ (List.range 32).map Block.mot ++ (List.range 40).map Block.fbk ++ (List.range 16).map Block.emu ++
    (List.range 16).map Block.led ++ (List.range 96).map Block.eng

/-- The blocks of the package view with an enable of their own. -/
def packBlocks : List Block :=
  (List.range 8).map Block.spw ++ (List.range 8).map Block.tkl ++ (List.range 256).map Block.ring ++ (List.range 16).map Block.trg ++
    [Block.hlth, Block.cal, Block.disp]

/-- The block whose control register lies at an address. -/
def blockAt (a : Nat) : Option Block := (dieBlocks ++ packBlocks).find? (fun b => blockCtl b = a)

/-- The number listed for a field is that of an EN request. -/
def isEn (key : Nat) : Bool :=
  ((fieldOf key).map (fun f => decide (f.kind = .enst ∨ f.kind = .enstp))).getD false

/-- A list of fields writes a field. -/
def writes (fs : List (Nat × Nat)) (f : Fld) : Bool := fs.any (fun x => x.1 = f.key)

/-- A part of a commit has been applied; a job's commit acts with its first one (R211). -/
def State.partApplied (s : State) (c : Commit) (k : Consumer) (print : Bool) : State :=
  let firstOne := ((s.commit? c.id).map (fun x => decide (x.remaining.length = x.parts.length))).getD false
  let s := s.setCommit c.id fun x => { x with remaining := x.remaining.filter (fun p => p != (k, print)), lastLine := s.pkgLine }
  if firstOne then s.jobApplied c else s

/-- Row delays and ADV of a bar after fields or a structure have changed from what they were in a state before: the clamp is judged when YREG,
LEAD_eff or the structure has changed (R274), the lines that the delays now skip are counted (R276), and ADV is judged (R316). -/
def State.delaysChanged (s before : State) (p : Nat) (adv : Bool) : State :=
  let y := F.RAS_YREG_YREG (p / 2) (p % 2)
  let s := if s.rd y != before.rd y || s.leadEff p != before.leadEff p || s.ld.switched != before.ld.switched then s.judgeClamp p else s.maxDelay p
  (s.judgeSkips p (before.delaysNow p)).judgeAdv p ((s.dieLine (p / 2) : Int) - s.delay (.bar p)) adv

/-- What the fields of a bar do as they take effect: row delays (R274, R276), strobe advance (R315), quiescing (R334), TRIM (R333) and
HOST_OUT (R410). -/
def State.barApplied (s : State) (p : Nat) (fs : List (Nat × Nat)) (before : State) : State :=
  let d := p / 2
  let s := s.delaysChanged before p (writes fs (F.LNP_FDLY_ADV d (p % 2)))
  let s := (List.range 8).foldl (fun s g =>
    if writes fs (F.LNP_GRP_QUIESCE d g) then s.quiesce (8 * d + g) (s.on (F.LNP_GRP_QUIESCE d g)) else s) s
  let s := fs.foldl (fun s f => if 0x1400000 ≤ f.1 / 32 then s.judgeVolt (f.1 / 32 - 0x1400000) else s) s
  let outs := fs.filter (fun f => 0x1000000 ≤ f.1 / 32 && f.1 / 32 < 0x1200000)
  if outs.isEmpty then s
  else match (s.imageFor (.bar p)).barOf p with
    | none => s
    | some bar => (s.headsOf bar).foldl (fun s h => s.judgeHead h) s

/-- What the plain fields of a block do as they take effect: axes (R443 to R448), set-points (R462), priorities (R476) and rate sets
(R357), filters (R289), the limit of degraded heads (R410), and the resolution and row separations of a die (R256, R273). -/
def State.blockApplied (s : State) (d blk : Nat) (fs : List (Nat × Nat)) (before : State) : State :=
  match blk with
  | 2 => if fs.isEmpty then s else [2 * d, 2 * d + 1].foldl (fun s p => (s.widthField (s.imageFor (.bar p)) p).delaysChanged before p false) s
  | 7 => s.noteFilters before
  | 6 => [0, 1, 2, 3].foldl (fun s n => s.axisCommitted (4 * d + n) (writes fs)) s
  | 8 => if writes fs (F.MEM_FREQ_OP d) then s.askSetpoint d (s.rd (F.MEM_FREQ_OP d)) else s
  | 9 => s.assignPending
  | 0x1D => if writes fs F.HLTH_LIMS_HEAD_OUT_LIM then (s.ld.current.heads.map (·.1)).foldl (fun s h => s.judgeHead h) s else s
  | 4 => (List.range 8).foldl (fun s g =>
      if s.eqRate (8 * d + g) != s.rd (F.LAN_GSTAT_RATE d g) && s.rd (F.LAN_GSTAT_LINK d g) != 0 then s.wr (F.LAN_GSTAT_RATE_PEND d g) 1 else s) s
  | _ => s

/-- The EN requests among fields, in the order of their numbers (R37). -/
def State.requestAll (s : State) (fs : List (Nat × Nat)) : State :=
  (sortBy (fun a b => decide (a.1 ≤ b.1)) (fs.filter (fun f => isEn f.1))).foldl (fun s f =>
    match blockAt (keyAddr f.1) with
    | some b => s.enWrite b (f.2 != 0)
    | none => s) s

/-- Fields of the display take effect (R609): LBUF names buffers, and the fields that act at a start wait for it while the display is
ON. -/
def State.dispApplied (s : State) (id : Nat) (fs : List (Nat × Nat)) : State :=
  let s := (List.range 4).foldl (fun s k =>
    if writes fs (F.DISP_LBUF_BUF k) || writes fs (F.DISP_LBUF_GEN k) then s.layerBuffer k id else s) (s.writeAll fs)
  if s.dispOn then
    let changed := s.rd F.DISP_CTL_MODE != s.disp.mode || s.on F.DISP_CTL_PSR_EN != s.disp.psr ||
      s.rd F.DISP_CTL_LANES_MAX != s.disp.lanesMax || s.rd F.DISP_CTL_RATE_MAX != s.disp.rateMax
    ((if changed then s.wr F.DISP_STAT_MODE_PEND 1 else s.wr F.DISP_STAT_MODE_PEND 0)).onDisp fun d => { d with changed := true }
  else s

/-- A consumer applies its part of a commit. The camera block and the display take a part in and apply it later (R381, R609). -/
def State.applyPart (s : State) (c : Commit) (k : Consumer) (print : Bool) : State :=
  let fs := s.fieldsFor c k print
  let plain := fs.filter (fun f => !isEn f.1)
  match k with
  | .bar p =>
    let before := s
    let s := s.writeAll plain
    let s := if c.origin = .overlay && print then s.switchBar p c.line else s
    ((s.barApplied p plain before).requestAll fs).partApplied c k print
  | .cam _ => (if c.origin = .overlay then s.onLd fun l => { l with switched := k :: l.switched } else s.writeAll plain).partApplied c k print
  | .block d 5 =>
    if (s.cam d).holds c.id then s else (s.applyCam d c.id plain).requestAll fs
  | .block d 0x1C =>
    if s.dispOn || !s.disp.arrived.isEmpty then
      if s.disp.arrived.any (fun a => a.1 = c.id) then s else s.onDisp fun x => { x with arrived := x.arrived ++ [(c.id, print, s.clk, false)] }
    else (s.dispApplied c.id plain).partApplied c (.block d 0x1C) print
  | .block d blk =>
    let s := (s.writeAll plain).blockApplied d blk plain s
    let s := if c.origin = .overlay then s.onLd fun l => { l with switched := k :: l.switched } else s
    (s.requestAll fs).partApplied c k print

/-- A commit is complete: every consumer has applied it, and no earlier one of its kind is outstanding (R64, R80). One that touches no
consumer completes at its line (R114), and one that has replaced a buffer of the display while frames are scanned completes once the buffer is
released at the end of a frame (R82, R607; DEDUCED, notes/assumptions/92). -/
def State.isComplete (s : State) (c : Commit) : Bool :=
  c.remaining.isEmpty && !(s.epoch.commits.takeWhile (fun x => x.id != c.id)).any (fun x => x.safe = c.safe)
    && (!c.parts.isEmpty || c.safe || decide (c.line ≤ s.pkgLine))
    && !(s.dispOn && decide (2 ≤ s.rd F.DISP_STAT_LINK) && s.disp.replaced.any (fun r => r.2.1 = c.id && !r.2.2))

/-- A commit completes (R64, R82, R114, R420). -/
def State.completeCommit (s : State) (c : Commit) : State :=
  let s := if c.parts.isEmpty then s.jobApplied c else s
  let s := s.releaseReplaced c.id
  let s := ((s.reportCommit c (if c.advanced then 1 else 0)).cause 16).life 0 34 1
  let s := (s.dropCommit c.id).calCompleted c.id
  if c.origin = .overlay then s.overlayDone c.id else s

/-- The frame fields of a cancelled commit leave the sets of a camera (R63, R381). -/
def CciSet.without (x : CciSet) (c : Commit) : CciSet :=
  if x.ids.contains c.id then { x with ids := x.ids.filter (fun i => i != c.id), fields := x.fields.filter (fun f => !c.fields.contains f) }
  else { x with also := x.also.filter (fun i => i != c.id) }

/-- What consumers have taken in of a cancelled commit is dropped. -/
def State.dropParts (s : State) (c : Commit) : State :=
  let s := s.onDisp fun d => { d with arrived := d.arrived.filter (fun a => a.1 != c.id) }
  (List.range s.dies).foldl (fun s d => s.onCam d fun m =>
    { m with
      waiting := (m.waiting.map (fun x => x.without c)).filter (fun x => !x.all.isEmpty)
      cci := (match m.cci with
        | some (.set x) => some (.set (x.without c))
        | o => o)
      sent := (m.sent.map (fun x => x.without c)).filter (fun x => !x.all.isEmpty) }) s

/-- A commit is cancelled (R63, R211, R414, R114). -/
def State.cancelCommit (s : State) (c : Commit) : State :=
  let s := ((s.reportCommit c 7).cause 16).event 0 0x0243 []
  let s := (((s.dropParts c).dropCommit c.id).jobCancelled c).calCancelled c.id
  if c.origin = .overlay then s.overlayCancelled else s

end Sys2Proof.Machine
end

