-- ==== Sys2Proof/Machine/EpochOps.lean ====
section
/-! DEFINITION. Zeroing the line number (R47, R48) and the agreement of the dies on the encoder count (R74 to R79, R131). -/

namespace Sys2Proof.Machine

open Sys2Proof

/-! The zero. -/

/-- A zero may be taken (R48): the web stands still on every die, no commit carries an apply line, and no context is ARMED, RUNNING or
ENDING. -/
def State.mayZero (s : State) : Bool :=
  (List.range s.dies).all (fun d => (s.input (5 * d + 4)).still) && !s.linedPending &&
    s.jobs.ctxs.all (fun c => c.2.st != .armed && c.2.st != .running && c.2.st != .ending)

/-- An armed snapshot is cancelled (R48, R72). -/
def State.cancelSnap (s : State) : State :=
  if s.epoch.armed.isNone then s
  else (s.onEpoch fun e => { e with armed := none }).wr F.SNAP_STAT_STATE (if s.on F.SNAP_STAT_DATA then 2 else 0)

/-- A die takes the new line scale (R47, R48). -/
def State.zeroDie (s : State) (d : Nat) : State :=
  let c := s.webCount d
  let s := (s.wr (F.DIE_STAT_LINE_VALID d) 1).wrPair (F.DIE_LINE_LO_LINE d) (F.DIE_LINE_HI_LINE d) 0
  let s := s.setWeb d { s.web d with zero := c, hwm := c, ahead := false }
  let s := [0, 1].foldl (fun s n =>
    let p := 2 * d + n
    let next : Int := (s.leadEff p : Int) - s.delay (.bar p) + 1
    let s := s.setRaster p { s.raster p with next := next, recs := [], judged := none, wasLate := false, missing := [] }
    s.setPacer p { s.pacer p with stepLine := 0, diverged := none, asked := [], firedTo := 0 }) s
  let s := (List.range 8).foldl (fun s i => s.triggersFrom (8 * d + i) 0) s
  if s.rd (F.CAM_TRIG_MODE d) = 2 then s else s.onCam d fun x => { x with judged := 0 }

/-- The line number is zeroed on every die at one instant (R47, R48). -/
def State.zeroLines (s : State) : State :=
  let s := (List.range s.dies).foldl (fun s d => s.zeroDie d) (s.cancelSnap.wr F.EPOCH_CTL_LINE_VALID 1)
  let s := (s.onPress fun q => { q with spans := [] }).wr (F.LNP_REJ_STAT_REJECT 0) 0
  (s.onEye fun e => { e with printed := [], since := 0, upTo := e.upTo.map (fun _ => 0) }).onJobs fun q => { q with fired := [] }

/-! Agreement. -/

/-- The median of counts, the lower of two middle ones (R75). -/
def lowerMedian (l : List Int) : Int := (sortBy (fun a b => decide (a ≤ b)) l).getD ((l.length - 1) / 2) 0

/-- Counts lie within one count of each other. -/
def nearCount (a b : Int) : Bool := (a - b).natAbs ≤ 1

/-- The bars of a die send NOFIRE up to the next page boundary, and the label is rejected (R78, R329). -/
def State.largeDivergence (s : State) (d : Nat) : State :=
  let line := s.dieLine d
  [0, 1].foldl (fun s n =>
    let p := 2 * d + n
    if s.rd (F.LNP_CTL_STATE d n) = 0 then s
    else (s.setPacer p { s.pacer p with diverged := some line }).rejectPage p ((line : Int) - s.delay (.bar p)) 1 true)
    (s.event 0 0x0D12 [])

/-- A die's count is set ahead by a difference (R75): lines that a forward correction crosses are omitted on the die's bars, and a
backward one is absorbed by the ratchet (R77). -/
def State.correctCount (s : State) (d : Nat) (diff : Int) : State :=
  let f := 5 * d + 4
  let was := s.dieLine d
  let s := s.setInput f { s.input f with count := (s.input f).count + diff }
  let s := ((s.inc (F.ENC_DIV_COUNT d)).life d 7 1).event 0 0x0D10 [d, unsigned 24 diff]
  let s := s.ratchet d
  let s := s.crossRound d ((s.input f).count - diff)
  let now := s.dieLine d
  let s :=
    if now ≤ was then s
    else
      let s := [0, 1].foldl (fun s n => if s.pacerOn (2 * d + n) then s.omitLines (2 * d + n) (now - was) else s) s
      (List.range 8).foldl (fun s i => if (s.group (8 * d + i)).next ≤ now + 1 then s.triggersFrom (8 * d + i) now else s) s
  if s.rd F.ENC_CTL_DIV_LIMIT < diff.natAbs then s.largeDivergence d else s

/-- A round ends with the counts reported (R75, R76): the dies outside one count of the agreed count are corrected. -/
def State.judgeRound (s : State) (r : EncRound) : State :=
  let counts := r.latched.filter (fun c => r.reported.contains c.1)
  let s :=
    if counts.isEmpty then s
    else
      let median := lowerMedian (counts.map (·.2))
      let majority := decide (s.dies < 2 * (counts.filter (fun c => nearCount c.2 median)).length)
      let s := if s.variant != .rg2 && !majority then s.event 0 0x0D11 [] else s
      let agreed := if s.variant = .rg2 || !majority then tget counts 0 median else median
      counts.foldl (fun s c => if nearCount c.2 agreed then s else s.correctCount c.1 (agreed - c.2)) s
  let s := s.wr F.ENC_STAT_ROUNDS (s.rd F.ENC_STAT_ROUNDS + 1)
  let s := (List.range (2 * s.dies)).foldl (fun s p =>
    if (s.pacer p).loss = .cleared then s.setPacer p { s.pacer p with loss := .agreed } else s) s
  s.onEpoch fun e => { e with round := none, misses := r.reported.foldl (fun t d => tset t d 0) e.misses }

/-- A die has not reported (R79): three rounds missed in a row are treated as a large divergence. -/
def State.missedRound (s : State) (d : Nat) : State :=
  let n := tget s.epoch.misses d 0 + 1
  let s := (s.event 0 0x0D13 []).onEpoch fun e => { e with misses := tset e.misses d (if n = 3 then 0 else n) }
  if n = 3 then s.largeDivergence d else s

/-- The boot round is due (R127, R131): every step before it has ended and the dies have not agreed. -/
def State.bootRoundDue (s : State) : Bool :=
  s.rd F.BOOT_STAT_STAGE = 6 && s.boot.restored && !s.boot.agreed && decide (s.boot.rounds < 5)

end Sys2Proof.Machine
end

