-- ==== Sys2Proof/Machine/PairOps.lean ====
section
/-! DEFINITION. The Twinflower pair: roles, leases, takeovers, commits in step and the catch-up (R508 to R534). -/

namespace Sys2Proof.Machine

open Sys2Proof

/-! Roles. -/

/-- An event of the pair that causes source 41 (R535). -/
def State.pairEvent (s : State) (code : Nat) (payload : List Nat) : State := (s.event 0 code payload).cause 41

/-- Lines of lead of commits, catch-ups and handovers (R523, R532, R533). -/
def State.pairLead (s : State) : Nat := max (s.rd F.EPOCH_MIN_LEAD_LEAD) (s.rd F.PAIR_LEAD_LEAD)

/-- The pair runs in SHADOW (R528). -/
def State.shadow (s : State) : Bool := s.on F.PAIR_STAT_MODE

/-- Sends a STATUS message (R512). -/
def State.sendStatus (s : State) : State :=
  s.pairSend 3 s.pkgLine [s.rd F.STRUCT_DCLASS_VALUE, s.rd F.STRUCT_CUR_ID_VALUE,
    s.role + 2 ^ 3 * s.rd F.PAIR_STAT_READY + 2 ^ 4 * s.rd F.PAIR_CFG_DETACH, s.pair.seen]

/-- The unit takes an epoch, which ACTIVE carries from then on (R515). -/
def State.takeEpoch (s : State) (e : Nat) : State :=
  let s := (s.wr F.PAIR_EPOCH_EPOCH e).onPair fun p => { p with seen := max p.seen e }
  (List.range s.dies).foldl (fun s d => s.wr (F.LAN_ACT_EPOCH_EPOCH d) e) s

/-- The unit takes a role (R514): the change is recorded and the partner told; a unit that starts or stops to lead sends ACTIVE with
HOLD 1 or 0, and when it starts every axis reads REFD 0 (R509, R515). -/
def State.setRole (s : State) (r : Nat) : State :=
  if s.role = r then s
  else
    let led := s.leads
    let old := s.role
    let s := (s.wr F.PAIR_STAT_ROLE r).pairEvent 0x1101 [old, r, s.rd F.PAIR_EPOCH_EPOCH]
    let s := (List.range s.dies).foldl (fun s d => s.wr (F.LAN_ACT_FLAGS_HOLD d) (nat s.leads)) s
    let s := if s.leads && !led then (List.range (4 * s.dies)).foldl (fun s a => s.wr (F.MOT_STAT_REFD (a / 4) (a % 4)) 0) s else s
    s.sendStatus

/-- A handover in progress ends. -/
def State.dropHandover (s : State) : State := (s.wr F.PAIR_STAT_HANDOVER 0).onPair fun p => { p with handover := none }

/-- The partner is no longer in step: its catch-up and its lease end. -/
def State.partnerGone (s : State) : State :=
  ((s.wr F.PAIR_STAT_READY 0).dropHandover).onPair fun p => { p with joinLine := none, unacked := [] }

/-- The unit fences itself (R519): pending strobes are withdrawn, frames are NOFIRE from the next trigger on and ACTIVE carries HOLD 0. -/
def State.fence (s : State) (cause : Nat) : State :=
  let s := (List.range s.dies).foldl (fun s d => s.onGroups d fun _ x => x.withoutStrobe) s
  let s := ((s.partnerGone.inc F.PAIR_FENCES_COUNT).pairEvent 0x1105 [cause]).onPair fun p => { p with fencedAt := s.clk }
  s.setRole 5

/-- The unit begins to lead alone with a new epoch (R514, R520). -/
def State.leadAlone (s : State) : State := (s.takeEpoch (s.pair.seen + 1)).setRole 3

/-! Commits of a standby (R523). -/

/-- An entry of a context command that waits for the active's COMMIT message. -/
def State.ctxEntry (s : State) (kind j : Nat) : Option Entry :=
  s.win.entries.find? (fun e => e.begun && bits (e.words.getD 0 0) 0 8 = kind && e.ctx = j)

/-- What a capture that waited comes to, once it has an ID and a line or is rejected: of the host's staged writes, an overlay, or a
context's arm or stop. -/
def State.captured (s : State) (c : PairCapture) (id line : Nat) (ok : Bool) : State :=
  match c.origin with
  | .arm j =>
    let s := match s.ctxEntry 0x21 j with
      | none => s
      | some e => if ok then s.answerCtx e 0 0 id line else s.captureFailed e id
    if ok then s.ctxArmed j line id else s
  | .stop j =>
    let s := match s.ctxEntry 0x22 j with
      | none => s
      | some e => if ok then s.answerCtx e 0 0 id line else s.captureFailed e id
    if ok then s.addEnd j line id else s
  | .overlay =>
    let s := s.overlayCaptured c.fields s.ld.overlay id ok
    if ok then s else s.overlayCancelled
  | _ => if ok then s.noteStaged c.fields else s

/-- A commit takes the ID, the line and the status of the active's COMMIT message (R523). -/
def State.matchCommit (s : State) (c : PairCapture) (id line status : Nat) : State :=
  let x : Commit := ⟨id, s.epoch.lastId, false, c.snap, c.origin, c.fields, c.requested, line, true, status = 1, c.parts, c.parts, s.pkgLine, false, false, c.crc⟩
  let s := (s.wr F.EPOCH_NEXT_ID_ID (nextId id)).onEpoch fun e => { e with lastId := id }
  if 1 < status then (((s.reportCommit x status).cause 17).event 0 0x0240 [id, status]).captured c id line false
  else
    let s := s.onEpoch fun e => { e with commits := e.commits ++ [x] }
    let s := if status = 1 then s.event 0 0x0241 [] else s
    (if c.snap then s.armSnap line false else s).captured c id line true

/-- Captures that wait are captured as the unit's own commits: it no longer follows the active. Values of the active's own that wait behind
another commit keep their ID and line. -/
def State.releaseCaptures (s : State) : State :=
  let cs := s.pair.captures
  let ms := s.pair.due
  let s := s.onPair fun p => { p with captures := [], due := [], bulk := [], unmatched := [], catching := false }
  let s := ms.foldl (fun s m => match m.own with
    | some c => s.matchCommit c m.id m.line m.status
    | none => s) s
  cs.foldl (fun s c =>
    let id := s.rd F.EPOCH_NEXT_ID_ID
    let line := s.lineInEffect c.safe true c.requested
    let (s, ok) := s.capture c.safe c.snap c.origin c.fields c.parts c.requested c.stageFull c.bufferBad
    s.captured c id line ok) s

/-- A standby that is out of step sends UNREADY and returns to JOINING (R514). -/
def State.leaveStep (s : State) : State :=
  if s.role = 2 then (((s.pairControl 2 0).partnerGone).setRole 1).releaseCaptures
  else if s.role = 1 then (s.onPair fun p => { p with joinLine := none }).releaseCaptures
  else s

/-- A commit does not match (R523): 0x1108 with its ID and the cause 1 CRC, 2 count or 3 missing. -/
def State.commitMismatch (s : State) (id cause : Nat) : State :=
  ((s.inc F.PAIR_MISMATCH_COUNT).pairEvent 0x1108 [id, cause]).leaveStep

/-- A capture is compared with its COMMIT message and matched. -/
def State.matchOne (s : State) (c : PairCapture) (m : PairDue) : State :=
  if c.fields.length != m.count then s.commitMismatch m.id 2
  else if c.crc != m.crc then s.commitMismatch m.id 1
  else s.matchCommit c m.id m.line m.status

/-- Captures and COMMIT messages are matched in order (R523); a commit of the active's own values needs no capture, and waits its turn. -/
def State.matchAll (s : State) (fuel : Nat) : State :=
  match fuel with
  | 0 => s
  | n + 1 => match s.pair.due with
    | [] => s
    | m :: ms => match m.own, s.pair.captures with
      | some c, _ => State.matchAll ((s.onPair fun p => { p with due := ms }).matchCommit c m.id m.line m.status) n
      | none, c :: cs => State.matchAll ((s.onPair fun p => { p with captures := cs, due := ms }).matchOne c m) n
      | none, [] => s

/-- The package line comes within 256 lines of a COMMIT message that no capture has matched (R523). -/
def State.pairMissing (s : State) : State :=
  match s.pair.due.find? (fun m => m.line ≤ s.pkgLine + 256) with
  | some m => if s.matched then s.commitMismatch m.id 3 else s
  | none => s

/-- The standby captures a commit; one whose COMMIT message has arrived is matched at once. -/
def State.standbyCapture (s : State) (c : PairCapture) : State := (s.waitCapture c).matchAll (s.pair.due.length + 1)

/-! Takeover (R520, R521, R530). -/

/-- The pages of a job that hold a substrate line from `first` to `last`, each by a line of it. -/
def pageLinesOf (pageLines first last : Nat) : List Nat :=
  (List.range ((last - first) / pageLines + 1)).map (fun i => first + i * pageLines) ++ [last]

/-- The unit takes over (R520): from die line L_t in STEP, and in SHADOW on each bar from the first page boundary at which L_t has passed
(R530); rejects cover what the bars do not fire from line `lr` on (R521). -/
def State.takeover (s : State) (cause lr : Nat) : State :=
  let lt := s.pkgLine + 1
  let bars := (List.range (2 * s.dies)).filter (fun p => ((s.imageFor (.bar p)).barOf p).isSome)
  let from' (p : Nat) : Nat :=
    let d := s.delay (.bar p)
    if s.shadow then s.boundaryFrom (lt - d) + d else lt
  let resume : Tab Nat := bars.map (fun p => (p, from' p))
  let job := (s.jobAt s.pkgLine).bind (fun j => j.2.block)
  let s := s.partnerGone.leadAlone
  let s := (((s.wrPair F.PAIR_LAST_LO_LINE F.PAIR_LAST_HI_LINE lt).wr F.PAIR_GAP_LINES (lt - lr)).inc F.PAIR_TAKEOVERS_COUNT).life 0 33 1
  let s := s.pairEvent 0x1104 [s.rd F.PAIR_EPOCH_EPOCH, lt, cause]
  let s := s.onPair fun p => { p with resume := resume }
  let s := match job with
    | none => s
    | some b => bars.foldl (fun s p =>
        if !((s.imageFor (.bar p)).barOf p).any b.hasBar then s
        else
          let d := s.delay (.bar p)
          let last := tget resume p lt - 1
          if last < d then s
          else (pageLinesOf b.pageLines (lr - 1 - d) (last - d)).foldl (fun s (l : Nat) => s.rejectPage p l 6 true) s) s
  s.releaseCaptures

/-! Line scale (R525). -/

/-- Count less zero count of D0. -/
def State.scaleCount (s : State) : Int := s.webCount 0 - (s.web 0).zero

/-- Sends LINE_SYNC at the latch instant (R525). -/
def State.sendLineSync (s : State) : State :=
  let c := unsigned 40 s.scaleCount
  s.pairSend 4 s.pkgLine [c % 2 ^ 24, c / 2 ^ 24]

/-- A die takes the active's line scale: its zero count moves by `shift` and its line number is the active's. -/
def State.alignDie (s : State) (d : Nat) (shift : Int) (line : Nat) : State :=
  let c := s.webCount d
  let w := s.web d
  let s := (s.wr (F.DIE_STAT_LINE_VALID d) 1).wrPair (F.DIE_LINE_LO_LINE d) (F.DIE_LINE_HI_LINE d) line
  let s := s.setWeb d { w with zero := w.zero + shift, hwm := c, ahead := false, reverse := false, excursion := 0 }
  let s := [0, 1].foldl (fun s n =>
    let p := 2 * d + n
    let next : Int := (line : Int) + s.leadEff p - s.delay (.bar p) + 1
    let s := s.setRaster p { s.raster p with next := next, recs := [], judged := none, wasLate := false, missing := [] }
    s.setPacer p { s.pacer p with stepLine := line, diverged := none, asked := [], firedTo := line }) s
  (List.range 8).foldl (fun s i => s.triggersFrom (8 * d + i) line) s

/-- At the catch-up the standby takes the active's line scale and number (R525). -/
def State.alignLines (s : State) (line : Nat) (count : Int) : State :=
  let shift := s.scaleCount - count
  (List.range s.dies).foldl (fun s d => s.alignDie d shift line) (s.cancelSnap.wr F.EPOCH_CTL_LINE_VALID 1)

/-- The standby's zero counts move by a small difference (R525). -/
def State.shiftZero (s : State) (diff : Int) : State :=
  let s := (List.range s.dies).foldl (fun s d =>
    let s := (s.setWeb d { s.web d with zero := (s.web d).zero + diff }).advanceLine d
    s.onGroups d fun _ x => { x with next := max x.next (s.dieLine d + 1) }) s
  (s.inc F.PAIR_DIVERGE_COUNT).pairEvent 0x1109 [unsigned 24 diff]

/-- The mode of the pair is decided (R528). -/
def State.decideMode (s : State) : State :=
  let own := s.rd F.STRUCT_DCLASS_VALUE
  let other := s.rd F.PAIR_P_DCLASS_VALUE
  let mode := nat (own != other)
  (s.wr F.PAIR_STAT_MODE mode).pairEvent 0x1106 [mode, own, other]

/-! Catch-up (R533). -/

/-- The HEALTH section of a die (R533). -/
def State.healthSection (s : State) (d : Nat) : List Nat :=
  calSection 6 d ((List.range 131072).map (fun i =>
    let a := 131072 * d + i
    s.histWord a % 2 ^ 12 + 2 ^ 12 * s.rd (nozzleEbOut a)))

/-- The active sends a catch-up (R533). -/
def State.catchUp (s : State) : State :=
  let s := s.decideMode
  let s := (s.onPair fun p => { p with joinLine := some (s.pkgLine + s.pairLead), joinAt := s.clk }).sendLineSync
  let s := s.sendBulk (s.calBlockWith (if s.shadow then [] else (List.range s.dies).map s.healthSection))
  let s := s.jobs.ctxs.foldl (fun s e =>
    if !e.2.live then s
    else
      let s := s.sendCtx e.1 e.2.start e.2.commit false
      match e.2.final, e.2.ends with
      | some z, _ => s.sendCtx e.1 z e.2.commit true
      | none, (z, id) :: _ => s.sendCtx e.1 z id true
      | none, [] => s) s
  s.epoch.commits.foldl (fun s c =>
    s.pairSend 0x10 c.line [c.id, nat c.advanced, c.crc % 2 ^ 24, c.crc / 2 ^ 24, c.fields.length]) s

/-- The sections of a block that BULK messages bring: type, target and body of each, once the whole block has arrived (R422, R533). -/
def bulkSections (n : Nat) (ws : List Nat) : Option (List (Nat × Nat × List Nat)) :=
  match n with
  | 0 => if ws.length < 2 then none else some []
  | k + 1 =>
    let len := ws.getD 1 0
    if ws.length < 2 + len then none
    else (bulkSections k (ws.drop (2 + len))).map
      (fun r => (bits (ws.getD 0 0) 0 8, bits (ws.getD 0 0) 8 8, (ws.drop 2).take len) :: r)

/-- The words of the block received so far, first word first. -/
def State.bulkWords (s : State) : List Nat := s.pair.bulk.reverse

/-- The sections of the block received, when it is whole. -/
def State.bulkBlock (s : State) : Option (List (Nat × Nat × List Nat)) :=
  let ws := s.bulkWords
  if ws.getD 0 0 != 0x43414C then none else bulkSections (ws.getD 3 0) (ws.drop 8)

/-- The calibration values of sections. -/
def State.bulkValues (s : State) (xs : List (Nat × Nat × List Nat)) : CalValues :=
  xs.foldl (fun v x => if x.1 = 6 then v else s.sectionValues x.1 x.2.1 x.2.2 v) ⟨[], [], []⟩

/-- A HEALTH section is taken (R533). -/
def State.takeHealth (s : State) (d : Nat) (body : List Nat) : State :=
  body.zipIdx.foldl (fun s (w, i) =>
    let a := 131072 * d + i
    if w = 0 && !s.on (nozzleEbOut a) then s
    else
      let s := s.onHist a fun h => { h with hist := (List.range (bits w 8 4)).map (fun k => bit w k) }
      s.wr (nozzleEbOut a) (bits w 12 1))
    (s.onEye fun e => { e with hists := e.hists.filter (fun x => x.1 / 131072 != d) })

/-- The catch-up's block is taken at once: calibration values and, in STEP, health histories. -/
def State.takeBulk (s : State) : State :=
  match s.bulkBlock with
  | none => s
  | some xs =>
    let v := s.bulkValues xs
    let s := (s.writeShade v).writeAll v.fields
    let s := s.onEye fun e => { e with tcal := v.tcal.foldl (fun t x => tset t x.1 x.2) e.tcal }
    let s := s.onPair fun p => { p with bulk := [] }
    xs.foldl (fun s x => if x.1 = 6 then s.takeHealth x.2.1 x.2.2 else s) s

/-- Every bar of the job in force has fully produced a page that begins at or after a line (R533). -/
def State.pagesReady (s : State) (line : Nat) : Bool :=
  match s.jobAt s.pkgLine with
  | none => true
  | some (j, c) => match c.block with
    | none => true
    | some b => b.barList.all (fun n => (s.stream j n).descs.any (fun d =>
        decide (line ≤ c.start + (d.page + d.repeats) * b.pageLines) && (d.blank || d.hold || d.st = .complete)))

/-- A JOINING unit whose catch-up is complete and whose pages are ready becomes STANDBY (R514, R533). -/
def State.judgeReady (s : State) : State :=
  match s.pair.joinLine with
  | none => s
  | some l =>
    if s.role != 1 || !s.pair.unmatched.isEmpty || s.pair.catching || !s.pagesReady (l + s.rd F.EPOCH_MIN_LEAD_LEAD) then s
    else
      let s := (s.wr F.PAIR_STAT_READY 1).setRole 2
      let s := (s.pairControl 1 0).pairEvent 0x110B [l, s.rd F.PAIR_STAT_MODE]
      s.onPair fun p => { p with heardAt := s.clk, heardLine := s.pkgLine }

/-- A CTX message of a catch-up puts a matching READY context into the active's state (R533): `stop` brings an end line, final when it
comes from the arm's own commit. A change into RUNNING or ENDING raises source 24 (R211). Pages that begin at the datum below L_j + EPOCH_MIN_LEAD have passed. -/
def State.adoptCtx (s : State) (j line id : Nat) (stop : Bool) : State :=
  let c := s.ctx j
  if stop then
    if id != c.commit then s.addEnd j line id
    else
      let s := s.setCtx j { c with st := if c.st = .running then .ending else c.st, final := some line }
      if c.st = .running then s.cause 24 else s
  else match c.block with
    | none => s
    | some b =>
      let s := s.setCtx j { c with st := if line ≤ s.pkgLine then .running else .armed, start := line, commit := id, final := none, ends := [] }
      let passed := ceilDiv (s.pair.joinLine.getD 0 + s.rd F.EPOCH_MIN_LEAD_LEAD - line) b.pageLines
      let s := if line ≤ s.pkgLine then s.cause 24 else s
      b.barList.foldl (fun s n => s.setStream j n ⟨0, passed, [], [], none, [], []⟩) s

/-- A message of a catch-up (`part` 1) has been taken; after the last one (`part` 2) the catch-up is complete. -/
def State.caughtUp (s : State) (part : Nat) : State :=
  if part = 2 then (s.onPair fun p => { p with catching := false }).judgeReady else s

/-- When STRUCT_DCLASS of a unit has changed from a value, the partner is told, and a standby returns to JOINING (R528). -/
def State.classFrom (s : State) (old : Nat) : State :=
  if s.role = 0 || s.rd F.STRUCT_DCLASS_VALUE = old then s else s.sendStatus.leaveStep

end Sys2Proof.Machine
end

