-- ==== Sys2Proof/Machine/MonOps.lean ====
section
/-! DEFINITION. Thermal and supply monitors (R637 to R641). -/

namespace Sys2Proof.Machine

open Sys2Proof

/-- Changes the monitors. -/
def State.onMon (s : State) (f : Mon → Mon) : State := { s with mon := f s.mon }

/-- Records an event of a die's MON block and causes its source. -/
def State.monEvent (s : State) (d code : Nat) (payload : List Nat) : State := (s.event d code payload).causeAt d 38

/-- Nominal voltage of a rail in mV (R625, R637). -/
def railNominal (k : Nat) : Nat := [750, 750, 1100, 900, 1200, 1800, 3300].getD k 0

/-- A sensor reads at or above a limit in whole degrees: the lowest-numbered one. -/
def hotSensor (temps : List Int) (lim : Int) : Option (Nat × Int) :=
  ((List.range 4).find? (fun k => decide (10 * lim ≤ temps.getD k 0))).map (fun k => (k, temps.getD k 0))

/-- The warning episode of a die (R639). -/
def State.monWarn (s : State) (d : Nat) (temps : List Int) : State :=
  let lim : Int := s.rd (F.MON_TLIM_TWARN d)
  let top := temps.foldl max (temps.getD 0 0)
  match tget? s.mon.hottest d with
  | some h =>
    let h := max h top
    if top < 10 * (lim - 5) then
      ((s.onMon fun m => { m with hottest := tdel m.hottest d }).wr (F.MON_STAT_WARN d) 0).event d 0x1603 [d, unsigned 24 h]
    else s.onMon fun m => { m with hottest := tset m.hottest d h }
  | none => match hotSensor temps lim with
    | none => s
    | some (k, t) =>
      (((s.onMon fun m => { m with hottest := tset m.hottest d top }).wr (F.MON_STAT_WARN d) 1).inc (F.MON_CNT_WARNS d)).monEvent d 0x1601
        [d, k, unsigned 24 t]

/-- The hot fence of a die falls (R640): its groups are fenced, its axes halt and its chains go dark. -/
def State.hotFence (s : State) (d : Nat) : State :=
  let firing := ((List.range 8).map (8 * d + ·)).filter (fun g => s.grpState g = 1)
  let s := firing.foldl (fun s g => (s.setGrpState g 2).setGroup g (s.group g).withoutStrobe) s
  let s := s.onMon fun m => { m with fenced := m.fenced ++ firing }
  let s := [0, 1, 2, 3].foldl (fun s n => s.axisHalt (4 * d + n)) s
  ((s.ledDarken d).wr (F.MON_STAT_HOT_FENCE d) 1).inc (F.MON_CNT_FENCES d)

/-- A sensor at or above TCRIT (R640). -/
def State.monCrit (s : State) (d : Nat) (temps : List Int) : State :=
  match hotSensor temps (s.rd (F.MON_TLIM_TCRIT d)) with
  | none => s.endEpisode 0x1602 d
  | some (k, t) =>
    if s.on (F.MON_CTL_AUTO_FENCE d) then
      if s.on (F.MON_STAT_HOT_FENCE d) then s else (s.hotFence d).monEvent d 0x1602 [d, k, unsigned 24 t]
    else s.eventOnce d 0x1602 d [d, k, unsigned 24 t]

/-- Rails outside nominal +- TOL (R641). -/
def State.monRails (s : State) (d : Nat) (mv : List Nat) : State :=
  (List.range 7).foldl (fun s k =>
    let v := mv.getD k 0
    let nom := railNominal k
    let off := ((v : Int) - nom).natAbs
    let key := 8 * d + k
    if nom * s.rd (F.MON_VTOL_TOL d) < 200 * off then
      let s := (s.wr (F.MON_STAT_VDEV d) (setBit (s.rd (F.MON_STAT_VDEV d)) k)).onMon fun m => { m with calm := tdel m.calm key }
      if s.inEpisode 0x1604 key then s
      else ((s.inc (F.MON_CNT_VDEVS d)).eventOnce d 0x1604 key [d, k, v]).causeAt d 38
    else if !s.inEpisode 0x1604 key then s
    else
      let n := tget s.mon.calm key 0 + 1
      if n < 100 then s.onMon fun m => { m with calm := tset m.calm key n }
      else (s.onMon fun m => { m with calm := tdel m.calm key }).endEpisode 0x1604 key) s

end Sys2Proof.Machine
end

