-- ==== Sys2Proof/Machine/RecorderOps.lean ====
section
/-! DEFINITION. The event recorder (R569 to R583): severity, records, the open record, the staging FIFO, the copies in flash. -/

namespace Sys2Proof.Machine

open Sys2Proof

/-- Codes of severity CRITICAL (R571). -/
def criticalCodes : List Nat :=
  [0x0103, 0x010C, 0x0803, 0x0807, 0x0808, 0x080D, 0x0D12, 0x0E02, 0x0F20, 0x1104, 0x1105, 0x1206, 0x1209, 0x1301, 0x1602]

/-- Codes of severity ERROR, beside xxF0 and xxF1 (R571). -/
def errorCodes : List Nat :=
  [0x0105, 0x0106, 0x0108, 0x0109, 0x010B, 0x0210, 0x0240, 0x0242, 0x0301, 0x0304, 0x0421, 0x0510, 0x0520, 0x0521, 0x0601,
   0x0602, 0x0603, 0x0604, 0x0701, 0x0705, 0x0802, 0x0809, 0x080A, 0x080B, 0x0813, 0x0902, 0x0904, 0x0906, 0x0A03, 0x0A06] ++
  [0x0B03, 0x0B11, 0x0B12, 0x0B14, 0x0C03, 0x0C04, 0x0D02, 0x0D11, 0x0D13, 0x0E01, 0x0E05, 0x0E0C, 0x0F01, 0x0F03, 0x1007,
   0x1102, 0x1108, 0x1202, 0x1204, 0x1205, 0x120C, 0x1304, 0x1305, 0x1306, 0x1401, 0x1402, 0x1403, 0x1501, 0x1504, 0x1505,
   0x1506]

/-- Codes of severity WARNING (R571). -/
def warningCodes : List Nat :=
  [0x0104, 0x0107, 0x010A, 0x0110, 0x0245, 0x0302, 0x0303, 0x0401, 0x0402, 0x0410, 0x0420, 0x0422, 0x0506, 0x0511, 0x0512,
   0x0513, 0x0514, 0x0702, 0x0703, 0x0704, 0x0801, 0x0805, 0x0810, 0x0811, 0x0812, 0x0903, 0x0905, 0x0907, 0x0908, 0x0A01] ++
  [0x0A02, 0x0A04, 0x0A05, 0x0A07, 0x0A08, 0x0A09, 0x0B01, 0x0B05, 0x0B06, 0x0B07, 0x0C01, 0x0C06, 0x0C07, 0x0D01, 0x0D04,
   0x0D10, 0x0E07, 0x0E08, 0x0E09, 0x0E0B, 0x0F02, 0x0F04, 0x0F05, 0x0F06, 0x0F21, 0x1002, 0x1005, 0x1006, 0x1109, 0x110A,
   0x110D, 0x1207, 0x120A, 0x120B, 0x1302, 0x1303, 0x1404, 0x1502, 0x1503, 0x1601, 0x1604]

/-- Codes of severity NOTICE (R571). -/
def noticeCodes : List Nat :=
  [0x0102, 0x010D, 0x010E, 0x010F, 0x0201, 0x0203, 0x0204, 0x0241, 0x0243, 0x0246, 0x0305, 0x0307, 0x0411, 0x0505, 0x0507,
   0x0706, 0x0804, 0x0806, 0x080C, 0x080E, 0x080F, 0x0B02, 0x0B04, 0x0B10, 0x0B13, 0x0C05, 0x0D03, 0x0E03, 0x0E04, 0x0E06] ++
  [0x1001, 0x1003, 0x1004, 0x1008, 0x1101, 0x1103, 0x1106, 0x1107, 0x110B, 0x110C, 0x110E, 0x1201, 0x1203, 0x1208, 0x1603,
   0x1605]

/-- The defined codes that no row of R571 lists: severity INFO. -/
def infoCodes : List Nat := [0x0202, 0x0244, 0x0300, 0x0501, 0x0502, 0x0503, 0x0504, 0x0901, 0x0C02]

/-- A start-failure or stop-timeout code of a subsystem of R572 (R40). -/
def startStopCode (c : Nat) : Bool := (c % 256 = 0xF0 || c % 256 = 0xF1) && 1 ≤ c / 256 && c / 256 ≤ 0x16

/-- The severity of a code (R571). -/
def severity (c : Nat) : Nat :=
  if startStopCode c then 3
  else if criticalCodes.contains c then 4
  else if errorCodes.contains c then 3
  else if warningCodes.contains c then 2
  else if noticeCodes.contains c then 1
  else 0

/-- The code is defined (R571). -/
def codeKnown (c : Nat) : Bool :=
  startStopCode c || criticalCodes.contains c || errorCodes.contains c || warningCodes.contains c || noticeCodes.contains c
    || infoCodes.contains c

/-- Words 0 to 13 of a record (R569). -/
def Rec.words14 (r : Rec) : List Nat :=
  [r.code + 2 ^ 16 * r.sev + 2 ^ 19 * r.die, r.opsec % 2 ^ 24, bits r.opsec 24 8 + 2 ^ 8 * r.frac, r.pcc % 2 ^ 24,
   r.ntime % 2 ^ 24, bits r.ntime 24 24, bits r.ntime 48 16, r.repeats]
  ++ (List.range 6).map (fun i => r.payload.getD i 0)

/-- The 15 words of a record, with its CRC and MARK (R569, R570). -/
def Rec.words (r : Rec) : List Nat := r.words14 ++ [crc16 (wordBytes r.words14) + 2 ^ 16 * 0xA5]

/-- State of a slot of the ring (R580): 0 empty, 1 valid, 2 torn, 3 corrupt. -/
def slotState (ws : Option (List Nat)) : Nat :=
  match ws with
  | none => 0
  | some ws =>
    if bits (ws.getD 14 0) 16 8 != 0xA5 then 2
    else if bits (ws.getD 14 0) 0 16 = crc16 (wordBytes (ws.take 14)) then 1
    else 3

/-- Operating seconds: lifetime counter 39 of D0 (R573). -/
def State.opsec (s : State) : Nat := tget s.rcd.life 39 0

/-- The fraction of the operating second, in 1/1,024 s (R569): 195,312.5 SENSE periods each. -/
def State.opFrac (s : State) : Nat := min ((s.clk - s.rcd.secondAt) * 2 / 390625) 1023

/-- Opens a record for an event (R569, R573, R575). -/
def State.openRec (s : State) (e : Raised) : Rec :=
  ⟨e.code, severity e.code, e.die, s.opsec % 2 ^ 32, s.opFrac, s.rd F.BOOT_CYCLES_VALUE, e.ntime, 1, e.payload⟩

/-- Posts a record to the EVT ring when RING_EN and RING_SEV say so (R583). -/
def State.postRec (s : State) (r : Rec) : State :=
  if s.on F.EVT_CTL_RING_EN && s.rd F.EVT_CTL_RING_SEV ≤ r.sev then s.post (s.rd F.EVT_CTL_RING) 5 r.words else s

/-- A closing record that finds no room is lost (R577). -/
def State.loseRec (s : State) (r : Rec) : State :=
  let s := s.onRcd fun q => { q with lost := match q.lost with
    | none => some (r.repeats, 1, r.code)
    | some (e, n, c) => some (e + r.repeats, n + 1, c) }
  (s.incBy F.EVT_LOST_EVENTS r.repeats).life 0 38 r.repeats

/-- Room for a closed record: 64 entries of the staging FIFO, or 1,024 of the on-die buffer while the flash is absent (R577,
R581). -/
def State.recRoom (s : State) : Bool :=
  if s.on F.EVT_STAT_FLASH_OK || s.rd F.BOOT_STAT_STAGE < 2 then s.rcd.fifo.length < 64
  else s.rcd.held.length + s.rcd.fifo.length < 1024

/-- A closed record enters the staging FIFO or the on-die buffer and is posted, or is lost (R577, R581, R583). Before Speedwell
entry it waits in the FIFO, whose records the on-die buffer takes before later ones while the flash is absent. -/
def State.enqueueRec (s : State) (r : Rec) : State :=
  if s.recRoom then
    (s.onRcd fun q =>
      if s.on F.EVT_STAT_FLASH_OK || s.rd F.BOOT_STAT_STAGE < 2 then { q with fifo := q.fifo ++ [r] }
      else { q with held := q.held ++ q.fifo ++ [r], fifo := [] }).postRec r
  else s.loseRec r

/-- Closes the open record (R575, R576). -/
def State.closeRec (s : State) : State :=
  match s.rcd.opened with
  | none => s
  | some r => (s.onRcd fun q => { q with opened := none }).enqueueRec r

/-- An event arrives at the recorder: it merges into the open record, which closes at 65,535, or opens a new one (R575, R576). -/
def State.eventArrives (s : State) (e : Raised) : State :=
  let fresh (s : State) : State :=
    let s := s.closeRec
    let r := s.openRec e
    s.onRcd fun q => { q with opened := some r, openedAt := s.clk }
  match s.rcd.opened with
  | none => fresh s
  | some r =>
    if r.code = e.code && r.die = e.die && r.payload.getD 0 0 = e.payload.getD 0 0 then
      let s := s.onRcd fun q => { q with opened := some { r with repeats := r.repeats + 1 } }
      if 65535 ≤ r.repeats + 1 then s.closeRec else s
    else fresh s

/-- A freed entry goes first to the record that reports the losses (R577, R583). -/
def State.reportLost (s : State) : State :=
  match s.rcd.lost with
  | none => s
  | some (e, n, c) =>
    let s := s.onRcd fun q => { q with lost := none }
    let r := s.openRec ⟨0, 0x1301, [e % 2 ^ 24, n % 2 ^ 24, c], s.time 0⟩
    (s.enqueueRec r).cause 43

/-- The window of an event ends: one event is raised with the first item and the count (R645). -/
def State.closeWindow (s : State) (w : Window) : State :=
  let s := s.onRcd fun r => { r with windows := r.windows.filter (fun v => !(v.code = w.code ∧ v.key = w.key)) }
  let s := s.event w.die w.code (if w.counted then w.first ++ [min w.count (2 ^ 24 - 1)] else w.first)
  match w.src with
  | none => s
  | some g => s.cause g

/-! The writer and the ring (R578, R580, R581). -/

/-- The slot after the newest valid one; slots are compared by the key of R573. -/
def State.ringHead (s : State) : Nat :=
  let valid := s.flash.slots.filter (fun e => slotState (some e.2) = 1)
  let key (ws : List Nat) : Nat :=
    (ws.getD 3 0) * 2 ^ 42 + (ws.getD 1 0 + 2 ^ 24 * bits (ws.getD 2 0) 0 8) * 2 ^ 10 + bits (ws.getD 2 0) 8 10
  let newest := valid.foldl (fun b e => match b with
    | none => some e
    | some x => if key x.2 ≤ key e.2 then some e else some x) none
  match newest with
  | none => 0
  | some e => (e.1 + 1) % 65536

/-- Counts the slots of a state. -/
def State.slotsIn (s : State) (st : Nat) : Nat := (s.flash.slots.filter (fun e => slotState (some e.2) = st)).length

/-- At boot, and when the flash returns, the ring is scanned: the writer goes on after the newest valid slot, and torn and corrupt
slots are reported (R581). -/
def State.scanRing (s : State) : State :=
  let s := s.wr F.EVT_HEAD_SLOT s.ringHead
  let s := if s.slotsIn 2 = 0 then s else s.event 0 0x1303 [s.slotsIn 2]
  if s.slotsIn 3 = 0 then s else s.event 0 0x1304 [s.slotsIn 3]

/-- The record the writer programs next: held records go before the FIFO. -/
def State.nextToWrite (s : State) : Option Rec := (s.rcd.held ++ s.rcd.fifo).head?

/-- The program of a slot ends. Verified, the record leaves the buffer; else MARK stays erased, the failure is recorded, and the
record is programmed into the next slot (R578). -/
def State.slotWritten (s : State) (verified : Bool) (r : Rec) : State :=
  let h := s.rd F.EVT_HEAD_SLOT
  let ws := if verified then r.words else r.words14 ++ [bits (r.words.getD 14 0) 0 16 + 2 ^ 16 * 0xFF]
  let s := s.onFlash fun f => { f with slots := tset f.slots h ws }
  let s := if h % 1024 = 0 then s.onRcd fun q => { q with erasing := some ((h / 1024 + 1) % 64) } else s
  let s := s.wr F.EVT_HEAD_SLOT ((h + 1) % 65536)
  if verified then
    let s := s.onRcd fun q => match q.held with
      | _ :: t => { q with held := t }
      | [] => { q with fifo := q.fifo.drop 1 }
    ((s.wr F.EVT_COUNT_RECORDS (s.rd F.EVT_COUNT_RECORDS + 1)).life 0 37 1).reportLost
  else (s.event 0 0x1306 [h]).cause 43

end Sys2Proof.Machine
end

