-- ==== Sys2Proof/Machine/ReadOps.lean ====
section
/-! DEFINITION. What a register reads as: the fields that the Rangar computes when they are read, the views of R68 and R69, and the
pairs of R6 and R7. -/

namespace Sys2Proof.Machine

open Sys2Proof

/-- Word `i` of a quantity, low word first (R6). -/
def wordOf (v i : Nat) : Nat := bits v (24 * i) 24

/-- Bits of a register's word above which a field starts. -/
def fieldsOf (fs : List (Nat × Nat)) (lo : Nat) : Nat := ((fs.find? (fun f => f.1 = lo)).map (·.2)).getD 0

/-! Fields computed at a read, block by block: `off` is the register's offset in its block and `lo` the field's lowest bit. -/

/-- EPOCH (R87). -/
def State.selEpoch (s : State) (off lo : Nat) : Nat :=
  if off < 8 then wordOf s.pkgLine (off / 4)
  else if off = 0x10 then nat (s.input 4).still
  else if off = 0x2C then fieldsOf [(0, s.linePending.length), (5, s.safePending.length)] lo
  else s.stagedCount ((off - 0x40) / 4)

/-- WIN: the entry that WIN_SEL selects, and the buffers defined (R159, R177). -/
def State.selWin (s : State) (off lo : Nat) : Nat :=
  let i := s.rd F.WIN_SEL_INDEX
  let b := s.buf i
  match off with
  | 0x1C => b.base
  | 0x20 => b.len
  | 0x24 => fieldsOf [(0, b.st.code), (2, nat (s.bound i)), (8, b.gen), (16, s.home b)] lo
  | _ => (s.win.bufs.filter (fun e => e.2.st != .undef)).length

/-- Contexts in a state. -/
def State.ctxCount (s : State) (x : CtxState) : Nat := (s.jobs.ctxs.filter (fun c => c.2.st = x)).length

/-- The substrate line that a bar prints now: its die's line less its delay. -/
def State.barLine (s : State) (bar : Nat) : Option Nat :=
  match s.ld.current.pacerOf bar with
  | none => none
  | some p =>
    let l : Int := (s.dieLine (p / 2) : Int) - s.delay (.bar p)
    if l < 0 then none else some l.toNat

/-- The job in force at the substrate line that a bar prints, when it covers the bar (R213). -/
def State.barJob (s : State) (bar : Nat) : Option (Nat × Ctx × CtxBlock × Nat) :=
  match s.barLine bar with
  | none => none
  | some l => match s.jobAt l with
    | none => none
    | some (j, c) => match c.block with
      | none => none
      | some b => if b.hasBar bar then some (j, c, b, l) else none

/-- JOB_LIMIT of a bar (R228): the lower of its heads' line rate and SPEED_LIMIT. -/
def State.barLimit (s : State) (bar : Nat) : Nat :=
  match s.barJob bar, s.ld.current.pacerOf bar with
  | some (_, _, b, _), some p =>
    let top := 400000000 / s.headPeriod p
    min 0xFFFFFF (if b.speedLimit = 0 then top else min top b.speedLimit)
  | _, _ => 0

/-- JOB (R231). -/
def State.selJob (s : State) (off lo : Nat) : Nat :=
  let c := s.ctx (s.rd F.JOB_SEL_CTX)
  if off = 0 then
    fieldsOf [(0, s.ctxCount .ready), (8, s.ctxCount .armed), (12, s.ctxCount .running), (16, s.ctxCount .ending)] lo
  else if off < 0x28 then
    match off with
    | 0x08 => fieldsOf [(0, c.st.code), (3, nat !c.ends.isEmpty), (8, (c.block.map CtxBlock.bars).getD 0)] lo
    | 0x0C => (c.block.map CtxBlock.jobId).getD 0
    | 0x10 => wordOf c.start 0
    | 0x14 => wordOf c.start 1
    | 0x18 => wordOf (c.endLine.getD (2 ^ 48 - 1)) 0
    | 0x1C => wordOf (c.endLine.getD (2 ^ 48 - 1)) 1
    | 0x20 => c.commit
    | _ => fieldsOf [(0, c.buf), (16, c.gen)] lo
  else if off < 0x80 then
    let bar := (off - 0x40) / 4
    match s.barJob bar with
    | none => 0
    | some (j, c, _, l) =>
      fieldsOf [(0, j), (7, 1), (8, nat (((tget? (s.stream j bar).under (c.pageOf l).1).map (fun a => decide (a ≤ (c.pageOf l).2))).getD false))] lo
  else if off < 0xC0 then ((s.barJob ((off - 0x80) / 4)).map (fun x => (x.2.1.pageOf x.2.2.2).1)).getD 0
  else if off < 0x100 then s.barLimit ((off - 0xC0) / 4)
  else wordOf (if (s.jobAt s.pkgLine).isNone then 0 else s.boundaryFrom (s.pkgLine + 1)) ((off - 0x180) / 4)

/-- State of a decompressor unit as ZIP_UNIT codes it (R243). -/
def UnitState.code (u : UnitState) : Nat :=
  match u with
  | .idle => 0
  | .header => 1
  | .run => 2
  | .suspended => 3
  | .check => 4

/-- ZIP of a die (R254). -/
def State.selZip (s : State) (d off lo : Nat) : Nat :=
  if off = 4 then
    fieldsOf [(0, forUpTo 8 (fun u m => m + 2 ^ u * nat ((s.dunit d u).st != .idle)) 0),
      (8, forUpTo 2 (fun u m => m + 2 ^ u * nat (s.cunit d u).job.isSome) 0), (10, s.onWork d)] lo
  else if off < 0x30 then
    let u := s.dunit d ((off - 0x10) / 4)
    if u.st = .idle then 0 else fieldsOf [(0, u.st.code), (3, if u.work then 2 else 1), (5, if u.work then 0 else u.stream % 16)] lo
  else if off < 0x60 then (let u := s.dunit d ((off - 0x30) / 4); if u.st = .idle then 0 else u.tag)
  else
    let u := s.cunit d ((off - 0x60) / 4)
    match u.job with
    | none => 0
    | some j => fieldsOf [(0, if u.stalled then 2 else 1), (2, u.level), (6, match j.owner with
        | .work _ _ => 1
        | _ => 0), (7, j.chain.length - 1)] lo

/-- LNP of a die (R341). -/
def State.selLnp (s : State) (d off lo : Nat) : Nat :=
  if off < 0x20 then
    let p := 2 * d + (off - 0x18) / 4
    fieldsOf [(2, nat (s.web d).reverse), (3, nat ((s.pacer p).loss != .none))] lo
  else if off < 0x28 then (let p := 2 * d + (off - 0x20) / 4; s.minPeriod p ((s.dieLine d : Int) - s.delay (.bar p)))
  else if off < 0x30 then (let (_, ns, rs, _) := s.thresholds d; fieldsOf [(0, ns), (12, rs)] lo)
  else if off < 0x38 then wordOf (unsigned 48 ((s.web d).hwm * 256)) ((off - 0x30) / 4)
  else if off < 0x208 then
    let i := off / 4 % 8
    let g := 8 * d + i
    let p := s.groupPacer g
    let l : Int := (s.dieLine d : Int) - s.delay (.bar p)
    if off < 0x120 then (s.group g).pulseMax
    else match s.groupHeadNow g with
      | none => 0
      | some h =>
        if off < 0x140 then (let (a, b) := s.voltLimits (s.imageOfHead h) h; fieldsOf [(0, a), (12, b)] lo)
        else fieldsOf [(0, s.phi g l), (9, (s.rowFrac p l h 1 + 256 - s.rowFrac p l h 0) % 256)] lo
  else fieldsOf [(0, s.press.spans.length), (6, nat ((List.range (2 * s.dies)).any (fun p => s.band p != 0)))] lo

/-- CAM of a die (R396). -/
def State.selCam (s : State) (d lo : Nat) : Nat :=
  let c := s.cam d
  fieldsOf [(0, nat c.frame.isSome), (1, nat c.unmatched.isSome), (2, nat c.settling), (3, c.archQ.length)] lo

/-- MOT of a die (R450). -/
def State.selMot (s : State) (d off lo : Nat) : Nat :=
  let x := s.axis (4 * d + (off - 0x400) / 0x40)
  let sat (v : Int) : Nat := unsigned 24 (max (-8388608) (min 8388607 v))
  let spd := unsigned 48 (((x.out - x.outWas) * 100000).tdiv fine)
  match (off - 0x400) % 0x40 with
  | 0x00 => fieldsOf [(0, nat (x.v != 0)), (1, nat (x.dwell != 0)), (7, nat x.armed.isSome), (8, x.k)] lo
  | 0x04 => wordOf (unsigned 48 x.e) 0
  | 0x08 => wordOf (unsigned 48 x.e) 1
  | 0x0C => wordOf spd 0
  | 0x10 => wordOf spd 1
  | 0x14 => sat x.dev
  | _ => sat (x.lag.tdiv fine)

/-- FBK of a die (R306). -/
def State.selFbk (s : State) (d off lo : Nat) : Nat :=
  if off < 0x140 then
    let f := 5 * d + off / 0x40
    let x := s.input f
    let spd := unsigned 48 (x.speed s.clk (s.stillTo f))
    match off % 0x40 with
    | 0x08 => fieldsOf [(0, nat x.still), (1, nat x.back), (5, nat x.hold)] lo
    | 0x10 => wordOf (unsigned 48 (x.position s.clk)) 0
    | 0x14 => wordOf (unsigned 48 (x.position s.clk)) 1
    | 0x18 => wordOf spd 0
    | _ => wordOf spd 1
  else unsigned 17 (s.emu (2 * d + (off - 0x200) / 0x40)).backlog

/-- A word of a bitmap of sources: those of `l` among the 24 from `first` on. -/
def sourceBits (l : List Nat) (first : Nat) : Nat := forUpTo 24 (fun i m => m + 2 ^ i * nat (l.contains (first + i))) 0

/-- The first source of word `w` of the bitmaps of IRQH (R489). -/
def wordFirst (w : Nat) : Nat := 256 * (w / 8) + 24 * (w % 8)

/-- IRQH (R489). -/
def State.selIrqh (s : State) (off lo : Nat) : Nat :=
  if off < 0x40 then fieldsOf [(8, (s.stackOf (off / 4)).length), (12, s.runPrio (off / 4))] lo
  else if off < 0x500 then sourceBits s.irq.pending (wordFirst ((off - 0x400) / 4))
  else sourceBits (s.irq.claims.flatMap (fun e => e.2.map Claimed.src)) (wordFirst ((off - 0x500) / 4))

/-- LED of a die (R597, R598, R601, R615). -/
def State.selLed (s : State) (d off lo : Nat) : Nat :=
  let (c, dev, ch) := s.ledSel d
  let x := s.chain c
  match off with
  | 0x18 => (let (e, w) := tget x.sent (4 * dev + ch) (0, 0); fieldsOf [(0, e), (16, w)] lo)
  | 0x1C => fieldsOf [(0, ((tget? x.status dev).map (·.1)).getD 0), (16, nat (x.stale.contains dev))] lo
  | 0x20 => x.factor dev
  | o => (let m := 2 * d + (o - 0x28) / 4; fieldsOf [(9, nat (s.inEpisode 0x1404 m)), (10, nat !(s.chain m).stale.isEmpty)] lo)

/-- HLTH (R426). -/
def State.selHlth (s : State) (off lo : Nat) : Nat :=
  match off with
  | 0x14 => match s.jobAt s.pkgLine with
    | none => 0
    | some (_, c) => match c.block with
      | none => 0
      | some b => fieldsOf [(0, min 255 (s.checkCycle b s.pkgLine)), (8, b.slots)] lo
  | _ => (let w := s.headWord (s.rd F.HLTH_HEAD_SEL_HEAD); fieldsOf [(0, bits w 0 12), (12, bits w 12 1)] lo)

/-- CAL (R427). -/
def State.selCal (s : State) (off : Nat) : Nat :=
  let r := if off < 0x80 then (off - 0x40) / 4 else 16 + (off - 0x80) / 4
  min 0xFFF (tget s.eye.drift r 0)

/-- EVT (R591). -/
def State.selEvt (s : State) (off lo : Nat) : Nat :=
  let lc := tget s.rcd.life (s.rd F.EVT_LC_SEL_INDEX) 0
  let hg := tget s.rcd.hist (32 * s.rd F.EVT_HG_SEL_HIST + s.rd F.EVT_HG_SEL_BIN) 0
  let nz := tget s.rcd.fires (s.rd F.EVT_NZ_ADDR_ADDR) 0
  let code := s.rd F.EVT_CODE_SEL_CODE
  match off with
  | 0x00 => fieldsOf [(1, nat !s.rcd.held.isEmpty), (2, nat s.rcd.opened.isSome), (3, s.rcd.fifo.length)] lo
  | 0x14 => wordOf s.opsec 0
  | 0x18 => wordOf s.opsec 1
  | 0x104 => wordOf lc 0
  | 0x108 => wordOf lc 1
  | 0x114 => wordOf hg 0
  | 0x118 => wordOf hg 1
  | 0x124 => wordOf nz 0
  | 0x128 => wordOf nz 1
  | _ => if codeKnown code then fieldsOf [(0, severity code), (3, 1)] lo else 0

/-- MTR: the read view of the meter (R568). -/
def State.selMtr (s : State) (off lo : Nat) : Nat :=
  let m := s.meter
  let pair (v i : Nat) : Nat := wordOf v (i / 4)
  if off = 0 then bits s.mtrStat lo (if lo = 0 then 2 else 1)
  else if off < 0x28 then
    match off with
    | 0x04 => m.sealCount
    | 0x08 => m.trail.length
    | 0x0C => fieldsOf [(0, Config.meterRom.toNat), (12, m.patchId)] lo
    | o => if o < 0x18 then pair (lenMm m.totals.len) (o - 0x10) else if o < 0x20 then pair (lenMm m.totals.web) (o - 0x18)
      else pair m.params.lscale (o - 0x20)
  else if off < 0x34 then pair (m.params.byId (s.rd F.MTR_PARAM_SEL_ID)) (off - 0x2C)
  else if off < 0x3C then pair m.cnt (off - 0x34)
  else if off < 0x44 then pair (m.hwm.getD 0) (off - 0x3C)
  else if off < 0x4C then pair m.nonce (off - 0x44)
  else if off < 0x50 then m.iseq
  else if off < 0x58 then pair (tget m.crcs m.iseq 0) (off - 0x50)
  else if off < 0x60 then fieldsOf [(0, m.qerr), (8, m.indErr), (16, m.tagFail)] lo
  else if off < 0x80 then (match tget? m.taps ((off - 0x60) / 4) with
    | none => 0
    | some t => fieldsOf [(0, t.gaps), (16, nat t.up)] lo)
  else if off < 0x100 then m.res.getD ((off - 0x84) / 4) 0
  else if off < 0x300 then
    let c := (off - 0x100) / 0x20
    let x := m.params.chan c
    match (off - 0x100) % 0x20 with
    | 0x18 => fieldsOf [(0, x.sources), (16, nat x.enable)] lo
    | 0x1C => m.unratedOf c
    | o => if o < 8 then pair (m.drops c) o else if o < 16 then pair (m.area c) (o - 8) else pair (m.vol c) (o - 16)
  else if off < 0x700 then
    let x := m.params.entry ((off - 0x300) / 0x40)
    if (off - 0x300) % 0x40 = 0 then fieldsOf [(0, x.rank), (16, nat x.valid)] lo else x.mass.getD ((off - 0x300) % 0x40 / 4 - 1) 0
  else if off < 0x800 then (m.params.chan ((off - 0x700) / 4)).mfact
  else if off < 0x900 then (m.trail.getD (s.rd F.MTR_TRAIL_SEL_ENTRY) []).getD ((off - 0x804) / 4) 0
  else if off = 0x904 then m.snapSeq
  else (m.snaps.getD (s.rd F.MTR_SNAP_SEL_BACK) []).getD ((off - 0xA00) / 4) 0

/-- A field that the Rangar computes when it is read. -/
def State.selValue (s : State) (a lo : Nat) : Nat :=
  let off := a % 0x10000
  match addrDie a with
  | none => match a / 0x10000 with
    | 0 => s.dies
    | 1 => s.selEpoch off lo
    | 4 => s.selWin off lo
    | 6 => s.selJob off lo
    | 7 => s.selIrqh off lo
    | 8 => wordOf (s.time 0) ((off - 4) / 4)
    | 9 => nat s.leads
    | 0xA => s.selMtr off lo
    | 0xB => s.selEvt off lo
    | 0xD => s.selHlth off lo
    | 0xE => s.selCal off
    | _ => 0
  | some d => match addrBlock a with
    | 0 => fieldsOf [(0, d), (3, nat (d = 0))] lo
    | 1 => s.selZip d off lo
    | 3 => s.selLnp d off lo
    | 5 => s.selCam d lo
    | 6 => s.selMot d off lo
    | 7 => s.selFbk d off lo
    | 9 => sourceBits s.irq.pending (256 * d + 24 * ((off - 0xC00) / 4))
    | 0xA => s.selLed d off lo
    | _ => 0

/-! Views. -/

/-- VIEW covers the die views and the package blocks JOB, HLTH, CAL, DISP, PAIR and PKG (R68). -/
def viewCovers (a : Nat) : Bool :=
  match addrDie a with
  | none => [0, 6, 9, 0xC, 0xD, 0xE].contains (a / 0x10000)
  | some _ => true

/-- What a field reads as at present: the value the Rangar computes, or the one that the register file holds. -/
def State.fieldNow (s : State) (a : Nat) (f : FDesc) : Nat :=
  match f.kind with
  | .sel => s.selValue a f.lo % 2 ^ f.width
  | .wo => 0
  | _ => s.rd (f.fld a)

/-- The reset value of a field: for DIES of PKG_ID and for DIE_ID it is what the unit and the die fix (R33, R34). -/
def State.fieldReset (s : State) (a : Nat) (f : FDesc) : Nat :=
  if f.kind = .sel && (a = 0 || (0x800000 ≤ a && a % 0x100000 = 0)) then s.selValue a f.lo else f.reset

/-- What a field returns to a read (R10, R68, R69): a status field its live value, or in the SNAPSHOT view the latched one; an ST field
as the view says. While no snapshot is held the latched value is the reset value (DEDUCED, notes/assumptions/94). Where VIEW does not apply, a read returns what the STAGED view returns. -/
def State.fieldRead (s : State) (a : Nat) (f : FDesc) : Nat :=
  let view := if viewCovers a then s.rd F.EPOCH_CTL_VIEW else 0
  if view = 2 && f.kind != .rw && f.kind != .en && f.kind != .wo then tget s.snap (f.fld a).key (s.fieldReset a f)
  else if view = 0 && f.isST then s.stagedValue (f.fld a)
  else s.fieldNow a f

/-- The word that a read of a BAR0 address returns, apart from what the read does (R9, R10, R133): 0 where no register lies, and the reset
values of a register that is not in service. -/
def State.readWord (s : State) (a : Nat) : Nat :=
  if s.absent a || s.ringless a then 0
  else (fieldsAt a).foldl (fun w f => w + 2 ^ f.lo * (if s.inService a then s.fieldRead a f else s.fieldReset a f)) 0

/-- The RC fields of a register are cleared by a read, but for a read in the SNAPSHOT view (R10, R69). -/
def State.clearRC (s : State) (a : Nat) : State :=
  if (viewCovers a && s.rd F.EPOCH_CTL_VIEW = 2) || !s.inService a || s.absent a then s
  else ((fieldsAt a).filter (fun f => decide (f.kind = .rc))).foldl (fun s f => s.wr (f.fld a) 0) s

/-! Pairs. -/

/-- Quantities of a block that take several words (R6): the offset of the low word, up to two strides with counts, and the number of words. -/
structure PairDesc where
  off : Nat
  stride : Nat
  count : Nat
  words : Nat
  deriving DecidableEq, Repr

/-- The pairs of a package block. -/
def packPairs (b : Nat) : List PairDesc :=
  match b with
  | 0 => [⟨0x14, 8, 1, 2⟩, ⟨0x24, 8, 1, 2⟩]
  | 1 => [⟨0x0, 8, 2, 2⟩, ⟨0x18, 8, 1, 2⟩, ⟨0x60, 8, 1, 2⟩, ⟨0x70, 8, 1, 2⟩, ⟨0x78, 12, 1, 3⟩]
  | 3 => [⟨0x10, 8, 1, 2⟩, ⟨0x20, 8, 8, 2⟩, ⟨0x60, 8, 8, 2⟩]
  | 4 => [⟨0xC, 8, 1, 2⟩]
  | 6 => [⟨0x10, 8, 2, 2⟩, ⟨0x180, 8, 1, 2⟩]
  | 7 => [⟨0x100, 16, 16, 3⟩]
  | 8 => [⟨0x4, 12, 2, 3⟩, ⟨0x2C, 12, 1, 3⟩, ⟨0x104, 16, 16, 2⟩]
  | 9 => [⟨0x20, 8, 1, 2⟩]
  | 0xA => [⟨0x10, 8, 3, 2⟩, ⟨0x2C, 8, 4, 2⟩, ⟨0x50, 8, 1, 2⟩, ⟨0x100, 32, 16, 2⟩, ⟨0x108, 32, 16, 2⟩, ⟨0x110, 32, 16, 2⟩]
  | 0xB => [⟨0x14, 8, 1, 2⟩, ⟨0x104, 8, 1, 2⟩, ⟨0x114, 8, 1, 2⟩, ⟨0x124, 8, 1, 2⟩]
  | 0xC => [⟨0x20C, 32, 8, 2⟩, ⟨0x214, 32, 8, 2⟩]
  | _ => []

/-- The pairs of a block of a die view. -/
def diePairs (b : Nat) : List PairDesc :=
  match b with
  | 0 => [⟨0x8, 8, 1, 2⟩]
  | 1 => [⟨0x70, 8, 2, 2⟩]
  | 2 => [⟨0x30, 8, 2, 2⟩]
  | 3 => [⟨0x30, 8, 1, 2⟩]
  | 4 => [⟨0xA0, 8, 8, 2⟩]
  | 5 => [⟨0x14, 8, 1, 2⟩]
  | 6 => [⟨0x4, 0x80, 4, 2⟩, ⟨0x54, 0x80, 4, 2⟩, ⟨0x60, 0x80, 4, 2⟩, ⟨0x404, 0x40, 4, 2⟩, ⟨0x40C, 0x40, 4, 2⟩]
  | 7 => [⟨0x10, 0x40, 5, 2⟩, ⟨0x18, 0x40, 5, 2⟩, ⟨0x20, 0x40, 5, 2⟩]
  | 8 => [⟨0x30, 8, 1, 2⟩]
  | _ => []

/-- The pair that a register belongs to: which of its words the register is, and how many it has. -/
def pairAt (a : Nat) : Option (Nat × Nat) :=
  let off := a % 0x10000
  let ps := match addrDie a with
    | none => packPairs (a / 0x10000)
    | some _ => diePairs (addrBlock a)
  ps.findSome? fun p =>
    let k := (off - p.off) % p.stride
    if p.off ≤ off && (off - p.off) / p.stride < p.count && k % 4 = 0 && k / 4 < p.words then some (k / 4, p.words) else none

/-- The measured load of an Iareod port, LNK_BW, is a free value at each read while the port is up (R35). -/
def State.measure (s : State) (a : Nat) : State :=
  if a < 0x800000 || addrBlock a != 0xB || a % 0x10000 < 0x30 || 0x40 ≤ a % 0x10000 then s
  else
    let d := (addrDie a).getD 0
    let p := (a % 0x10000 - 0x30) / 4
    if s.rd (F.LNK_STAT_STATE d p) < 2 then s
    else
      let (v, s) := s.draw 24
      (s.wr (F.LNK_BW_TX d p) v).wr (F.LNK_BW_RX d p) (v / 2 ^ 12)

/-- A read of one slot (R7, R9, R10): a higher word returns what the read of its low word has latched; a low word latches the higher
words; RC fields are cleared. -/
def State.readSlot (s : State) (a : Nat) : Nat × State :=
  match s.host.pairLatch.find? (fun e => e.1 = a) with
  | some e => (e.2, s.onHost fun h => { h with pairLatch := h.pairLatch.filter (fun x => x.1 != a) })
  | none =>
    let s := s.measure a
    let v := s.readWord a
    match pairAt a with
    | some (0, n) =>
      let more := (List.range (n - 1)).map (fun j => (a + 4 * (j + 1), s.readWord (a + 4 * (j + 1))))
      (v, (s.clearRC a).onHost fun h => { h with pairLatch := more ++ h.pairLatch.filter (fun x => !more.any (fun m => m.1 = x.1)) })
    | _ => (v, s.clearRC a)

/-! Snapshots. -/

/-- The die that latches what is listed under a number (R70): the package blocks stand with D0. -/
def keyDie (key : Nat) : Nat :=
  let a := key / 32
  if a < 0x800000 then 0
  else if a < 0x1000000 then (a - 0x800000) / 0x100000
  else if a < 0x1200000 then (a - 0x1000000) / 131072
  else if a < 0x1300000 then (a - 0x1200000) / 64
  else if a < 0x1400000 then (a - 0x1300000) / 512
  else 0

/-- The addresses of a row of a register table in a block. -/
def RDesc.addrs (r : RDesc) (base : Nat) : List Nat :=
  match r.dims with
  | [] => [base + r.off]
  | [(s, c)] => (List.range c).map (fun i => base + r.off + s * i)
  | (s, c) :: (s', c') :: _ => (List.range c).flatMap (fun i => (List.range c').map (fun j => base + r.off + s * i + s' * j))

/-- The fields of a block that the Rangar computes, with their values, as a snapshot keeps them. -/
def State.latchBlock (s : State) (rows : List RDesc) (base : Nat) (t : Tab Nat) : Tab Nat :=
  rows.foldl (fun t r =>
    let fs := r.fields.filter (fun f => decide (f.kind = .sel))
    if fs.isEmpty then t
    else (r.addrs base).foldl (fun t a => fs.foldl (fun t f => tset t (f.fld a).key (s.fieldNow a f)) t) t) t

/-- What die `d` latches at the snapshot line (R70): its status fields and its effective configuration fields, D0 also those of the package
blocks that VIEW covers, with the nozzle histories and the states of heads (R424). -/
def State.latchDie (s : State) (d : Nat) (t : Tab Nat) : Tab Nat :=
  let t := (s.live.filter (fun e => keyDie e.1 = d)).foldl (fun t e => tset t e.1 e.2) t
  let t := (List.range 0xE).foldl (fun t b => s.latchBlock (dieRegs b) (dieAt d (0x10000 * b)) t) t
  let t := s.eye.hists.foldl (fun t e => if e.1 / 131072 = d then tset t (histSnap e.1) (s.histWord e.1) else t) t
  if d != 0 then t
  else
    let t := [0, 6, 9, 0xC, 0xD, 0xE].foldl (fun t b => s.latchBlock (pkgRegs b) (0x10000 * b) t) t
    s.ld.current.heads.foldl (fun t h => tset t (headSnap h.1) (s.headWord h.1)) t

/-- A die latches the armed snapshot (R70, R71); when it is the last fitted die, the snapshot is complete (R72). -/
def State.latchSnap (s : State) (d : Nat) : State :=
  match s.epoch.armed with
  | none => s
  | some a =>
    if a.latched.contains d then s
    else
      let a := { a with
        latched := d :: a.latched
        values := s.latchDie d a.values
        images := tset a.images d (s.ld.current, s.ld.overlay, s.ld.switched)
        applied := tset a.applied d (s.appliedId d)
        time := if d = 0 then s.time 0 else a.time }
      if a.latched.length < s.dies then s.onEpoch fun e => { e with armed := some a }
      else
        let s := { s with snap := a.values, snapImages := a.images }
        let s := ((s.wr F.SNAP_STAT_STATE 2).wr F.SNAP_STAT_DATA 1).wr F.SNAP_STAT_TIMED (nat a.timed)
        let s := s.wr F.SNAP_STAT_SEQ (s.rd F.SNAP_STAT_SEQ + 1)
        let s := s.wrPair F.SNAP_AT_LO_SNAP_AT F.SNAP_AT_HI_SNAP_AT a.line
        let s := ((s.wr F.SNAP_TIME_0_SNAP_TIME (wordOf a.time 0)).wr F.SNAP_TIME_1_SNAP_TIME (wordOf a.time 1)).wr
          F.SNAP_TIME_2_SNAP_TIME (wordOf a.time 2)
        let s := if a.timed then s.event 0 0x0244 [] else s
        (a.applied.foldl (fun s e => s.wr (F.SNAP_APPLIED_ID e.1) e.2) s).onEpoch fun e => { e with armed := none }

end Sys2Proof.Machine
end

