-- ==== Sys2Proof/Machine/Epoch.lean ====
section
/-! DEFINITION. Commands and events of lines, commits, snapshots and encoder rounds (R43 to R87). -/

namespace Sys2Proof.Machine

open Sys2Proof

/-- A zero is requested (R48). -/
def State.requestZero (s : State) : State :=
  if !s.mayZero then s.event 0 0x0245 []
  else
    let old := s.pkgLine
    s.zeroLines.event 0 0x0246 [old % 2 ^ 24, old / 2 ^ 24]

/-- R48: a write of EPOCH_ZERO; a value other than the key is ignored. -/
def execEpochZero (key : Word) (s : State) : Host.Outcome State Fault Refusal :=
  .next (s.served 0x10000 (if key.toNat = 0x00A55A then s.requestZero else s))

/-- A staged layer of the display names a buffer that is not DEVICE-owned (R81, R607). Generations run from 1 (R160), so a layer with GEN 0
names none and is not judged (DEDUCED, notes/assumptions/123). -/
def State.stagedBufferBad (s : State) (fs : List (Nat × Nat)) : Bool :=
  (List.range 4).any (fun k =>
    let b := F.DISP_LBUF_BUF k
    let g := F.DISP_LBUF_GEN k
    let val (f : Fld) : Nat := ((fs.find? (fun x => x.1 = f.key)).map (·.2)).getD (s.stagedValue f)
    (writes fs b || writes fs g) && val g != 0 && s.refStatus (val b) (val g) != 0)

/-- A write of EPOCH_COMMIT captures the staged writes (R52 to R54). In a pair in step, a safe-point commit carries an apply line of
`lead` lines (R85). -/
def State.commitStaged (s : State) (safe snap : Bool) (lead : Option Nat) : State :=
  let fs := s.epoch.stage.foldl (fun l e => if l.any (fun x => x.1 = e.key) then l else l ++ [(e.key, e.val)]) []
  let full := s.rd F.EPOCH_QSTAT_STAGE_OVF != 0
  let bad := s.stagedBufferBad fs
  let s := (s.onEpoch fun e => { e with stage := [] }).wr F.EPOCH_QSTAT_STAGE_OVF 0
  let line := match safe, lead with
    | true, some n => s.pkgLine + n
    | _, _ => s.rdPair F.EPOCH_APPLY_LO_APPLY F.EPOCH_APPLY_HI_APPLY
  let (s, ok) := s.capture (safe && lead.isNone) (snap && !safe) .host fs (s.partsOf fs) line full bad
  if ok then s.noteStaged fs else s

/-- A write of EPOCH_COMMIT on a standby captures a commit that waits for the active's COMMIT message (R523). -/
def State.commitWaiting (s : State) (safe snap : Bool) : State :=
  let fs := s.epoch.stage.foldl (fun l e => if l.any (fun x => x.1 = e.key) then l else l ++ [(e.key, e.val)]) []
  let full := s.rd F.EPOCH_QSTAT_STAGE_OVF != 0
  let bad := s.stagedBufferBad fs
  let s := (s.onEpoch fun e => { e with stage := [] }).wr F.EPOCH_QSTAT_STAGE_OVF 0
  s.standbyCapture ⟨safe, snap && !safe, .host, fs, s.partsOf fs, s.rdPair F.EPOCH_APPLY_LO_APPLY F.EPOCH_APPLY_HI_APPLY, full, bad,
    s.fieldsCrc .host fs⟩

/-- R54, R523: a write of EPOCH_COMMIT. -/
def execEpochCommit (safe snap : Bool) (s : State) : Host.Outcome State Fault Refusal :=
  .next (s.served 0x10000
    (if s.matched then s.commitWaiting safe snap
     else s.commitStaged safe snap (if safe && s.sequences then some s.pairLead else none)))

/-- R55 to R57, R80: a consumer reaches a commit's line or its safe point. -/
def execCommitApply (id : Nat) (k : Consumer) (print : Bool) (t : Nat) (s : State) : Host.Outcome State Fault Refusal :=
  guarded (consumerDie k < s.dies)
    (let s := s.atTime t
     match s.commit? id with
     | none => s
     | some c => if s.mayApply c k print then s.applyPart c k print else s)

/-- R64: every consumer has applied a commit. -/
def execCommitComplete (id t : Nat) (s : State) : Host.Outcome State Fault Refusal :=
  .next
    (let s := s.atTime t
     match s.commit? id with
     | none => s
     | some c => if s.isComplete c then (s.completeCommit c).classFrom (s.rd F.STRUCT_DCLASS_VALUE) else s)

/-- A commit of which no consumer has applied anything is cancelled; an active tells its standby (R63, R524). -/
def State.cancelById (s : State) (id : Nat) : State :=
  match s.commit? id with
  | none => s
  | some c =>
    if s.matched || c.begun || c.remaining.length != c.parts.length then s
    else
      let s := s.cancelCommit c
      if s.sequences then s.pairSend 0x11 0 [id] else s

/-- R63, R524: a write of EPOCH_CANCEL. -/
def execEpochCancel (id : Nat) (s : State) : Host.Outcome State Fault Refusal := .next (s.served 0x10000 (s.cancelById id))

/-! Snapshots. -/

/-- A snapshot is requested (R70, R72, R73): by line, or by time when the web stands still on D0. -/
def State.requestSnap (s : State) (now : Bool) : State :=
  let line := if now then s.pkgLine + 2 else s.rdPair F.SNAP_LINE_LO_SNAP_LINE F.SNAP_LINE_HI_SNAP_LINE
  s.armSnap line (s.input 4).still

/-- R70: a write of SNAP_REQ. -/
def execSnapReq (now : Bool) (s : State) : Host.Outcome State Fault Refusal := .next (s.served 0x10000 (s.requestSnap now))

/-- R70 to R72: a die crosses the snapshot line; one that is past it already latches at once (DEDUCED, notes/assumptions/95). -/
def execSnapshotLatch (d t : Nat) (s : State) : Host.Outcome State Fault Refusal :=
  guarded (d < s.dies)
    (let s := s.atTime t
     match s.epoch.armed with
     | none => s
     | some a => if a.timed || s.dieLine d < a.line then s else s.latchSnap d)

/-- R73: 10 microseconds after a request at standstill every die latches. -/
def execSnapshotTimed (t : Nat) (s : State) : Host.Outcome State Fault Refusal :=
  .next
    (let s := s.atTime t
     match s.epoch.armed with
     | none => s
     | some a => if a.timed then (List.range s.dies).foldl (fun s d => s.latchSnap d) s else s)

/-! Encoder rounds. -/

/-- A round is opened; it waits for its latch instant (R74). -/
def State.openRound (s : State) : State :=
  let boot := s.bootRoundDue
  let s := s.onEpoch fun e => { e with round := some ⟨[], []⟩, crossed := false }
  if boot then { s with boot := { s.boot with rounds := s.boot.rounds + 1 } } else s

/-- R74, R131: D0's count crosses a multiple of 4,096, or the boot round is due. -/
def execEncRoundOpen (t : Nat) (s : State) : Host.Outcome State Fault Refusal :=
  .next
    (let s := s.atTime t
     if s.epoch.round.isNone && (s.epoch.crossed || (s.bootRoundDue && s.boot.rounds = 0)) then s.openRound else s)

/-- R74, R525: the latch instant of a round; the dies of `silent` do not report. An active sends LINE_SYNC. -/
def execEncRoundLatch (silent : List Nat) (t : Nat) (s : State) : Host.Outcome State Fault Refusal :=
  .next
    (let s := s.atTime t
     if s.epoch.round.isNone then s
     else
       let dies := List.range s.dies
       let r : EncRound := ⟨dies.map (fun d => (d, s.webCount d)), dies.filter (fun d => !silent.contains d)⟩
       let s := s.onEpoch fun e => { e with round := some r }
       if s.sequences then s.sendLineSync else s)

/-- The round is one of the boot (R131). -/
def State.bootRound (s : State) : Bool := s.rd F.BOOT_STAT_STAGE = 6 && s.boot.restored && !s.boot.agreed

/-- R75 to R78: every fitted die has reported. -/
def execEncRoundJudge (t : Nat) (s : State) : Host.Outcome State Fault Refusal :=
  .next
    (let s := s.atTime t
     match s.epoch.round with
     | none => s
     | some r =>
       if r.reported.length < s.dies then s
       else
         let boot := s.bootRound
         let s := s.judgeRound r
         if boot then { s with boot := { s.boot with agreed := true } } else s)

/-- R79, R131: the 20 microseconds of a round end without the reports of some dies. -/
def execEncRoundDeadline (t : Nat) (s : State) : Host.Outcome State Fault Refusal :=
  .next
    (let s := s.atTime t
     match s.epoch.round with
     | none => s
     | some r =>
       if r.latched.isEmpty || s.dies ≤ r.reported.length then s
       else
         let missing := (List.range s.dies).filter (fun d => !r.reported.contains d)
         (missing.foldl (fun s d => s.missedRound d) s).judgeRound r)

end Sys2Proof.Machine
end

