-- ==== Sys2Proof/Machine/Loader.lean ====
section
/-! DEFINITION. The commands and events of the structure loader (R107 to R118). -/

namespace Sys2Proof.Machine

open Sys2Proof

/-- R107: AUTH acts on a STRUCT_LOAD command: it is judged, and opens its source or is rejected. -/
def execStructLoad (s : State) : Host.Outcome State Fault Refusal :=
  .next (match s.authCmd 1 with
    | none => s
    | some c =>
      let s := s.authTaken
      let l := loadCmdOf c.payload
      let st := s.loadStatus l
      if st != 0 then (s.noteReject st 0 0).cmdResult c 13 st else (s.openLoad l).cmdResult c 0 0)

/-- R116: a word is written to STRUCT_FIFO; outside RECEIVING of a SRC 0 load it is discarded and counted. -/
def execStructFifoWrite (w : Word) (s : State) : Host.Outcome State Fault Refusal :=
  .next (s.served 0x20000
    (if s.loaderState = 1 && s.ld.cmd.src = 0 then s.onLd fun l => { l with inbox := l.inbox ++ [w.toNat] } else s.inc F.STRUCT_DISCARD_COUNT))

/-- R108, R110: the next word of the source arrives, or the source is found to be lost. -/
def execImageWordReceived (t : Nat) (s : State) : Host.Outcome State Fault Refusal :=
  .next (let s := s.atTime t
         if s.loaderState != 1 then s
         else if s.sourceLost then s.rejectLoad 18 s.ld.sec s.ld.words.length
         else match s.nextWord with
           | none => s
           | some w => s.imageWord w)

/-- An overlay has passed its checks: it is captured as a commit with its apply line (R113); on a standby it waits for the active's
(R523). -/
def State.captureOverlay (s : State) : State :=
  let xs := s.ld.sections
  let m := s.ld.incoming
  let fs := s.overlayFields xs
  let id := s.rd F.EPOCH_NEXT_ID_ID
  let parts := (s.overlayBars m ++ overlayUnits xs ++ fs.map (fun f => (s.consumerOf f.1, false))).eraseDups
  if s.matched then ((s.onLd fun l => { l with overlay := m }).loaderRest).standbyCapture
    ⟨false, false, .overlay, fs, parts, s.ld.cmd.apply, false, false, s.fieldsCrc .overlay fs⟩
  else
    let (s, ok) := s.capture false false .overlay fs parts s.ld.cmd.apply false false
    (s.overlayCaptured fs m id ok).loaderRest

/-- R118: the tag and the signatures have been checked. Where R117 leaves the place of a breach open, it is END for the tag, the first word of
the signature, and the last word of the image for the flash and for a source that is lost (DEDUCED, notes/assumptions/129). -/
def execStructVerifyDone (t : Nat) (s : State) : Host.Outcome State Fault Refusal :=
  .next (let s := s.atTime t
         if s.loaderState != 2 then s
         else if s.sourceLost then s.rejectLoad 18 (s.ld.sec - 1) (s.ld.words.length - 1)
         else
           let n := s.ld.words.length
           if !s.imageTagOk then s.rejectLoad 8 (s.ld.sec - 1) (n - 8)
           else match s.badFirmware with
             | some (sec, w) => s.rejectLoad 9 sec w
             | none =>
               let s := s.releaseSource
               if s.ld.cmd.store != 0 then (s.setSlot s.ld.cmd.store none).setLoader 5
               else if s.ld.cmd.overlay then s.captureOverlay
               else s.setLoader 4)

/-- R95, R111: every die has made the new bank active. -/
def execStructBanksSwitched (t : Nat) (s : State) : Host.Outcome State Fault Refusal :=
  .next (let s := s.atTime t; if s.loaderState = 4 then s.switchBanks.classFrom (s.rd F.STRUCT_DCLASS_VALUE) else s)

/-- R109: the image has been written into its flash slot, or a write has failed. -/
def execStructStoreDone (written : Bool) (t : Nat) (s : State) : Host.Outcome State Fault Refusal :=
  .next (let s := s.atTime t
         if s.loaderState != 5 then s
         else if !written || !s.flash.ok then s.rejectLoad 20 (s.ld.sec - 1) (s.ld.words.length - 1)
         else
           let c := s.ld.cmd
           let s := s.setSlot c.store (some (slotDesc s.ld.image ++ s.ld.image))
           let s := (s.event 0 0x0204 [c.store, s.ld.incoming.id]).cause 18
           if c.noApply then s.loaderRest else s.setLoader 4)

/-- R116: a STRUCT_FIFO load has had no word for 1 s. -/
def execStructFifoTimeout (t : Nat) (s : State) : Host.Outcome State Fault Refusal :=
  .next (let s := s.atTime t
         if s.loaderState = 1 && s.ld.cmd.src = 0 && s.ld.lastAt + 200000000 ≤ s.clk then s.rejectLoad 16 s.ld.sec s.ld.words.length else s)

end Sys2Proof.Machine
end

