-- ==== Sys2Proof/Machine/Pacing.lean ====
section
/-! DEFINITION. Line triggers, strobes, rejects, the strobe watchdog and tickle (R310 to R337). Groups are numbered 8 x die + local
group; times of the FIRE island are FIRE clocks of 2.5 ns since reset. -/

namespace Sys2Proof.Machine

open Sys2Proof

/-- Lets time pass up to a FIRE clock. -/
def State.atFire (s : State) (f : Nat) : State := s.atTime (f / 2)

/-- A record of the delay line that a row of a head reads at a die line: of the records that map to it, the one of the highest line
(R276). -/
def State.recordFor (s : State) (p f h r : Nat) : Option LineRec :=
  (s.raster p).recs.foldl (fun m x =>
    match tget? x.delays (2 * h + r) with
    | none => m
    | some w => if x.line + s.delay (.bar p) + w != f then m
      else match m with
        | none => some x
        | some y => if y.line < x.line then some x else m) none

/-- A record is late at a die line: it had not been written 4 lines before (R277). -/
def LineRec.lateAt (x : LineRec) (f : Nat) : Bool := decide (f < x.writtenAt + 4)

/-- The records read at a die line are judged for lateness and ECC errors (R277, R278): each late one is counted once, the first late
line after one on time is recorded. -/
def State.judgeReads (s : State) (p f : Nat) (reads : List LineRec) (bad : List Nat) : State :=
  let d := p / 2
  let n := p % 2
  reads.foldl (fun s x =>
    let late := x.lateAt f
    let r := s.raster p
    let s := if late && !(r.recs.find? (fun y => y.line = x.line)).all LineRec.late then s.inc (F.RAS_LATE_COUNT d n) else s
    let first := late && !r.wasLate && r.judged.all (fun l => l < x.line)
    let s := if first then (s.event d 0x0701 [n, x.line]).causeAt d 27 else s
    let newer := r.judged.all (fun l => l < x.line)
    let s := s.setRaster p { r with
      recs := r.recs.map (fun y => if y.line = x.line then { y with late := y.late || late } else y)
      judged := if newer then some x.line else r.judged
      wasLate := if newer then late else r.wasLate }
    let now := s.rd (F.RAS_STAT_LATE_NOW d)
    let s := s.wr (F.RAS_STAT_LATE_NOW d) (if late then setBit now n else clearBit now n)
    if bad.contains x.line then ((s.inc (F.RAS_STAT_ECC d)).event d 0x0705 [n, x.line]).causeAt d 27 else s) s

/-- The trigger of a line passes WEB_LOST on (R330): at the first page boundary after a round, firing resumes. -/
def State.webRestore (s : State) (p : Nat) (boundary : Bool) : State :=
  let x := s.pacer p
  if x.loss = .agreed && boundary then
    ((s.setPacer p { x with loss := .none }).event (p / 2) 0x080E [p % 2]).causeAt (p / 2) 30
  else s

/-- A substrate line is the first of a page, or no job is in force at it. -/
def State.pageBoundary (s : State) (l : Int) : Bool :=
  if l < 0 then true
  else match s.jobAt l.toNat with
    | none => true
    | some (_, c) => (c.pageOf l.toNat).2 = 0

/-- The first line above the job's SPEED_LIMIT in an excursion is recorded (R228). -/
def State.jobSpeed (s : State) (p : Nat) (l : Int) : State :=
  let x := s.pacer p
  let lim := s.speedLimit p l
  let rate := s.lineRate (p / 2)
  let fast := lim != 0 && decide (lim < rate)
  let s := s.setPacer p { x with jobSpeed := fast }
  if fast && !x.jobSpeed then s.event (p / 2) 0x0513 [((s.imageFor (.bar p)).barOf p).getD 0, min rate 0xFFFFFF] else s

/-- Row 1's delay in FIRE clocks (R314): half up, saturating; 0 with fewer than two stamps. -/
def State.row1 (s : State) (g : Nat) (l : Int) : Nat :=
  let p := s.groupPacer g
  let h := ((s.imageAt (.bar p) l).groupHead (g / 8) (g % 8)).getD 0
  let delta := (s.rowFrac p l h 1 + 256 - s.rowFrac p l h 0) % 256
  match (s.web (g / 8)).v0 with
  | none => 0
  | some (num, den) => min 65535 (roundDiv (delta * s.pitch * den : Nat) (256 * 2 ^ 24 * num)).toNat

/-- Characters of a LINE frame take so many hundredths of a FIRE clock, by rate set (R22): 8.0, 4.0 or 3.2 ns. -/
def charTime (rate : Nat) : Nat := if rate = 0 then 320 else if rate = 1 then 160 else 128

/-- Substrate lines that a row of a head reads at a die line although the pipeline has yet to begin them: they are late (R277). -/
def State.unbegun (s : State) (p line : Nat) (rows : List (Nat × Nat)) : List Nat :=
  if s.rd (F.RAS_PCTL_STATE (p / 2) (p % 2)) != 2 then []
  else
    let m := s.imageFor (.bar p)
    let l : Int := line - s.delay (.bar p)
    ((rows.map (fun (h, r) => l - (s.rowDelay p m (s.yregAt p l) h r).1)).filter (fun x => decide (0 ≤ x) && decide ((s.raster p).next ≤ x))).map
      Int.toNat |>.eraseDups

/-- Late lines without a record are counted once, and the first late one after one on time is recorded (R277). -/
def State.judgeMissing (s : State) (p : Nat) (lines : List Nat) : State :=
  let d := p / 2
  let n := p % 2
  lines.foldl (fun s l =>
    let r := s.raster p
    if r.missing.contains l then s
    else
      let newer := r.judged.all (fun k => k < l)
      let s := (s.inc (F.RAS_LATE_COUNT d n)).setRaster p { r with
        missing := l :: r.missing, judged := if newer then some l else r.judged, wasLate := if newer then true else r.wasLate }
      let s := s.wr (F.RAS_STAT_LATE_NOW d) (setBit (s.rd (F.RAS_STAT_LATE_NOW d)) n)
      if newer && !r.wasLate then (s.event d 0x0701 [n, l]).causeAt d 27 else s) s

/-- Lines of jobs triggered so far on a pacer's bar. -/
def State.markFired (s : State) (p : Nat) (l : Int) : State :=
  s.onJobs fun q => { q with fired := tset q.fired p (max (tget q.fired p 0) ((l + 1).toNat)) }

/-- The trigger of a group's next die line has come at FIRE clock `f` (R309, R320): the line before has fired its strobe, or had none and its
instant, as placed last, has come; a count at or below the ratchet mark triggers no line. -/
def State.triggerDue (s : State) (g f : Nat) : Bool :=
  let x := s.group g
  (s.web (g / 8)).ahead && x.pend.isNone && x.ghost.all (fun b => b.placed.any (fun t => t ≤ f))

/-- R319, R320, R325, R276, R337: the trigger of the group's next die line at FIRE clock `f`; `sof` is the FIRE clock at which its frame
leaves (R26), which is not before the last strobe of a tickle burst; and `bad` the substrate lines whose records failed their ECC read. Only
lanes that the last training aligned send (R355); an ACTIVE set that the frame cuts is not complete (R352). -/
def execLineTrigger (g f sof : Nat) (bad : List Nat) (s : State) : Host.Outcome State Fault Refusal :=
  guarded (g < 8 * s.dies)
    (let s := s.atFire f
     let d := g / 8
     let i := g % 8
     let p := s.groupPacer g
     let x := s.group g
     let m := s.imageFor (.bar p)
     if !s.pacerOn p || m.groupPacer d i != some (p % 2) || !s.triggerDue g f then s
     else
       let line := x.next
       let l : Int := line - s.delay (.bar p)
       let ml := s.imageAt (.bar p) l
       let s := s.settleGroup g
       let s := if (s.pacer p).stepLine = line then s else ((s.bandStep p line).jobSpeed p l).judgeAdv p l false
       let boundary := s.pageBoundary l
       let s := s.webRestore p boundary
       let s := if boundary && (s.pacer p).diverged.any (fun a => a < line) then s.setPacer p { s.pacer p with diverged := none } else s
       let lanes := (ml.groupLanes d i).filter (fun a => bit (s.rd (F.LAN_GSTAT_ALIGNED d i)) (if a.phys < 64 then a.phys % 8 else 8))
       let rows := (lanes.flatMap (fun y => [(y.head, 0), (y.head, 1)])).eraseDups
       let reads := (rows.filterMap (fun (h, r) => s.recordFor p line h r)).eraseDups
       let s := (s.judgeReads p line reads bad).judgeMissing p (s.unbegun p line rows)
       let good (y : LineRec) : Bool := !y.nofire && !y.lateAt line && !bad.contains y.line
       let code := (reads.filter good).foldl (fun c y => max c y.code) 0
       let slotsOf (a : Lane) : List (Nat × Nat) :=
         (ml.segSlots (((ml.head? a.head).map Head.cls).getD 0) a.seg).filterMap (fun (k, r, _) =>
           match s.recordFor p line a.head r with
           | none => none
           | some y => if good y then (tget? y.vals (2048 * a.addr + k)).map (fun v => (k, v)) else none)
       let firing := s.grpState g = 1 && s.atLine (.bar p) l (F.LNP_GRP_QUIESCE d i) = 0
       let s := if (s.pacer p).step = .nofire then s.rejectPage p l 3 false else s
       let s := if firing then s else s.rejectPage p l 5 false
       let live := firing && (s.pacer p).step = .fire && reads.any good && !(s.web d).reverse && (s.pacer p).loss = .none
         && (s.pacer p).diverged.isNone && s.mayFire d && s.firesLine p line
       let frames := lanes.map (fun a => (a.phys,
         (⟨a.addr % 8, code, false, line % 2 ^ 24, s.row1 g l, (s.driveVolt ml a.head (s.atLine (.bar p) l (trimOf a.head))).2,
           slotsOf a⟩ : LineFrame)))
       let drops := lanes.flatMap (fun a => (slotsOf a).map (fun (k, v) => (131072 * d + 2048 * a.addr + k, v)))
       let start := max sof x.burstTo
       let chars (n : Nat) : Nat := ceilDiv (n * charTime (s.rd (F.LAN_GSTAT_RATE d i))) 100
       let ready := start + chars (14 + 256 * 2 ^ code)
       let mark := s.lineMark g line
       let s := s.setGroup g { s.group g with
         next := line + 1, pend := if live then some { mark with ready := ready, drops := drops } else none
         ghost := if live then none else some mark, sent := if live then frames else [], sentNofire := !live
         frame := some (start, if live then ready else start + chars 5)
         active := x.active.filter (fun a => 2 * a.1 + chars 6 ≤ start) }
       (s.placePending g).markFired p l)

/-- R315, R321 to R323: the group's pending strobe reaches its instant at FIRE clock `f`: it fires, or is withheld because its frame is
late or FLOOR would be broken. -/
def execStrobeFire (g f : Nat) (s : State) : Host.Outcome State Fault Refusal :=
  guarded (g < 8 * s.dies)
    (let s := s.atFire f
     let d := g / 8
     let i := g % 8
     let p := s.groupPacer g
     let x := s.group g
     match x.pend with
     | none => s
     | some b =>
       if !b.placed.any (fun t => t ≤ f) || !s.mayFire d || !s.firesLine p b.line then s
       else
         let l : Int := b.line - s.delay (.bar p)
         let y := s.pacer p
         let gone := s.setGroup g x.withoutStrobe
         if f < b.ready + s.rd (F.LNP_TSET_TSET d) then
           let s := (gone.inc (F.LNP_LATE_COUNT d (p % 2))).setGroup g { x.withoutStrobe with lateRun := true }
           if x.lateRun then s else (s.event d 0x080A [p % 2, i, b.line]).causeAt d 30
         else if x.last.any (fun t => f < t + s.floorOf p l) then gone.omitLines p 1
         else
           let s := s.setGroup g { x with pend := none, ghost := none, lateRun := false, last := some f, width := s.clampPulse g b.pw l, own := false }
           let s := (s.setPacer p { y with firedTo := max y.firedTo (b.line + 1) }).life d 0 1
           let s := if y.firedTo ≤ b.line then s.life d 1 1 else s
           s.countDrops g b.drops false)

/-- R315: no edge for 2 x T1: the pending strobe is withdrawn and placed again at the next edge. -/
def execStrobeWithdraw (g f : Nat) (s : State) : Host.Outcome State Fault Refusal :=
  guarded (g < 8 * s.dies)
    (let s := s.atFire f
     let due := match (s.web (g / 8)).stamps with
       | a :: b :: _ => decide (a + 2 * (a - b) ≤ f)
       | _ => true
     let back (b : Strobe) : Strobe := { b with placed := none }
     if due then s.setGroup g { s.group g with pend := (s.group g).pend.map back, ghost := (s.group g).ghost.map back } else s)

/-- R328: the package line reaches the start of a pending span: the reject output goes high. -/
def execRejectSpanStart (s : State) : Host.Outcome State Fault Refusal :=
  .next (
    let due (x : Span) : Bool := decide (x.first ≤ s.pkgLine)
    if s.press.spans.any due then
      (s.onPress fun q => { q with spans := q.spans.map (fun x => { x with started := x.started || due x }) }).wr
        (F.LNP_REJ_STAT_REJECT 0) 1
    else s)

/-- R328: the package line passes the end of a span: the output falls when no other span holds it. -/
def execRejectSpanEnd (s : State) : Host.Outcome State Fault Refusal :=
  .next (
    let s := s.onPress fun q => { q with spans := q.spans.filter (fun x => s.pkgLine ≤ x.last) }
    if s.press.spans.any Span.started then s else s.wr (F.LNP_REJ_STAT_REJECT 0) 0)

/-- The greatest width of a group's strobe in SENSE clocks (R143, R331): 1.1 times PMAX_eff, or the strobe's own width for one of tickle or Speedwell
printing. -/
def State.cutLimit (s : State) (g : Nat) : Nat :=
  ceilDiv (11 * (if (s.group g).own then (s.group g).width else s.pulseMax g)) 20

/-- Two leading edges of a group's strobe so many SENSE clocks apart are closer than FLOOR less 5 ns (R331). Without a pacer that is ON, the
strobes of tickle and Speedwell printing are held to SPW_PERIOD (DEDUCED, notes/assumptions/136). -/
def State.tooClose (s : State) (g interval : Nat) : Bool :=
  let p := s.groupPacer g
  let floor := if s.pacerOn p then s.floorOf p ((s.dieLine (g / 8) : Int) - s.delay (.bar p)) else s.boot.block.getD 10 0
  decide (2 * interval + 2 < floor)

/-- R331, R143: a pulse of `width` SENSE clocks is cut when it is longer than the watchdog allows. -/
def execStrobeCut (g width : Nat) (s : State) : Host.Outcome State Fault Refusal :=
  guarded (g < 8 * s.dies) (if width ≤ s.cutLimit g then s else (s.fenceGroup g 0x0807 [g % 8, width]).inc (F.LNP_WD_CUT (g / 8) (g % 8)))

/-- R331: the ball is high for 100 ns while it is driven low. -/
def execStrobeStuck (g : Nat) (s : State) : Host.Outcome State Fault Refusal :=
  guarded (g < 8 * s.dies) ((s.fenceGroup g 0x0808 [g % 8, stuckClocks]).inc (F.LNP_WD_STUCK (g / 8) (g % 8)))

/-- R331: two leading edges `interval` SENSE clocks apart. -/
def execPeriodGuard (g interval : Nat) (s : State) : Host.Outcome State Fault Refusal :=
  guarded (g < 8 * s.dies) (if !s.tooClose g interval then s else (s.fenceGroup g 0x0809 [g % 8, interval]).inc (F.LNP_WD_GUARD (g / 8) (g % 8)))

/-- R334: FAULT of a group is written 1; `high` tells that the ball is still stuck. -/
def execGroupFaultClear (g : Nat) (high : Bool) (s : State) : Host.Outcome State Fault Refusal :=
  guarded (g < 8 * s.dies)
    (s.served (dieAt (g / 8) (0x30080 + 4 * (g % 8))) (s.clearFault g high))

/-- A slot of a line of a die's tickle store (R138): it reads all ones after reset. -/
def State.tickleSlot (s : State) (d line lane slot : Nat) : Bool :=
  let k := line * 131072 + lane * 2048 + slot
  bit (tget s.press.tickleStore (32768 * d + k / 16) 0xFFFF) (k % 16)

/-- The frames of one line of a store, one for each lane of `lanes` (its physical lane and its lane address), and their drops by nozzle address:
one bit a slot, with CODE, ROW1 and VOLT 0 (R138, R139, R348, R349). -/
def storeFrames (d lineNo : Nat) (tickle : Bool) (lanes : List (Nat × Nat)) (slot : Nat → Nat → Bool) : List (Nat × LineFrame) × List (Nat × Nat) :=
  let slots (lane : Nat) : List (Nat × Nat) := ((List.range 2048).filter (slot lane)).map (fun k => (k, 1))
  (lanes.map (fun a => (a.1, (⟨a.2 % 8, 0, tickle, lineNo, 0, 0, slots a.2⟩ : LineFrame))),
    lanes.flatMap (fun a => (slots a.2).map (fun (k, v) => (131072 * d + 2048 * a.2 + k, v))))

/-- A tickle strobe of a group at FIRE clock `f` (R138, R337): a line of the tickle store, fired with its own width. -/
def State.tickleStrobe (s : State) (g f pw line : Nat) (lanes : List (Nat × Nat)) : State :=
  let (frames, drops) := storeFrames (g / 8) 0 true lanes (s.tickleSlot (g / 8) line)
  let s := s.setGroup g { s.group g with sent := frames, sentNofire := false, last := some f, width := pw, own := true }
  (s.countDrops g drops true).life (g / 8) 0 1

/-- R337: a FIRING group of an ON pacer that has fired no strobe for IDLE ms, and has no frame pending, sends a tickle burst at FIRE
clock `f`: its strobes are MP apart, and one that would break FLOOR is withheld (R323). -/
def execPacerTickle (g f : Nat) (s : State) : Host.Outcome State Fault Refusal :=
  guarded (g < 8 * s.dies)
    (let s := s.atFire f
     let d := g / 8
     let p := s.groupPacer g
     let x := s.group g
     let pw := s.rd (F.LNP_TKLPW_PW d (p % 2))
     let idle := 400000 * s.rd (F.LNP_TKL_IDLE d (p % 2))
     if !s.pacerOn p || s.grpState g != 1 || pw = 0 || x.pend.isSome || x.last.any (fun t => f < t + idle) || !s.mayFire d || !s.leads then s
     else
       let l : Int := s.dieLine d - s.delay (.bar p)
       let lanes := ((s.imageFor (.bar p)).groupLanes d (g % 8)).map (fun a => (a.phys, a.addr))
       let times := (List.range (s.rd (F.LNP_TKL_LINES d (p % 2)))).map (fun k => (k, f + k * s.minPeriod p l))
       let s := s.setGroup g { x with burstTo := (times.getLast?.map (·.2)).getD f }
       times.foldl (fun s (k, at') =>
         if (s.group g).last.any (fun t => at' < t + s.floorOf p l) then s.omitLines p 1
         else s.tickleStrobe g at' (s.clampPulse g pw l) k lanes) s)

end Sys2Proof.Machine
end

