-- ==== Sys2Proof/Machine/Pair.lean ====
section
/-! DEFINITION. Commands and events of the Twinflower pair (R508 to R534). -/

namespace Sys2Proof.Machine

open Sys2Proof

/-! Critical commands. -/

/-- What is wrong with the words of PAIR_CONFIG (R534), short of a flash write: its DETAIL, or 0. -/
def State.pairConfigFault (s : State) (w : List Nat) : Nat :=
  let p := w.getD 1 0
  let lead := w.getD 2 0
  let wait := w.getD 3 0
  let off := !bit (w.getD 0 0) 0
  let detach := bit (w.getD 0 0) 3
  if p = 0 || p = s.rd F.AUTH_UNIT_UNIT then 1
  else if (lead != 0 && (lead < 256 || 1048575 < lead)) || wait < 100 || 60000 < wait then 2
  else if (s.role = 4 && (off || detach)) || (s.role = 3 && detach) then 4
  else 0

/-- The stored configuration shows in its registers (R536). -/
def State.loadPairCfg (s : State) (w : List Nat) : State :=
  let c := w.getD 0 0
  let s := (((s.wr F.PAIR_CFG_ENABLE (bits c 0 1)).wr F.PAIR_CFG_INPUT (bits c 1 1)).wr F.PAIR_CFG_PREFER (bits c 2 1)).wr
    F.PAIR_CFG_DETACH (bits c 3 1)
  ((s.wr F.PAIR_PARTNER_UNIT (w.getD 1 0)).wr F.PAIR_LEAD_LEAD (w.getD 2 0)).wr F.PAIR_WAIT_MS (w.getD 3 0)

/-- A fenced unit that is not detached begins to join a partner that leads, with the link up (R514). -/
def State.rejoin (s : State) : State :=
  if s.role = 5 && s.on F.PAIR_STAT_LINK && s.on F.PAIR_CFG_ENABLE && !s.on F.PAIR_CFG_DETACH &&
      s.pair.partner.any (fun p => p.1 = 3 || p.1 = 4) then (s.onPair fun p => { p with joinLine := none }).setRole 1
  else s

/-- What a stored configuration does to the role (R514, R534). -/
def State.pairConfigured (s : State) : State :=
  let on := s.on F.PAIR_CFG_ENABLE
  if s.role = 0 then (if on then (s.takeEpoch 1).setRole 3 else s)
  else if !on then
    if s.role = 3 then ((s.setRole 0).takeEpoch 0).onPair fun p => { p with seen := 0 }
    else ((s.pairControl 3 0).partnerGone.setRole 5).releaseCaptures
  else if s.on F.PAIR_CFG_DETACH && (s.role = 1 || s.role = 2) then ((s.pairControl 3 0).fence 6).releaseCaptures
  else s.rejoin

/-- R534: AUTH acts on PAIR_CONFIG; `written` tells whether the write of its words to event flash succeeds. -/
def execPairConfig (written : Bool) (s : State) : Host.Outcome State Fault Refusal :=
  .next (match s.authCmd 3 with
    | none => s
    | some c =>
      let s := s.authTaken
      let w := c.payload
      let f := s.pairConfigFault w
      if f != 0 then s.cmdResult c 13 f
      else if !written || !s.flash.ok then s.cmdResult c 13 3
      else
        let s := ((s.onFlash fun f => { f with pairCfg := f.pairCfg.write w }).loadPairCfg w).pairEvent 0x110E [w.getD 0 0, w.getD 1 0]
        s.pairConfigured.cmdResult c 0 0)

/-- MODE of a PAIR_TAKEOVER command (R531). -/
def AuthCmd.takeMode (c : AuthCmd) : Nat := bits (c.payload.getD 0 0) 0 2

/-- R532: AUTH acts on PAIR_TAKEOVER, with MODE other than FORCE. -/
def execPairTakeoverHandover (s : State) : Host.Outcome State Fault Refusal :=
  .next (match s.authCmd 4 with
    | none => s
    | some c =>
      if c.takeMode = 1 then s
      else
        let s := s.authTaken
        let h := c.payload.getD 1 0 + 2 ^ 24 * c.payload.getD 2 0
        if s.role != 4 || s.pair.handover.isSome || c.takeMode != 0 then s.cmdResult c 13 1
        else if h < s.pkgLine + s.pairLead then s.cmdResult c 13 2
        else if !s.on F.PAIR_STAT_READY then s.cmdResult c 13 3
        else
          let h := if bit (c.payload.getD 0 0) 8 || s.shadow then s.boundaryFrom h else h
          let s := (s.wr F.PAIR_STAT_HANDOVER 1).onPair fun p => { p with handover := some h }
          (s.pairControl 6 h).cmdResult c 0 0)

/-- R520, R532: AUTH acts on PAIR_TAKEOVER FORCE at SENSE time `t`. -/
def execPairTakeoverForce (t : Nat) (s : State) : Host.Outcome State Fault Refusal :=
  .next (match (s.atTime t).authCmd 4 with
    | none => s.atTime t
    | some c =>
      let s := s.atTime t
      if c.takeMode != 1 then s
      else
        let s := s.authTaken
        if s.role = 2 || (s.role = 5 && s.on F.PAIR_CFG_ENABLE && !s.on F.PAIR_CFG_DETACH) then
          ((s.takeover 3 s.pkgLine).pairControl 5 0).cmdResult c 0 0
        else s.cmdResult c 13 1)

/-! The link. -/

/-- The pair link goes down (R513, R514): a unit that catches up has no partner in step any more. -/
def State.pairDown (s : State) (cause : Nat) : State :=
  if !s.on F.PAIR_STAT_LINK then s
  else
    let s := ((s.wr F.PAIR_STAT_LINK 0).wr F.PAIR_LINK_ALIGNED 0).pairEvent 0x1102 [cause]
    if s.role = 1 then s.leaveStep
    else if s.role = 3 then s.partnerGone
    else s

/-- R510: the pair link has trained with the lanes it aligned, of which the spare takes the place of one; `latency` is in ns. -/
def execPairLinkUp (latency aligned t : Nat) (s : State) : Host.Outcome State Fault Refusal :=
  guarded (latency < 65536 && aligned < 512)
    (let s := s.atTime t
     let out := (List.range 8).filter (fun n => !bit aligned n)
     if s.on F.PAIR_STAT_LINK || 1 < out.length || (out.length = 1 && !bit aligned 8) || s.rd F.BOOT_STAT_STAGE < 2 then s
     else
       let s := ((s.wr F.PAIR_STAT_LINK 1).wr F.PAIR_LINK_ALIGNED aligned).wr F.PAIR_LAT_NS latency
       let s := (s.wr F.PAIR_LINK_SPARE_ACT out.length).wr F.PAIR_LINK_TAKES (out.headD 0)
       (s.pairEvent 0x1103 [latency]).sendStatus)

/-- R513: a message has stayed unacknowledged for 200 microseconds, or lanes have failed; `replays` messages were sent again since the
last count. -/
def execPairLinkDown (lanes : Bool) (replays t : Nat) (s : State) : Host.Outcome State Fault Refusal :=
  .next (((s.atTime t).incBy F.PAIR_RETRY_COUNT replays).pairDown (if lanes then 2 else 1))

/-- R510: the link, while it is down, tries to train again every 100 ms; its success is an event of its own. -/
def execPairLinkRetry (t : Nat) (s : State) : Host.Outcome State Fault Refusal :=
  .next (let s := s.atTime t
         if s.on F.PAIR_STAT_LINK || s.clk < s.pair.triedAt + usTicks 100000 then s else s.onPair fun p => { p with triedAt := s.clk })

/-- R510: a lane of the pair link fails: the spare replaces it, or the link goes down. -/
def execPairLaneFail (lane t : Nat) (s : State) : Host.Outcome State Fault Refusal :=
  guarded (lane < 9)
    (let s := s.atTime t
     let up := s.rd F.PAIR_LINK_ALIGNED
     if !s.on F.PAIR_STAT_LINK || !bit up lane then s
     else
       let spare := s.on F.PAIR_LINK_SPARE_ACT
       let s := s.wr F.PAIR_LINK_ALIGNED (clearBit up lane)
       if lane = 8 && !spare then s
       else if spare || !bit up 8 then s.pairDown 2
       else ((s.wr F.PAIR_LINK_SPARE_ACT 1).wr F.PAIR_LINK_TAKES lane).event 0 0x110C [lane])

/-! Leases (R518 to R520). -/

/-- The active sends the next RENEW (R518). -/
def State.renew (s : State) : State :=
  let n := (s.pair.renewal + 1) % 2 ^ 24
  (s.onPair fun p => { p with renewal := n, renewAt := s.clk, unacked := (n, s.clk) :: p.unacked }).pairSend 1 s.pkgLine
    [s.rd F.PAIR_EPOCH_EPOCH, n]

/-- R518: every 0.5 ms the active sends RENEW. -/
def execRenewSend (t : Nat) (s : State) : Host.Outcome State Fault Refusal :=
  .next (let s := s.atTime t; if s.role = 4 && s.pair.renewAt + usTicks 500 ≤ s.clk then s.renew else s)

/-- R515, R518: RENEW arrives: the standby answers with ACK, takes the active's epoch, and its lease starts anew. -/
def execRenewReceived (line epoch number t : Nat) (s : State) : Host.Outcome State Fault Refusal :=
  guarded (epoch < 2 ^ 24 && number < 2 ^ 24 && line < 2 ^ 48)
    (let s := (s.atTime t).onPair fun p => { p with seen := max p.seen epoch }
     if s.role != 2 then s
     else
       let s := if s.rd F.PAIR_EPOCH_EPOCH = epoch then s else s.takeEpoch epoch
       (s.pairSend 2 s.pkgLine [epoch, number]).onPair fun p => { p with heardAt := s.clk, heardLine := s.pkgLine })

/-- R518: an ACK arrives: the renewal counts from the moment it was sent. -/
def execAckReceived (epoch number t : Nat) (s : State) : Host.Outcome State Fault Refusal :=
  guarded (epoch < 2 ^ 24 && number < 2 ^ 24)
    (let s := s.atTime t
     match s.pair.unacked.find? (fun r => r.1 = number) with
     | none => s
     | some (_, at') =>
       if s.role != 4 || epoch != s.rd F.PAIR_EPOCH_EPOCH then s
       else s.onPair fun p => { p with ackAt := max p.ackAt at', unacked := p.unacked.filter (fun r => at' < r.2) })

/-- R519: 1.0 ms has passed since the last acknowledged RENEW was sent: the active fences itself. -/
def execLeaseFence (t : Nat) (s : State) : Host.Outcome State Fault Refusal :=
  .next (let s := s.atTime t
         if s.role = 4 && s.pair.ackAt + usTicks 1000 ≤ s.clk then s.fence (if s.on F.PAIR_STAT_LINK then 1 else 2) else s)

/-- R520: 1.5 ms has passed since the last RENEW arrived: the standby takes over. -/
def execLeaseExpiry (t : Nat) (s : State) : Host.Outcome State Fault Refusal :=
  .next (let s := s.atTime t
         if s.role = 2 && s.pair.heardAt + usTicks 1500 ≤ s.clk then s.takeover 1 s.pair.heardLine else s)

/-! Roles. -/

/-- The unit wins a tie (R514); `prefer` is the partner's PREFER. -/
def State.winsTie (s : State) (prefer : Bool) : Bool :=
  if s.on F.PAIR_CFG_PREFER != prefer then s.on F.PAIR_CFG_PREFER else decide (s.rd F.AUTH_UNIT_UNIT < s.rd F.PAIR_PARTNER_UNIT)

/-- R514, R528: a STATUS message arrives; `prefer` is PREFER of the partner's configuration, by which a tie is settled. -/
def execPairStatusReceived (dclass image role : Nat) (ready detached prefer : Bool) (seen t : Nat) (s : State) :
    Host.Outcome State Fault Refusal :=
  guarded (dclass < 2 ^ 24 && image < 2 ^ 24 && role < 6 && seen < 2 ^ 24)
    (let s := s.atTime t
     let changed := s.pair.partner.isSome && s.rd F.PAIR_P_DCLASS_VALUE != dclass
     let s := (s.wr F.PAIR_P_DCLASS_VALUE dclass).wr F.PAIR_P_IMAGE_VALUE image
     let s := s.onPair fun p => { p with partner := some (role, ready, detached), seen := max p.seen seen }
     let s := if s.leads then s.wr F.PAIR_STAT_READY (nat ready) else s
     if s.role = 2 && changed then s.leaveStep
     else if s.role = 1 && (role = 1 || role = 5) && s.winsTie prefer then s.leaveStep.leadAlone
     else s.rejoin.judgeReady)

/-- R514, R518: CONTROL READY: an ALONE unit becomes ACTIVE with its first RENEW. -/
def execControlReady (t : Nat) (s : State) : Host.Outcome State Fault Refusal :=
  .next (let s := s.atTime t
         if s.role != 3 then s
         else (((s.wr F.PAIR_STAT_READY 1).setRole 4).onPair fun p => { p with ackAt := s.clk }).renew)

/-- The active's lease ends (R514). -/
def State.leaseEnds (s : State) : State :=
  if s.role = 4 then s.partnerGone.setRole 3 else if s.role = 3 then s.partnerGone else s

/-- R514: CONTROL UNREADY. -/
def execControlUnready (t : Nat) (s : State) : Host.Outcome State Fault Refusal := .next ((s.atTime t).leaseEnds)

/-- R514: CONTROL LEAVE. -/
def execControlLeave (t : Nat) (s : State) : Host.Outcome State Fault Refusal := .next ((s.atTime t).leaseEnds)

/-- R520: CONTROL DROP. -/
def execControlDrop (t : Nat) (s : State) : Host.Outcome State Fault Refusal :=
  .next (let s := s.atTime t; if s.role = 2 then s.takeover 2 s.pair.heardLine else s)

/-- R514, R520: CONTROL FENCE. -/
def execControlFence (t : Nat) (s : State) : Host.Outcome State Fault Refusal :=
  .next (let s := s.atTime t
         if s.role = 4 then s.fence 5 else if s.role = 2 then s.takeover 3 s.pair.heardLine else s)

/-- R532: CONTROL HANDOVER: the standby fires from H + d_b on. -/
def execControlHandover (h t : Nat) (s : State) : Host.Outcome State Fault Refusal :=
  guarded (h < 2 ^ 48)
    (let s := s.atTime t
     if s.role = 2 then (s.wr F.PAIR_STAT_HANDOVER 1).onPair fun p => { p with handover := some h } else s)

/-- R532: die line H + D_max: the roles exchange, and the lease passes to the new active. -/
def execHandoverComplete (t : Nat) (s : State) : Host.Outcome State Fault Refusal :=
  .next (let s := s.atTime t
         match s.pair.handover with
         | none => s
         | some h =>
           if (s.role != 2 && s.role != 4) || s.pkgLine < h + s.ld.current.maxDelay then s
           else
             let was := s.role
             let s := (s.takeEpoch (s.rd F.PAIR_EPOCH_EPOCH + 1)).dropHandover
             let s := (s.wrPair F.PAIR_LAST_LO_LINE F.PAIR_LAST_HI_LINE h).setRole (if was = 4 then 2 else 4)
             let s := s.onPair fun p => { p with resume := [], heardAt := s.clk, heardLine := s.pkgLine, ackAt := s.clk, unacked := [] }
             let s := s.pairEvent 0x1107 [s.rd F.PAIR_EPOCH_EPOCH, h]
             if was = 4 then s else s.renew)

/-- R514: no STATUS of the partner has arrived within WAIT of reset. -/
def execJoinWaitExpire (t : Nat) (s : State) : Host.Outcome State Fault Refusal :=
  .next (let s := s.atTime t
         if s.role = 1 && s.pair.partner.isNone && s.boot.releasedAt + usTicks (1000 * s.rd F.PAIR_WAIT_MS) ≤ s.clk then
           s.leaveStep.leadAlone
         else s)

/-- R514: half or more of the UP groups have reported FOLLOW of the other input for 1 ms. -/
def execFollowFenceTimer (t : Nat) (s : State) : Host.Outcome State Fault Refusal :=
  .next (let s := s.atTime t
         if (s.role = 3 || s.role = 4) && s.followsOther && s.pair.followAt.any (fun t => t + usTicks 1000 ≤ s.clk) then s.fence 3 else s)

/-- R514: a fenced unit whose link is down and whose UP groups all report NO_ACTIVE for 2.0 ms since the fence leads again. -/
def execRetakeTimer (t : Nat) (s : State) : Host.Outcome State Fault Refusal :=
  .next (let s := s.atTime t
         if s.role = 5 && s.on F.PAIR_CFG_ENABLE && !s.on F.PAIR_CFG_DETACH && !s.on F.PAIR_STAT_LINK &&
             s.upGroups.all (fun g => bit (s.adapterFlags g) 5) && s.pair.fencedAt + usTicks 2000 ≤ s.clk then
           let s := s.leadAlone
           s.pairEvent 0x110A [s.rd F.PAIR_EPOCH_EPOCH]
         else s)

/-! Inputs in step. -/

/-- The unit leads alone and its partner, with the link up, is JOINING (R514). -/
def State.partnerJoins (s : State) : Bool :=
  s.role = 3 && s.on F.PAIR_STAT_LINK && s.pair.partner.any (fun p => p.1 = 1)

/-- R528, R533: the active sends a catch-up to a partner that is JOINING. -/
def execCatchUpSend (t : Nat) (s : State) : Host.Outcome State Fault Refusal :=
  .next (let s := s.atTime t; if s.partnerJoins && s.pair.joinLine.isNone then s.catchUp else s)

/-- R533: a catch-up that did not bring the partner to READY is repeated after 1 s. -/
def execCatchUpRetry (t : Nat) (s : State) : Host.Outcome State Fault Refusal :=
  .next (let s := s.atTime t
         if s.partnerJoins && s.pair.joinLine.isSome && s.pair.joinAt + usTicks 1000000 ≤ s.clk then s.catchUp else s)

/-- R525, R528: LINE_SYNC with the active's line and its count less zero count; `t` is the SENSE time of the latch. -/
def execLineSyncReceived (line count t : Nat) (s : State) : Host.Outcome State Fault Refusal :=
  guarded (line < 2 ^ 48 && count < 2 ^ 40)
    (let s := s.atTime t
     let other := signed 40 count
     if s.matched then
       let diff := s.scaleCount - other
       if diff.natAbs < 2 then s
       else if diff.natAbs ≤ s.rd F.ENC_CTL_DIV_LIMIT then s.shiftZero diff
       else s.leaveStep
     else if s.role = 1 then
       let s := (s.alignLines line other).decideMode
       let s := if s.shadow then s.onEye fun e => { e with hists := [] } else s
       s.onPair fun p => { p with joinLine := some (line + s.pairLead), unmatched := [], bulk := [], catching := true }
     else s)

/-- A commit of the active's own values (R523): the standby applies what BULK messages brought, after the commits before it. -/
def State.selfCommit (s : State) (m : PairDue) : State :=
  let v := s.bulkValues (s.bulkBlock.getD [])
  let fs := v.fields
  let s := (s.writeShade v).onEye fun e => { e with imports := if v.tcal.isEmpty then e.imports else e.imports ++ [(m.id, v)] }
  let s := s.onPair fun p => { p with bulk := [] }
  let c : PairCapture := ⟨false, false, .partner, fs, s.partsOf fs, m.line, false, false, m.crc⟩
  (s.onPair fun p => { p with due := p.due ++ [{ m with own := some c }] }).matchAll (s.pair.due.length + 1)

/-- R512, R523, R533: a COMMIT message. In step it is matched to the next capture; in a catch-up (`part` 1, and 2 for its last message)
it gives a commit of the unit's own that is pending its ID and line. -/
def execPairCommitReceived (part line id status : Nat) (self : Bool) (crc count t : Nat) (s : State) : Host.Outcome State Fault Refusal :=
  guarded (part < 3 && line < 2 ^ 48 && id < 2 ^ 24 && status < 16 && crc < 2 ^ 32)
    (let s := s.atTime t
     let m : PairDue := ⟨id, status, line, crc, count, none⟩
     if part = 0 then
       if !s.matched then s
       else if self then s.selfCommit m
       else (s.onPair fun p => { p with due := p.due ++ [m] }).matchAll (s.pair.due.length + 1)
     else if s.role != 1 then s
     else
       let s := match s.epoch.commits.find? (fun c => c.fields.length = count && c.crc = crc) with
         | none => s
         | some c => (s.setCommit c.id fun x => { x with id := id, safe := false, line := line, hasLine := true }).wr F.EPOCH_NEXT_ID_ID
             (max (s.rd F.EPOCH_NEXT_ID_ID) (nextId id))
       s.caughtUp part)

/-- R524: a CANCEL message cancels the commit on the standby. -/
def execPairCancelReceived (id : Nat) (s : State) : Host.Outcome State Fault Refusal :=
  guarded (id < 2 ^ 24)
    (if !s.matched then s
     else match s.commit? id with
       | none => s
       | some c => s.cancelCommit c)

/-- R229, R533: a CTX message: S_J of an arm, or with `stop` the end line E; `part` 1, and 2 for the last message, in a catch-up. A
context that is not READY or of another CRC is recorded: the pair leaves step, or the catch-up has to be repeated. -/
def execPairCtxReceived (part line id ctx : Nat) (stop : Bool) (crc t : Nat) (s : State) : Host.Outcome State Fault Refusal :=
  guarded (part < 3 && line < 2 ^ 48 && id < 2 ^ 24 && ctx < 128 && crc < 2 ^ 32)
    (let s := s.atTime t
     let c := s.ctx ctx
     let same := c.block.any (fun b => b.crc = crc)
     let fits := if stop then c.live else c.st = .ready || (c.live && c.commit = id)
     if part = 0 then
       if !s.matched || (same && fits) then s else (s.event 0 0x0520 []).leaveStep
     else if s.role != 1 then s
     else
       let s :=
         if same && (c.st = .ready || (stop && c.live)) then s.adoptCtx ctx line id stop
         else if same && c.live && c.commit = id then s
         else (s.event 0 0x0520 []).onPair fun p => { p with unmatched := ctx :: p.unmatched.filter (· != ctx) }
       s.caughtUp part)

/-- R230: an UNDER message: the standby replaces the page's lines from the active's first replaced line on. -/
def execPairUnderReceived (line bar page : Nat) (s : State) : Host.Outcome State Fault Refusal :=
  guarded (line < 2 ^ 48 && bar < 2 * s.dies && page < 2 ^ 24)
    (if s.leads then s
     else match s.jobAt line with
       | none => s
       | some (j, c) =>
         let x := s.stream j bar
         s.setStream j bar { x with partnerUnder := tset x.partnerUnder page (c.pageOf line).2 })

/-- R529: in STEP a forwarded verdict joins the standby's histories. -/
def execPairVerdictReceived (nozzle bar : Nat) (fail : Bool) (page : Nat) (s : State) : Host.Outcome State Fault Refusal :=
  guarded (nozzle < 131072 * s.dies && bar < 2 * s.dies && page < 2 ^ 24)
    (if !s.matched || s.shadow || !s.isNozzle nozzle then s else s.onVerdict ⟨nozzle, bar, page, if fail then .missing else .pass⟩)

/-- R526, R529: a DECISION message sets EB_OUT on the standby from line L_e on; in STEP a different result of its own is recorded. -/
def execPairDecisionReceived (line nozzle : Nat) (out : Bool) (s : State) : Host.Outcome State Fault Refusal :=
  guarded (line < 2 ^ 48 && nozzle < 131072 * s.dies)
    (if !s.matched || !s.isNozzle nozzle then s
     else
       let own := s.on (nozzleEbOut nozzle)
       if own = out then
         s.onPair fun p => { p with outs := p.outs.map (fun o => if o.nozzle = nozzle then { o with line := line } else o) }
       else
         let s := if s.shadow then s else s.event 0 0x110D [nozzle]
         let s := s.setEbOut nozzle out line
         match s.nozzleHead nozzle with
         | some h => s.judgeHead h
         | none => s)

/-- R512: a REG message brings the active's registration offsets of a bar. -/
def execPairRegReceived (bar along across : Nat) (s : State) : Host.Outcome State Fault Refusal :=
  guarded (bar < 2 * s.dies && along < 4096 && across < 4096)
    (if s.matched then (s.wr (F.HLTH_REG_ALONG bar) along).wr (F.HLTH_REG_ACROSS bar) across else s)

/-- R512, R523, R533: a BULK message brings the next five words of a block; that of a catch-up (`part` 1, and 2 for its last message) is
taken when it is whole. -/
def execPairBulkReceived (part : Nat) (words : List Word) (t : Nat) (s : State) : Host.Outcome State Fault Refusal :=
  guarded (part < 3 && words.length = 5)
    (let s := s.atTime t
     if s.role != 1 && s.role != 2 then s
     else
       let s := s.onPair fun p => { p with bulk := (words.map BitVec.toNat).reverse ++ p.bulk }
       if part = 0 then s else s.takeBulk.caughtUp part)

end Sys2Proof.Machine
end

