-- ==== Sys2Proof/Machine/Recorder.lean ====
section
/-! DEFINITION. Commands and events of the recorder (chapter 20) that concern its records and its copies in flash. -/

namespace Sys2Proof.Machine

open Sys2Proof

/-- R575: the oldest event on its way from a die arrives at the recorder. -/
def execEventArrival (d t : Nat) (s : State) : Host.Outcome State Fault Refusal :=
  guarded (d < s.dies)
    (let s := s.atTime t
     match takeFirst (fun e => e.die = d) s.rcd.raised with
     | none => s
     | some (e, r) => (s.onRcd fun q => { q with raised := r }).eventArrives e)

/-- R576: the open record closes 10 s after it opened. -/
def execRecordAgeClose (t : Nat) (s : State) : Host.Outcome State Fault Refusal :=
  .next (let s := s.atTime t
         if s.rcd.openedAt + 2000000000 ≤ s.clk then s.closeRec else s)

/-- R576: FLUSH closes the open record. -/
def execEvtFlush (s : State) : Host.Outcome State Fault Refusal :=
  .next (s.served 0xB0000 (s.closeRec))

/-- R578, R580, R581: the writer ends the program of a slot; it waits while the sector it would enter is being erased, and before Speedwell
entry. -/
def execRecordWritten (verified : Bool) (s : State) : Host.Outcome State Fault Refusal :=
  .next (match s.nextToWrite with
    | none => s
    | some r =>
      if !s.on F.EVT_STAT_FLASH_OK || s.rd F.BOOT_STAT_STAGE < 2 || s.rcd.erasing == some (s.rd F.EVT_HEAD_SLOT / 1024) then s else s.slotWritten verified r)

/-- R580: the erase of the next sector completes: its 1,024 slots are empty. -/
def execSectorEraseDone (s : State) : Host.Outcome State Fault Refusal :=
  .next (match s.rcd.erasing with
    | none => s
    | some k =>
      (s.onRcd fun q => { q with erasing := none }).onFlash fun f =>
        { f with slots := f.slots.filter (fun e => e.1 / 1024 != k) })

/-- A record made while the flash was absent takes the keys of the flash's scale (R573). -/
def Rec.rekey (r : Rec) (pcc opsec : Nat) : Rec := { r with pcc := pcc, opsec := (r.opsec + opsec) % 2 ^ 32 }

/-- R573, R581: the event flash returns. -/
def execEventFlashReturn (s : State) : Host.Outcome State Fault Refusal :=
  .next (if s.on F.EVT_STAT_FLASH_OK then s else
    let n := (s.flash.count + 1) % 2 ^ 24
    let base := match s.flash.life.newer with
      | some c => tget c.val.1 39 0
      | none => 0
    let s := s.onFlash fun f => { f with ok := true, cycles := f.cycles.write n }
    let s := ((s.wr F.EVT_STAT_FLASH_OK 1).wr F.BOOT_CYCLES_VALUE n).life 0 39 base
    let s := s.onRcd fun q =>
      { q with held := (q.held ++ q.fifo).map (·.rekey n base), fifo := [], opened := q.opened.map (·.rekey n base) }
    s.scanRing.event 0 0x1302 [s.rcd.held.length])

/-- Begins writing the lifetime area to the older copy (R586). -/
def State.saveLife (s : State) : State :=
  if !s.on F.EVT_STAT_FLASH_OK || s.rcd.savingLife.isSome then s
  else
    let s := s.onFlash fun f => { f with life := f.life.begin }
    (s.onRcd fun q => { q with savingLife := some (q.life, q.hist) }).wr F.EVT_PERSIST_BUSY 1

/-- Copies the fire counts at one instant and begins writing them to the older copy (R588). -/
def State.saveFires (s : State) : State :=
  if !s.on F.EVT_STAT_FLASH_OK || s.rcd.savingFires.isSome then s
  else
    let s := s.onFlash fun f => { f with fires := f.fires.begin }
    (s.onRcd fun q => { q with savingFires := some q.fires }).wr F.EVT_PERSIST_BUSY 1

/-- R586: the write of the lifetime counters and histograms, every hour of operating time. -/
def execLifetimeSave (s : State) : Host.Outcome State Fault Refusal :=
  .next (if s.rcd.lifeSec < 3600 then s else (s.onRcd fun q => { q with lifeSec := 0 }).saveLife)

/-- R588: the write of the fire counts, every hour of operating time. -/
def execFireCountSave (s : State) : Host.Outcome State Fault Refusal :=
  .next (if s.rcd.fireSec < 3600 then s else (s.onRcd fun q => { q with fireSec := 0 }).saveFires)

/-- R586, R588: EVT_PERSIST SAVE writes both at once. -/
def execEvtPersistSave (s : State) : Host.Outcome State Fault Refusal :=
  .next (s.served 0xB0000 (s.saveLife.saveFires))

/-- BUSY is clear once no save runs. -/
def State.persistBusy (s : State) : State :=
  s.wr F.EVT_PERSIST_BUSY (nat (s.rcd.savingLife.isSome || s.rcd.savingFires.isSome))

/-- R586, R588: the writing of the fire counts, or of the lifetime area, completes. -/
def execPersistDone (fires : Bool) (s : State) : Host.Outcome State Fault Refusal :=
  .next (if fires then
    match s.rcd.savingFires with
    | none => s
    | some v =>
      let s := s.onFlash fun f => { f with fires := f.fires.write v }
      ((s.onRcd fun q => { q with savingFires := none, ageSec := 0 }).wr F.EVT_PERSIST_AGE 0).persistBusy
    else match s.rcd.savingLife with
    | none => s
    | some v =>
      let s := s.onFlash fun f => { f with life := f.life.write v }
      (s.onRcd fun q => { q with savingLife := none }).persistBusy)

/-- R580, R591: a write to EVT_RD_SEL loads a slot of the ring. The words of an empty slot read as erased flash
(DESIGN CHOICE, notes/assumptions/3). -/
def execEvtRdSelWrite (slot : Nat) (s : State) : Host.Outcome State Fault Refusal :=
  .next (s.served 0xB0000 (
    let s := s.wr F.EVT_RD_SEL_SLOT slot
    let ws := tget? s.flash.slots (slot % 65536)
    let s := forUpTo 15 (fun w s => s.wr (F.EVT_RD_DATA_WORD w) ((ws.getD []).getD w 0xFFFFFF)) s
    (s.wr F.EVT_RD_STAT_BUSY 0).wr F.EVT_RD_STAT_STATE (slotState ws)))

/-- R645: the one-second window of an event ends, 1 s after it opened. -/
def execRateWindowEnd (code : Nat) (key : Timed Nat) (s : State) : Host.Outcome State Fault Refusal :=
  .next
    (let s := s.atTime key.t
     match s.rcd.windows.find? (fun w => w.code = code ∧ w.key = key.val) with
     | none => s
     | some w => if s.clk < w.openedAt + 200000000 then s else s.closeWindow w)

/-- The quiet time that ends an episode has passed (R300, R362, R377): 1 ms of backlog 0 for an emulation output, 10 s without errors of a head
lane, 1 s without skips of a camera. Episodes of other events end by what their rules name. -/
def State.quiet (s : State) (code key : Nat) : Bool :=
  match code with
  | 0x0D04 => (s.emu key).backlog = 0 && decide ((s.emu key).zeroAt + usTicks 1000 ≤ s.clk)
  | 0x0903 =>
    let lane := key % 72
    let (i, p) := if lane < 64 then (lane / 8, lane % 8) else (lane - 64, 8)
    (s.group (8 * (key / 72) + i)).errs.all (fun e => e.2.1 != p || decide (e.1 + usTicks 10000000 ≤ s.clk))
  | 0x0A04 => decide ((s.cam key).skipAt + usTicks 1000000 ≤ s.clk)
  | _ => false

/-- R300, R362, R377: the quiet time of an episode has passed; an episode of trigger skips is recorded with its count. -/
def execEpisodeQuietEnd (code : Nat) (key : Timed Nat) (s : State) : Host.Outcome State Fault Refusal :=
  .next
    (let s := s.atTime key.t
     let key := key.val
     if !s.inEpisode code key || !s.quiet code key then s
     else
       let s := s.endEpisode code key
       if code = 0x0A04 then
         ((s.event key 0x0A04 [key, (s.cam key).skips]).causeAt key 33).onCam key fun c => { c with skips := 0 }
       else s)

end Sys2Proof.Machine
end

