-- ==== Sys2Proof/Machine/BootOps.lean ====
section
/-! DEFINITION. Bring-up, the boot block, Speedwell service, and the orderly power-down (R122 to R149). -/

namespace Sys2Proof.Machine

open Sys2Proof

/-! Reset. -/

/-- Registers that hold what OTP and the package fix: PKG_ID, PKG_MAGIC, PKG_UNIT, PKG_ROM, PKG_MAC (R33), and the unit and the key slots of
AUTH (R194); and the live level of PWR_WARN. -/
def lastingKey (key : Nat) : Bool :=
  let a := key / 32
  key = F.BOOT_STAT_PWR_WARN.key || a < 0x10 || a = 0x14 || a = 0x18 || a = F.AUTH_UNIT_UNIT.addr ||
    (List.range 8).any (fun n => a = (F.AUTH_SLOT_PROV n).addr)

/-- Every die is reset (R125): the event flash, OTP, the meter (R124), the heads' adapters and the queue of commands stay. -/
def State.resetDies (s : State) : State :=
  { State.reset with
    pending := s.pending
    variant := s.variant
    clk := s.clk
    drawn := s.drawn
    live := s.live.filter (fun e => lastingKey e.1)
    flash := s.flash
    meter := s.meter
    auth := { Auth.reset with keys := s.auth.keys }
    press := { Press.reset with adapters := s.press.adapters } }

/-! The fabric (R17, R18). -/

/-- The die and the port at the far end of a port (R18). R18 names only P0 and P1 for the ring of an RG4: that P0 of a die meets P1 of the next
one is the model's choice (DESIGN CHOICE, notes/assumptions/112). -/
def portPeer (v : Variant) (d p : Nat) : Option (Nat × Nat) :=
  match v with
  | .rg2 => if p < 2 then some (1 - d, p) else none
  | .rg4 => match p with
    | 0 => some ((d + 1) % 4, 1)
    | 1 => some ((d + 3) % 4, 0)
    | 2 => some ((d + 2) % 4, 2)
    | _ => none
  | .rg8 =>
    let row := d / 4 * 4
    match p with
    | 0 => some (row + (d + 1) % 4, 1)
    | 1 => some (row + (d + 3) % 4, 0)
    | 2 => some ((d + 4) % 8, 2)
    | 3 => some ((d + 4) / 4 % 2 * 4 + (d + 2) % 4, 3)
    | _ => none

/-- A port trains with the one at its far end (R145); `failed` are the ports, 4 x die + port, that do not train in three tries. -/
def State.trains (s : State) (failed : List Nat) (d p : Nat) : Bool :=
  match portPeer s.variant d p with
  | none => false
  | some (e, q) => !failed.contains (4 * d + p) && !failed.contains (4 * e + q)

/-- The dies that D0 reaches over the ports that train (R127, R145). -/
def State.reachedDies (s : State) (failed : List Nat) : List Nat :=
  forUpTo s.dies (fun _ l =>
    (List.range s.dies).filter (fun d => l.contains d || (List.range 4).any (fun p =>
      s.trains failed d p && (portPeer s.variant d p).any (fun e => l.contains e.1)))) [0]

/-- A port is trained, or powered down when it fails to train or when its die or the one at its far end is absent (R35, R145). -/
def State.trainPort (s : State) (failed : List Nat) (d p : Nat) : State :=
  match portPeer s.variant d p with
  | none => s
  | some (e, q) =>
    let s := ((s.wr (F.LNK_PORT_USED d p) 1).wr (F.LNK_PORT_PEER d p) e).wr (F.LNK_PORT_PEER_PORT d p) q
    let up := s.present d && s.present e && s.trains failed d p
    ((s.wr (F.LNK_STAT_STATE d p) (if up then 2 else 0)).wr (F.LNK_STAT_LANES d p) (if up then 32 else 0)).wr
      (F.LNK_STAT_POWERED d p) (nat up)

/-! The boot block. -/

/-- Words 0 to 13 of the boot block where no copy is valid (R135). -/
def bootDefaults : List Nat := [0x535057, 1, 0, 0, 0, 0, 0, 1000, 1, 0, 0, 0, 0, 0]

/-- The defaults with AUTO_LOAD taken as 0, without an event flash (R145). -/
def bootNoFlash : List Nat := bootDefaults.set 1 0

/-- Every word of a boot block is in its range (R135, R136); a pulse width and ENC_LEN may be 0, which refuses what they serve. -/
def bootBlockOk (ws : List Nat) : Bool :=
  let w (n : Nat) : Nat := ws.getD n 0
  let pulse (n : Nat) : Bool := w n = 0 || (200 ≤ w n && w n ≤ 8000)
  w 0 = 0x535057 && w 1 < 8 && w 3 < 256 && w 4 ≤ 5000000 && pulse 6 && 1 ≤ w 7 && w 7 ≤ 60000 && 1 ≤ w 8 && w 8 ≤ 4 && pulse 9

/-- A boot block is in force: BOOT_BB shows it, and the pacers' keep-alive takes its reset values from it (R135, R150, R337). -/
def State.useBootBlock (s : State) (ws : List Nat) (src : Nat) : State :=
  let s := (s.onBoot fun b => { b with block := ws }).wr F.BOOT_STAT_BB_SRC src
  let s := (List.range 14).foldl (fun s n => s.wr (F.BOOT_BB_WORD n) (ws.getD n 0)) s
  (List.range (2 * s.dies)).foldl (fun s p =>
    ((s.wr (F.LNP_TKL_IDLE (p / 2) (p % 2)) (ws.getD 7 0)).wr (F.LNP_TKL_LINES (p / 2) (p % 2)) (ws.getD 8 0)).wr
      (F.LNP_TKLPW_PW (p / 2) (p % 2)) (ws.getD 6 0)) s

/-! Reading the event flash (R127). -/

/-- Copies in flash that are found to fail their check (R137). Their numbers are 2 x area + copy, copy 0 A and 1 B, with the areas 0 lifetime
counters and histograms, 1 head voltage limits, 2 counter marks, 3 Twinflower configuration and 4 boot block. -/
def State.failCopies (s : State) (bad : List Nat) : State :=
  let x (n : Nat) : Bool := bad.contains n
  s.onFlash fun f =>
    { f with
      life := f.life.fail (x 0) (x 1), limits := f.limits.fail (x 2) (x 3), marks := f.marks.fail (x 4) (x 5)
      pairCfg := f.pairCfg.fail (x 6) (x 7), bootA := if x 8 then none else f.bootA, bootB := if x 9 then none else f.bootB }

/-- The boot block is taken from copy A, else copy B, else the defaults (R135, R145). -/
def State.readBootBlock (s : State) : State :=
  if !s.flash.ok then s.useBootBlock bootNoFlash 1
  else match s.flash.bootA, s.flash.bootB with
    | some ws, _ => s.useBootBlock ws 0
    | none, some ws => s.useBootBlock ws 1
    | none, none => (s.event 0 0x0104 []).useBootBlock bootDefaults 1

/-- The counter marks are taken, and every slot's last accepted counter with them; marks that fail their checks set HWM_BAD
(R188, R190). -/
def State.readMarks (s : State) : State :=
  match (if s.flash.ok then s.flash.marks.newer else none) with
  | none => (s.wr F.AUTH_STAT_HWM_BAD 1).event 0 0x0106 []
  | some ⟨_, t⟩ => (List.range 8).foldl (fun s k =>
      let m := tget t k 0
      (s.wrPair (F.AUTH_HWM_LO_VALUE k) (F.AUTH_HWM_HI_VALUE k) m).wrPair (F.AUTH_CNT_LO_VALUE k) (F.AUTH_CNT_HI_VALUE k) m) s

/-- Adds the entries of a table to those of another; a sum saturates at 2^48 - 1. -/
def addCounts (t u : Tab Nat) : Tab Nat := t.foldl (fun u e => tset u e.1 (min (tget u e.1 0 + e.2) (2 ^ 48 - 1))) u

/-- The highest OPSEC of the ring (R573). -/
def State.ringOpsec (s : State) : Nat :=
  s.flash.slots.foldl (fun m e => if slotState (some e.2) = 1 then max m (e.2.getD 1 0 + 2 ^ 24 * bits (e.2.getD 2 0) 0 8) else m) 0

/-- Lifetime counters and histograms are restored from the newer copy; with both copies bad they start from 0, and the operating seconds
from the highest of the ring (R573, R586). -/
def State.readLife (s : State) : State :=
  match s.flash.life.newer with
  | some c => s.onRcd fun r => { r with life := addCounts r.life c.val.1, hist := addCounts r.hist c.val.2 }
  | none => if s.flash.life.lost then (s.event 0 0x1305 []).life 0 39 s.ringOpsec else s

/-- The recorder finds its place in the ring, and takes the records of the power-down area before its own (R581, R582). -/
def State.readRing (s : State) : State :=
  let s := s.onRcd fun r => { r with held := s.flash.powerDown ++ r.held }
  (s.onFlash fun f => { f with powerDown := [] }).scanRing

/-- The Twinflower configuration is taken; an enabled unit is JOINING (R514, R534). -/
def State.readPairCfg (s : State) : State :=
  match s.flash.pairCfg.newer with
  | none => s
  | some ⟨_, w⟩ =>
    let s := s.loadPairCfg w
    if s.on F.PAIR_CFG_ENABLE then s.setRole 1 else s

/-! Speedwell service. -/

/-- Milliseconds since reset release. -/
def State.sinceRelease (s : State) : Nat := (s.clk - s.boot.releasedAt) / usTicks 1000

/-- The automatic load begins (R127, R130): B_FIRST tries slot B before slot A. It alone shows STAGE 3 (DEDUCED, notes/assumptions/130). -/
def State.autoLoad (s : State) : State := (s.setStages 3).autoTry (if bit (s.bb 1) 1 then [3, 2] else [2, 3])

/-- A group takes Speedwell strobes: its head's identity has been read, of its class's rank once a structure is loaded, and it is neither FENCED
nor QUIESCED (R138, R139, R334). -/
def State.spwGroup (s : State) (g : Nat) : Bool :=
  s.on (F.LAN_GSTAT_IDV (g / 8) (g % 8)) && s.grpState g < 2 && (!s.loaded || s.rankMatches g)

/-- The lanes of a group by which the stores number their slots, with the physical lane of each. -/
def State.storeLanes (s : State) (g : Nat) : List (Nat × Nat) :=
  if s.loaded then ((s.imageOfGroup g).groupLanes (g / 8) (g % 8)).map (fun a => (a.phys, a.addr))
  else (List.range 8).map (fun k => (8 * (g % 8) + k, 8 * (g % 8) + k))

/-- A slot of a line of a die's page store (R140). -/
def State.pageSlot (s : State) (d line lane slot : Nat) : Bool :=
  let k := line * 131072 + lane * 2048 + slot
  bit (tget s.press.pageStore (2 ^ 22 * d + k / 16) 0) (k % 16)

/-- The frames of a Speedwell line on a group, and its drops by nozzle address: CODE and VOLT 0 (R349). -/
def State.spwFrames (s : State) (g line lineNo : Nat) : List (Nat × LineFrame) × List (Nat × Nat) :=
  storeFrames (g / 8) (lineNo % 2 ^ 24) false (s.storeLanes g) (s.pageSlot (g / 8) line)

/-- A tickle burst of a group at FIRE clock `f` (R138): TKL_LINES strobes, SPW_PERIOD apart. A group whose pacer is not OFF takes none
(R144). -/
def State.spwTickle (s : State) (g f : Nat) : State :=
  if !s.spwGroup g || (s.loaded && s.rd (F.LNP_CTL_STATE (g / 8) (s.groupPacer g % 2)) != 0) then s
  else
    let lanes := s.storeLanes g
    let s := s.setGroup g { s.group g with burstTo := f + (s.bb 8 - 1) * s.bb 10 }
    (List.range (s.bb 8)).foldl (fun s k => s.tickleStrobe g (f + k * s.bb 10) (s.bb 6) (k % 4) lanes) s

/-- A Speedwell line on a group at FIRE clock `f` (R139): fired with SPW_PULSE, or NOFIRE. -/
def State.spwLine (s : State) (g f line lineNo : Nat) (fire : Bool) : State :=
  if !(fire && s.spwGroup g) then s.setGroup g { s.group g with sent := [], sentNofire := true }
  else
    let (frames, drops) := s.spwFrames g line lineNo
    let s := s.setGroup g { s.group g with sent := frames, sentNofire := false, last := some f, width := s.bb 9, own := true }
    (s.countDrops g drops false).life (g / 8) 0 1

/-- The web is faster than a speed in mm/s by the boot block's ENC_LEN (R141). -/
def State.webFaster (s : State) (d mm : Nat) : Bool :=
  let f := 5 * d + 4
  decide (mm * 1000000 * 256 < ((s.input f).speed s.clk (s.stillTo f)).natAbs * s.bb 13)

/-- The web is at that speed or faster. -/
def State.webReaches (s : State) (d mm : Nat) : Bool :=
  let f := 5 * d + 4
  decide (mm * 1000000 * 256 ≤ ((s.input f).speed s.clk (s.stillTo f)).natAbs * s.bb 13)

/-! SDRAM training and ECC initialisation (R128, R129, R145). -/

/-- A rank has failed for good: a spare takes its place, or full service is withheld under the row of R127; a spare that fails is
retired. -/
def State.rankFailed (s : State) (d row r : Nat) : State :=
  let s := s.event d 0x0109 [d, r / 2, r % 2]
  if s.rd (F.MEM_RANK_ROLE d r) = 2 then s.wr (F.MEM_RANK_ROLE d r) 3
  else match s.freeSpare d with
    | some sp => (s.takeSpare d r sp).event d 0x010A [d]
    | none => (s.onBoot fun b => { b with untrained := b.untrained.filter (fun e => e != d) ++ [d] }).bootFail row

/-- Ranks that have failed and that the die fits. -/
def State.failedRanks (s : State) (d : Nat) (failed : List Nat) : List Nat :=
  failed.filter (fun r => r < 4 && (s.rd (F.MEM_RANK_ROLE d r) = 1 || s.rd (F.MEM_RANK_ROLE d r) = 2))

/-- A die lacks a rank without a spare. -/
def State.memFailed (s : State) (d : Nat) : Bool := s.boot.untrained.contains d

/-- The event flash holds training results of a die at a set-point (R137, R460). -/
def State.resultsStored (s : State) (d k : Nat) : Bool := s.flash.ok && (tget? s.flash.training (4 * d + k)).isSome

/-- Training of a die has ended (R460, R461): its set-point is OP, or the one asked for during training. A set-point whose stored results held
keeps them; the results of every other one trained go to flash, as free values (R128). -/
def State.trained (s : State) (d set : Nat) (stale : List Nat) : State :=
  let s := (s.wr (F.MEM_FREQ_TRAINED d) set).memStage d true false
  let s := if s.sdram.switched.contains d then s else s.wr (F.MEM_STAT_SP d) (s.rd (F.MEM_FREQ_OP d))
  let s := (List.range 4).foldl (fun s k =>
    if !s.flash.ok || !bit set k || (s.resultsStored d k && !stale.contains k) then s
    else
      let (v, s) := s.draw 256
      s.onFlash fun f => { f with training := tset f.training (4 * d + k) v }) s
  s.setStage d 5

/-! Full service (R132). -/

/-- Starts a block as if EN 1 had been committed. -/
def State.startNow (s : State) (b : Block) : State := s.enWrite b true

/-- Every block that its chapter starts on entry to full service (R253, R280, R338, R392, R424, R468, R603). -/
def State.startBlocks (s : State) : State :=
  let dies := s.presentDies
  let s := dies.foldl (fun s d => s.startNow (.zip d)) s
  let bars := (dies.flatMap (fun d => [2 * d, 2 * d + 1])).filter (fun p => !s.noBar p)
  let s := bars.foldl (fun s p => (s.startNow (.ras p)).startNow (.lnp p)) s
  let s := (s.startNow .hlth).startNow .cal
  let si := dies.map Block.cam ++ dies.flatMap (fun d => [Block.led (2 * d), Block.led (2 * d + 1)])
  let s := si.foldl (fun s b => if s.on (blockFld b 0 1) then s.startNow b else s) s
  let engines := (dies.flatMap (fun d => (List.range 12).map (fun e => 12 * d + e))).filter (fun e =>
    (s.engineRole (e / 12) (e % 12)).isSome && !(e % 12 = 11 && s.on (F.ENG_SPARE_SPARE_EN (e / 12))))
  engines.foldl (fun s e => s.startNow (.eng e)) s

/-- Mask of the groups from `first` on that are down. -/
def State.downMask (s : State) (first n : Nat) : Nat :=
  forUpTo n (fun i m => if s.boot.downGroups.contains (first + i) then m + 2 ^ i else m) 0

/-- Lane link-up goes on in a group: it is STARTING (R127, R145, R356). -/
def State.linkingUp (s : State) : Bool := (List.range (8 * s.dies)).any (fun g => s.blockState (.lan g) = 1)

/-- Every step of bring-up has ended (R132). -/
def State.bootDone (s : State) : Bool :=
  s.rd F.BOOT_STAT_STAGE = 6 && !s.linkingUp && s.boot.restored && s.boot.agreed && !s.on F.BOOT_STAT_FAIL &&
    (List.range s.dies).all s.present

/-! Power-down (R147). -/

/-- Every event on its way arrives at the recorder. -/
def State.arriveAll (s : State) : State :=
  let l := s.rcd.raised
  l.foldl (fun s e => s.eventArrives e) (s.onRcd fun r => { r with raised := [] })

/-- The open windows end, the open record closes, and the staging FIFO goes to the power-down area, after records of that area which are
not in the ring yet (R582, R645). -/
def State.flushRecorder (s : State) : State :=
  let s := s.rcd.windows.foldl (fun s w => s.closeWindow w) s
  let s := s.arriveAll.closeRec
  if !s.on F.EVT_STAT_FLASH_OK then s
  else
    let l := s.rcd.held ++ s.rcd.fifo
    (s.onRcd fun r => { r with held := [], fifo := [] }).onFlash fun f => { f with powerDown := f.powerDown ++ l }

/-- A load in progress is abandoned (R116); an automatic one tries no other slot. -/
def State.abandonLoad (s : State) : State :=
  let st := s.loaderState
  if st = 1 || st = 2 || st = 5 then (s.onBoot fun b => { b with slotsLeft := [] }).rejectLoad 17 s.ld.sec s.ld.words.length else s

/-- The flash writes of R147 have ended: the lifetime area, with its values as the steps began, and the counter marks in force. -/
def State.flashSteps (s : State) : State :=
  if !s.on F.EVT_STAT_FLASH_OK then s
  else
    let s := match s.rcd.savingLife with
      | none => s
      | some v => ((s.onFlash fun f => { f with life := f.life.write v }).onRcd fun r => { r with savingLife := none }).persistBusy
    if s.on F.AUTH_STAT_HWM_BAD then s else s.onFlash fun f => { f with marks := f.marks.write f.markTable }

/-- The steps of R147 begin: the bars are fenced and an active unit of a pair hands over by DROP (R519), the axes stop and lose their
reference, loads are abandoned, the recorder is flushed, and the lifetime area is being written, anew when a write of it goes on. -/
def State.powerSteps (s : State) : State :=
  let s := s.onBoot fun b => { b with stepping := true }
  let s := (List.range s.dies).foldl (fun s d => s.onGroups d fun _ x => x.withoutStrobe) s
  let s := if s.role = 4 then (s.pairControl 4 0).fence 4 else s
  let s := (List.range (4 * s.dies)).foldl (fun s a => s.axisHalt a) s
  ((s.abandonLoad).flushRecorder.onRcd fun r => { r with savingLife := none }).saveLife

end Sys2Proof.Machine
end

