-- ==== Sys2Proof/Machine/Boot.lean ====
section
/-! DEFINITION. The commands and events of bring-up, Speedwell service and power-down (chapter 04). -/

namespace Sys2Proof.Machine

open Sys2Proof

/-! Reset (R123 to R126). -/

/-- R125: RESET_N asserts. -/
def execResetAssert (t : Nat) (s : State) : Host.Outcome State Fault Refusal := .next (s.atTime t).resetDies

/-- R123: a rail falls below 90 % while RESET_N is high. -/
def execRailFault (t : Nat) (s : State) : Host.Outcome State Fault Refusal :=
  .next (let s := s.atTime t; if s.boot.inReset then s else s.resetDies)

/-- R125, R127, R491: reset is released: the ROM step begins, the power-cycle count is read and increments, and the time base starts
at 0. -/
def State.releaseReset (s : State) : State :=
  let n := (s.flash.count + 1) % 2 ^ 24
  let s := if s.flash.ok then (s.onFlash fun f => { f with cycles := f.cycles.write n }).wr F.BOOT_CYCLES_VALUE n else s
  let s := { s with timeBase := [] }
  let s := (s.onBoot fun b => { b with inReset := false, releasedAt := s.clk, censusDue := true }).onRcd fun r => { r with secondAt := s.clk }
  ((List.range s.dies).foldl (fun s d => s.wr (F.DIE_STAT_STAGE d) 1) s).wr F.BOOT_STAT_STAGE 1

/-- R127: RESET_N rises. -/
def execResetRelease (t : Nat) (s : State) : Host.Outcome State Fault Refusal :=
  .next (let s := s.atTime t; if s.boot.inReset then s.releaseReset else s)

/-! The steps of R127. -/

/-- R127, R145: the die census ends; the ports of `failed`, numbered 4 x die + port, have not trained in three tries. -/
def execDieCensusDone (failed : List Nat) (t : Nat) (s : State) : Host.Outcome State Fault Refusal :=
  .next
    (let s := s.atTime t
     if !s.boot.censusDue then s
     else
       let found := s.reachedDies failed
       let lost := (List.range s.dies).filter (fun d => !found.contains d)
       let s := s.onBoot fun b => { b with censusDue := false, censused := true }
       let s := s.wr F.BOOT_DIE_STAT_PRESENT (found.foldl (fun m d => m + 2 ^ d) 0)
       let s := lost.foldl (fun s d => (s.wr (F.DIE_STAT_STAGE d) 0).event 0 0x0103 [d]) s
       let s := found.foldl (fun s d => if s.rd (F.DIE_STAT_STAGE d) = 0 then s.wr (F.DIE_STAT_STAGE d) 1 else s) s
       let s := (List.range s.dies).foldl (fun s d => [0, 1, 2, 3].foldl (fun s p => s.trainPort failed d p) s) s
       if lost.isEmpty then s.packStage else s.packStage.bootFail 1)

/-- R135, R137, R145, R190, R336, R586: the OTP key slots, the counter marks and the boot block have been read; `bad` names the copies that
fail their check, as 2 x area + copy (`State.failCopies`). -/
def execBootFlashReadDone (bad : List Nat) (t : Nat) (s : State) : Host.Outcome State Fault Refusal :=
  .next
    (let s := s.atTime t
     if !s.boot.censused || s.boot.censusDue || s.boot.flashRead then s
     else
       let s := (s.failCopies bad).onBoot fun b => { b with flashRead := true }
       let s := s.readBootBlock.newNonce
       if !s.flash.ok then ((s.wr F.EVT_STAT_FLASH_OK 0).event 0 0x0105 []).readMarks
       else
         let s := (s.wr F.EVT_STAT_FLASH_OK 1).readMarks
         if s.boot.restoredLife then s
         else
           let s := if s.flash.limits.lost then s.event 0 0x0813 [] else s
           s.readLife.readRing.readPairCfg.onBoot fun b => { b with restoredLife := true })

/-- R134, R127, R356: Speedwell service begins. -/
def execSpeedwellEntry (t : Nat) (s : State) : Host.Outcome State Fault Refusal :=
  .next
    (let s := s.atTime t
     if !s.boot.flashRead || s.boot.entered || s.boot.censusDue then s
     else
       let s := (s.onBoot fun b => { b with entered := true, safe := false }).setStages 2
       let s := s.wr F.BOOT_T_SPW_MS s.sinceRelease
       let s := if s.on F.EVT_STAT_FLASH_OK then s else s.onRcd fun r => { r with held := r.held ++ r.fifo, fifo := [] }
       let s := if bit (s.bb 1) 2 then s.presentDies.foldl (fun s d => s.enWrite (.tkl d) true) s else s
       if bit (s.bb 1) 0 && !s.loading then s.autoLoad else s)

/-- R128, R145, R460, R461: training of a die ends with the set-points of `trained`; the ranks of `failed` have failed twice, and stored
results of the set-points of `stale` failed their verification. -/
def execSdramTrainingDone (d trained : Nat) (failed stale : List Nat) (t : Nat) (s : State) : Host.Outcome State Fault Refusal :=
  guarded (d < s.dies && trained < 16)
    (let s := s.atTime t
     if s.rd (F.DIE_STAT_STAGE d) != 4 || s.memFailed d then s
     else
       let stale := (List.range 4).filter (fun k => stale.contains k && s.resultsStored d k)
       let s := stale.foldl (fun s k => s.event d 0x0E0B [k]) s
       let s := (s.failedRanks d failed).foldl (fun s r => s.rankFailed d 6 r) s
       if s.memFailed d then s else s.trained d trained stale)

/-- R129, R133, R145: ECC initialisation of a die ends; the ranks of `bad` had an uncorrectable write-verify error. -/
def execEccInitDone (d : Nat) (bad : List Nat) (t : Nat) (s : State) : Host.Outcome State Fault Refusal :=
  guarded (d < s.dies)
    (let s := s.atTime t
     if s.rd (F.DIE_STAT_STAGE d) != 5 || s.memFailed d then s
     else
       let s := (s.failedRanks d bad).foldl (fun s r => s.rankFailed d 7 r) s
       if s.memFailed d then s
       else (s.memStage d true true).setStage d 6)

/-- R127, R145, R588: the fire counts have been restored; `ok` tells whether the stored counts hold. -/
def execFireCountRestoreDone (ok : Bool) (t : Nat) (s : State) : Host.Outcome State Fault Refusal :=
  .next
    (let s := s.atTime t
     if s.rd F.BOOT_STAT_STAGE != 6 || s.boot.restored then s
     else
       let s := s.onBoot fun b => { b with restored := true }
       let s := if ok then s else s.onFlash fun f => { f with fires := f.fires.fail true true }
       if !s.flash.ok then s
       else match s.flash.fires.newer with
         | some c => s.onRcd fun r => { r with fires := c.val }
         | none => let s := s.onRcd fun r => { r with fires := [] }; if s.flash.fires.lost then s.event 0 0x010B [] else s)

/-- R131, R145: 10 ms after an incomplete boot round the next one opens; five of them withhold full service. -/
def execBootAgreeRetry (t : Nat) (s : State) : Host.Outcome State Fault Refusal :=
  .next
    (let s := s.atTime t
     if !s.bootRound || s.epoch.round.isSome || s.boot.rounds = 0 || s.on F.BOOT_STAT_FAIL then s
     else if s.bootRoundDue then s.openRound
     else (s.event 0 0x010C []).bootFail 9)

/-- R132: full service begins. -/
def execFullService (t : Nat) (s : State) : Host.Outcome State Fault Refusal :=
  .next
    (let s := s.atTime t
     if !s.bootDone then s
     else
       let s := s.zeroLines.setStages 7
       let ms := s.sinceRelease
       let s := (s.wr F.BOOT_T_FULL_MS ms).cause 20
       let s := s.event 0 0x0102 [ms, s.boot.downGroups.length, s.downMask 0 24, s.downMask 24 24, s.downMask 48 16]
       s.startBlocks)

/-- R146: RETRY repeats the first failed step and every later one; a census that is repeated leads to the flash read and to Speedwell entry
again. -/
def execBootRetry (s : State) : Host.Outcome State Fault Refusal :=
  .next (s.served 0x100000 (
    if !s.on F.BOOT_STAT_FAIL || s.rd F.BOOT_STAT_STAGE = 7 then s
    else
      let row := s.rd F.BOOT_STAT_FAIL_STEP
      let s := s.setFailed []
      let s := s.onBoot fun b => { b with restored := false, agreed := false, rounds := 0 }
      match row with
      | 1 => s.onBoot fun b => { b with censusDue := true, flashRead := false, entered := false, untrained := [] }
      | 4 => if s.loading then s else (s.onBoot fun b => { b with autoFailed := false }).autoLoad
      | 9 => s.onBoot fun b => { b with restored := true }
      | _ =>
        let dies := s.boot.untrained
        (dies.foldl (fun s d => s.startTraining d) (s.onBoot fun b => { b with untrained := [] })).packStage))

/-! The boot block (R136). -/

/-- R136: SAVE. -/
def execBootBbSave (s : State) : Host.Outcome State Fault Refusal :=
  .next (s.served 0x100000 (
    if s.on F.BOOT_BB_CTL_BUSY then s
    else
      let ws := (List.range 14).map (fun n => s.rd (F.BOOT_BB_WORD n))
      if !bootBlockOk ws || !s.flash.ok then s.wr F.BOOT_BB_CTL_BB_ERR 1
      else ((s.onBoot fun b => { b with saving := some ws }).wr F.BOOT_BB_CTL_BUSY 1)))

/-- R136: both copies have been written, B and then A. -/
def execBootBbSaveDone (t : Nat) (s : State) : Host.Outcome State Fault Refusal :=
  .next
    (let s := s.atTime t
     match s.boot.saving with
     | none => s
     | some ws =>
       ((s.onFlash fun f => { f with bootA := some ws, bootB := some ws }).onBoot fun b => { b with saving := none }).wr
         F.BOOT_BB_CTL_BUSY 0)

/-! Speedwell service (R138 to R144). -/

/-- R138, R144: a tickle burst of a die falls due at FIRE clock `f`. -/
def execTickleBurst (d f : Nat) (s : State) : Host.Outcome State Fault Refusal :=
  guarded (d < s.dies)
    (let s := s.atFire f
     let soon := (tget? s.boot.tickledAt d).any (fun u => f < u + 400000 * s.bb 7)
     if s.blockState (.tkl d) != 2 || s.blockState (.spw d) = 2 || soon || !s.mayFire d || !s.leads then s
     else
       let s := s.onBoot fun b => { b with tickledAt := tset b.tickledAt d f }
       (List.range 8).foldl (fun s i => s.spwTickle (8 * d + i) f) s)

/-- R139 to R141: the Speedwell ratchet of a die reaches its next line at FIRE clock `f`. A pass of the store is complete when the next line
starts it again. -/
def execSpeedwellLine (d f : Nat) (s : State) : Host.Outcome State Fault Refusal :=
  guarded (d < s.dies)
    (let s := s.atFire f
     let x := s.spw d
     let c := s.webCount d
     if s.blockState (.spw d) != 2 || !x.ahead || (c - x.zero) * 2 ^ 24 < ((x.line + 1) * s.bbPitch : Nat) then s
     else
       let late := x.lastAt.all (fun u => u + s.bb 10 ≤ f)
       let fast := if x.fast then s.webReaches d 980 || !late else s.webFaster d 1000 || !late
       let s := if fast && !x.fast then s.event d 0x0110 [] else s
       let len := s.rd (F.SPW_LEN_LINES d)
       let passes := if (x.line + 1) % len = 0 then x.passes + 1 else x.passes
       let s := s.setSpw d { x with line := x.line + 1, lastAt := some f, fast := fast, passes := passes }
       let fire := !fast && !x.reverse && s.mayFire d && s.leads
       let s := (List.range 8).foldl (fun s i => s.spwLine (8 * d + i) f (x.line % len) x.line fire) s
       let s := if fire then s.life d 1 1 else s
       let n := s.rd (F.SPW_CTL_REPEATS d)
       if n != 0 && x.passes < passes && n ≤ passes then s.enWrite (.spw d) false else s)

/-- R140: an access to SPW_DATA, which advances SPW_ADDR; an address beyond the store counts as 0. -/
def execSpwDataAccess (write : Bool) (w : Word) (s : State) : Host.Outcome State Fault Refusal :=
  .next (
    let tickle := s.on F.SPW_SEL_STORE
    let d := s.rd F.SPW_SEL_DIE
    let size := if tickle then 32768 else 2 ^ 22
    let a := if s.rd F.SPW_ADDR_ADDR < size then s.rd F.SPW_ADDR_ADDR else 0
    let v := if tickle then tget s.press.tickleStore (32768 * d + a) 0xFFFF else tget s.press.pageStore (2 ^ 22 * d + a) 0
    let t := s.wr F.SPW_ADDR_ADDR ((a + 1) % size)
    if write then
      s.served 0x100000 (
        let x := w.toNat % 2 ^ 16
        let t := t.wr F.SPW_DATA_DATA x
        if s.dies ≤ d then t
        else if tickle then t.onPress fun q => { q with tickleStore := tset q.tickleStore (32768 * d + a) x }
        else if s.blockState (.spw d) != 0 then t.inc F.BOOT_EARLY_VALUE
        else t.onPress fun q => { q with pageStore := tset q.pageStore (2 ^ 22 * d + a) x })
    else s.servedRead 0x100000 [0] (t.onHost fun h => { h with readData := [if s.dies ≤ d then 0 else v] }))

/-! Power (R147 to R149). -/

/-- R147, R116, R519, R582: PWR_WARN asserts. In reset only its level shows (R150). -/
def execPwrWarnAssert (t : Nat) (s : State) : Host.Outcome State Fault Refusal :=
  .next
    (let s := s.atTime t
     if s.on F.BOOT_STAT_PWR_WARN then s
     else if s.boot.inReset then s.wr F.BOOT_STAT_PWR_WARN 1
     else
       let s := (s.wr F.BOOT_STAT_PWR_WARN 1).life 0 32 1
       if s.boot.resetPending then s else s.powerSteps)

/-- R147, R149: the power-down steps end; where a package reset has asked for them, every die is reset and starts again. -/
def execPowerDown (t : Nat) (s : State) : Host.Outcome State Fault Refusal :=
  .next
    (let s := s.atTime t
     if !s.halted || (!s.boot.stepping && !s.boot.resetPending) then s
     else
       let s := s.flashSteps.onBoot fun b => { b with safe := true, stepping := false }
       let s := (s.wr F.BOOT_STAT_PD_DONE 1).event 0 0x010D []
       if s.boot.resetPending then s.flushRecorder.resetDies.releaseReset else s)

/-- R148: PWR_WARN deasserts before power is lost. -/
def execPwrWarnDeassert (t : Nat) (s : State) : Host.Outcome State Fault Refusal :=
  .next
    (let s := s.atTime t
     if !s.on F.BOOT_STAT_PWR_WARN then s
     else if s.boot.inReset then s.wr F.BOOT_STAT_PWR_WARN 0
     else ((s.wr F.BOOT_STAT_PWR_WARN 0).wr F.BOOT_STAT_HELD 1).onBoot fun b => { b with warnLowAt := s.clk })

/-- R148: RESUME; one written before PWR_WARN has been low for 10 ms is ignored. -/
def execBootResume (s : State) : Host.Outcome State Fault Refusal :=
  .next (s.served 0x100000 (
    if !s.on F.BOOT_STAT_HELD || s.on F.BOOT_STAT_PWR_WARN || s.clk < s.boot.warnLowAt + usTicks 10000 then s
    else
      (((s.wr F.BOOT_STAT_HELD 0).wr F.BOOT_STAT_PD_DONE 0).onBoot fun b => { b with safe := false }).event 0 0x010E []))

/-- The sequence of a BOOT_RESET write begins: 0x010F and the steps of R147 (R149). -/
def State.beginReset (s : State) : State :=
  if s.boot.resetPending then s
  else ((s.event 0 0x010F []).onBoot fun b => { b with resetPending := true }).powerSteps

/-- R149: a write to BOOT_RESET; any value but the key is ignored. -/
def execBootReset (w : Word) (s : State) : Host.Outcome State Fault Refusal :=
  .next (s.served 0x100000 (if w.toNat = 0x00C3C3 then s.beginReset else s))

/-- R196: AUTH acts on FACTORY_RESET. -/
def execFactoryReset (s : State) : Host.Outcome State Fault Refusal :=
  .next (match s.authCmd 6 with
    | none => s
    | some c =>
      let s := s.authTaken
      if c.payload.getD 0 0 != 0x465253 then s.cmdResult c 13 1
      else
        let s := s.onFlash fun f => { f with slotA := none, slotB := none, bootA := none, bootB := none, training := [] }
        (s.cmdResult c 0 0).beginReset)

/-- R154: an FLR, a hot reset or a link-down resets only the PCIe configuration space and the MSI-X table; entry into D3hot does the same
as a write of the power state (`State.pcieRequest`). -/
def execPcieReset (s : State) : Host.Outcome State Fault Refusal := .next (s.onHost fun h => h.pcieReset false)

/-! Drive voltage limits. -/

/-- R336: AUTH acts on HEAD_LIMITS; `written` tells whether the flash write succeeds. -/
def execHeadLimits (written : Bool) (s : State) : Host.Outcome State Fault Refusal :=
  .next (match s.authCmd 5 with
    | none => s
    | some c =>
      let s := s.authTaken
      let w (n : Nat) : Nat := c.payload.getD n 0
      let all := bit (w 0) 8
      let h := w 0 % 256
      let lo := w 1 % 4096
      let hi := w 2 % 4096
      if lo = 0 || hi < lo then s.cmdResult c 13 1
      else if !all && (s.headNow h).isNone then s.cmdResult c 13 2
      else if !written || !s.flash.ok then s.cmdResult c 13 3
      else
        let heads := if all then List.range 256 else [h]
        let s := s.onFlash fun f => { f with limits := f.limits.write (heads.foldl (fun t k => tset t k (lo, hi)) f.limitTable) }
        let s := s.event 0 0x080F [if all then 0xFFFFFF else h, lo, hi]
        (heads.foldl (fun s k => s.judgeVolt k) s).cmdResult c 0 0)

end Sys2Proof.Machine
end

