-- ==== Sys2Proof/Machine/Counting.lean ====
section
/-! DEFINITION. The counting of each operating second (R573, R585) and the dumps of the recorder (R589). -/

namespace Sys2Proof.Machine

open Sys2Proof

/-- The head temperatures of the groups of a die that have a head. -/
def State.headTemps (s : State) (d : Nat) : List Int :=
  ((List.range 8).filter (fun g => bit (s.rd (F.LAN_GSTAT_FLAGS d g)) 0)).map (fun g => signed 12 (s.rd (F.LAN_TEMP_HEAD d g)))

/-- What a die counts each second: seconds in full service and histograms 0, 2 and 3 (R584, R585). -/
def State.secondAtDie (s : State) (d : Nat) : State :=
  let s := if s.rd (F.DIE_STAT_STAGE d) = 7 then s.life d 15 1 else s
  let s := s.histo d 0 ((s.dieTemp d + 200) / 40).toNat
  let s := if s.rd (F.LNP_CTL_STATE d 0) = 2 || s.rd (F.LNP_CTL_STATE d 1) = 2 then s.histo d 2 (s.lineRate d / 8000) else s
  match s.headTemps d with
  | [] => s
  | t :: r => s.histo d 3 (r.foldl max t / 30).toNat

/-- R573: an operating second ends, 1 s after the last. -/
def execOpsecTick (t : Nat) (s : State) : Host.Outcome State Fault Refusal :=
  .next
    (let s := s.atTime t
     if s.clk < s.rcd.secondAt + 200000000 then s
     else
     let s := s.life 0 39 1
     let s := s.onRcd fun r => { r with
       secondAt := s.clk, ageSec := r.ageSec + 1, lifeSec := r.lifeSec + 1, fireSec := r.fireSec + 1 }
     let s := s.wr F.EVT_PERSIST_AGE (min (s.rcd.ageSec / 60) 65535)
     (List.range s.dies).foldl State.secondAtDie s)

/-- A value of 48 bits as the two words of a pair, three bytes each, low word first (R6, R589). -/
def pairBytes (v : Nat) : List Nat := leBytes v 6

/-- The valid slots of the record ring from the oldest, 15 words each (R589). -/
def State.recordDump (s : State) : List Nat :=
  let h := s.rd F.EVT_HEAD_SLOT
  let valid := s.flash.slots.filter (fun e => slotState (some e.2) = 1)
  ((valid.filter (fun e => h ≤ e.1)) ++ valid.filter (fun e => e.1 < h)).flatMap (fun e => wordBytes e.2)

/-- The 512 lifetime counters and the 1,024 bins (R589). -/
def State.lifeDump (s : State) : List Nat :=
  (List.range 512).flatMap (fun i => pairBytes (tget s.rcd.life i 0)) ++ (List.range 1024).flatMap (fun i => pairBytes (tget s.rcd.hist i 0))

/-- The fire counts of every nozzle address (R589). -/
def State.fireDump (s : State) : List Nat := (List.range 1048576).flatMap (fun a => pairBytes (tget s.rcd.fires a 0))

/-- A dump starts: its buffer is checked and its contents wait for C-unit 0 of D0 (R589). A command while BUSY is ignored. -/
def State.startDump (s : State) (content : List Nat) : State :=
  let i := s.rd F.EVT_DUMP_BUF_BUF
  if s.on F.EVT_DUMP_STAT_BUSY then s
  else
    let st := s.refStatus i (s.rd F.EVT_DUMP_BUF_GEN)
    if st = 3 then s.dumpEnd 2
    else if st != 0 || s.home (s.buf i) != 0 then s.dumpEnd 1
    else
      ((s.hold i).wr F.EVT_DUMP_STAT_BUSY 1).onZip fun z =>
        { z with cwait := z.cwait ++ [(0, ⟨.dump, 0, 0, content, none, [(i, 0)], false⟩)] }

/-- R589: EVT_DUMP_CMD OP 1 dumps the records. -/
def execDumpRecords (s : State) : Host.Outcome State Fault Refusal :=
  .next (s.served 0xB0000 (s.startDump s.recordDump))

/-- R589: EVT_DUMP_CMD OP 2 dumps the lifetime counters and histograms. -/
def execDumpLifetime (s : State) : Host.Outcome State Fault Refusal :=
  .next (s.served 0xB0000 (s.startDump s.lifeDump))

/-- R589: EVT_DUMP_CMD OP 3 dumps the fire counts. -/
def execDumpFireCounts (s : State) : Host.Outcome State Fault Refusal :=
  .next (s.served 0xB0000 (s.startDump s.fireDump))

end Sys2Proof.Machine
end

