-- ==== Sys2Proof/Machine/En.lean ====
section
/-! DEFINITION. The commands and events of the enable convention (R36 to R40). -/

namespace Sys2Proof.Machine

open Sys2Proof

/-- R36 to R38: an EN request reaches a block, written in the package view or applied at the epoch of a commit. -/
def execEnWrite (b : Block) (en : Bool) (s : State) : Host.Outcome State Fault Refusal :=
  guarded (s.blockFitted b) (s.served (blockCtl b) (s.enWrite b en))

/-- R38: the start of a block completes; `found` is what the start has found out (`State.foundFails`). -/
def execStartComplete (b : Block) (found : List Nat) (t : Nat) (s : State) : Host.Outcome State Fault Refusal :=
  guarded (s.blockFitted b) ((s.atTime t).completeStart b found)

/-- R38, R39: the start bound of a block is exceeded; a pacer's runs from its pipeline's ON (R338). -/
def execStartBoundExceeded (b : Block) (t : Nat) (s : State) : Host.Outcome State Fault Refusal :=
  guarded (s.blockFitted b)
    (let s := s.atTime t
     let waits := match b with
       | .lnp p => decide (s.blockState (.ras p) = 1)
       | _ => false
     if s.blockState b = 1 && !waits then s.abandonStart b else s)

/-- R38: the shut-down of a block and its flush complete. -/
def execShutdownComplete (b : Block) (t : Nat) (s : State) : Host.Outcome State Fault Refusal :=
  guarded (s.blockFitted b) ((s.atTime t).completeStop b)

/-- R38, R40: the stop bound of a block is exceeded. -/
def execStopBoundExceeded (b : Block) (t : Nat) (s : State) : Host.Outcome State Fault Refusal :=
  guarded (s.blockFitted b) ((s.atTime t).stopTimeout b)

end Sys2Proof.Machine
end

