-- ==== Sys2Proof/Machine/Ether.lean ====
section
/-! DEFINITION. The Ethernet port and its management service (R33, R198, R199). -/

namespace Sys2Proof.Machine

open Sys2Proof

/-- The port is up: enabled, with its link (R33). -/
def State.ethActive (s : State) : Bool := s.on F.PKG_ETH_CTL_ETH_EN && s.on F.PKG_ETH_STAT_LINK

/-- R33, R499: LINK falls. -/
def execEthLinkDown (t : Nat) (s : State) : Host.Outcome State Fault Refusal :=
  .next
    (let s := s.atTime t
     if !s.on F.PKG_ETH_STAT_LINK then s
     else
       let s := ((s.wr F.PKG_ETH_STAT_LINK 0).wr F.PKG_ETH_STAT_ACTIVE 0).inc F.PKG_ETH_CNT_DOWNS
       let s := if s.on F.PKG_ETH_CTL_ETH_EN then s.event 0 0x1007 [] else s
       if s.rd F.TIME_CTL_SRC = 1 then s.ptpLost else s)

/-- R33: LINK rises. -/
def execEthLinkUp (t : Nat) (s : State) : Host.Outcome State Fault Refusal :=
  .next
    (let s := s.atTime t
     if s.on F.PKG_ETH_STAT_LINK then s
     else ((s.wr F.PKG_ETH_STAT_LINK 1).wr F.PKG_ETH_STAT_ACTIVE (s.rd F.PKG_ETH_CTL_ETH_EN)).event 0 0x1008 [])

/-- A number of bytes in network order. -/
def beNat (bs : List Nat) : Nat := bs.foldl (fun n b => 256 * n + b) 0

/-- Bytes `i` to `i + n - 1`. -/
def slice (bs : List Nat) (i n : Nat) : List Nat := (bs.drop i).take n

/-- The MAC address of the port (R33). -/
def State.ethMac (s : State) : Nat := s.rdPair F.PKG_MAC_LO_MAC F.PKG_MAC_HI_MAC

/-- The IPv4 address of the port. -/
def State.ethIp (s : State) : Nat := s.rdPair F.PKG_ETH_IP_LO_ADDR F.PKG_ETH_IP_HI_ADDR

/-- Type and payload of a frame with the tag that the port asks for: the VLAN tag of VID, or none (R33). -/
def State.ethBody (s : State) (bs : List Nat) : Option (Nat × List Nat) :=
  let ty := beNat (slice bs 12 2)
  if s.on F.PKG_ETH_CTL_VLAN_EN then
    if ty = 0x8100 && beNat (slice bs 14 2) % 4096 = s.rd F.PKG_ETH_CTL_VID then some (beNat (slice bs 16 2), bs.drop 18) else none
  else if ty = 0x8100 then none
  else some (ty, bs.drop 14)

/-- A frame is discarded (R33). -/
def State.ethDrop (s : State) : State := s.inc F.PKG_ETH_CNT_DROPPED

/-! The management service (R199). -/

/-- A register that a READ may name: PKG, STRUCT, BOOT, EVT, the read view of MTR without its keyed port (R538), AUTH except AUTH_ENV, and MON of
the fitted dies. -/
def State.mgmtReadable (s : State) (a : Nat) : Bool :=
  let off := a % 0x10000
  if 0x1000000 ≤ a then false
  else match addrDie a with
    | none => [0, 2, 0xB, 0x10].contains (a / 0x10000) || (a / 0x10000 = 0xA && off < 0x1000 && off != 0xB0) ||
        (a / 0x10000 = 3 && !(0x100 ≤ off && off < 0x200))
    | some d => d < s.dies && addrBlock a = 0xD

/-- A request is counted in its second; none is answered beyond 1,000 (R199). -/
def State.mgmtTake (s : State) : Bool × State :=
  let n := if s.eth.second = s.opsec then s.eth.answered else 0
  if n < 1000 then (true, s.onEth fun e => { e with second := s.opsec, answered := n + 1 })
  else (false, s.inc F.PKG_ETH_CNT_MGMT_RATE)

/-- The first eight bytes of a request. -/
def mgmtHead (op count seq : Nat) : List Nat := [0x4D, 0x52, op, count] ++ leBytes seq 4

/-- Reads words one after the other. -/
def State.readSlots (s : State) (a n : Nat) : List Nat × State :=
  match n with
  | 0 => ([], s)
  | k + 1 =>
    let (v, s) := s.readSlot a
    let (l, s) := s.readSlots (a + 4) k
    (v :: l, s)

/-- A READ of `count` words from a BAR0 offset is answered. -/
def State.mgmtRead (s : State) (head : List Nat) (off count : Nat) : State :=
  if count = 0 || 64 < count || off % 4 != 0 then s.mgmtReply head 2 []
  else if !(List.range count).all (fun i => s.mgmtReadable (off + 4 * i)) then s.mgmtReply head 1 []
  else
    let (l, s) := s.readSlots off count
    s.mgmtReply head 0 l

/-- The slots of an ENVELOPE request are checked and acted on with SOURCE 1, and the AUTH_RESULT words answer it. -/
def State.mgmtEnvelope (s : State) (head : List Nat) (slots : List Nat) : State :=
  if slots.length = 0 || 64 < slots.length then s.mgmtReply head 2 [] else s.submitEnv slots (some head)

/-- A request is answered unless more than 1,000 come in a second. -/
def State.mgmtServe (s : State) (head : List Nat) (f : State → State) : State :=
  let (go, s) := s.mgmtTake
  if go then f s else s.mgmtReply head 3 []

/-- A number of bytes in the order of the request's words, lowest first. -/
def leNat (bs : List Nat) : Nat := beNat bs.reverse

/-- The payload of a datagram to port 47,861; one that is no request gets BAD (R199). -/
def State.mgmtDatagram (s : State) (p : List Nat) : State :=
  let head := (p ++ List.replicate 8 0).take 8
  let n := p.getD 3 0
  s.mgmtServe head fun s =>
    if slice p 0 2 != [0x4D, 0x52] || p.length < 12 then s.mgmtReply head 2 []
    else if p.getD 2 0 = 1 then s.mgmtRead head (leNat (slice p 8 4)) n
    else if p.getD 2 0 = 2 && 12 + 4 * n ≤ p.length then s.mgmtEnvelope head ((List.range n).map (fun i => leNat (slice p (12 + 4 * i) 4)))
    else s.mgmtReply head 2 []

/-- R199: a READ of `count` words from a BAR0 offset. -/
def execMgmtRead (seq off count : Nat) (s : State) : Host.Outcome State Fault Refusal :=
  .next (if s.ethActive then s.mgmtServe (mgmtHead 1 count seq) fun s => s.mgmtRead (mgmtHead 1 count seq) off count else s)

/-- R199: an ENVELOPE request. -/
def execMgmtEnvelope (seq : Nat) (slots : List Nat) (s : State) : Host.Outcome State Fault Refusal :=
  .next (if s.ethActive then s.mgmtServe (mgmtHead 2 slots.length seq) fun s => s.mgmtEnvelope (mgmtHead 2 slots.length seq) slots else s)

/-! Frames (R33, R198). -/

/-- R33, R198: a frame arrives, without its FCS; `good` tells whether the FCS holds. ARP requests and echo requests to the port's address
are answered, a datagram to port 47,861 goes to the management service, and a frame with a bad FCS, over 1,522 bytes, or with a wrong tag or address is discarded and counted. -/
def execEthFrameReceived (good : Bool) (frame : List Byte) (s : State) : Host.Outcome State Fault Refusal :=
  .next (
    let bs := frame.map BitVec.toNat
    let dest := beNat (slice bs 0 6)
    let src := beNat (slice bs 6 6)
    if !s.ethActive then s
    else if !good || 1518 < bs.length || (dest != s.ethMac && dest != 2 ^ 48 - 1) then s.ethDrop
    else match s.ethBody bs with
      | none => s.ethDrop
      | some (ty, p) =>
        if ty = 0x0806 then
          if beNat (slice p 24 4) != s.ethIp then s.ethDrop
          else if beNat (slice p 6 2) = 1 then s.ethReply (.arp src (beNat (slice p 14 4)))
          else s
        else if ty = 0x0800 then
          let hl := 4 * (p.getD 0 0 % 16)
          if beNat (slice p 16 4) != s.ethIp then s.ethDrop
          else if p.getD 9 0 = 1 && p.getD hl 0 = 8 then
            s.ethReply (.echo src (beNat (slice p 12 4)) (slice p (hl + 4) (beNat (slice p 2 2) - hl - 4)))
          else if p.getD 9 0 = 17 && beNat (slice p (hl + 2) 2) = 47861 then s.mgmtDatagram (slice p (hl + 8) (beNat (slice p (hl + 4) 2) - 8))
          else s
        else s)

end Sys2Proof.Machine
end

