-- ==== Sys2Proof/Machine/EyeRows.lean ====
section
/-! DEFINITION. The commands and events of Eyebright (R402 to R427). -/

namespace Sys2Proof.Machine

open Sys2Proof

/-- R404, R405: the decoders of a camera finish its latest frame at SENSE time `t`: ladders give verdicts, strips and WHITE slots
measurements. -/
def execFrameDecode (d t : Nat) (s : State) : Host.Outcome State Fault Refusal :=
  guarded (d < s.dies)
    (let s := s.atTime t
     match (s.cam d).planes with
     | [] => s
     | now :: rest =>
       if now.decoded || now.trig.isNone then s
       else
         let before := rest.head?.filter (fun b => b.trig.isSome)
         let s := s.onCam d fun c => { c with planes := { now with decoded := true } :: rest }
         let s :=
           if !s.hlthOn then s
           else s.eye.printed.foldl (fun s x => match x.use, slotLook now before x.line with
             | .ladder bar, some lk => s.decodeLadder d now before x bar lk
             | _, _ => s) s
         (s.measureFrame d now before).assignSlots)

/-- R407: the oldest verdict in flight arrives at the driving die. -/
def execNozzleVerdict (s : State) : Host.Outcome State Fault Refusal :=
  match s.eye.verdicts with
  | [] => .next s
  | v :: r => .next ((s.onEye fun e => { e with verdicts := r }).onVerdict v)

/-- R409: HLTH_NZ_CMD clears the nozzle at HLTH_NZ_ADDR; an address that refers to none is rejected (R12). -/
def execHlthClearNozzle (s : State) : Host.Outcome State Fault Refusal :=
  let a := s.rd F.HLTH_NZ_ADDR_ADDR
  .next (s.served 0xD0000 (if s.isNozzle a then s.clearNozzles (fun n => n = a) (a / 131072) a (s.nozzleHead a).toList else s))

/-- The nozzles of a head are cleared (R409). -/
def State.clearHead (s : State) (h : Nat) : State :=
  let die := ((s.imageOfHead h).headPacer h).getD 0 / 2
  s.clearNozzles (fun n => decide (s.nozzleHead n = some h)) die 0xFFFFFF [h]

/-- R409: HLTH_NZ_CMD clears the head of HLTH_HEAD_SEL. -/
def execHlthClearHead (s : State) : Host.Outcome State Fault Refusal :=
  .next (s.served 0xD0000 (s.clearHead (s.rd F.HLTH_HEAD_SEL_HEAD)))

/-- Every nozzle is cleared (R409). -/
def State.clearAllNozzles (s : State) : State := s.clearNozzles (fun _ => true) 0 0xFFFFFF s.eye.degraded

/-- R409: HLTH_NZ_CMD clears every nozzle. -/
def execHlthClearAll (s : State) : Host.Outcome State Fault Refusal :=
  .next (s.served 0xD0000 (s.clearAllNozzles))

/-- R409, R426: a read of HLTH_NZ_DATA. -/
def execHlthNzDataRead (s : State) : Host.Outcome State Fault Refusal :=
  let v := s.readHist (s.rd F.HLTH_NZ_ADDR_ADDR)
  .next (s.servedRead 0xD0000 [0] ((s.onHost fun h => { h with readData := [v] }).nextHist))

/-- Runs that CAL_REQ asks for (R414): of bars and cameras of the variant (R11). -/
def State.requestRuns (s : State) (bars cams : Nat) : State :=
  let rs := (List.range (2 * s.dies)).filter (fun b => bit bars b) ++ ((List.range s.dies).filter (fun c => bit cams c)).map (· + 16)
  rs.foldl (fun s r => s.startRun r) s

/-- R414: CAL_REQ with its bars and cameras. -/
def execCalReq (bars cams : Nat) (s : State) : Host.Outcome State Fault Refusal :=
  .next (s.served 0xE0000 (s.requestRuns bars cams))

/-- What a transfer finds of its buffer (R421): 0 OK, 1 OWNER, 2 STALE. -/
def State.xferStatus (s : State) : Nat :=
  let i := s.rd F.CAL_XFER_BUF_BUF
  match s.refStatus i (s.rd F.CAL_XFER_BUF_GEN) with
  | 0 => if s.home (s.buf i) = 0 then 0 else 1
  | 3 => 2
  | _ => 1

/-- The number that stands for CAL in a unit's ring field: no ring has it. -/
def calRing : Nat := 0xFFFF

/-- A transfer begins, when none is running and its buffer can be used (R421). -/
def State.beginXfer (s : State) (f : State → State) : State :=
  if s.on F.CAL_XFER_STAT_BUSY then s.wr F.CAL_XFER_STAT_STATUS 8
  else
    let st := s.xferStatus
    let s := s.wr F.CAL_XFER_STAT_STATUS st
    if st = 0 then f ((s.wr F.CAL_XFER_STAT_BUSY 1).hold (s.rd F.CAL_XFER_BUF_BUF)) else s

/-- An export: the block goes to a compressor of D0 (R421). -/
def State.exportCal (s : State) : State :=
  s.beginXfer fun s =>
    let job : CJob := ⟨.calState, 0, 0, wordBytes s.calBlock, none, [(s.rd F.CAL_XFER_BUF_BUF, 0)], false⟩
    { s.onEye (fun e => { e with xfer := some .sending }) with zip := { s.zip with cwait := s.zip.cwait ++ [(0, job)] } }

/-- R421: CAL_XFER_CMD EXPORT. -/
def execCalExport (s : State) : Host.Outcome State Fault Refusal :=
  .next (s.served 0xE0000 (s.exportCal))

/-- An import, BUSY on a standby (R523): the packet goes to a decompressor unit of D0 as a WORK stream (R421). -/
def State.importCal (s : State) : State :=
  if s.matched then s.wr F.CAL_XFER_STAT_STATUS 8 else s.beginXfer fun s =>
    let i := s.rd F.CAL_XFER_BUF_BUF
    let u : DUnit := ⟨.header, true, 0, calRing, 0, 0, i, 0, (s.buf i).addr, 0, 0, 0, 0, 0, ⟨[], 0, 0⟩, 0, 0⟩
    { s.onEye (fun e => { e with xfer := some .receiving }) with zip := { s.zip with dwait := s.zip.dwait ++ [(0, u)] } }

/-- R421: CAL_XFER_CMD IMPORT. -/
def execCalImport (s : State) : Host.Outcome State Fault Refusal :=
  .next (s.served 0xE0000 (s.importCal))

/-- R423: an import's block has been validated: it is refused, or applied as one commit. -/
def execCalImportValidated (s : State) : Host.Outcome State Fault Refusal :=
  match s.eye.xfer with
  | some (.validating data) =>
    .next (match s.readImport data with
      | .bad st off => s.refuseImport st off
      | .good v => s.applyImport v)
  | _ => .next s

end Sys2Proof.Machine
end

