-- ==== Sys2Proof/Machine/Interrupts.lean ====
section
/-! DEFINITION. The commands and events of chapter 16: engines and interrupts. -/

namespace Sys2Proof.Machine

open Sys2Proof

/-! Engine faults (R470 to R472). -/

/-- The hot spare of a die is free: held by SPARE_EN and not yet in use (R471). -/
def State.spareFree (s : State) (d : Nat) : Bool :=
  s.on (F.ENG_SPARE_SPARE_EN d) && (tget? s.eng.sparedBy d).isNone

/-- E11 takes over the engine `e` (R471). -/
def State.spareEngine (s : State) (d e : Nat) : State :=
  let s := { s with eng := { s.eng with sparedBy := tset s.eng.sparedBy d e } }
  let s := (s.wr (F.ENG_CTL_STATE d e) 0).wr (F.ENG_CTL_STATE d 11) 2
  let s := s.wr (F.ENG_STAT_ROLE d 11) (s.rd (F.ENG_STAT_ROLE d e))
  (((s.runsFromNow d 11).wr (F.ENG_SPARE_SPARED_FOR d) e).event d 0x0F02 [e]).assignPending

/-- SENSE periods in 60 s. -/
def restartWindow : Nat := 12000000000

/-- Without a free spare: the engine is restarted in place, or stays OFF at the fourth fault in 60 s (R472). -/
def State.restartEngine (s : State) (d e : Nat) : State :=
  let past := (tget s.eng.faultTimes (12 * d + e) []).filter (fun t => s.clk < t + restartWindow)
  let s := { s with eng := { s.eng with faultTimes := tset s.eng.faultTimes (12 * d + e) (s.clk :: past) } }
  if 3 ≤ past.length then (s.wr (F.ENG_CTL_STATE d e) 0).event d 0x0F03 []
  else (s.runsFromNow d e).inc (F.ENG_STAT_RESTARTS d e)

/-- An engine that is ON faults: it halts, 0x0F01 is recorded, local source 12 is caused, and it is spared or restarted (R470). -/
def State.engineFault (s : State) (d e cause pc : Nat) : State :=
  if s.rd (F.ENG_CTL_STATE d e) != 2 then s
  else
    let s := ((s.wr (F.ENG_STAT_FAULT d e) 1).wr (F.ENG_STAT_CAUSE d e) cause).wr (F.ENG_PC_PC d e) pc
    let s := ((s.inc (F.ENG_FLT_COUNT d)).life d 13 1).event d 0x0F01 [e, cause, pc]
    let s := s.causeAt d 12
    if e != 11 && s.spareFree d then s.spareEngine d e else s.restartEngine d e

/-- R470: an engine faults for cause 2 to 5 at a program counter. -/
def execEngineFault (d e cause pc t : Nat) (s : State) : Host.Outcome State Fault Refusal :=
  guarded (d < s.dies && e < 12 && 2 ≤ cause && cause ≤ 5) ((s.atTime t).engineFault d e cause pc)

/-- R470: no watchdog kick came within WD_MS; the engine faults with cause 1. The kicks are the firmware's own; no limit can pass before the
engine has run for WD_MS. -/
def execEngineWatchdogExpire (d e pc t : Nat) (s : State) : Host.Outcome State Fault Refusal :=
  guarded (d < s.dies && e < 12)
    (let s := s.atTime t
     if s.clk < tget s.eng.runsFrom (12 * d + e) 0 + usTicks (1000 * s.rd (F.ENG_WD_WD_MS d)) then s else s.engineFault d e 1 pc)

/-! Sources (R473, R474, R477). -/

/-- R474: a cause reaches its source's counter: that of an engine's firmware signal (R473, local 0 to 11), or the oldest cause in
flight. -/
def execIrqCause (sig : Option Nat) (s : State) : Host.Outcome State Fault Refusal :=
  match sig with
  | some g => guarded (g / 256 < s.dies && g % 256 < 12) (s.countCause g)
  | none => match s.irq.causes with
    | [] => .next s
    | g :: r => .next ((s.onIrq fun q => { q with causes := r }).countCause g)

/-- R474: a time for a source that has counted events: TIME microseconds after the first of them it is raised. -/
def execIrqCoalTimeout (g : Timed Nat) (s : State) : Host.Outcome State Fault Refusal :=
  guarded (g.val / 256 < s.dies && sourceDefined (g.val / 256) (g.val % 256))
    (let s := s.atTime g.t
     let g := g.val
     let time := s.rd (F.IRQ_COAL_TIME (g / 256) (g % 256))
     if tget s.irq.counted g 0 = 0 || time = 0 || s.clk < tget s.irq.firstAt g 0 + usTicks time then s else s.raiseSource g)

/-- A raise arrives: the source becomes pending, is assigned and delivered; a raise of a pending source merges (R474, R476,
R479, R482). -/
def State.raiseArrives (s : State) (g : Nat) : State :=
  if s.irq.pending.contains g then s
  else
    let s := (s.onIrq fun q => { q with pending := q.pending ++ [g] }).assignTarget g
    match tget? s.irq.assigned g with
    | some t => if t < 16 then s.deliver t else s
    | none => s

/-- R477: the oldest raise in flight from a die arrives. -/
def execIrqRaiseArrival (d : Nat) (s : State) : Host.Outcome State Fault Refusal :=
  guarded (d < s.dies)
    (match takeFirst (fun g => g / 256 = d) s.irq.raises with
     | none => s
     | some (g, r) => (s.onIrq fun q => { q with raises := r }).raiseArrives g)

/-- R473: a write to IRQ_SET raises software source 96 to 127; other values are ignored. -/
def execIrqSet (d src : Nat) (s : State) : Host.Outcome State Fault Refusal :=
  guarded (d < s.dies)
    (s.served (dieAt d 0x90000) (if 96 ≤ src && src ≤ 127 then s.causeAt d src else s))

/-! Host targets (R478 to R485). -/

/-- The message of a target is no longer outstanding (R479). -/
def State.msgSeen (s : State) (t : Nat) : State :=
  s.onIrq fun q => { q with outstanding := q.outstanding.filter (· != t) }

/-- A claim read latches the time base of D0 (R480). -/
def State.latchClaimTime (s : State) (t : Nat) : State :=
  let v := s.time 0
  ((s.wr (F.IRQH_CTIME_TIME t 0) v).wr (F.IRQH_CTIME_TIME t 1) (v / 2 ^ 24)).wr (F.IRQH_CTIME_TIME t 2) (v / 2 ^ 48)

/-- The source becomes active and leaves the pending ones; it stands on top of the stack (R480). -/
def State.pushClaim (s : State) (t g : Nat) : State :=
  let p := s.prio g
  (s.onIrq fun q =>
    { q with pending := q.pending.filter (· != g), assigned := tdel q.assigned g,
             claims := tset q.claims t (⟨g, p⟩ :: tget q.claims t []) }).endEpisode 0x0F05 g

/-- What a read of the host returns. -/
def State.answerRead (s : State) (ws : List Nat) : State := s.onHost fun h => { h with readData := ws, poisoned := false }

/-- R480: a read of IRQH_CLAIM takes the eligible source of highest priority. -/
def execIrqhClaim (t : Nat) (s : State) : Host.Outcome State Fault Refusal :=
  guarded (t < 16)
    (s.servedRead 0x70000 [0] (let s := (s.msgSeen t).latchClaimTime t
     match s.bestEligible t with
     | none => s.answerRead [0]
     | some g => ((s.pushClaim t g).answerRead [2 ^ 23 + 2 ^ 12 * s.prio g + g]).deliver t))

/-- R483: a completion of a source that is active on the target takes it off the stack; any other is counted and reported. A source that
was raised while it was active may now be eligible at any target (R482). -/
def execIrqhDone (t src : Nat) (s : State) : Host.Outcome State Fault Refusal :=
  guarded (t < 16)
    (s.served 0x70000 (let s := s.msgSeen t
     if (s.stackOf t).any (fun c => c.src = src) then
       (s.onIrq fun q => { q with claims := tset q.claims t ((tget q.claims t []).filter (fun c => c.src != src)) }).deliverAll
     else ((s.inc F.IRQH_ERR_IGNORED).windowed 0 0x0F04 0 [t, src] true).deliver t))

/-- R481: IRQH_MASK_SET masks one source; a number that names none has no bit. -/
def execIrqhMaskSet (src : Nat) (s : State) : Host.Outcome State Fault Refusal :=
  .next (s.served 0x70000 (if src / 256 < s.dies && src % 256 < 192 then
    let f := F.IRQH_MASK_MASK (irqhWord src)
    s.wr f (setBit (s.rd f) (src % 256 % 24)) else s))

/-- R481: IRQH_MASK_CLR unmasks one source, which may then be delivered. -/
def execIrqhMaskClr (src : Nat) (s : State) : Host.Outcome State Fault Refusal :=
  .next (s.served 0x70000 (if src / 256 < s.dies && src % 256 < 192 then
    let f := F.IRQH_MASK_MASK (irqhWord src)
    (s.wr f (clearBit (s.rd f) (src % 256 % 24))).deliverAll else s))

/-- R485: FLUSH empties a target's stack; its sources become inactive without completion. -/
def execIrqhFlush (t : Nat) (s : State) : Host.Outcome State Fault Refusal :=
  guarded (t < 16)
    (s.served 0x70000 ((s.onIrq fun q => { q with claims := tset q.claims t [] }).deliverAll))

/-- R476: ACCEPT enables or disables a host target; pending sources without a target may then be assigned. -/
def execIrqhAccept (t : Nat) (accept : Bool) (s : State) : Host.Outcome State Fault Refusal :=
  guarded (t < 16)
    (s.served 0x70000 (let s := s.wr (F.IRQH_TCTL_ACCEPT t) (nat accept); if accept then s.assignPending else s))

/-- Sends the pending messages that may now be sent (R479). -/
def State.msixRelease (s : State) : State :=
  s.host.msixPending.foldr (fun v s =>
    if s.host.msixHeld v then s
    else (s.onHost fun h => { h with msixPending := h.msixPending.filter (· != v) }).sendMsix v) s

/-- The pending bit array's word `w`: vectors 0-15 in the low word (R152). -/
def HostPort.pbaWord (h : HostPort) (w : Nat) : Nat :=
  if w = 0 then ((List.range 16).filter h.msixPending.contains).foldl (fun n v => n + 2 ^ v) 0 else 0

/-- A 4-byte read of BAR4: the table at 0x0000, the pending bits at 0x1000 (R152). -/
def HostPort.bar4Word (h : HostPort) (offset : Nat) : Nat :=
  if offset < 0x100 then h.msixWord (offset / 4) else if 0x1000 ≤ offset then h.pbaWord ((offset - 0x1000) / 4) else 0

/-- A PCIe request with no row of its own in the table (R151, R152, R154, R156), at an offset of its BAR. -/
def State.pcieRequest (offset : Nat) (q : PcieRequest) (s : State) : State :=
  match q with
  | .bar4Read => s.onHost fun h => { h with readData := [h.bar4Word offset], poisoned := false, unsupported := false }
  | .bar4Write value =>
    if offset < 0x100 then
      (s.onHost fun h => { h with msixTable := tset h.msixTable (offset / 4) (if offset / 4 % 4 = 3 then value % 2 else value), unsupported := false }).msixRelease
    else s.onHost fun h => { h with unsupported := false }
  | .msixControl enable mask =>
    (s.onHost fun h => { h with pcie := { h.pcie with msixEnable := enable, funcMask := mask }, unsupported := false }).msixRelease
  | .device payload gen check => s.onHost fun h =>
    { h with pcie := { h.pcie with maxPayload := payload, ecrcGen := gen, ecrcCheck := check }, unsupported := false }
  | .power true => s.onHost fun h => { h.pcieReset true with unsupported := false }
  | .power false => (s.onHost fun h => { h with pcie := { h.pcie with d3hot := false }, unsupported := false }).msixRelease
  | .atomicOp _ => s.onHost fun h => { h with unsupported := true }

/-- R479: a write to a vector's mask bit (in the vector control word of its BAR4 entry), or of the function mask; the row stands for
every request to the MSI-X table and the configuration space, and for the AtomicOp that is answered Unsupported Request (R156, log 137). -/
def execMsixMaskWrite (offset : Nat) (q : PcieRequest) (s : State) : Host.Outcome State Fault Refusal :=
  guarded (q.formed offset) (s.pcieRequest offset q)

end Sys2Proof.Machine
end

