-- ==== Sys2Proof/Machine/Led.lean ====
section
/-! DEFINITION. Events and commands of the LED chains (R592 to R603, R614). -/

namespace Sys2Proof.Machine

open Sys2Proof

/-- R596, R603, R640: a chain sends a frame: one with every level 0 as it stops or is fenced; else for a change of what it sends, 100 ms after
the last one, again after a cut, or back to back in UV. -/
def execLedFrameSend (c t : Nat) (s : State) : Host.Outcome State Fault Refusal :=
  guarded (c < 2 * s.dies)
    (let s := s.atTime t
     let x := s.chain c
     let due := x.again || s.ledMode c = 1 || s.ledFrame c false != x.sent || decide (x.sentAt + usTicks 100000 ≤ s.clk)
     if !s.ledFree c then s
     else if x.dark then s.ledSend c true
     else if !s.ledOn c || s.ledFenced c || !due || !s.ledFits c then s
     else s.ledSend c false)

/-- R595, R598, R601: the return frame arrives with its 24-bit status words, device 0 first. -/
def execLedReturnFrame (c : Nat) (words : List Word) (t : Nat) (s : State) : Host.Outcome State Fault Refusal :=
  guarded (c < 2 * s.dies)
    (let s := s.atTime t
     if (s.chain c).out.isNone then s
     else
       let n := s.ledDevs c
       let s := s.setChain c { s.chain c with out := none, freeAt := s.clk + usTicks 55 }
       let s := s.wr (F.LED_STAT_SEEN (c / 2) (c % 2)) words.length
       let s := ((words.take n).zipIdx).foldl (fun s (w, dev) =>
         let v := w.toNat
         if crc8 [bits v 0 8, bits v 8 8] = bits v 16 8 then s.ledStatus c dev (bits v 0 16) else s.inc (F.LED_CNT_RERR (c / 2) (c % 2))) s
       if words.length < n then s.ledBreak c else s.endEpisode 0x1402 c)

/-- R601: no return frame within 100 microseconds after the last bit. -/
def execLedReturnTimeout (c t : Nat) (s : State) : Host.Outcome State Fault Refusal :=
  guarded (c < 2 * s.dies)
    (let s := s.atTime t
     match (s.chain c).out with
     | none => s
     | some a =>
       if s.clk < a + usTicks 100 then s
       else ((s.setChain c { s.chain c with out := none, freeAt := s.clk + usTicks 55 }).wr (F.LED_STAT_SEEN (c / 2) (c % 2)) 0).ledBreak c)

/-- R601: a device has had no valid status for 1 s. -/
def execLedStatusStale (c dev t : Nat) (s : State) : Host.Outcome State Fault Refusal :=
  guarded (c < 2 * s.dies)
    (let s := s.atTime t
     let x := s.chain c
     let since := max x.since (((tget? x.status dev).map Prod.snd).getD 0)
     if !s.ledOn c || s.ledDevs c ≤ dev || x.stale.contains dev || s.clk < since + 200000000 then s
     else s.setChain c { x with stale := x.stale ++ [dev] })

/-- R599: the scale of a UV chain follows the line rate of its die's WEB. -/
def execLedUvUpdate (c t : Nat) (s : State) : Host.Outcome State Fault Refusal :=
  guarded (c < 2 * s.dies)
    (let s := s.atTime t
     let d := c / 2
     if !s.ledOn c || s.ledMode c != 1 || s.clk < (s.chain c).scaledAt + usTicks 1000 then s
     else
       let speed := ((s.input (5 * d + 4)).speed s.clk (s.stillTo (5 * d + 4))).natAbs
       let scale := if s.pitch = 0 then 0
         else min 4095 (speed * 2 ^ 24 * 1024 / (256 * s.pitch * s.rd (F.LED_UV_REF_RATE d (c % 2))))
       s.setChain c { s.chain c with scale := scale, scaledAt := s.clk })

/-- The present SENSE time is the given one within a clock: the 5 ns of R600. -/
def State.isNow (s : State) (n : Nat) : Bool := n ≤ s.clk + 1 && s.clk ≤ n + 1

/-- R600: the gate of a FOLLOW chain rises, 1.0 microsecond before the light for a trigger's flash. -/
def execLedGateRise (c t : Nat) (s : State) : Host.Outcome State Fault Refusal :=
  guarded (c < 2 * s.dies)
    (let s := s.atTime t
     let x := s.chain c
     if x.gate || !x.gateAt.any (fun g => s.isNow g.1) then s else s.setChain c { x with gate := true })

/-- R600: the gate falls after FLASH_W; the next frame may begin 55 microseconds later. -/
def execLedGateFall (c t : Nat) (s : State) : Host.Outcome State Fault Refusal :=
  guarded (c < 2 * s.dies)
    (let s := s.atTime t
     let x := s.chain c
     if !x.gate || !x.gateAt.any (fun g => s.isNow g.2) then s
     else s.setChain c { x with gate := false, gateAt := none, freeAt := max x.freeAt (s.clk + usTicks 55) })

/-- R614: an access to LED_DATA of a die, a write of `data` or a read. -/
def execLedDataAccess (d : Nat) (data : Option Word) (s : State) : Host.Outcome State Fault Refusal :=
  guarded (d < s.dies)
    (match data with
     | some w => s.served (dieAt d 0xA0000) (s.writeLed d w.toNat)
     | none =>
       s.servedRead (dieAt d 0xA0000) [0]
         (let v := s.readLed d
          (s.onHost fun h => { h with readData := [v] }).nextLed d))

end Sys2Proof.Machine
end

