-- ==== Sys2Proof/Machine/Link.lean ====
section
/-! DEFINITION. Events of the head link and of the head adapters (R352 to R366). Groups are numbered 8 x die + local group. -/

namespace Sys2Proof.Machine

open Sys2Proof

/-- The group's LAN block is starting or ON (R355, R365). -/
def State.lanOn (s : State) (g : Nat) : Bool :=
  let st := s.rd (F.LAN_GCTL_STATE (g / 8) (g % 8))
  st = 1 || st = 2 || (!s.loaded && 2 ≤ s.rd (F.DIE_STAT_STAGE (g / 8)))

/-- An identity READ is sent. -/
def State.readIdent (s : State) (g : Nat) : State := s.setGroup g { s.group g with reading := true, tries := 1, askedAt := s.clk }

/-- So many microseconds have passed since a SENSE time. -/
def State.waited (s : State) (since us : Nat) : Bool := decide (since + usTicks us ≤ s.clk)

/-- R355: on a start, or when the retry timer of 1 ms expires, K goes on at the rate set: OFF to CLOCK. -/
def execLinkRetryTimer (g t : Nat) (s : State) : Host.Outcome State Fault Refusal :=
  guarded (g < 8 * s.dies)
    (let s := s.atTime t
     if s.link g != 0 || !s.lanOn g || !s.waited (s.group g).retryAt 0 then s
     else ((s.setLink g 1).wr (F.LAN_GSTAT_RATE (g / 8) (g % 8)) (s.eqRate g)).wr (F.LAN_GSTAT_RATE_PEND (g / 8) (g % 8)) 0)

/-- R355: 20 microseconds in CLOCK: TRAIN on all nine lanes. -/
def execClockSettled (g t : Nat) (s : State) : Host.Outcome State Fault Refusal :=
  guarded (g < 8 * s.dies) (let s := s.atTime t; if s.link g = 1 && s.waited (s.group g).since 20 then s.setLink g 2 else s)

/-- R355: a TRAINED packet with the lanes it has aligned: lanes not in service that it leaves out are recorded, and IDENT follows once
every lane in service is aligned. -/
def execTrainedReceived (g aligned rate t : Nat) (s : State) : Host.Outcome State Fault Refusal :=
  guarded (g < 8 * s.dies && aligned < 512 && rate < 3)
    (let s := s.atTime t
     let d := g / 8
     let i := g % 8
     if s.link g != 2 then s
     else
       let need := s.serviceMask g
       let s := s.wr (F.LAN_GSTAT_ALIGNED d i) aligned
       let out := forUpTo 9 (fun n m => if bit aligned n || bit need n then m else setBit m n) 0
       let s := if out = 0 then s else s.lanEvent g 0x0908 [i, out]
       if (List.range 9).all (fun n => !bit need n || bit aligned n) then (s.setLink g 3).readIdent g else s)

/-- R355: 500 microseconds in TRAIN without every lane in service. -/
def execTrainTimeout (g t : Nat) (s : State) : Host.Outcome State Fault Refusal :=
  guarded (g < 8 * s.dies) (let s := s.atTime t; if s.link g = 2 && s.waited (s.group g).since 500 then s.retryLink g else s)

/-- The words of host read data (R366): three bytes each. -/
def State.storeMrd (s : State) (d : Nat) (b : List Nat) : State :=
  (List.range (ceilDiv b.length 3)).foldl (fun s w => s.wr (F.LAN_MRD_DATA_BYTES d w) (ofBytes ((b.drop (3 * w)).take 3))) s

/-- R353 to R355, R366: a MEMDATA packet answers the identity read, which goes first, or the host's read. -/
def execMemdataReceived (g addr : Nat) (data : List Byte) (t : Nat) (s : State) : Host.Outcome State Fault Refusal :=
  guarded (g < 8 * s.dies)
    (let s := s.atTime t
     let d := g / 8
     let i := g % 8
     let b := data.map BitVec.toNat
     let x := s.group g
     if x.reading then
       if addr != 0 || b.length != 32 then s
       else
         let f := s.identFault g b
         if f = 0 then s.identified g b
         else
           let first := s.link g = 3
           let s := s.setGroup g { x with reading := false }
           if first then (s.setLink g 4).lanEvent g 0x0904 [i, f] else s
     else match tget? s.press.reads d with
       | none => s
       | some r =>
         if r.group != i || r.addr != addr || r.count != b.length then s
         else (((s.storeMrd d b).wr (F.LAN_MRD_STAT_BUSY d) 0).wr (F.LAN_MRD_STAT_RESULT d) 0).onPress
           fun q => { q with reads := tdel q.reads d })

/-- R355: 200 microseconds without MEMDATA: the identity is read again, and after three times the link is UP without it. -/
def execIdentTimeout (g t : Nat) (s : State) : Host.Outcome State Fault Refusal :=
  guarded (g < 8 * s.dies)
    (let s := s.atTime t
     let x := s.group g
     if !x.reading || !s.waited x.askedAt 200 then s
     else if x.tries < 3 then s.setGroup g { x with tries := x.tries + 1, askedAt := s.clk }
     else
       let first := s.link g = 3
       let s := s.setGroup g { x with reading := false }
       if first then (s.setLink g 4).lanEvent g 0x0904 [g % 8, 1] else s)

/-- R355: every 100 ms a group that is UP without identity reads it again. -/
def execIdentReread (g t : Nat) (s : State) : Host.Outcome State Fault Refusal :=
  guarded (g < 8 * s.dies)
    (let s := s.atTime t
     let x := s.group g
     if s.link g = 4 && !s.on (F.LAN_GSTAT_IDV (g / 8) (g % 8)) && !x.reading && s.waited x.askedAt 100000 then s.readIdent g else s)

/-- A temperature as 12 signed bits, saturating. -/
def temp12 (t : Int) : Nat := unsigned 12 (max (-2048) (min 2047 t))

/-- The frame errors that a STATUS adds (R362). -/
def State.frameErrors (s : State) (g : Nat) (lcrc : List Nat) : State :=
  let d := g / 8
  let i := g % 8
  let old := (s.group g).lcrc
  let s := (List.range 9).foldl (fun s p =>
    let n := (lcrc.getD p 0 + 256 - old.getD p 0) % 256
    if n = 0 then s
    else
      let lane := if p < 8 then 8 * i + p else 64 + i
      let s := (s.incBy (F.LAN_LERR_COUNT d lane) n).life d 10 n
      let x := s.group g
      let errs := (x.errs.filter (fun e => s.clk < e.1 + usTicks 10000000)) ++ [(s.clk, p, n)]
      let sum := (errs.filter (fun e => e.2.1 = p && s.clk < e.1 + usTicks 1000000)).foldl (fun a e => a + e.2.2) 0
      let s := s.setGroup g { x with errs := errs }
      if sum < s.rd (F.LAN_ERR_LIM_LIM d) || s.inEpisode 0x0903 (72 * d + lane) then s
      else (s.eventOnce d 0x0903 (72 * d + lane) [lane, sum]).causeAt d 31) s
  s.setGroup g { s.group g with lcrc := lcrc }

/-- A STATUS that reports another epoch than the one sent, for 1 ms (R360). -/
def State.followCheck (s : State) (g epoch : Nat) : State :=
  let d := g / 8
  let x := s.group g
  if !s.on (F.LAN_ACT_FLAGS_HOLD d) || epoch = s.rd (F.LAN_ACT_EPOCH_EPOCH d) then s.setGroup g { x with mismatch := none }
  else match x.mismatch with
    | none => s.setGroup g { x with mismatch := some (s.clk, false) }
    | some (since, told) =>
      if told || s.clk < since + usTicks 1000 then s
      else (s.setGroup g { x with mismatch := some (since, true) }).lanEvent g 0x0907 [g % 8, epoch]

/-- R353, R355, R362, R363: a STATUS packet: STATE, flags, temperatures, epoch followed and LCRC by physical lane. -/
def execStatusReceived (g st flags : Nat) (headT adaptT : Int) (epoch : Nat) (lcrc : List Nat) (t : Nat) (s : State) :
    Host.Outcome State Fault Refusal :=
  guarded (g < 8 * s.dies && st < 3 && flags < 64 && lcrc.length = 9)
    (let s := s.atTime t
     let d := g / 8
     let i := g % 8
     let s := ((s.wr (F.LAN_TEMP_HEAD d i) (temp12 headT)).wr (F.LAN_TEMP_ADAPT d i) (temp12 adaptT)).wr (F.LAN_FLW_EPOCH d i) epoch
     let s := (s.wr (F.LAN_GSTAT_FLAGS d i) flags).frameErrors g lcrc
     let s := s.setGroup g { s.group g with heard := s.clk }
     let s := if s.link g = 4 then s.followCheck g epoch else s
     let s := (s.onPair fun p => { p with seen := max p.seen epoch }).noteFollow
     let s := s.tempMoved g
     let s := if st = 2 then s.lanEvent g 0x0906 [i, flags] else s
     if st != 1 && s.link g = 4 then s.linkDown g (if st = 2 then 4 else 3) else s)

/-- R355: no valid STATUS for 1 ms. -/
def execStatusTimeout (g t : Nat) (s : State) : Host.Outcome State Fault Refusal :=
  guarded (g < 8 * s.dies) (let s := s.atTime t; if s.link g = 4 && s.waited (s.group g).heard 1000 then s.linkDown g 1 else s)

/-- R355: `n` code violations on U within 1,000 characters: they are counted, and from eight on the link goes down. -/
def execReturnCodeViolations (g : Nat) (n : Timed Nat) (s : State) : Host.Outcome State Fault Refusal :=
  guarded (g < 8 * s.dies)
    (let s := (s.atTime n.t).incBy (F.LAN_RERR_CODE (g / 8) (g % 8)) n.val
     if s.link g = 4 && 8 ≤ n.val then s.linkDown g 2 else s)

/-- R353: a return packet with a code violation or a wrong CRC is discarded and counted. -/
def execReturnPacketBad (g : Nat) (s : State) : Host.Outcome State Fault Refusal :=
  guarded (g < 8 * s.dies) (s.inc (F.LAN_RERR_PKT (g / 8) (g % 8)))

/-- A set may start on a group's lanes (R350, R352): no frame is in progress, and either the last one has just ended or none has started for
1 microsecond, which is 400 FIRE clocks. A SENSE period is two of them. -/
def State.lanesFree (s : State) (g : Nat) : Bool :=
  (s.group g).frame.all (fun (start, stop) => decide (stop ≤ 2 * s.clk + 1) && (decide (2 * s.clk ≤ stop + 4) || decide (start + 400 ≤ 2 * s.clk)))

/-- R352: an ACTIVE set goes out on a group's data lanes, with the epoch and the flags of the LAN block. -/
def execActiveSend (g t : Nat) (s : State) : Host.Outcome State Fault Refusal :=
  guarded (g < 8 * s.dies)
    (let s := s.atTime t
     if s.link g != 4 || !s.lanesFree g then s
     else s.setGroup g { s.group g with active := some (s.clk, (s.activeOf g).1, (s.activeOf g).2) })

/-- A host read of adapter memory starts (R366). -/
def State.startMrd (s : State) (d count : Nat) : State :=
  let s := s.wr (F.LAN_MRD_CTL_COUNT d) count
  let i := s.rd (F.LAN_MRD_ADDR_GROUP d)
  if s.on (F.LAN_MRD_STAT_BUSY d) then s
  else if s.link (8 * d + i) != 4 then s.wr (F.LAN_MRD_STAT_RESULT d) 2
  else (s.wr (F.LAN_MRD_STAT_BUSY d) 1).onPress fun q =>
    { q with reads := tset q.reads d ⟨i, s.rd (F.LAN_MRD_ADDR_ADDR d), count, 1, s.clk⟩ }

/-- R366: a write of GO to LAN_MRD_CTL of die `d` with COUNT; a COUNT outside 1-64 counts as 64. -/
def execMemRead (d count : Nat) (s : State) : Host.Outcome State Fault Refusal :=
  guarded (d < s.dies)
    (s.served (dieAt d 0x40000) (s.startMrd d (if 1 ≤ count && count ≤ 64 then count else 64)))

/-- R366: 200 microseconds without a reply to a host read: it is tried again, and after three tries it times out. -/
def execMemReadRetry (d t : Nat) (s : State) : Host.Outcome State Fault Refusal :=
  guarded (d < s.dies)
    (let s := s.atTime t
     match tget? s.press.reads d with
     | none => s
     | some r =>
       if !s.waited r.sentAt 200 then s
       else if r.tries < 3 then s.onPress fun q => { q with reads := tset q.reads d { r with tries := r.tries + 1, sentAt := s.clk } }
       else
         let s := ((s.wr (F.LAN_MRD_STAT_BUSY d) 0).wr (F.LAN_MRD_STAT_RESULT d) 1).lanEvent (8 * d) 0x0905 [r.group, r.addr]
         s.onPress fun q => { q with reads := tdel q.reads d })

/-! Adapters. -/

/-- The input is the one followed or the one a change waits for. -/
def Adapter.hears (a : Adapter) (inB : Bool) : Bool := a.follow = some inB || a.change = some inB

/-- R359: the characters of a LINE frame arrive at an adapter on a physical lane of an input, with or without a code violation. -/
def execAdapterLineFrame (g : Nat) (inB : Bool) (phys : Nat) (violation : Bool) (chars : List Nat) (s : State) :
    Host.Outcome State Fault Refusal :=
  guarded (g < 8 * s.dies && phys < 9)
    (let a := s.adapter g
     if a.st != .up then s
     else match (if violation then none else readLine chars) with
       | none =>
         s.setAdapter g (a.onInput inB fun x => { x with lcrc := x.lcrc.zipIdx.map (fun (n, i) => if i = phys then (n + 1) % 256 else n) })
       | some frame =>
         if !a.hears inB then s
         else s.setAdapter g { a with
           held := a.held.filter (fun h => !(h.1 = inB && h.2.2.lane = frame.lane)) ++ [(inB, phys, frame)] })

/-- R359: a NOFIRE frame on a physical lane discards the frames held from it; one with a wrong CRC-8 is none. -/
def execAdapterNofireFrame (g : Nat) (inB : Bool) (x : LaneSet) (s : State) : Host.Outcome State Fault Refusal :=
  guarded (g < 8 * s.dies && x.phys < 9)
    (let a := s.adapter g
     if a.st != .up || (setData k283 3 x.chars).isNone then s
     else s.setAdapter g { a with held := a.held.filter (fun h => !(h.1 = inB && h.2.1 = x.phys)) })

/-- R359, R360: a leading edge of S: a change of input takes effect, and the frames held with the highest LINE fire. -/
def execAdapterStrobe (g : Nat) (inB : Bool) (s : State) : Host.Outcome State Fault Refusal :=
  guarded (g < 8 * s.dies)
    (let a := s.adapter g
     if a.st != .up then s
     else
       let a := if a.change = some inB then
           { a with follow := some inB, change := none, held := a.held.filter (fun h => h.1 = inB) } else a
       if a.follow != some inB then s.setAdapter g a
       else
         let hs := (a.held.filter (fun h => h.1 = inB)).map (·.2.2)
         let top := hs.foldl (fun m f => max m f.line) 0
         let fire := hs.filter (fun f => f.line = top)
         s.setAdapter g { a with fired := fire, held := [], lastLine := if fire.isEmpty then a.lastLine else top })

/-- R360: an ACTIVE set arrives on an input, as its first character and the others; one that is not valid changes nothing. -/
def execAdapterActive (g : Nat) (inB : Bool) (first : Nat) (chars : List Nat) (t : Nat) (s : State) : Host.Outcome State Fault Refusal :=
  guarded (g < 8 * s.dies)
    (let s := s.atTime t
     match readActive (first :: chars) with
     | none => s
     | some (hold, epoch) =>
       let a := (s.adapter g).onInput inB fun x => if hold then { x with epoch := epoch, heard := some s.clk } else { x with heard := none }
       s.setAdapter g a.choose)

/-- R360: the last ACTIVE with HOLD 1 on an input is older than 250 microseconds. -/
def execAdapterInputLapse (g : Nat) (inB : Bool) (t : Nat) (s : State) : Host.Outcome State Fault Refusal :=
  guarded (g < 8 * s.dies)
    (let s := s.atTime t
     let a := s.adapter g
     let x := if inB then a.inB else a.inA
     if x.heard.any (fun u => u + usTicks 250 ≤ s.clk) then
       s.setAdapter g (a.onInput inB fun x => { x with heard := none }).choose
     else s)

/-- R353, R358: an adapter that is UP answers a READ with the bytes of its memory; what it does not implement reads 0. -/
def execAdapterRead (g first : Nat) (chars : List Nat) (s : State) : Host.Outcome State Fault Refusal :=
  guarded (g < 8 * s.dies)
    (let a := s.adapter g
     match (if a.st = .up then readCommand (first :: chars) else none) with
     | none => s
     | some (addr, count) => s.setAdapter g { a with answered := (List.range count).map (fun k => tget a.mem ((addr + k) % 65536) 0) })

/-- R358: an adapter in TRAINING aligns lanes, sends TRAINED and enters UP. -/
def execAdapterTrain (g aligned : Nat) (s : State) : Host.Outcome State Fault Refusal :=
  guarded (g < 8 * s.dies && aligned < 512)
    (let a := s.adapter g
     if a.st != .training then s else s.setAdapter g { a with st := .up, aligned := aligned })

/-- R358: a fault, or the head's removal, puts an adapter in FAULT; `flags` are bits 0 to 3 of STATUS character 1. -/
def execAdapterFaultEntry (g flags : Nat) (s : State) : Host.Outcome State Fault Refusal :=
  guarded (g < 8 * s.dies && flags < 16) (s.setAdapter g { s.adapter g with st := .fault, flags := flags, held := [] })

/-- R358: every fault has cleared: FAULT to TRAINING. -/
def execAdapterFaultCleared (g : Nat) (s : State) : Host.Outcome State Fault Refusal :=
  guarded (g < 8 * s.dies)
    (let a := s.adapter g
     if a.st = .fault then s.setAdapter g { a with st := .training, flags := 1 } else s)

/-- R358: K absent for 1 microsecond, or comma alignment lost on a lane in service. -/
def execAdapterKAbsent (g : Nat) (s : State) : Host.Outcome State Fault Refusal :=
  guarded (g < 8 * s.dies)
    (let a := s.adapter g
     if a.st = .fault then s else s.setAdapter g { a with st := .training, held := [] })

end Sys2Proof.Machine
end

