-- ==== Sys2Proof/Machine/Meter.lean ====
section
/-! DEFINITION. Commands and events of the Camdel meter (chapter 19). -/

namespace Sys2Proof.Machine

open Sys2Proof

/-! Power (R562 to R564). -/

/-- R562: VDD_MTR rises: the meter is in BOOT and reads its flash. -/
def execMeterPowerUp (t : Nat) (s : State) : Host.Outcome State Fault Refusal :=
  .next
    (let s := s.atTime t
     if s.meter.powered then s
     else s.onMeter fun m => { m with powered := true, st := 0 })

/-- R562, R563: the self-test and the reads end: counting starts, or the meter is in FAULT. `bad` names the copies in meter flash that fail
their checks, 0 and 1 copies A and B of the parameters and 2 and 3 those of the counter mark; `totals` those of the totals, by how many copies
before the newest they were written.
`patch` tells whether the stored patch passes its check. -/
def execMeterBootDone (selfTest : Bool) (bad totals : List Nat) (patch : Bool) (t : Nat) (s : State) : Host.Outcome State Fault Refusal :=
  .next
    (let s := s.atTime t
     if !s.meter.powered || s.meter.st != 0 then s
     else if !selfTest then s.onMeter fun m => { m with st := 2 }
     else
       let (nonce, s) := s.draw 32
       let old := s.meter
       let x (n : Nat) : Bool := bad.contains n
       let params := old.savedParams.fail (x 0) (x 1)
       let marks := old.marks.fail (x 2) (x 3)
       let saved := (old.saved.zipIdx.filter (fun e => !totals.contains e.2)).map Prod.fst
       let par := params.newer.map Copy.val
       let tot := saved.head?.map Copy.val
       let hwm := marks.newer.map Copy.val
       let ops := (tot.map MtrSaved.ops).getD 0
       let ok := patch && old.patch.isSome
       let s := s.onMeter fun m => { Meter.reset with
         powered := true, st := 1, runAt := s.clk, ops := ops, hours := ops / 3600, totalsAt := s.clk, a := m.a, b := m.b
         changedAt := m.changedAt, params := par.getD .default, totals := (tot.map MtrSaved.totals).getD .zero, savedParams := params
         marks := marks, saved := saved, totalsLost := m.totalsLost || tot.isNone, sealed := m.sealed, sealCount := m.sealCount, trail := m.trail, snaps := m.snaps, snapSeq := m.snapSeq
         patch := m.patch, running := if ok then m.patch else none, patchBad := m.patch.isSome && !patch
         hwm := hwm, cnt := hwm.getD 0, nonce := nonce, env := m.env, res := m.res, wire := m.wire, seqs := m.seqs
         sentAt := m.sentAt, timeAt := m.timeAt, iseq := m.iseq, reportAt := s.clk }
       let s := s.mtrEvent 0x1208 [Config.meterRom.toNat, s.meter.patchId, s.mtrStat]
       let s := if par.isNone then s.mtrEvent 0x120C [] else s
       if old.saved.isEmpty || tot.any MtrSaved.brown then s else s.mtrEvent 0x1209 [old.ops - ops])

/-- R563: VDD_MTR falls below 95 %; `written` tells whether it stays above 90 % long enough for the totals to be written. -/
def execMeterSupplyFall (written : Bool) (t : Nat) (s : State) : Host.Outcome State Fault Refusal :=
  .next
    (let s := s.atTime t
     if !s.meter.powered then s
     else
       let ops := s.mtrOps
       let s := if s.meter.runs && written then s.saveTotals true else s
       s.onMeter fun m => { m with powered := false, st := 0, ops := ops })

/-- R563: the totals are written every 10 s. -/
def execMeterTotalsWrite (t : Nat) (s : State) : Host.Outcome State Fault Refusal :=
  .next
    (let s := s.atTime t
     if !s.meter.runs || s.clk < s.meter.totalsAt + 2000000000 then s else s.saveTotals false)

/-- R564: an hour of operating time ends: a snapshot is taken. -/
def execMeterHourlySnapshot (t : Nat) (s : State) : Host.Outcome State Fault Refusal :=
  .next
    (let s := s.atTime t
     let n := s.mtrOps / 3600
     if !s.meter.runs || n ≤ s.meter.hours then s else (s.onMeter fun m => { m with hours := n }).mtrSnap 2 s.mtrTime)

/-! The encoder (R541, R551). -/

/-- R541: MTR_A and MTR_B are accepted at new levels. A level has passed the filter of 8 METER clocks, of 10 ns each, so that two changes
of one signal lie at least as far apart. -/
def execMeterEdge (a b : Bool) (t : Nat) (s : State) : Host.Outcome State Fault Refusal :=
  .next
    (let s := s.atTime t
     let m := s.meter
     let passes (was now : Bool) (at_ : Nat) : Bool := was = now || at_ + 16 ≤ s.clk
     let moved (was now : Bool) (at_ : Nat) : Nat := if was = now then at_ else s.clk
     if !passes m.a a m.changedAt.1 || !passes m.b b m.changedAt.2 then s
     else
     let s := s.onMeter fun m => { m with a := a, b := b, changedAt := (moved m.a a m.changedAt.1, moved m.b b m.changedAt.2) }
     if !m.runs then s
     else match decodeLevels 0 (m.params.inv != 0) m.a m.b a b with
       | .still => s
       | .up => s.onMeter fun m => m.step false
       | .down => s.onMeter fun m => m.step true
       | .illegal => (s.onMeter fun m => { m with qerr := min (m.qerr + 1) 255 }).windowed 0 0x1207 0 [] true (some 42))

/-- The window closes at its second mark (R551): the new scale is taken, or refused when it is implausible. -/
def State.lenCalClose (s : State) (w : LenWin) (k : Int) (written : Bool) : State :=
  let s := s.onMeter fun m => { m with lenWin := none }
  let old := s.meter.params.lscale
  let new := w.dist * 65536000 / k.toNat
  let nominal := if old = 0 then w.nominal else old
  if k ≤ 0 || nominal * 2 < 100 * ((new : Int) - nominal).natAbs || 2 ^ 48 ≤ new then s.mtrResult w.cmd 13 3
  else if 1024 ≤ s.meter.trail.length then s.mtrResult w.cmd 13 5
  else if !written then s.mtrResult w.cmd 13 4
  else ((s.mtrAudit 4 0x15 0 old new w.cmd.counter).onParams fun p => { p with lscale := new }).mtrResult w.cmd 0 0

/-- R551: a rising edge of MTR_MARK. `written` tells whether the flash takes the new scale. -/
def execMtrMarkEdge (written : Bool) (t : Nat) (s : State) : Host.Outcome State Fault Refusal :=
  .next
    (let s := s.atTime t
     match if s.meter.runs then s.meter.lenWin else none with
     | none => s
     | some w => match w.first with
       | none => s.onMeter fun m => { m with lenWin := some { w with first := some m.count } }
       | some n => s.lenCalClose w (s.meter.count - n) written)

/-! Taps (R545 to R549). -/

/-- R545: a die sends a COUNT record for each group that has fired counted drops, else an IDLE record; D0 sends a TIME record every
second. -/
def execTapSend (d t : Nat) (s : State) : Host.Outcome State Fault Refusal :=
  guarded (d < s.dies)
    (let s := s.atTime t
     if s.rd (F.DIE_STAT_STAGE d) = 0 || (tget? s.meter.sentAt d).any (fun n => s.clk < n + usTicks 25) then s
     else
       let s := s.onMeter fun m => { m with sentAt := tset m.sentAt d s.clk }
       let busy := (List.range 8).filter (fun i => (s.group (8 * d + i)).tally.any (fun n => n != 0))
       let s := busy.foldl (fun s i =>
         let x := s.group (8 * d + i)
         (s.tapPut d (.count (s.rd (F.LNP_GRP_PACER d i)) i (s.rd (F.LNP_HRANK_RANK d i)) x.tally x.tickled)).setGroup (8 * d + i)
           { x with tally := [], tickled := 0 }) s
       let s := if busy.isEmpty then s.tapPut d .idle else s
       if d = 0 && s.meter.timeAt + 200000000 ≤ s.clk then
         (s.tapPut 0 (.time (s.time 0))).onMeter fun m => { m with timeAt := s.clk }
       else s)

/-- R542, R543: the oldest record on a die's tap is a COUNT record and arrives. -/
def execTapCountRecord (d t : Nat) (s : State) : Host.Outcome State Fault Refusal :=
  guarded (d < s.dies)
    (let s := s.atTime t
     match s.tapTake d with
     | some (⟨seq, .count p g rank n _⟩, s') =>
       if !s'.meter.runs then s'
       else
         let s := s'.tapGood d seq
         let src := 2 * d + p
         let s := if n.any (fun v => v != 0) then s.onMeter fun m => m.printed src else s
         s.mtrCount src g rank n
     | _ => s)

/-- R549: a SNAP record on D0's tap arrives: the totals are latched. -/
def execTapSnapRecord (t : Nat) (s : State) : Host.Outcome State Fault Refusal :=
  .next
    (let s := s.atTime t
     match s.tapTake 0 with
     | some (⟨seq, .snap time⟩, s') => if s'.meter.runs then (s'.tapGood 0 seq).mtrSnap 0 time else s'
     | _ => s)

/-- R549: a TIME record on D0's tap arrives. -/
def execTapTimeRecord (t : Nat) (s : State) : Host.Outcome State Fault Refusal :=
  .next
    (let s := s.atTime t
     match s.tapTake 0 with
     | some (⟨seq, .time v⟩, s') => if s'.meter.runs then (s'.tapGood 0 seq).onMeter fun m => { m with net := (v, s'.clk) } else s'
     | _ => s)

/-- R545, R548: an IDLE record arrives. -/
def execTapIdleRecord (d t : Nat) (s : State) : Host.Outcome State Fault Refusal :=
  guarded (d < s.dies)
    (let s := s.atTime t
     match s.tapTake d with
     | some (⟨seq, .idle⟩, s') => if s'.meter.runs then s'.tapGood d seq else s'
     | _ => s)

/-- R548: the oldest record on a die's tap arrives with a code violation or a wrong CRC and is discarded. -/
def execTapBadRecord (d t : Nat) (s : State) : Host.Outcome State Fault Refusal :=
  guarded (d < s.dies)
    (match (s.atTime t).tapTake d with
     | some (_, s') => s'
     | none => s.atTime t)

/-- R548: a tap has carried no good record for 1 ms. -/
def execTapDown (d t : Nat) (s : State) : Host.Outcome State Fault Refusal :=
  guarded (d < s.dies)
    (let s := s.atTime t
     match tget? s.meter.taps d with
     | none => s
     | some x =>
       if !s.meter.runs || !x.up || s.clk < x.goodAt + usTicks 1000 then s
       else (s.onMeter fun m => { m with taps := tset m.taps d { x with up := false } }).mtrEvent 0x1205 [d])

/-! Commands (R550 to R560). `written` tells whether the meter's flash takes what a command writes. -/

/-- R558: MTR_SUBMIT copies the envelope of the keyed port to the meter. -/
def execMtrSubmit (t : Nat) (s : State) : Host.Outcome State Fault Refusal :=
  .next (s.served 0xA0000 (let s := s.atTime t
         if s.meter.runs then s.mtrSubmit ((List.range 64).map (fun i => tget s.meter.env i 0)) else s))

/-- R558: the 1 s lock of the meter ends. -/
def execMtrLockEnd (s : State) : Host.Outcome State Fault Refusal :=
  .next (if s.clk < s.meter.lockedAt + 200000000 then s else s.onMeter fun m => { m with locked := false })

/-- An audit entry whose OLD and NEW the spec does not define: they are free values. -/
def State.mtrAuditFree (s : State) (type op index counter : Nat) : State :=
  let (old, s) := s.draw 48
  let (new, s) := s.draw 48
  s.mtrAudit type op index old new counter

/-- R554: SEAL_BREAK opens the meter. -/
def execSealBreak (written : Bool) (s : State) : Host.Outcome State Fault Refusal :=
  .next (match s.mtrCmd 0x10 with
    | none => s
    | some c => s.mtrDo c (some true) (if c.w 0 = 0x4F504E then 0 else 2) true written fun s =>
        let s := (s.mtrAuditFree 1 0x10 0 c.counter).onMeter fun m => { m with sealed := false }
        s.mtrEvent 0x1203 [1, s.meter.sealCount])

/-- R553, R554: SEAL seals the meter and aborts the calibration windows. -/
def execSealMeter (written : Bool) (s : State) : Host.Outcome State Fault Refusal :=
  .next (match s.mtrCmd 0x11 with
    | none => s
    | some c => s.mtrDo c (some false) (if c.w 0 = 0x534C44 then 0 else 2) false written fun s =>
        let s := (s.mtrAuditFree 2 0x11 0 c.counter).onMeter fun m =>
          { m with sealed := true, totalsLost := false, lenWin := none, massWin := none }
        s.mtrEvent 0x1203 [0, s.meter.sealCount])

/-- R550: SET_CHANNEL. -/
def execSetChannel (written : Bool) (s : State) : Host.Outcome State Fault Refusal :=
  .next (match s.mtrCmd 0x12 with
    | none => s
    | some c =>
      let k := bits (c.w 0) 0 4
      let ascii (w : Nat) : Bool := (leBytes w 3).all (fun b => b < 128)
      let others := (List.range 16).foldl (fun u i => if i = k then u else u ||| (s.meter.params.chan i).sources) 0
      let ok := c.w 0 < 32 && ascii (c.w 1) && ascii (c.w 2) && 1 ≤ c.w 3 && 5000 ≤ c.w 4 && c.w 4 ≤ 30000 && c.w 5 < 65536 &&
        c.w 5 &&& others = 0
      s.mtrDo c (some false) (if ok then 0 else 2) true written fun s =>
        let old := s.meter.params.chan k
        let new := { old with enable := bit (c.w 0) 4, name1 := c.w 1, name2 := c.w 2, cell := c.w 3, density := c.w 4, sources := c.w 5 }
        (s.mtrAudit 3 0x12 k (wordsCrc (old.words k)) (wordsCrc (new.words k)) c.counter).onParams fun p =>
          { p with chans := tset p.chans k new })

/-- R550: SET_MASS. -/
def execSetMass (written : Bool) (s : State) : Host.Outcome State Fault Refusal :=
  .next (match s.mtrCmd 0x13 with
    | none => s
    | some c =>
      let e := bits (c.w 0) 0 4
      s.mtrDo c (some false) (if c.w 0 < 32 && c.w 1 < 65536 then 0 else 2) true written fun s =>
        let old := s.meter.params.entry e
        let new : MtrMass := ⟨c.w 1, bit (c.w 0) 4, (List.range 15).map (fun i => c.w (i + 2))⟩
        (s.mtrAudit 3 0x13 e (wordsCrc (old.words e)) (wordsCrc (new.words e)) c.counter).onParams fun p =>
          { p with masses := tset p.masses e new })

/-- A value lies in the range of a parameter (R550); IND_X and IND_Y have no range of their own. -/
def paramRange (id v : Nat) : Bool :=
  match id with
  | 1 => decide (1 ≤ v ∧ v ≤ 100000)
  | 2 => decide (v < 2 ^ 24)
  | 3 => decide (v < 2 ^ 24)
  | 4 => decide (v ≤ 1)
  | i => decide (16 ≤ i ∧ i < 32 ∧ v ≤ 100000)

/-- R550: SET_PARAM. -/
def execSetParam (written : Bool) (s : State) : Host.Outcome State Fault Refusal :=
  .next (match s.mtrCmd 0x14 with
    | none => s
    | some c =>
      let v := c.w48 1
      s.mtrDo c (some false) (if c.w 0 < 256 && paramRange (c.w 0) v then 0 else 2) true written fun s =>
        (s.mtrAudit 3 0x14 (c.w 0) (s.meter.params.byId (c.w 0)) v c.counter).onParams fun p => p.setId (c.w 0) v)

/-- R551: LEN_CAL MODE 0 opens a window. -/
def execLenCalOpen (s : State) : Host.Outcome State Fault Refusal :=
  .next (match s.mtrCmd 0x15 with
    | none => s
    | some c =>
      if c.w 0 = 1 then s
      else
        s.mtrDo c (some false) (if c.w 0 != 0 then 2 else if s.meter.lenWin.isSome then 7 else 0) true true fun s =>
          s.onMeter fun m => { m with lenWin := some ⟨c, c.w48 1, c.w48 3, s.clk, none⟩ })

/-- R551: LEN_CAL MODE 1 aborts the window. -/
def execLenCalAbort (s : State) : Host.Outcome State Fault Refusal :=
  .next (match s.mtrCmd 0x15 with
    | none => s
    | some c =>
      if c.w 0 != 1 then s
      else s.mtrDo c (some false) (if s.meter.lenWin.isNone then 7 else 0) false true fun s =>
        s.onMeter fun m => { m with lenWin := none })

/-- R551: no second mark within 3,600 s. -/
def execLenCalTimeout (t : Nat) (s : State) : Host.Outcome State Fault Refusal :=
  .next
    (let s := s.atTime t
     match if s.meter.runs then s.meter.lenWin else none with
     | none => s
     | some w =>
       if s.clk < w.opened + 3600 * 200000000 then s
       else (s.onMeter fun m => { m with lenWin := none }).mtrResult w.cmd 13 7)

/-- Channel, ACTION and reserved bits of a MASS_CAL. -/
def massCal (c : AuthCmd) : Nat × Nat × Bool := (bits (c.w 0) 0 4, bits (c.w 0) 4 2, c.w 0 < 64)

/-- R552: MASS_CAL OPEN opens a window on a channel. -/
def execMassCalOpen (s : State) : Host.Outcome State Fault Refusal :=
  .next (match s.mtrCmd 0x16 with
    | none => s
    | some c =>
      let (k, act, fits) := massCal c
      if act = 1 || act = 2 then s
      else
        s.mtrDo c (some false) (if act != 0 || !fits then 2 else if s.meter.massWin.isSome then 7 else 0) false true fun s =>
          s.onMeter fun m => { m with massWin := some (k, 0) })

/-- R552: MASS_CAL CLOSE computes a new MFACT from the weighed mass in micrograms. -/
def execMassCalClose (written : Bool) (s : State) : Host.Outcome State Fault Refusal :=
  .next (match s.mtrCmd 0x16 with
    | none => s
    | some c =>
      let (k, act, fits) := massCal c
      if act != 1 then s
      else
        let w := (s.meter.massWin.map Prod.snd).getD 0
        let num := 65536 * c.w48 1 * 100000
        let f := (2 * num + w) / (2 * w)
        let bad := if !fits then 2 else if s.meter.massWin.map Prod.fst != some k then 7
          else if w = 0 || f < 52429 || 81920 < f then 3 else 0
        s.mtrDo c (some false) bad true written fun s =>
          let old := s.meter.params.chan k
          ((s.mtrAudit 5 0x16 k old.mfact f c.counter).onParams fun p => { p with chans := tset p.chans k { old with mfact := f } }).onMeter
            fun m => { m with massWin := none })

/-- R552: MASS_CAL ABORT discards the window. -/
def execMassCalAbort (s : State) : Host.Outcome State Fault Refusal :=
  .next (match s.mtrCmd 0x16 with
    | none => s
    | some c =>
      let (k, act, fits) := massCal c
      if act != 2 then s
      else
        s.mtrDo c (some false) (if !fits then 2 else if s.meter.massWin.map Prod.fst != some k then 7 else 0) false true fun s =>
          s.onMeter fun m => { m with massWin := none })

/-- R557: PATCH_BEGIN announces a patch of C words. -/
def execPatchBegin (s : State) : Host.Outcome State Fault Refusal :=
  .next (match s.mtrCmd 0x17 with
    | none => s
    | some c =>
      s.mtrDo c (some false) (if c.w 0 ≤ 87381 && c.w 1 < 4096 then 0 else 2) false true fun s =>
        s.onMeter fun m => { m with patchIn := some ⟨c.w 1, c.w 0, []⟩ })

/-- R557, R558: PATCH_DATA continues the code; out of sequence it discards the patch in progress. -/
def execPatchData (s : State) : Host.Outcome State Fault Refusal :=
  .next (match s.mtrCmd 0x18 with
    | none => s
    | some c =>
      match s.meter.patchIn with
      | none => s.mtrDo c (some false) 7 false true id
      | some p =>
        if s.meter.sealed then s.mtrDo c (some false) 0 false true id
        else if c.w 0 != p.code.length then (s.mtrDo c (some false) 7 false true id).onMeter fun m => { m with patchIn := none }
        else s.mtrDo c (some false) 0 false true fun s =>
          s.onMeter fun m => { m with patchIn := some { p with code := (p.code ++ (c.payload.drop 1).take 47).take p.len } })

/-- R560: PATCH_END verifies the signature and stores the patch for the next power-up. -/
def execPatchEnd (written : Bool) (s : State) : Host.Outcome State Fault Refusal :=
  .next (match s.mtrCmd 0x19 with
    | none => s
    | some c =>
      let whole (p : Patch) : Bool := p.code.length = p.len
      match s.meter.patchIn with
      | none => s.mtrDo c (some false) 7 false true id
      | some p =>
        let bad := if !whole p then 7 else if Config.signatureValid ([p.len, p.id] ++ p.code) c.payload then 0 else 6
        s.mtrDo c (some false) bad true written fun s =>
          let old := (s.meter.patch.map Patch.code).getD []
          (s.mtrAudit 6 0x19 0 (wordsCrc old) (wordsCrc p.code) c.counter).onMeter fun m => { m with patch := some p, patchIn := none })

/-- R560: PATCH_REMOVE takes the stored patch away from the next power-up on. -/
def execPatchRemove (written : Bool) (s : State) : Host.Outcome State Fault Refusal :=
  .next (match s.mtrCmd 0x1A with
    | none => s
    | some c => s.mtrDo c (some false) 0 true written fun s =>
        let old := (s.meter.patch.map Patch.code).getD []
        (s.mtrAudit 6 0x1A 0 (wordsCrc old) (wordsCrc []) c.counter).onMeter fun m => { m with patch := none })

/-- R558: MTR_KEY_ROTATE installs a new generation of K-slot 2, as R195 does for the others. -/
def execMtrKeyRotate (written : Bool) (s : State) : Host.Outcome State Fault Refusal :=
  .next (match s.mtrCmd 0x1B with
    | none => s
    | some c =>
      let kek := hmac (s.mtrKey.getD []) [0x77, 0x72, 0x61, 0x70]
      let key := keyUnwrap kek ((wordBytes c.payload).take 40)
      let bad := if ((wordBytes c.payload).drop 40).any (fun b => b != 0) then 2 else if key.isNone || s.on (F.AUTH_SLOT_EXHAUSTED 2) then 8 else 0
      s.mtrDo c (some false) bad true written fun s =>
        let g := s.rd (F.AUTH_SLOT_CUR 2) + 1
        let s := s.mtrAuditFree 7 0x1B g c.counter
        let s := (s.wr (F.AUTH_SLOT_CUR 2) g).wr (F.AUTH_SLOT_EXHAUSTED 2) (nat (3 ≤ g))
        s.onAuth fun a => { a with keys := tset a.keys 2 (key.getD []) })

/-- R558: MTR_MARK_SET sets the meter's counter mark. -/
def execMtrMarkSet (written : Bool) (s : State) : Host.Outcome State Fault Refusal :=
  .next (match s.mtrCmd 0x1C with
    | none => s
    | some c =>
      let v := c.w 0 + 2 ^ 24 * (c.w 1 % 256)
      s.mtrDo c none (if c.w 1 < 256 then 0 else 2) false written fun s => s.onMeter fun m => { m.setMark v with cnt := v })

/-- R556: TRAIL_CLEAR starts a new trail whose first entry records the old one. -/
def execTrailClear (written : Bool) (s : State) : Host.Outcome State Fault Refusal :=
  .next (match s.mtrCmd 0x1D with
    | none => s
    | some c => s.mtrDo c (some false) 0 false written fun s =>
        let old := s.meter.trail
        let crc := crc32 (wordBytes old.flatten)
        let s := s.onMeter fun m => { m with trail := [] }
        s.mtrAudit 8 0x1D 0 (crc + 2 ^ 32 * old.length) (min (s.meter.sealCount + 1) 0xFFFFFF) c.counter)

/-! The indication (R565, R566). -/

/-- R565: a changed content is drawn, 100 ms after the last one at the soonest; its CRC depends on the font and is free. -/
def execIndRedraw (t : Nat) (s : State) : Host.Outcome State Fault Refusal :=
  .next
    (let s := s.atTime t
     let now := s.indContent
     if !s.meter.runs || now = s.meter.shown || (s.meter.iseq != 0 && s.clk < s.meter.drawnAt + usTicks 100000) then s
     else
       let (crc, s) := s.draw 32
       s.onMeter fun m =>
         let n := (m.iseq + 1) % 2 ^ 24
         { m with iseq := n, crcs := ((n, crc) :: m.crcs).take 4, shown := now, drawnAt := s.clk })

/-- R566: the oldest report of the display reaches the meter. -/
def execIndReport (t : Nat) (s : State) : Host.Outcome State Fault Refusal :=
  .next
    (let s := s.atTime t
     match s.meter.reports with
     | [] => s
     | (iseq, crc) :: rest =>
       if !s.meter.runs then s.onMeter fun m => { m with reports := rest }
       else
       let s := s.onMeter fun m => { m with reports := rest, reportAt := s.clk, indStale := false, psr := none }
       if s.meter.crcs.any (fun e => e.1 = iseq && e.2 = crc) then s.onMeter fun m => { m with misses := 0, indFault := false }
       else
         let n := s.meter.misses + 1
         let s := s.onMeter fun m => { m with misses := n, indErr := min (m.indErr + 1) 255 }
         if n = 3 then (s.onMeter fun m => { m with indFault := true }).mtrEvent 0x1206 [iseq, n] else s)

/-- R566: no report for 1 s, and no self-refresh hold of the current content. -/
def execIndStaleTimeout (t : Nat) (s : State) : Host.Outcome State Fault Refusal :=
  .next
    (let s := s.atTime t
     if !s.meter.runs || s.meter.psr = some s.meter.iseq || s.clk < s.meter.reportAt + 200000000 then s
     else s.onMeter fun m => { m with indStale := true })

end Sys2Proof.Machine
end

