-- ==== Sys2Proof/Machine/Monitor.lean ====
section
/-! DEFINITION. Events and commands of the thermal and supply monitors (R638 to R641). -/

namespace Sys2Proof.Machine

open Sys2Proof

/-- A conversion of a die is due: PERIOD ms have passed since the last periodic one (R638). -/
def State.monDue (s : State) (d : Nat) : Bool :=
  (tget? s.mon.ranAt d).all fun n => n + usTicks (1000 * s.rd (F.MON_CTL_PERIOD d)) ≤ s.clk

/-- R638 to R641: a conversion of a die, periodic or for a time trigger, finds its four sensors at `temps`, in 0.1 degrees, and its seven rails
at `mv`. -/
def execMonConversion (d : Nat) (temps : List Int) (mv : List Nat) (t : Nat) (s : State) : Host.Outcome State Fault Refusal :=
  guarded (d < s.dies)
    (let s := s.atTime t
     let stage := s.rd (F.DIE_STAT_STAGE d)
     if stage = 0 || (stage = 1 && !s.boot.censused) || !(s.monDue d || bit s.clock.convert d) then s
     else
       let first := (tget? s.mon.ranAt d).isNone
       let s := if s.monDue d then s.onMon fun m => { m with ranAt := tset m.ranAt d s.clk } else s
       let s := (List.range 4).foldl (fun s k => s.wr (F.MON_T_TEMP d k) (unsigned 12 (temps.getD k 0))) s
       let s := (List.range 7).foldl (fun s k => s.wr (F.MON_V_MV d k) (mv.getD k 0)) s
       let top := if first then s.dieTemp d else max (s.dieTemp d) (signed 12 (s.rd (F.MON_TMAX_TEMP d)))
       let s := (s.wr (F.MON_TMAX_TEMP d) (unsigned 12 top)).wr (F.MON_SEQ_SEQ d) (s.rd (F.MON_SEQ_SEQ d) + 1)
       let s := s.onClock fun c => { c with convert := clearBit c.convert d }
       (((s.monWarn d temps).monCrit d temps).monRails d mv).camTempMoved d)

/-- R640: HOT_FENCE of a die is written 1; `stuck` names the groups whose balls are high. -/
def execHotFenceClear (d : Nat) (stuck : List Nat) (s : State) : Host.Outcome State Fault Refusal :=
  guarded (d < s.dies)
    (s.served (dieAt d 0xD0000) (let lim : Int := s.rd (F.MON_TLIM_TWARN d)
     if !s.on (F.MON_STAT_HOT_FENCE d) || decide (10 * lim ≤ s.dieTemp d) then s
     else
       let mine := s.mon.fenced.filter (fun g => g / 8 = d)
       let s := s.onMon fun m => { m with fenced := m.fenced.filter (fun g => g / 8 != d) }
       let s := mine.foldl (fun s g => s.clearFault g (stuck.contains (g % 8))) s
       (s.wr (F.MON_STAT_HOT_FENCE d) 0).event d 0x1605 []))

end Sys2Proof.Machine
end

