-- ==== Sys2Proof/Machine/Motion.lean ====
section
/-! DEFINITION. Events and commands of the motion axes (chapter 14). -/

namespace Sys2Proof.Machine

open Sys2Proof

/-- R430, R432: SENSE time `t` for axis `a` (4 x die + number): a profile tick, when the time base reaches another multiple of 10 us. A tick that
a step of the time base brings within 5 us of the one before is left out (R505). -/
def execMotionTick (a t : Nat) (s : State) : Host.Outcome State Fault Refusal :=
  guarded (a < 4 * s.dies)
    (let s := s.atTime t
     let x := s.axis a
     let n := s.tickIndex (a / 4)
     if !s.onTick (a / 4) || n = x.tick then s
     else if s.clk < x.tickAt + usTicks 5 then s.setAxis a { x with tick := n }
     else (s.setAxis a { x with tick := n, tickAt := s.clk }).axisTick a t)

/-- R444: STALL of an axis is written 1: the axis moves on from its emitted position to the target in force. -/
def execStallClear (a : Nat) (s : State) : Host.Outcome State Fault Refusal :=
  guarded (a < 4 * s.dies)
    (s.served (dieAt (a / 4) (0x60000 + 0x80 * (a % 4))) (if !s.on (F.MOT_STAT_STALL (a / 4) (a % 4)) then s
     else
       let x := s.axis a
       let x := ({ x with p := fine * x.e, v := 0 }).emptyFilter
       (s.setAxis a (s.anchorDev a x)).wr (F.MOT_STAT_STALL (a / 4) (a % 4)) 0))

/-- R441: FOLLOW_LAG of an axis is written 1: the reference is anchored at the present position. -/
def execFollowLagClear (a : Nat) (s : State) : Host.Outcome State Fault Refusal :=
  guarded (a < 4 * s.dies)
    (s.served (dieAt (a / 4) (0x60000 + 0x80 * (a % 4))) (if !s.on (F.MOT_STAT_FOLLOW_LAG (a / 4) (a % 4)) then s
     else
       let x := { (s.axis a).anchorFollow with lag := 0, lagTicks := 0 }
       (s.setAxis a (s.anchorGear a x)).wr (F.MOT_STAT_FOLLOW_LAG (a / 4) (a % 4)) 0))

end Sys2Proof.Machine
end

