-- ==== Sys2Proof/Machine/Sdram.lean ====
section
/-! DEFINITION. Events and commands of the SDRAM controllers (chapter 15). -/

namespace Sys2Proof.Machine

open Sys2Proof

/-- R456: a refresh of bank `b` of rank `r` falls due; it is postponed while the bank has requests, and at the fourth postponement the
whole rank is refreshed. A refresh finds its banks closed (R455). -/
def execMemRefresh (d r b : Nat) (busy : Bool) (s : State) : Host.Outcome State Fault Refusal :=
  guarded (d < s.dies)
    (let k := 16 * d + 4 * r + b
     let n := tget s.sdram.postponed k 0 + 1
     if !busy then (s.onSdram fun m => { m with postponed := tdel m.postponed k }).closeRows
       (fun e => e / 32 = 4 * d + r && e % 4 = b)
     else if n < 4 then s.onSdram fun m => { m with postponed := tset m.postponed k n }
     else ((s.closeRows (fun e => e / 32 = 4 * d + r)).onSdram fun m => { m with postponed := m.postponed.filter (fun e => e.1 / 4 != k / 4) }).inc (F.MEM_REF_COUNT d))

/-- U of a die in 0.01 GB/s: 0.80 x 16 B x the set-point rate (R459). -/
def State.memRate (s : State) (d : Nat) : Nat := [8192, 6144, 4096, 2048].getD (s.rd (F.MEM_STAT_SP d)) 8192

/-- The MAINT reserve: 0.5 GB/s, or 2 x MIG_RATE during a migration (R459). -/
def State.maintReserve (s : State) (d : Nat) : Nat :=
  if s.on (F.MEM_STAT_MIGRATING d) then 100 * s.rd (F.MEM_SCRUB_MIG_RATE d) else 50

/-- The bandwidth left to the ZIP block, B_Z (R459). -/
def State.zipShare (s : State) (d : Nat) (x : MemLoad) : Nat :=
  s.memRate d - x.rt - s.maintReserve d - (if x.bulk = 0 then 0 else 100 * s.rd (F.MEM_SHARE_BULK_MIN d))

/-- What each class is given of a capacity (R458): RT first, MAINT up to its reserve, BULK up to BULK_MIN, ZIP up to its demand, and what
remains to BULK. In the order RT, ZIP, BULK. -/
def State.memServed (s : State) (d capacity : Nat) (x : MemLoad) : List Nat :=
  let rt := min capacity x.rt
  let left := capacity - rt
  let left := left - min left (min x.maint (s.maintReserve d))
  let bulk := min left (min x.bulk (100 * s.rd (F.MEM_SHARE_BULK_MIN d)))
  let left := left - bulk
  let zip := min left x.zip
  [rt, zip, bulk + min (left - zip) (x.bulk - bulk)]

/-- The bandwidth registers take what each class was given over the last millisecond, of a capacity that is at least U and at most the peak
(R459; where it lies is left open, log 142); RT requests that were late count while RT asks for more than 0.60 x U. -/
def State.measureMem (s : State) (d : Nat) (x : MemLoad) : State :=
  let u := s.memRate d
  let (v, s) := s.draw 16
  let got := s.memServed d (u + v % (u / 4 + 1)) x
  let s := [F.MEM_BW_RT_RATE d, F.MEM_BW_ZIP_RATE d, F.MEM_BW_BULK_RATE d].zipIdx.foldl (fun s f => s.wr f.1 (got.getD f.2 0)) s
  if 60 * u < 100 * x.rt then s.incBy (F.MEM_LATE_COUNT d) x.late else s

/-- R457: the refresh-rate codes and the temperatures in degrees of the four ranks are read; a rank above TLIM asks for the next lower
set-point, and 60 s of every rank 10 degrees below it for OP. `load` is what the classes of R458 asked for. -/
def execMr4Poll (d : Nat) (codes temps : List Nat) (load : Timed MemLoad) (s : State) : Host.Outcome State Fault Refusal :=
  guarded (d < s.dies)
    (let s := s.atTime load.t
     let fitted := (List.range 4).filter (fun r => s.rd (F.MEM_RANK_ROLE d r) != 0)
     let s := fitted.foldl (fun s r => s.wr (F.MEM_RANK_MR4 d r) (codes.getD r 0)) s
     let s := s.measureMem d load.val
     let lim := s.rd (F.MEM_ECC_CTL_TLIM d)
     if fitted.any (fun r => decide (lim < temps.getD r 0)) then
       let s := s.onSdram fun m => { m with coolAt := tdel m.coolAt d }
       if s.on (F.MEM_STAT_HOT d) then s
       else
         let s := (s.wr (F.MEM_STAT_HOT d) 1).memEvent d 0x0E09 []
         if s.rd (F.MEM_STAT_SP d) < 3 then s.askSetpoint d (s.rd (F.MEM_STAT_SP d) + 1) else s
     else if !s.on (F.MEM_STAT_HOT d) then s
     else if fitted.any (fun r => decide (lim < temps.getD r 0 + 10)) then s.onSdram fun m => { m with coolAt := tdel m.coolAt d }
     else match tget? s.sdram.coolAt d with
       | none => s.onSdram fun m => { m with coolAt := tset m.coolAt d s.clk }
       | some t0 =>
         if s.clk < t0 + usTicks 60000000 then s
         else
           ((s.onSdram fun m => { m with coolAt := tdel m.coolAt d }).wr (F.MEM_STAT_HOT d) 0).askSetpoint d (s.rd (F.MEM_FREQ_OP d)))

/-- R461, R462: a set-point that was asked for is taken: during training when its sequence has ended, in service once no pacer of the die
is ON and no camera frame is open. -/
def execFreqSwitch (d t : Nat) (s : State) : Host.Outcome State Fault Refusal :=
  guarded (d < s.dies)
    (let s := s.atTime t
     match tget? s.sdram.want d with
     | none => s
     | some (sp, t0) =>
       let training := decide (s.rd (F.DIE_STAT_STAGE d) < 5)
       if (training && s.sdram.switched.contains d) || (!training && !s.memQuiet d) then s
       else
         let old := s.rd (F.MEM_STAT_SP d)
         let s := (s.onSdram fun m => { m with want := tdel m.want d }).wr (F.MEM_STAT_FREQ_PEND d) 0
         let s := s.wr (F.MEM_STAT_SP d) sp
         if training then
           (s.onSdram fun m => { m with switched := d :: m.switched }).memEvent d 0x0E07 [sp, (s.clk - t0) / usTicks 1000]
         else s.event d 0x0E06 [old, sp])

/-- R464: an hour of scrubbing ends: the corrections that rank `r` made in it are counted and judged. -/
def execScrubHour (d r corrected : Nat) (s : State) : Host.Outcome State Fault Refusal :=
  guarded (d < s.dies)
    (let s := (s.incBy (F.MEM_RANK_CE d r) corrected).life d 8 corrected
     if corrected < s.rd (F.MEM_ECC_CTL_CE_LIM d) then s
     else
       let s := s.memEvent d 0x0E01 [r / 2, r % 2, corrected]
       if s.on (F.MEM_ECC_CTL_SPARE_ON_CE d) then s.retire d r none else s)

/-- R463, R465: a read of rank `r` is uncorrectable; the first one retires the rank when SPARE_AUTO is set. A read of a compressor unit's
input aborts its compression with code 13 (R244). -/
def execSdramUncorrectable (d r : Nat) (a : UncRead) (s : State) : Host.Outcome State Fault Refusal :=
  guarded (d < s.dies)
    (let s := match a.comp with
       | some u => if u < 2 && (s.cunit d u).job.any (fun (j : CJob) => j.inBuf.isSome) then s.cutComp d u 13 else s
       | none => s
     let s := ((s.inc (F.MEM_RANK_UE d r)).life d 9 1).wrPair (F.MEM_UE_ADDR_LO_ADDR d) (F.MEM_UE_ADDR_HI_ADDR d) a.addr
     if !s.on (F.MEM_ECC_CTL_SPARE_AUTO d) || s.sdram.failed.contains (4 * d + r) then s
     else (s.onSdram fun m => { m with failed := m.failed ++ [4 * d + r] }).retire d r (some a.addr))

/-- R465: MEM_CMD GO retires the rank. -/
def execMemCmdRetire (d r : Nat) (s : State) : Host.Outcome State Fault Refusal :=
  guarded (d < s.dies)
    (s.served (dieAt d 0x80000) (s.retire d r none))

/-- R465: the copy ends, with `poison` locations that could not be corrected. -/
def execMigrateDone (d poison : Nat) (s : State) : Host.Outcome State Fault Refusal :=
  guarded (d < s.dies)
    (match tget? s.sdram.copies d with
     | none => s
     | some (r, sp) =>
       let s := (s.onSdram fun m => { m with copies := tdel m.copies d }).wr (F.MEM_STAT_MIGRATING d) 0
       let s := (s.wr (F.MEM_MIG_DONE d) (if s.on (F.MEM_GEOM_SIZE d) then 256 else 128)).wr (F.MEM_MIG_POISON d) (min poison 4095)
       (s.memEvent d 0x0E04 [r, min poison 4095]).takeSpare d r sp)

end Sys2Proof.Machine
end

