-- ==== Sys2Proof/Machine/Time.lean ====
section
/-! DEFINITION. Commands and events of the time base (chapter 17). -/

namespace Sys2Proof.Machine

open Sys2Proof

/-- R492: the copy of die `d`, found `off` ns from D0's, is corrected once a millisecond; beyond 50 ns the die is set and the error
recorded. D0's own copy is the reference. -/
def execDieTimeSync (d : Nat) (off : Int) (t : Nat) (s : State) : Host.Outcome State Fault Refusal :=
  guarded (d < s.dies)
    (let s := s.atTime t
     if d = 0 || s.clk < tget s.clock.synced d 0 + usTicks 1000 then s
     else
       let s := { s with timeBase := tset s.timeBase d (tget s.timeBase 0 0) }.onClock fun c => { c with synced := tset c.synced d s.clk }
       if 50 < off.natAbs then s.event 0 0x1006 [d, unsigned 24 off] else s)

/-- The PTP clock runs: SRC is 1, in full service (R494, R496). -/
def State.ptpRuns (s : State) : Bool := s.rd F.TIME_CTL_SRC = 1 && s.rd F.BOOT_STAT_STAGE = 7

/-- A PTP message comes from the master selected, in the clock's domain (R495). -/
def State.fromMaster (s : State) (domain port : Nat) : Bool := domain = s.rd F.TIME_CTL_DOMAIN && s.clock.master.any (fun m => m.port = port)

/-- The stamp of an event message, from the time base latched at the engine's claim (R496). -/
def State.stamp (s : State) (latched : Nat) : Int := (latched : Int) - s.rd F.TIME_CTL_STAMP_COMP

/-- R496, R497, R499: a Sync of a master's port is claimed at SENSE time `t`; from the selected master it gives an offset, its stamp less its
origin and the path delay. -/
def execPtpSync (m : PtpSync) (t : Nat) (s : State) : Host.Outcome State Fault Refusal :=
  .next
    (let s := s.atTime t
     if !s.ptpRuns then s
     else if !s.fromMaster m.domain m.port then s.cause 37
     else
       let behind := s.stamp (s.time 0) - m.origin
       let o := behind - s.clock.delay
       let s := ((s.cause 37).onClock fun c => { c with behind := behind, syncAt := s.clk }).takeOffset o
       let st := s.rd F.TIME_STAT_STATE
       let near := decide (o.natAbs < 2000)
       let good := if near then (if st = 1 then s.clock.good + 1 else 1) else 0
       let bad := if near then 0 else s.clock.bad + 1
       let s := s.onClock fun c => { c with good := good, bad := bad }
       match st with
       | 1 => if 16 ≤ good then ((s.wr F.TIME_STAT_STATE 2).onClock fun c => { c with bad := 0 }).timeEvent 0x1004 [] else s
       | 2 => if 4 ≤ bad then (s.wr F.TIME_STAT_STATE 1).onClock fun c => { c with good := 0 } else s
       | _ => s.wr F.TIME_STAT_STATE 1)

/-- R499: SENSE time `t`: no Sync of the master for three of its announce intervals. -/
def execPtpSyncTimeout (t : Nat) (s : State) : Host.Outcome State Fault Refusal :=
  .next
    (let s := s.atTime t
     if s.clock.master.any (fun m => s.clk < s.clock.syncAt + 3 * usTicks m.interval) then s else s.ptpLost)

/-- R498, R500: TIME_SET is written; `v` is the 64-bit value when its word 2 arrives. -/
def execTimeSet (v t : Nat) (s : State) : Host.Outcome State Fault Refusal :=
  .next (s.served 0x80000 ((s.atTime t).setTime v))

/-- R500: TIME_ADJ is written. -/
def execTimeAdj (v t : Nat) (s : State) : Host.Outcome State Fault Refusal :=
  .next (s.served 0x80000 ((s.atTime t).setAdj v))

/-- R494, R499: SRC of TIME_CTL is written. -/
def execTimeSrcWrite (v t : Nat) (s : State) : Host.Outcome State Fault Refusal :=
  .next (s.served 0x80000 ((s.atTime t).setTimeSrc v))

/-- R498: the step decided first is made on every die, 20 microseconds after the decision. -/
def execTimeStepApply (t : Nat) (s : State) : Host.Outcome State Fault Refusal :=
  .next
    (let s := s.atTime t
     match s.clock.steps with
     | [] => s
     | x :: r => if s.clk < x.due then s else (s.onClock fun c => { c with steps := r }).makeStep x)

/-- R502: trigger `k` reaches its compare. -/
def execTrgFire (k t : Nat) (s : State) : Host.Outcome State Fault Refusal := .next ((s.atTime t).trgCheck k false)

/-- What the default algorithm of IEEE 1588-2019 compares, in its order (R495; PRESUMED, notes/assumptions/144). -/
def ptpRank (m : PtpAnnounce) : List Nat := [m.prio1, m.clockClass, m.accuracy, m.variance, m.prio2, m.gm, m.steps, m.port]

/-- A list of numbers comes before another of the same length. -/
def listBefore : List Nat → List Nat → Bool
  | a :: as, b :: bs => a < b || (a = b && listBefore as bs)
  | _, _ => false

/-- The best of the masters heard (R495). -/
def bestMaster : List (PtpAnnounce × Nat) → Option PtpAnnounce
  | [] => none
  | e :: l => match bestMaster l with
    | none => some e.1
    | some m => if listBefore (ptpRank e.1) (ptpRank m) then some e.1 else some m

/-- A master is selected (R499): another grandmaster is shown, and restarts a servo that runs. -/
def State.selectMaster (s : State) (m : PtpAnnounce) : State :=
  let other := s.clock.master.map PtpAnnounce.gm != some m.gm
  let st := s.rd F.TIME_STAT_STATE
  let s := s.onClock fun c => { c with master := some m }
  if !other then s
  else
    let s := [0, 1, 2].foldl (fun s i => s.wr (F.TIME_GM_ID i) (m.gm / 2 ^ (24 * i))) s
    if st = 1 || st = 2 then
      ((s.onClock fun c => { c with good := 0, bad := 0, updates := [] }).wr F.TIME_STAT_STATE 1).timeEvent 0x1003 [m.gm]
    else s

/-- R495, R499: an Announce of a master is received: the best of the masters heard within three of their announce intervals is
selected. -/
def execPtpAnnounce (m : Timed PtpAnnounce) (s : State) : Host.Outcome State Fault Refusal :=
  .next
    (let s := s.atTime m.t
     let m := m.val
     if !s.ptpRuns || m.domain != s.rd F.TIME_CTL_DOMAIN then s
     else
       let heard := (m, s.clk) :: s.clock.heard.filter (fun e => e.1.port != m.port && e.1.domain = m.domain && decide (s.clk ≤ e.2 + 3 * usTicks e.1.interval))
       let s := s.onClock fun c => { c with heard := heard }
       match bestMaster heard with
       | some b => s.selectMaster b
       | none => s)

/-- R495, R496: a Delay_Resp of the selected master answers the Delay_Req whose claim latched the time base, as the master received it: the path delay is the mean of both directions. The Delay_Req is an event message of its own. -/
def execPtpDelayResp (m : PtpDelay) (s : State) : Host.Outcome State Fault Refusal :=
  .next (if s.ptpRuns && s.fromMaster m.domain m.port then
    (s.cause 37).onClock fun c => { c with delay := (c.behind + (m.received - s.stamp m.latched)).tdiv 2 } else s)

end Sys2Proof.Machine
end

