-- ==== Sys2Proof/Machine/Window.lean ====
section
/-! DEFINITION. Commands and events of the shared window (R156 to R169). -/

namespace Sys2Proof.Machine

open Sys2Proof

/-- What becomes of a 4-byte unit of a host write (R133, R156, R158, R161): written, discarded for a buffer of the device,
discarded for an undefined or unbacked place, or discarded because the window or the buffer's home die is not ready. -/
inductive UnitFate | written | device (idx : Nat) | undefined | early
  deriving DecidableEq, Repr

/-- The fate of a write to an address. -/
def State.unitFate (s : State) (a : Nat) : UnitFate :=
  if !s.inService 0x40000 then .early
  else match s.bufAt (a / unitBytes) with
    | none => .undefined
    | some (i, b) => if !s.on (F.DIE_STAT_INIT (s.home b)) then .early else if b.st = .host then .written else .device i

/-- Bytes in the window: 64 GiB (R152). -/
def windowBytes : Nat := 2 ^ 36

/-- Writes the enabled bytes that lie in buffers of the host. -/
def State.hostWrite (s : State) (a : Nat) (data : List (Option Byte)) : State :=
  match data with
  | [] => s
  | b :: r =>
    let s' := match b with
      | some v => if s.unitFate (a / 4 * 4) = UnitFate.written then s.onMem (fun m => memSet m a v) else s
      | none => s
    s'.hostWrite (a + 1) r

/-- The fates of the units that the enabled bytes of a write touch. -/
def State.fates (s : State) (a : Nat) (data : List (Option Byte)) : List UnitFate :=
  ((List.range data.length).filter (fun i => (data.getD i none).isSome)).map (fun i => s.unitFate ((a + i) / 4 * 4))

/-- The buffers of the device that a write touches, each once. -/
def deviceFates (l : List UnitFate) : List Nat :=
  (l.filterMap (fun f => match f with
    | .device i => some i
    | _ => none)).eraseDups

/-- R156, R161, R168: one BAR2 write TLP with its byte enables. -/
def execBar2Write (addr : Nat) (data : List (Option Byte)) (s : State) : Host.Outcome State Fault Refusal :=
  if windowBytes < addr + data.length then .fault .outsideWindow
  else
    let fs := s.fates addr data
    let s := if fs.contains .written then s.memTouch addr data.length else s
    let s := s.hostWrite addr data
    let s := if fs.contains .undefined then s.inc F.WIN_WR_UNDEF_COUNT else s
    let s := if fs.contains .early then s.inc F.BOOT_EARLY_VALUE else s
    let ds := deviceFates fs
    let s := if ds.isEmpty then s else s.inc F.WIN_WR_DEV_COUNT
    .next (ds.foldl (fun s i => s.windowed 0 0x0401 i [i] true) s)

/-- What a host read of a byte returns: 0 where no buffer is defined or no SDRAM backs the slice (R158, R161), and before the
window and the buffer's home die are ready (R133). -/
def State.hostByte (s : State) (a : Nat) : Nat :=
  match s.bufAt (a / unitBytes) with
  | none => 0
  | some (_, b) =>
    if s.inService 0x40000 && s.on (F.DIE_STAT_INIT (s.home b)) && s.backed (a / unitBytes) then (memGet s.mem a).toNat else 0

/-- The payload sizes of the completions of a read: full payloads and a rest (R151). -/
def payloads (most len : Nat) : List Nat :=
  List.replicate (len / most) most ++ (if len % most = 0 then [] else [len % most])

/-- R156, R161, R163: a BAR2 read of `len` bytes; `poisoned` when the SDRAM read behind it was uncorrectable (R463). -/
def execBar2Read (addr len : Nat) (poisoned : Bool) (s : State) : Host.Outcome State Fault Refusal :=
  if windowBytes < addr + len then .fault .outsideWindow
  else .next ((if s.backed (addr / unitBytes) then s.memTouch addr len else s).onHost fun h =>
    { h with readData := (List.range len).map (fun i => s.hostByte (addr + i)), poisoned := poisoned, unsupported := false,
             completions := payloads h.pcie.maxPayload len })

/-- R161: DEFINE. -/
def execWinDefine (i : Nat) (s : State) : Host.Outcome State Fault Refusal :=
  guarded (i < 65536)
    (s.served 0x40000 (let st := s.defineStatus i
     let s := if st != 0 then s else
       s.setBuf i ⟨s.rd F.WIN_DEF_BASE_UNITS, s.rd F.WIN_DEF_LEN_UNITS, .host, nextGen (s.buf i).gen, false, 0⟩
     s.winResult i 1 st))

/-- R161, R162: GIVE. -/
def execWinGive (i gen : Nat) (s : State) : Host.Outcome State Fault Refusal :=
  guarded (i < 65536)
    (s.served 0x40000 (let st := s.opStatus i gen
     if st != 0 then s.winResult i 2 st
     else match (s.buf i).st with
       | .host => (s.setBuf i { s.buf i with st := .device, atHome := false, uses := 0 }).winResult i 2 0
       | .device => s.winResult i 2 4
       | .reclaiming => s.winResult i 2 6
       | .undef => s.winResult i 2 1))

/-- Page descriptors that name a reclaimed buffer and have not started are not used: their pages underrun, and they are answered RECLAIMED
(R165, R224). -/
def State.reclaimPages (s : State) (i gen : Nat) : State :=
  let lose (p : PDesc) : PDesc :=
    if p.st = .queued && !p.blank && !p.hold && p.buf = i && p.gen = gen then { p with st := .reclaimed } else p
  { s with jobs := { s.jobs with streams := s.jobs.streams.map (fun e => (e.1, { e.2 with descs := e.2.descs.map lose })) } }

/-- R161: RECLAIM. -/
def execWinReclaim (i gen : Nat) (s : State) : Host.Outcome State Fault Refusal :=
  guarded (i < 65536)
    (s.served 0x40000 (let st := s.opStatus i gen
     if st != 0 then s.winResult i 3 st
     else match (s.buf i).st with
       | .device => (((s.setBuf i { s.buf i with st := .reclaiming }).onWin fun w => { w with scan := true }).reclaimPages i gen).winResult i 3 0
       | _ => s.winResult i 3 4))

/-- R161: UNDEFINE. -/
def execWinUndefine (i gen : Nat) (s : State) : Host.Outcome State Fault Refusal :=
  guarded (i < 65536)
    (s.served 0x40000 (let st := s.opStatus i gen
     if st != 0 then s.winResult i 4 st
     else match (s.buf i).st with
       | .host => (s.setBuf i { s.buf i with st := .undef }).winResult i 4 0
       | _ => s.winResult i 4 5))

/-- R161: an operation code other than 1 to 4. -/
def execWinBadOp (i op : Nat) (s : State) : Host.Outcome State Fault Refusal :=
  guarded (i < 65536 && op < 16 && !(1 ≤ op && op ≤ 4))
    (s.served 0x40000 (s.winResult i op 12))

/-- R162: the GIVE of a buffer takes effect at its home die. -/
def execGiveEffective (i : Nat) (s : State) : Host.Outcome State Fault Refusal :=
  guarded (i < 65536)
    (if (s.buf i).st = .device || (s.buf i).st = .reclaiming then s.setBuf i { s.buf i with atHome := true } else s)

/-- The oldest release that waits. -/
def oldestRelease (l : List Posting) : Option (Nat × Nat × Nat) :=
  l.findSome? (fun p => match p with
    | .release i b t => some (i, b, t)
    | .post _ _ _ => none)

/-- The postings with the oldest release replaced by others in its place. -/
def replaceRelease (l : List Posting) (repl : List Posting) : List Posting :=
  match l with
  | [] => []
  | .release _ _ _ :: r => repl ++ r
  | .post q k b :: r => .post q k b :: replaceRelease r repl

/-- The RELEASE record of a buffer (R181). -/
def State.releaseBody (s : State) (i oldGen bytes tag : Nat) (reclaimed : Bool) : List Nat :=
  let line := s.rdPair (F.DIE_LINE_LO_LINE 0) (F.DIE_LINE_HI_LINE 0)
  [i + 2 ^ 16 * nat reclaimed, nextGen oldGen + 2 ^ 8 * oldGen, bytes % 2 ^ 24, bits bytes 24 24, line % 2 ^ 24,
   line / 2 ^ 24, tag]

/-- R164 to R166: the oldest release point takes effect: the buffer returns to the host with a new generation, and its record
takes the release's place among the postings. A buffer that the device no longer owns is left as it is. -/
def execBufferRelease (s : State) : Host.Outcome State Fault Refusal :=
  .next (match oldestRelease s.win.postings with
    | none => s
    | some (i, bytes, tag) =>
      let b := s.buf i
      if b.st = .device || b.st = .reclaiming then
        let rec? := if s.on F.WIN_CTL_RING_EN then
            [Posting.post (s.rd F.WIN_CTL_RING) 2 ((s.releaseBody i b.gen bytes tag (b.st = .reclaiming)).map (· % 2 ^ 24))]
          else []
        let s := s.onWin fun w => { w with postings := replaceRelease w.postings rec? }
        let s := s.setBuf i { b with st := .host, gen := nextGen b.gen, uses := 0, atHome := false }
        if b.st = .reclaiming then s.event 0 0x0411 [i, nextGen b.gen] else s
      else s.onWin fun w => { w with postings := replaceRelease w.postings [] })

/-- A release of the buffer already waits. -/
def State.releasing (s : State) (i : Nat) : Bool :=
  s.win.postings.any (fun p => match p with
    | .release j _ _ => j = i
    | .post _ _ _ => false)

/-- R164: the release scan releases the buffers in RECLAIMING that nothing uses. -/
def execReleaseScan (s : State) : Host.Outcome State Fault Refusal :=
  .next (
    let s' := s.onWin fun w => { w with scan := false }
    if s.win.scan then
      (s.win.bufs.filter (fun e => e.2.st = .reclaiming && e.2.uses = 0 && !s.releasing e.1)).foldl
        (fun s e => s.release e.1 0 0) s'
    else s')

end Sys2Proof.Machine
end

