-- ==== Sys2Proof/Machine/Bus.lean ====
section
/-! DEFINITION. BAR0 accesses (R5 to R10, R51, R155): what a write to a register does, field by field, and what a read returns. A write
that is a command of its own has the meaning of that command. -/

namespace Sys2Proof.Machine

open Sys2Proof

/-- The state after a command that a write or a read amounts to. -/
def State.via (s : State) (o : Host.Outcome State Fault Refusal) : State :=
  match o with
  | .next t => t
  | _ => s

/-- A BAR0 write is discarded and counted, and recorded at most once a second (R155). -/
def State.busDiscard (s : State) (a : Nat) : State := (s.inc F.WIN_BAR0_DISCARD_COUNT).windowed 0 0x0402 0 [a] true

/-! Fields that are commands. -/

/-- An operation of WIN_CMD on the buffer that WIN_CMD_LO names (R161). -/
def State.winCommand (s : State) (w : Nat) : State :=
  let i := s.rd F.WIN_CMD_LO_INDEX
  let gen := bits w 8 8
  match w % 16 with
  | 1 => s.via (execWinDefine i s)
  | 2 => s.via (execWinGive i gen s)
  | 3 => s.via (execWinReclaim i gen s)
  | 4 => s.via (execWinUndefine i gen s)
  | op => s.via (execWinBadOp i op s)

/-- The commands of the BOOT block (R136, R140, R146, R148, R149). -/
def State.bootCommand (s : State) (off w : Nat) : State :=
  match off with
  | 0x10 =>
    let s := if bit w 0 then s.via (execBootRetry s) else s
    if bit w 1 then s.via (execBootResume s) else s
  | 0x14 => s.via (execBootReset (BitVec.ofNat 24 w) s)
  | 0x60 => if bit w 0 then s.via (execBootBbSave s) else s
  | 0xC8 => s.via (execSpwDataAccess true (BitVec.ofNat 24 w) s)
  | _ => s

/-- The commands of IRQH beside its masks (R481 to R485). -/
def State.irqhCommand (s : State) (off w : Nat) : State :=
  if off < 0x40 then
    let s := s.via (execIrqhAccept (off / 4) (bit w 0) s)
    (if bit w 1 then s.via (execIrqhFlush (off / 4) s) else s).deliverAll
  else if 0x80 ≤ off && off < 0xC0 then s.via (execIrqhDone ((off - 0x80) / 4) (w % 2 ^ 11) s)
  else if 0x200 ≤ off && off < 0x300 then s.deliverAll
  else match off with
    | 0x300 => s.via (execIrqhMaskSet (w % 2 ^ 11) s)
    | 0x304 => s.via (execIrqhMaskClr (w % 2 ^ 11) s)
    | _ => s

/-- The commands of the EVT block (R576, R586, R589, R591). -/
def State.evtCommand (s : State) (off w : Nat) : State :=
  match off with
  | 0x04 => if bit w 12 then s.via (execEvtFlush s) else s
  | 0x20 => s.via (execEvtRdSelWrite (w % 2 ^ 16) s)
  | 0x84 => match w % 4 with
    | 1 => s.via (execDumpRecords s)
    | 2 => s.via (execDumpLifetime s)
    | 3 => s.via (execDumpFireCounts s)
    | _ => s
  | 0x130 => if bit w 0 then s.via (execEvtPersistSave s) else s
  | _ => s

/-- What a write to a register of the package view does beside setting fields. `slot` is the write's 32 bits: the slots of an envelope keep
their parity (R5, R183). -/
def State.packCommand (s : State) (a slot : Nat) : State :=
  let off := a % 0x10000
  let w := slot % 2 ^ 24
  match a / 0x10000 with
  | 1 => match off with
    | 0x20 => s.via (execEpochCommit (bit w 0) (bit w 1) s)
    | 0x28 => s.via (execEpochCancel w s)
    | 0x3C => s.via (execEpochZero w s)
    | 0x68 => s.via (execSnapReq (bit w 0) s)
    | _ => s
  | 2 => if off = 0x20 then s.via (execStructFifoWrite (BitVec.ofNat 24 w) s) else s
  | 3 =>
    if off = 4 then (if bit w 0 then s.via (execAuthSubmit s.clk s) else s)
    else if 0x100 ≤ off && off < 0x200 then s.onAuth fun x => { x with env := tset x.env ((off - 0x100) / 4) slot }
    else s
  | 4 => if off = 0x10 then s.winCommand w else s
  | 5 =>
    if 0x800 ≤ off && off < 0xC00 then s.via (execDoorbell ((off - 0x800) / 4) (w % 2 ^ 16) s)
    else if 0x400 ≤ off && s.ringHolds a 0 then s.baseErr (ringOf a)
    else s
  | 7 => s.irqhCommand off w
  | 8 => match off with
    | 0x00 => s.via (execTimeSrcWrite (w % 4) s.clk s)
    | 0x18 => s.via (execTimeSet (s.rd (F.TIME_SET_TIME 0) + 2 ^ 24 * s.rd (F.TIME_SET_TIME 1) + 2 ^ 48 * (w % 2 ^ 16)) s.clk s)
    | 0x1C => s.via (execTimeAdj w s.clk s)
    | _ => s
  | 0xA =>
    if off = 0xB0 then (if bit w 0 then s.via (execMtrSubmit s.clk s) else s)
    else if 0x1000 ≤ off && off < 0x1100 then { s with meter := { s.meter with env := tset s.meter.env ((off - 0x1000) / 4) slot } }
    else s
  | 0xB => s.evtCommand off w
  | 0xD => if off != 0x148 then s else match w % 4 with
    | 1 => s.via (execHlthClearNozzle s)
    | 2 => s.via (execHlthClearHead s)
    | 3 => s.via (execHlthClearAll s)
    | _ => s
  | 0xE => match off with
    | 0x08 => s.via (execCalReq (w % 2 ^ 16) (bits w 16 8) s)
    | 0x18 => match w % 4 with
      | 1 => s.via (execCalExport s)
      | 2 => s.via (execCalImport s)
      | _ => s
    | _ => s
  | 0x10 => s.bootCommand off w
  | _ => s

/-- What a write to a register of a die view does beside setting or staging fields. Whether a strobe ball is stuck high as its fault is
cleared is a free value. -/
def State.dieCommand (s : State) (d a w : Nat) : State :=
  let off := a % 0x10000
  let word : Word := BitVec.ofNat 24 w
  match addrBlock a with
  | 2 => if off = 0x104 then s.via (execRasNzDataAccess d (some word) s) else s
  | 3 =>
    if 0x80 ≤ off && off < 0xA0 && bit w 3 then
      let (high, s) := s.draw 1
      s.via (execGroupFaultClear (8 * d + (off - 0x80) / 4) (high = 1) s)
    else s
  | 4 => if off = 0x374 && bit w 7 then s.via (execMemRead d (w % 2 ^ 7) s) else s
  | 5 => match off with
    | 0xE4 => s.via (execCamArchQWrite d (w % 2 ^ 16) (bits w 16 8) s)
    | 0xE8 => if bit w 0 then s.via (execCamArchReq d s) else s
    | 0x104 => s.via (execCamInitDataAccess d (some word) s)
    | 0x10C => if bit w 0 then s.via (execCamRawGo d (bit w 1) s) else s
    | _ => s
  | 6 =>
    if 0x400 ≤ off && off % 0x40 = 0 then
      let x := 4 * d + (off - 0x400) / 0x40
      let s := if bit w 4 then s.via (execStallClear x s) else s
      if bit w 5 then s.via (execFollowLagClear x s) else s
    else s
  | 8 => if off = 0x1C && bit w 2 then s.via (execMemCmdRetire d (w % 4) s) else s
  | 9 => if off = 0xC20 then s.via (execIrqSet d (w % 2 ^ 8) s) else s
  | 0xA => if off = 0x14 then s.via (execLedDataAccess d (some word) s) else s
  | 0xD =>
    if off = 0xC && bit w 1 then
      let (stuck, s) := s.draw 8
      s.via (execHotFenceClear d ((List.range 8).filter (fun i => bit stuck i)) s)
    else s
  | _ => s

/-- A field that a command sets or clears by its own rule. -/
def commandField (a lo : Nat) : Bool :=
  let off := a % 0x10000
  match addrDie a with
  | none => (a = F.TIME_CTL_SRC.addr && lo = 0) || a = F.TIME_ADJ_RATE.addr || (a / 0x10000 = 7 && off < 0x40 && lo = 0)
  | some _ => match addrBlock a with
    | 3 => 0x80 ≤ off && off < 0xA0 && lo = 3
    | 6 => 0x400 ≤ off && off % 0x40 = 0 && (lo = 4 || lo = 5)
    | 0xD => off = 0xC && lo = 1
    | _ => false

/-! Fields that a write sets, clears or stages (R10). -/

/-- What an ST field stages, where the range of one field hangs on another of its register: K of HLTH_KM stays at or below M, and TCRIT of MON_TLIM
5 above TWARN. -/
def stagedFrom (a w : Nat) (f : FDesc) : Nat :=
  if a = F.HLTH_KM_K.addr && f.lo = 0 then min (f.from w) (min 8 (max 1 (bits w 4 4)))
  else if 0x800000 ≤ a && addrBlock a = 0xD && a % 0x10000 = 4 && f.lo = 8 then max (f.from w) (min 120 (max 60 (w % 2 ^ 8)) + 5)
  else f.from w

/-- The registers that a staged write reaches: the package-wide WEB fields stand in every fitted die's view (R51, R291). -/
def State.stageTargets (s : State) (a : Nat) : List Nat :=
  if webFields a then
    (List.range s.dies).map (fun d => dieAt d (a % 0x100000))
  else [a]

/-- Stages a field (R51). -/
def State.stageField (s : State) (a w : Nat) (f : FDesc) : State :=
  (s.stageTargets a).foldl (fun s b => s.stageOn (stageDie b) (f.fld b).key (stagedFrom a w f)) s

/-- What a write does to one field by its type (R10). -/
def State.writeField (s : State) (a w : Nat) (f : FDesc) : State :=
  if commandField a f.lo then s
  else if f.isST then s.stageField a w f
  else match f.kind with
    | .rw => if s.ringHolds a f.lo then s else s.wr (f.fld a) (f.from w)
    | .w1c => s.wr (f.fld a) (s.rd (f.fld a) - (s.rd (f.fld a) &&& bits w f.lo f.width))
    | .wo => if a = F.WIN_CMD_LO_INDEX.addr then s.wr (f.fld a) (f.from w) else s
    | _ => s

/-- The EN request of a register of the package view (R36). -/
def State.writeEn (s : State) (a w : Nat) : State :=
  if (fieldsAt a).any (fun f => decide (f.kind = .en)) then
    match blockAt a with
    | some b => s.enWrite b (bit w 0)
    | none => s
  else s

/-- Row delays and ADV are judged on the pacers whose LEAD_eff differs from what it was (R274, R276, R316). -/
def State.judgeLeads (s old : State) : State :=
  (List.range (2 * s.dies)).foldl (fun s p =>
    if s.leadEff p = old.leadEff p then s
    else ((s.judgeClamp p).judgeSkips p (old.delaysNow p)).judgeAdv p ((s.dieLine (p / 2) : Int) - s.delay (.bar p)) false) s

/-- A write of one register takes effect: its fields, then EN, then the command it carries. -/
def State.writeReg (s : State) (a slot : Nat) : State :=
  let w := slot % 2 ^ 24
  if s.ringless a then s else
  let old := s
  let s := ((fieldsAt a).foldl (fun s f => s.writeField a w f) s).writeEn a w
  let s := if a = F.EPOCH_MIN_LEAD_LEAD.addr then s.judgeLeads old else s
  match addrDie a with
  | none => s.packCommand a slot
  | some d => s.dieCommand d a w

/-- A register has a field that a write reaches. -/
def writable (a : Nat) : Bool := (fieldsAt a).any (fun f => f.isST || f.kind = .rw || f.kind = .wo)

/-- A word of a writable pair is held until the highest is written, and all take effect then (R8). -/
def State.writePair (s : State) (a slot : Nat) : State :=
  match pairAt a with
  | none => s.writeReg a slot
  | some (i, n) =>
    if !writable a then s.writeReg a slot
    else if i + 1 < n then s.onHost fun h => { h with pairHeld := (a, slot) :: h.pairHeld.filter (fun e => e.1 != a) }
    else
      let low := (List.range i).map (fun j => a - 4 * (i - j))
      let held := low.filterMap (fun b => (s.host.pairHeld.find? (fun e => e.1 = b)))
      let s := s.onHost fun h => { h with pairHeld := h.pairHeld.filter (fun e => !low.contains e.1) }
      (held.foldl (fun s e => s.writeReg e.1 e.2) s).writeReg a slot

/-- A BAR0 write of one 32-bit slot, or of part of it or of more than it (R3, R9, R32, R133). -/
def State.busWrite (s : State) (a slot : Nat) (whole : Bool) : State :=
  if s.absent a || !whole || a % 4 != 0 then s.busDiscard a else s.served a (s.writePair a slot)

/-- R10: a BAR0 write to a register. `whole` tells that it writes one slot with all its bytes (R9). -/
def execRegisterWrite (a : Nat) (whole : Bool) (slot : Word32) (s : State) : Host.Outcome State Fault Refusal :=
  .next (s.busWrite a slot.toNat whole)

/-- RAS_NZ_DATA of a die, whose fields are staged under the address in RAS_NZ_ADDR (R281, R284). -/
def nozzlePort (a : Nat) : Bool := (addrDie a).isSome && addrBlock a = 2 && a % 0x10000 = 0x104

/-- R51, R52, R281: a BAR0 write to a register with ST fields stages them. -/
def execStagedWrite (a : Nat) (w : Word) (s : State) : Host.Outcome State Fault Refusal :=
  .next (if (fieldsAt a).any FDesc.isST || nozzlePort a then s.busWrite a w.toNat true else s)

/-! Reads. -/

/-- A read that is a command of its own (R140, R267, R376, R415, R426, R480, R614). -/
def State.portRead (s : State) (a : Nat) : Option State :=
  let off := a % 0x10000
  match addrDie a with
  | none => match a / 0x10000 with
    | 7 => if 0x40 ≤ off && off < 0x80 then some (s.via (execIrqhClaim ((off - 0x40) / 4) s)) else none
    | 0xD => if off = 0x144 then some (s.via (execHlthNzDataRead s)) else none
    | 0x10 => if off = 0xC8 then some (s.via (execSpwDataAccess false 0 s)) else none
    | _ => none
  | some d => match addrBlock a with
    | 2 => if off = 0x104 then some (s.via (execRasNzDataAccess d none s)) else none
    | 5 =>
      if off = 0xDC then some (s.via (execCamTblDataRead d s))
      else if off = 0x104 then some (s.via (execCamInitDataAccess d none s))
      else none
    | 0xA => if off = 0x14 then some (s.via (execLedDataAccess d none s)) else none
    | _ => none

/-- A read of one slot, with what it does. -/
def State.busRead (s : State) (a : Nat) : Nat × State :=
  if s.absent a then (0, s)
  else match s.portRead a with
    | some t => (t.host.readData.headD 0, t)
    | none => s.readSlot a

/-- Reads slots one after the other. -/
def State.busReads (s : State) (a n : Nat) : List Nat × State :=
  match n with
  | 0 => ([], s)
  | k + 1 =>
    let (v, s) := s.busRead a
    let (l, s) := s.busReads (a + 4) k
    (v :: l, s)

/-- What a read of the host returns, and what it does. -/
def State.hostReads (s : State) (a n : Nat) : State :=
  let (l, s) := s.busReads a n
  s.onHost fun h => { h with readData := l, poisoned := false }

/-- R7: a read of the low word of a pair. -/
def execPairLowRead (a : Nat) (s : State) : Host.Outcome State Fault Refusal := .next (s.hostReads (a / 4 * 4) 1)

/-- R9, R10: a read of `len` bytes returns in full every slot that it touches, and clears the RC fields in them. -/
def execRcRead (a len : Nat) (s : State) : Host.Outcome State Fault Refusal :=
  .next (s.hostReads (a / 4 * 4) ((a + len + 3) / 4 - a / 4))

end Sys2Proof.Machine
end

