-- ==== Sys2Proof/Machine/Contexts.lean ====
section
/-! DEFINITION. The commands that arm and stop a context (R210 to R218). -/

namespace Sys2Proof.Machine

open Sys2Proof

/-- R210, R212, R215, R218: CTX_ARM. On a standby its capture waits for the active's COMMIT message (R523). -/
def execCtxArm (q : Nat) (s : State) : Host.Outcome State Fault Refusal :=
  guarded (q < s.ringCount)
    (match s.entryOf q [0x21] with
     | none => s
     | some e =>
       let j := e.ctx
       let c := s.ctx j
       match (if c.st = .ready && !s.waitsFor j then c.block else none) with
       | none => s.rejectCtx e 16 (if s.waitsFor j then 3 else c.st.code)
       | some b => match s.structCheck b with
         | some (st, n) => s.rejectCtx e st n
         | none => match s.ringBusy b with
           | some n => s.rejectCtx e 21 n
           | none =>
             if 8 ≤ (s.jobs.ctxs.filter (fun x => x.2.st = .armed)).length then s.rejectCtx e 24 0
             else if s.matched then (s.beginEntry e).standbyCapture ⟨false, false, .arm j, [], s.jobParts, s.askedLine e, false, false, s.fieldsCrc (.arm j) []⟩
             else
               let id := s.rd F.EPOCH_NEXT_ID_ID
               let a := s.askedLine e
               let line := s.lineInEffect false true a
               let (s, ok) := s.capture false false (.arm j) [] s.jobParts a false false
               if !ok then s.captureFailed e id
               else
                 let s := if s.sequences then s.sendCtx j line id false else s
                 (s.answerCtx e 0 0 id line).ctxArmed j line id)

/-- R215: CTX_STOP, accepted in RUNNING. On a standby its capture waits for the active's COMMIT message (R523). -/
def execCtxStop (q : Nat) (s : State) : Host.Outcome State Fault Refusal :=
  guarded (q < s.ringCount)
    (match s.entryOf q [0x22] with
     | none => s
     | some e =>
       let j := e.ctx
       let c := s.ctx j
       if c.st != .running then s.rejectCtx e 16 c.st.code
       else if s.matched then (s.beginEntry e).standbyCapture ⟨false, false, .stop j, [], s.jobParts, s.askedLine e, false, false, s.fieldsCrc (.stop j) []⟩
       else
         let id := s.rd F.EPOCH_NEXT_ID_ID
         let a := s.askedLine e
         let line := s.lineInEffect false true a
         let (s, ok) := s.capture false false (.stop j) [] s.jobParts a false false
         if !ok then s.captureFailed e id
         else
           let s := if s.sequences then s.sendCtx j line id true else s
           (s.addEnd j line id).answerCtx e 0 0 id line)

end Sys2Proof.Machine
end

