-- ==== Sys2Proof/Machine/Disp.lean ====
section
/-! DEFINITION. Events of the display (R607 to R613). The end of a frame is the end of its scan, before its vertical blank
(DESIGN CHOICE, notes/assumptions/60). -/

namespace Sys2Proof.Machine

open Sys2Proof

/-- Frames are scanned. -/
def State.scanning (s : State) : Bool := s.dispOn && s.rd F.DISP_STAT_LINK = 2

/-- A part of a commit that has arrived at the display applies (R609). -/
def State.applyArrived (s : State) (id : Nat) (print late : Bool) : State :=
  let s := if late then ((s.wr F.DISP_STAT_COMMIT_LATE 1).inc F.DISP_ERR_LATE).dispEvent 0x1502 [id] else s
  match s.commit? id with
  | none => s
  | some c => (s.dispApplied id (s.fieldsFor c (.block 0 0x1C) print)).partApplied c (.block 0 0x1C) print

/-- R605, R609: vertical blank begins after the active lines: the commits that arrived 50 microseconds before it apply, and the others wait
for the next. The next frame follows the blank. -/
def execDispVblank (t : Nat) (s : State) : Host.Outcome State Fault Refusal :=
  .next (let s := s.atTime t
         if !s.scanning || !s.disp.scanned then s
         else
           let s := s.onDisp fun d => { d with scanned := false, frameAt := s.clk + dispBlank d.mode }
           let met (a : Nat × Bool × Nat × Bool) : Bool := decide (a.2.2.1 + usTicks 50 ≤ s.clk)
           let due := s.disp.arrived.filter met
           let s := s.onDisp fun d => { d with arrived := (d.arrived.filter (fun a => !met a)).map (fun a => (a.1, a.2.1, a.2.2.1, true)) }
           due.foldl (fun s a => s.applyArrived a.1 a.2.1 a.2.2.2) s)

/-- The indication of a frame is reported to the meter, or does not fit (R611): `crc` is that of the rectangle as scanned out, none for the
one that the meter drew. -/
def State.reportIndication (s : State) (crc : Option Nat) : State :=
  if s.indFits then
    let v := s.meter.iseq
    let c := crc.getD ((s.meter.crcs.find? (fun e => e.1 = v)).map (·.2) |>.getD 0)
    ((s.wr F.DISP_STAT_IND_SHOWN 1).endEpisode 0x1506 0).onMeter fun m => { m with reports := m.reports ++ [(v, c)] }
  else
    let s := s.wr F.DISP_STAT_IND_SHOWN 0
    if s.inEpisode 0x1506 0 then s else (s.openEpisode 0x1506 0).dispEvent 0x1506 []

/-- The display enters self-refresh after PSR_FRAMES frames without a change (R612). -/
def State.judgeStill (s : State) : State :=
  let changed := s.disp.changed || s.disp.iseq != s.meter.iseq
  let n := if changed then 0 else s.disp.still + 1
  let s := s.onDisp fun d => { d with still := n, changed := false, iseq := s.meter.iseq }
  if s.disp.psr && s.rd F.DISP_CTL_PSR_FRAMES ≤ n then (s.wr F.DISP_STAT_LINK 3).onDisp fun d => { d with heldAt := s.clk } else s

/-- R605, R607, R608, R610 to R612: the active lines of a frame have been scanned. `late` are the pixels that had not arrived, as layer, row
and column. -/
def execDispFrameEnd (indCrc : Option Nat) (late : List Nat) (t : Nat) (s : State) : Host.Outcome State Fault Refusal :=
  .next (let s := s.atTime t
         if !s.scanning || s.disp.scanned || s.clk < s.disp.frameAt + dispActive s.disp.mode then s
         else
           let s := s.onDisp fun d => { d with scanned := true }
           let s := s.wr F.DISP_FRAME_FRAME (s.rd F.DISP_FRAME_FRAME + 1)
           let s := if late.isEmpty then s
             else ((s.wr F.DISP_STAT_UNDERFLOW 1).incBy F.DISP_ERR_UNDERFLOW late.length).windowed 0 0x1504 0 [] false (some 40)
           let s := (List.range 8).foldl (fun s r => s.judgeRect late r) s
           let s := (List.range 4).foldl (fun s k => s.layerShown k) s
           let s := s.reportIndication indCrc
           let s := (List.range 4).foldl (fun s k => s.layerLost k) s
           s.releaseShown.judgeStill)

/-- R612: a change ends the hold: waiting commits apply, and frames are scanned again. -/
def execDispPsrExit (t : Nat) (s : State) : Host.Outcome State Fault Refusal :=
  .next (let s := s.atTime t
         let change := !s.disp.arrived.isEmpty || s.disp.changed || s.disp.iseq != s.meter.iseq
         if !s.dispOn || s.rd F.DISP_STAT_LINK != 3 || !change then s
         else
           let due := s.disp.arrived
           let s := s.onDisp fun d => { d with arrived := [], still := 0, scanned := false, frameAt := s.clk }
           (due.foldl (fun s a => s.applyArrived a.1 a.2.1 false) s).wr F.DISP_STAT_LINK 2)

/-- R612: the hold of an ISEQ is reported to the meter once every 100 ms. -/
def execDispPsrReport (t : Nat) (s : State) : Host.Outcome State Fault Refusal :=
  .next (let s := s.atTime t
         if !s.dispOn || s.rd F.DISP_STAT_LINK != 3 || s.clk < s.disp.heldAt + usTicks 100000 then s
         else (s.onMeter fun m => { m with psr := some s.disp.iseq }).onDisp fun d => { d with heldAt := s.clk })

/-- R613: the link is lost while ON; `found` is the setting at which it has trained again, or nothing. -/
def execDispLinkLost (found : List Nat) (t : Nat) (s : State) : Host.Outcome State Fault Refusal :=
  .next (let s := s.atTime t
         if !s.dispOn then s
         else
           let s := s.dispLinkFail
           if s.dispTrained found then s.dispUp found else s)

end Sys2Proof.Machine
end

