-- ==== Sys2Proof/Machine/Fabric.lean ====
section
/-! DEFINITION. Failures of a die's FIRE clock (R24) and of Iareod lanes (R35, R42). -/

namespace Sys2Proof.Machine

open Sys2Proof

/-- R24: the FIRE clock of a die has been absent for 100 ns: its strobes are forced low, and its lanes send NOFIRE. -/
def execFireClockLost (d t : Nat) (s : State) : Host.Outcome State Fault Refusal :=
  guarded (d < s.dies)
    (let s := s.atTime t
     if s.press.fireLost.contains d then s
     else
       let s := s.onPress fun q => { q with fireLost := q.fireLost ++ [d] }
       (s.onGroups d fun _ x => { x.withoutStrobe with sent := [], sentNofire := true }).event d 0x0803 [])

/-- R35, R42: a lane of a port fails (the payloads are DEDUCED, notes/assumptions/112): a spare takes its place, or the port drops to 16 lanes; it retrains, and `replays` messages are sent
again. -/
def execIareodLaneFail (d p lane replays t : Nat) (s : State) : Host.Outcome State Fault Refusal :=
  guarded (d < s.dies && p < 4 && lane < 34)
    (let s := s.atTime t
     if s.rd (F.LNK_STAT_STATE d p) < 2 then s
     else
       let s := ((s.inc (F.LNK_ERR_FAILS d p)).inc (F.LNK_ERR_RETRAINS d p)).incBy (F.LNK_ERR_REPLAYS d p) replays
       let spares := s.rd (F.LNK_STAT_SPARES d p)
       if spares < 2 then (((s.wr (F.LNK_STAT_SPARES d p) (spares + 1)).event d 0x0F21 [p, lane]).life d 14 1).causeAt d 44
       else if s.rd (F.LNK_STAT_STATE d p) = 3 then s
       else (((s.wr (F.LNK_STAT_STATE d p) 3).wr (F.LNK_STAT_LANES d p) 16).event d 0x0F20 []).causeAt d 44)

end Sys2Proof.Machine
end

