-- ==== Sys2Proof/Machine/Feedback.lean ====
section
/-! DEFINITION. Events of the feedback inputs and the encoder-emulation outputs (R285 to R302). -/

namespace Sys2Proof.Machine

open Sys2Proof

/-- An input accepts edges: it is ON, WEB from the end of the ROM step, and LOS is not set (R297, R303, R304). -/
def State.inputLive (s : State) (f : Nat) : Bool :=
  let d := f / 5
  let i := f % 5
  (if i = 4 then s.boot.censused else decide (s.rd (F.FBK_CTL_STATE d i) = 2)) && !s.on (F.FBK_STAT_LOS d i)

/-- A count of an input reaches the emulation outputs, the axes that follow it and, on WEB, the pacers (R298, R308, R440). -/
def State.countEdge (s : State) (f : Nat) (back : Bool) (t stamp : Nat) : State :=
  let d := f / 5
  let i := f % 5
  let was := (s.input f).count
  let s := s.setInput f ((s.input f).counted back t (s.avg f))
  let s := if i = 4 then s.crossRound d was else s
  let s := s.emuFollow d (if i = 4 then 0 else i + 1) back
  if i != 4 then s.axesFollow d i back else if back then s.webBackward d else s.webForward d stamp

/-- An illegal transition (R292, R293): the error is counted and joins the histogram, the record waits for the end of its second, and
the count is kept or inferred. -/
def State.illegalEdge (s : State) (f : Nat) : State :=
  let d := f / 5
  let i := f % 5
  let x := s.input f
  let add : Int := if s.on (F.FBK_CTL_INFER d i) then (match x.valid with
    | some b => if b then -2 else 2
    | none => 0) else 0
  let s := s.setInput f (x.illegal s.clk (s.stillTo f) add)
  let s := ((s.inc (F.FBK_QERR_COUNT d i)).wr (F.FBK_STAT_QERR d i) 1).windowed d 0x0D01 f [i] true
  let follow (s : State) : State := s.emuFollow d (if i = 4 then 0 else i + 1) (decide (add < 0))
  let s := if add = 0 then s else follow (follow s)
  if i != 4 then (if add = 0 then s else (s.axesFollow d i (decide (add < 0))).axesFollow d i (decide (add < 0)))
  else
    let s := ((s.life d 6 1).histo d 1 (s.lineRate d / 8000)).crossRound d x.count
    let s := s.breakStamps d
    if add = 0 then s else s.ratchet d

/-- R285, R286, R289, R292, R523: the levels of A and B of input `f` (5 x die + number) are accepted as `a` and `b` at SENSE time `t`; `stamp`
is the FIRE clock at which they first appeared (R307). -/
def execFbkEdge (f : Nat) (a b : Bool) (t stamp : Nat) (s : State) : Host.Outcome State Fault Refusal :=
  guarded (f < 5 * s.dies)
    (let s := s.atTime t
     if !s.inputLive f || !s.filtered f stamp then s
     else
       let x := s.input f
       let d := f / 5
       let i := f % 5
       let s := s.setInput f { x with a := a, b := b }
       let s := match decodeLevels (if i = 4 then 0 else s.rd (F.FBK_CTL_MODE d i)) (s.on (F.FBK_CTL_INV d i)) x.a x.b a b with
         | .still => s
         | .up => s.countEdge f false t stamp
         | .down => s.countEdge f true t stamp
         | .illegal => s.illegalEdge f
       if f = 4 then s.pairMissing else s)

/-- R288, R289: a rising edge of Z is accepted: it latches the position and may zero an F input. -/
def execZEdge (f : Nat) (t : Accepted) (s : State) : Host.Outcome State Fault Refusal :=
  guarded (f < 5 * s.dies)
    (let s := s.atTime t.t
     let d := f / 5
     let i := f % 5
     let mode := s.rd (F.FBK_CTL_ZMODE d i)
     if !s.inputLive f || !s.filtered f t.stamp || mode = 0 then s
     else
       let x := s.input f
       let s := (s.wrPair (F.FBK_IDX_LO_VALUE d i) (F.FBK_IDX_HI_VALUE d i) (unsigned 48 (x.position s.clk))).wr
         (F.FBK_STAT_IDX_NEW d i) 1
       if mode = 2 && i != 4 then s.setInput f { x with count := 0 } else s)

/-- R294, R308: no edge for STILL_TO: the input is at standstill. -/
def execStandstillTimeout (f t : Nat) (s : State) : Host.Outcome State Fault Refusal :=
  guarded (f < 5 * s.dies)
    (let s := s.atTime t
     let x := s.input f
     if x.still || s.clk < x.edgeAt + s.stillTo f then s
     else
       let s := s.setInput f { x with hist := [], still := true, hold := false, valid := none }
       if f % 5 = 4 then s.breakStamps (f / 5) else s)

/-- R330: WEB of a die is lost: its pacers send NOFIRE, their pending strobes are withdrawn and the pages in progress on their bars are
rejected. -/
def State.loseWeb (s : State) (d : Nat) : State :=
  let s := s.breakStamps d
  [0, 1].foldl (fun s n =>
    let p := 2 * d + n
    let s := s.onGroups d fun g x => if s.rd (F.LNP_GRP_PACER d g) = n then x.withoutStrobe else x
    let s := if s.rd (F.LNP_CTL_STATE d n) = 0 then s else s.rejectPage p ((s.dieLine d : Int) - s.delay (.bar p)) 4 true
    s.webLost p) s

/-- R297, R620: the amplitude of A or B has stayed below the threshold for 1 microsecond; an F input found single-ended sets no LOS. -/
def execLosSet (f t : Nat) (s : State) : Host.Outcome State Fault Refusal :=
  guarded (f < 5 * s.dies)
    (let s := s.atTime t
     let d := f / 5
     let i := f % 5
     if s.on (F.FBK_STAT_LOS d i) || (i != 4 && (s.input f).single) then s
     else
       let s := ((s.wr (F.FBK_STAT_LOS d i) 1).event d 0x0D02 [i]).causeAt d 28
       if i = 4 then s.loseWeb d else s)

/-- R297, R330: the amplitude has been above the threshold for 1 ms. -/
def execLosClear (f t : Nat) (s : State) : Host.Outcome State Fault Refusal :=
  guarded (f < 5 * s.dies)
    (let s := s.atTime t
     let d := f / 5
     let i := f % 5
     if !s.on (F.FBK_STAT_LOS d i) then s
     else
       let s := (s.wr (F.FBK_STAT_LOS d i) 0).event d 0x0D03 [i]
       if i != 4 then s
       else [2 * d, 2 * d + 1].foldl (fun s p =>
         if (s.pacer p).loss = .lost then s.setPacer p { s.pacer p with loss := .cleared } else s) s)

/-- R299, R301: output `x` (2 x die + number) emits one count of its backlog, not sooner than GAP after its last edge. In step/direction mode
B, high for a count up (R285), is set 20 ns before a pulse of GAP x 2.5 ns on A. Z goes by the position, counted from the start. -/
def execEmuEmit (x t : Nat) (s : State) : Host.Outcome State Fault Refusal :=
  guarded (x < 2 * s.dies)
    (let s := s.atTime t
     let d := x / 2
     let m := x % 2
     let e := s.emu x
     let st := s.rd (F.FBK_EMU_CTL_STATE d m)
     if e.backlog = 0 || (st != 2 && st != 3) || s.clk < e.lastAt + s.rd (F.FBK_EMU_GAP_VALUE d m) then s
     else
       let back := decide (e.backlog < 0)
       let dir : Int := if back then -1 else 1
       let pos := e.pos + dir
       let zper := s.rd (F.FBK_EMU_ZPER_VALUE d m)
       let place := (pos % 4).toNat
       let step := s.on (F.FBK_EMU_CTL_MODE d m)
       let at' := if step && e.b = back then s.clk + 4 else s.clk
       s.setEmu x { e.withBacklog (e.backlog - dir) s.clk with
         pos := pos, emitted := e.emitted + 1, lastAt := at'
         a := !step && (place = 1 || place = 2)
         b := if step then !back else place = 2 || place = 3
         z := zper != 0 && pos % zper = 0
         pulse := if step then (2 * at', 2 * at' + s.rd (F.FBK_EMU_GAP_VALUE d m)) else (0, 0) })

end Sys2Proof.Machine
end

