-- ==== Sys2Proof/Machine/Zip.lean ====
section
/-! DEFINITION. The commands and events of the ZIP blocks (R234 to R252). -/

namespace Sys2Proof.Machine

open Sys2Proof

/-- A bar expands a page stream, under whatever context (R238). -/
def State.barFilling (s : State) (bar : Nat) : Bool :=
  s.jobs.streams.any (fun e => e.1 % 16 = bar && e.2.descs.any (fun p => p.st = .filling))

/-- R223, R234, R238: the oldest queued descriptor of a STREAM ring takes the lowest-numbered idle unit, when its bar expands nothing and
a page slot is free; the packet's header is checked, and one that is not of the page is answered PACKET at once and not expanded (R243). -/
def execPageStreamStart (q : Nat) (s : State) : Host.Outcome State Fault Refusal :=
  guarded (q < s.ringCount)
    (match s.binding q with
     | none => s
     | some (j, bar) =>
       let d := q / 32
       let y := s.stream j bar
       match y.descs.find? (fun p => p.st = .queued && !p.blank && !p.hold), (s.ctx j).block, s.idleUnit d, y.freeSlot with
       | some p, some b, some u, some slot =>
         if !s.zipOn d || s.barFilling bar then s
         else if s.refStatus p.buf p.gen != 0 then s.setStream j bar (y.setDesc p.ring p.seq fun p => { p with st := .reclaimed })
         else
           let s := s.hold p.buf
           let a := (s.buf p.buf).addr + 256 * p.offset
           let h := s.packetHead a
           let pacer := (s.ld.current.pacerOf bar).getD 0
           let lb := s.lineBytes pacer ((s.ctx j).start + p.page * b.pageLines : Nat) (b.plane bar).code
           let inside := a + 64 + h.inLen ≤ (s.buf p.buf).addr + (s.buf p.buf).bytes
           let page := !h.use && bits (h.ws.getD 1 0) 8 4 = bar && h.ws.getD 2 0 = 0 && h.ws.getD 3 0 = b.pageLines - 1 &&
             h.outSize = b.pageLines * lb
           if h.ok && inside && !page then
             ((s.setStream j bar (y.setDesc p.ring p.seq fun p => { p with st := .packet })).release p.buf 0 p.tag).answerPage j p 22 0 0 0
           else
             let y := y.setDesc p.ring p.seq fun p => { p with st := .filling, slot := some slot }
             let s := s.setStream j bar { y with slots := tset y.slots slot ⟨[], 0, lb⟩ }
             s.runUnit d u { DUnit.none with stream := 16 * j + bar, ring := p.ring, seq := p.seq, tag := p.tag, inBuf := p.buf, lineBytes := lb, slot := slot } a
       | _, _, _, _ => s)

/-- R234, R238: the WORK stream that has waited longest takes an idle unit, while fewer than WORK_MAX units are on WORK. -/
def execWorkStreamStart (d : Nat) (s : State) : Host.Outcome State Fault Refusal :=
  guarded (d < s.dies)
    (match takeFirst (fun e => decide (e.1 = d)) s.zip.dwait, s.idleUnit d with
     | some ((_, x), rest), some u =>
       if !s.zipOn d || s.rd (F.ZIP_CTL_WORK_MAX d) ≤ s.onWork d then s
       else
         let s := s.onZip fun z => { z with dwait := rest }
         let ref (i : Nat) : Nat := s.refStatus i (s.buf i).gen
         let bad := if ref x.inBuf != 0 then ref x.inBuf else if x.ring != 0xFFFF && ref x.outBuf != 0 then ref x.outBuf else 0
         if bad != 0 then
           (if x.ring = 0xFFFF then s.refuseImport 1 0 else ((s.letGo x.inBuf).letGo x.outBuf).answerWork x.ring x.seq bad 0 0 0)
         else s.runUnit d u x (x.outSize + (s.buf x.inBuf).addr)
     | _, _ => s)

/-- R240, R241: a unit has decoded `dec` bytes, of which the first `n` are now in SDRAM; a full staging buffer suspends it. -/
def execStagingWritten (d u dec n : Nat) (s : State) : Host.Outcome State Fault Refusal :=
  guarded (d < s.dies && u < 8)
    (let x := s.dunit d u
     if !(x.st = .run || x.st = .suspended) then s
     else
       let n := min x.limit (max x.written n)
       let dec := min (min x.limit (n + 4096)) (max (max x.decoded n) (if x.st = .run then dec else 0))
       let full := x.st = .run && dec = n + 4096 && dec < x.result.out.length && dec < x.outSize
       let s := s.stage d u dec n
       if full then (s.setDUnit d u { s.dunit d u with st := .suspended }).inc (F.ZIP_SUSP_COUNT d) else s)

/-- R241: space appears in the staging buffer of a suspended unit, and it resumes. -/
def execStagingSpace (d u : Nat) (s : State) : Host.Outcome State Fault Refusal :=
  guarded (d < s.dies && u < 8)
    (let x := s.dunit d u
     if x.st = .suspended && x.decoded < x.written + 4096 then s.setDUnit d u { x with st := .run } else s)

/-- Bytes in SDRAM when a unit has decoded all it can: the staging buffer holds the last 4 KiB at most (R241). -/
def DUnit.reached (x : DUnit) : Nat := max x.written (x.limit - 4096)

/-- R236, R240, R242: a running unit finds a stream error, would exceed OUT_SIZE, or (`ecc`) reads uncorrectable input. -/
def execDecompStreamError (d u : Nat) (ecc : Bool) (s : State) : Host.Outcome State Fault Refusal :=
  guarded (d < s.dies && u < 8)
    (let x := s.dunit d u
     if x.st != .run then s
     else if ecc then s.abortUnit d u 13
     else if x.outSize < x.result.out.length then (s.stage d u x.outSize x.reached).abortUnit d u 10
     else if x.result.err != 0 then (s.stage d u x.limit x.reached).abortUnit d u x.result.err
     else s)

/-- R240, R243: the final block ends, and size, trailing bytes and CRC are checked. -/
def execDecompStreamEnd (d u : Nat) (s : State) : Host.Outcome State Fault Refusal :=
  guarded (d < s.dies && u < 8)
    (let x := s.dunit d u
     if x.st != .run || x.result.err != 0 || x.outSize < x.result.out.length then s
     else
       let s := s.stage d u x.limit x.limit
       if x.result.out.length < x.outSize then s.abortUnit d u 11
       else if x.result.used < x.inLen then s.abortUnit d u 9
       else if crc32 x.result.out != x.crc then s.abortUnit d u 12
       else (s.finishUnit d u).judgeReady)

/-! WORK rings. -/

/-- What a WORK entry finds of a buffer (R252): 0, STALE, OWNER, RECLAIMED or HOME. -/
def State.workRef (s : State) (q w : Nat) : Nat :=
  let i := bits w 0 16
  match s.refStatus i (bits w 16 8) with
  | 0 => if s.home (s.buf i) = q / 32 then 0 else 19
  | st => st

/-- R252: a DECOMP entry of a WORK ring queues an expansion. -/
def execWorkDecomp (q : Nat) (s : State) : Host.Outcome State Fault Refusal :=
  guarded (q < s.ringCount)
    (match s.entryOf q [0x30] with
     | none => s
     | some e =>
       let w (i : Nat) : Nat := e.words.getD i 0
       let bad := if s.workRef q (w 2) != 0 then s.workRef q (w 2) else s.workRef q (w 4)
       if bad != 0 then s.answer e bad []
       else
         let out := bits (w 4) 0 16
         let x : DUnit := { DUnit.none with
           st := .header, work := true, ring := q, seq := e.seq, tag := w 1, inBuf := bits (w 2) 0 16, outBuf := out,
           outAddr := (s.buf out).addr + 256 * w 5, outSize := 256 * w 3 }
         (((s.beginEntry e).hold x.inBuf).hold out).onZip fun z => { z with dwait := z.dwait ++ [(q / 32, x)] })

/-- R252: a COMP entry of a WORK ring queues a compression. -/
def execWorkComp (q : Nat) (s : State) : Host.Outcome State Fault Refusal :=
  guarded (q < s.ringCount)
    (match s.entryOf q [0x31] with
     | none => s
     | some e =>
       let w (i : Nat) : Nat := e.words.getD i 0
       let level := bits (w 7) 0 4
       let bad := if s.workRef q (w 2) != 0 then s.workRef q (w 2) else if s.workRef q (w 6) != 0 then s.workRef q (w 6)
         else if level < 1 || 9 < level then 20 else 0
       if bad != 0 then s.answer e bad []
       else
         let i := bits (w 2) 0 16
         let len := w 4 + 2 ^ 24 * w 5
         let range := 256 * w 3 + len ≤ (s.buf i).bytes
         let input := if range then s.loadBytes ((s.buf i).addr + 256 * w 3) len else []
         let j : CJob := ⟨.work q e.seq, w 1, level, input, some i, [(bits (w 6) 0 16, 0)], !range⟩
         (((s.beginEntry e).hold i).hold (bits (w 6) 0 16)).onZip fun z => { z with cwait := z.cwait ++ [(q / 32, j)] })

/-- A compression of a WORK ring with a TAG. -/
def CJob.isWork (j : CJob) (q tag : Nat) : Bool :=
  match j.owner with
  | .work ring _ => ring = q && j.tag = tag
  | _ => false

/-- R252: a COMP_MORE entry adds a buffer to the chain of an open compression. -/
def execWorkCompMore (q : Nat) (s : State) : Host.Outcome State Fault Refusal :=
  guarded (q < s.ringCount)
    (match s.entryOf q [0x32] with
     | none => s
     | some e =>
       let tag := e.words.getD 2 0
       let b := e.words.getD 3 0
       let chainOf : Option (List (Nat × Nat)) :=
         match (s.zip.cunits.find? (fun x => x.2.job.any (fun j => j.isWork q tag))).bind (fun x => x.2.job) with
         | some j => some j.chain
         | none => ((s.zip.cwait.find? (fun x => x.2.isWork q tag)).map (fun x => x.2.chain))
       match chainOf with
       | none => s.answer e 18 []
       | some chain =>
         if s.workRef q b != 0 then s.answer e (s.workRef q b) []
         else if 16 ≤ chain.length then s.answer e 17 []
         else
           let more (j : CJob) : CJob := if j.isWork q tag then { j with chain := j.chain ++ [(bits b 0 16, 0)] } else j
           ((s.hold (bits b 0 16)).onZip fun z =>
             { z with
               cunits := z.cunits.map (fun x => (x.1, { x.2 with job := x.2.job.map more }))
               cwait := z.cwait.map (fun x => (x.1, more x.2)) }).answer e 0 [])

/-- The waiting compression that a unit takes next (R251): C-unit 0 takes the Rangar's own producers first, C-unit 1 WORK entries. -/
def State.nextComp (s : State) (d u : Nat) : Option ((Nat × CJob) × List (Nat × CJob)) :=
  let producer (j : CJob) : Bool := match j.owner with
    | .work _ _ => false
    | _ => true
  match takeFirst (fun e => decide (e.1 = d) && (producer e.2 = decide (u = 0))) s.zip.cwait with
  | some r => some r
  | none => takeFirst (fun e => decide (e.1 = d)) s.zip.cwait

/-- The status of a buffer that a waiting compression names and may no longer use (R165). -/
def State.workLost (s : State) (j : CJob) : Option Nat :=
  ((j.inBuf.toList ++ j.chain.map (·.1)).map (fun i => s.refStatus i (s.buf i).gen)).find? (· != 0)

/-- R251: an idle compressor unit takes its next waiting work. -/
def execProducerCompressStart (d u : Nat) (s : State) : Host.Outcome State Fault Refusal :=
  guarded (d < s.dies && u < 2)
    (match s.nextComp d u with
     | none => s
     | some ((_, j), rest) =>
       if !s.zipOn d || (s.cunit d u).job.isSome then s
       else
         let s := s.onZip fun z => { z with cwait := rest }
         match j.owner, s.workLost j with
         | .work ring seq, some st => ((j.inBuf.toList ++ j.chain.map (·.1)).foldl (fun s i => s.letGo i) s).answerWork ring seq st 0 0 0
         | _, _ => if j.bad then (s.setCUnit d u { CUnit.none with job := some j, level := j.level }).abortComp d u 16 else s.startComp d u j)

/-- R248, R391: output space appears for a stalled compressor: a longer chain, or the next archive buffer of the camera. -/
def execCompOutputSpace (d u : Nat) (s : State) : Host.Outcome State Fault Refusal :=
  guarded (d < s.dies && u < 2)
    (let x := s.cunit d u
     match x.job with
     | none => s
     | some j =>
       if !x.stalled then s
       else
         let next := match j.owner with
           | .archive c => if j.chain.length < 16 then (s.cam c).archQ.head? else none
           | _ => none
         match next, j.owner with
         | some b, .archive c =>
           let s := s.onCam c fun k => { k with archQ := k.archQ.drop 1 }
           (s.setCUnit d u { x with job := some { j with chain := j.chain ++ [(b.1, 0)] } }).pumpComp d u
         | _, _ => s.pumpComp d u)

/-- R248, R250: a stall has lasted STALL_TO: that of a full chain, or one because the SDRAM write path took nothing. -/
def execCompStallTimeout (d : Nat) (u : Stall) (s : State) : Host.Outcome State Fault Refusal :=
  guarded (d < s.dies && u.unit < 2)
    (let s := s.atTime u.t
     let x := s.cunit d u.unit
     if u.busy || (x.stalled && decide (x.stalledAt + usTicks (1000 * x.stallMs) ≤ s.clk)) then s.cutComp d u.unit 15 else s)

/-- R247, R249: a compression ends: the header is written and the chain released. -/
def execCompClose (d u : Nat) (s : State) : Host.Outcome State Fault Refusal :=
  guarded (d < s.dies && u < 2)
    (let x := s.cunit d u
     match x.job with
     | none => s
     | some j =>
       if x.stalled then s
       else
         let s := s.writeChain j.chain (packetBytes j.input.length (x.out.length - 64) (crc32 j.input) ++ x.out.drop 64)
         ((s.setCUnit d u CUnit.none).releaseChain j x.out.length).tellOwner j 0 x.out.length)

end Sys2Proof.Machine
end

