-- ==== Sys2Proof/Machine/Dispatch.lean ====
section
/-! DEFINITION. One arm for each command: its meaning. -/

namespace Sys2Proof.Machine

open Sys2Proof

def exec (i : Instr) (s : State) : Host.Outcome State Fault Refusal :=
  match i with
  | .registerWrite a whole slot => Sys2Proof.Machine.execRegisterWrite a whole slot s
  | .pairLowRead a => Sys2Proof.Machine.execPairLowRead a s
  | .rcRead a len => Sys2Proof.Machine.execRcRead a len s
  | .rateWindowEnd code key => Sys2Proof.Machine.execRateWindowEnd code key s
  | .episodeQuietEnd code key => Sys2Proof.Machine.execEpisodeQuietEnd code key s
  | .enWrite b en => Sys2Proof.Machine.execEnWrite b en s
  | .startComplete b found t => Sys2Proof.Machine.execStartComplete b found t s
  | .startBoundExceeded b t => Sys2Proof.Machine.execStartBoundExceeded b t s
  | .shutdownComplete b t => Sys2Proof.Machine.execShutdownComplete b t s
  | .stopBoundExceeded b t => Sys2Proof.Machine.execStopBoundExceeded b t s
  | .fireClockLost d t => Sys2Proof.Machine.execFireClockLost d t s
  | .iareodLaneFail d p lane replays t => Sys2Proof.Machine.execIareodLaneFail d p lane replays t s
  | .epochZero key => Sys2Proof.Machine.execEpochZero key s
  | .stagedWrite a w => Sys2Proof.Machine.execStagedWrite a w s
  | .epochCommit safe snap => Sys2Proof.Machine.execEpochCommit safe snap s
  | .commitApply id k print t => Sys2Proof.Machine.execCommitApply id k print t s
  | .commitComplete id t => Sys2Proof.Machine.execCommitComplete id t s
  | .epochCancel id => Sys2Proof.Machine.execEpochCancel id s
  | .snapReq now => Sys2Proof.Machine.execSnapReq now s
  | .snapshotLatch d t => Sys2Proof.Machine.execSnapshotLatch d t s
  | .snapshotTimed t => Sys2Proof.Machine.execSnapshotTimed t s
  | .encRoundOpen t => Sys2Proof.Machine.execEncRoundOpen t s
  | .encRoundLatch silent t => Sys2Proof.Machine.execEncRoundLatch silent t s
  | .encRoundJudge t => Sys2Proof.Machine.execEncRoundJudge t s
  | .encRoundDeadline t => Sys2Proof.Machine.execEncRoundDeadline t s
  | .structLoad => Sys2Proof.Machine.execStructLoad s
  | .structFifoWrite w => Sys2Proof.Machine.execStructFifoWrite w s
  | .imageWordReceived t => Sys2Proof.Machine.execImageWordReceived t s
  | .structVerifyDone t => Sys2Proof.Machine.execStructVerifyDone t s
  | .structBanksSwitched t => Sys2Proof.Machine.execStructBanksSwitched t s
  | .structStoreDone written t => Sys2Proof.Machine.execStructStoreDone written t s
  | .structFifoTimeout t => Sys2Proof.Machine.execStructFifoTimeout t s
  | .resetAssert t => Sys2Proof.Machine.execResetAssert t s
  | .railFault t => Sys2Proof.Machine.execRailFault t s
  | .resetRelease t => Sys2Proof.Machine.execResetRelease t s
  | .dieCensusDone failed t => Sys2Proof.Machine.execDieCensusDone failed t s
  | .bootFlashReadDone bad t => Sys2Proof.Machine.execBootFlashReadDone bad t s
  | .speedwellEntry t => Sys2Proof.Machine.execSpeedwellEntry t s
  | .sdramTrainingDone d trained failed stale t => Sys2Proof.Machine.execSdramTrainingDone d trained failed stale t s
  | .eccInitDone d bad t => Sys2Proof.Machine.execEccInitDone d bad t s
  | .fireCountRestoreDone ok t => Sys2Proof.Machine.execFireCountRestoreDone ok t s
  | .bootAgreeRetry t => Sys2Proof.Machine.execBootAgreeRetry t s
  | .fullService t => Sys2Proof.Machine.execFullService t s
  | .bootRetry => Sys2Proof.Machine.execBootRetry s
  | .bootResume => Sys2Proof.Machine.execBootResume s
  | .bootBbSave => Sys2Proof.Machine.execBootBbSave s
  | .bootBbSaveDone t => Sys2Proof.Machine.execBootBbSaveDone t s
  | .tickleBurst d f => Sys2Proof.Machine.execTickleBurst d f s
  | .speedwellLine d f => Sys2Proof.Machine.execSpeedwellLine d f s
  | .spwDataAccess write w => Sys2Proof.Machine.execSpwDataAccess write w s
  | .pwrWarnAssert t => Sys2Proof.Machine.execPwrWarnAssert t s
  | .powerDown t => Sys2Proof.Machine.execPowerDown t s
  | .pwrWarnDeassert t => Sys2Proof.Machine.execPwrWarnDeassert t s
  | .bootReset w => Sys2Proof.Machine.execBootReset w s
  | .pcieReset => Sys2Proof.Machine.execPcieReset s
  | .bar2Write addr data => Sys2Proof.Machine.execBar2Write addr data s
  | .bar2Read addr len poisoned => Sys2Proof.Machine.execBar2Read addr len poisoned s
  | .winDefine idx => Sys2Proof.Machine.execWinDefine idx s
  | .winGive idx gen => Sys2Proof.Machine.execWinGive idx gen s
  | .winReclaim idx gen => Sys2Proof.Machine.execWinReclaim idx gen s
  | .winUndefine idx gen => Sys2Proof.Machine.execWinUndefine idx gen s
  | .winBadOp idx op => Sys2Proof.Machine.execWinBadOp idx op s
  | .giveEffective idx => Sys2Proof.Machine.execGiveEffective idx s
  | .bufferRelease => Sys2Proof.Machine.execBufferRelease s
  | .releaseScan => Sys2Proof.Machine.execReleaseScan s
  | .doorbell q v => Sys2Proof.Machine.execDoorbell q v s
  | .ringEntryRead q => Sys2Proof.Machine.execRingEntryRead q s
  | .nop q => Sys2Proof.Machine.execNop q s
  | .recordPost => Sys2Proof.Machine.execRecordPost s
  | .authSubmit t => Sys2Proof.Machine.execAuthSubmit t s
  | .authLockEnd => Sys2Proof.Machine.execAuthLockEnd s
  | .authHwmWritten => Sys2Proof.Machine.execAuthHwmWritten s
  | .keyRotate => Sys2Proof.Machine.execKeyRotate s
  | .factoryReset => Sys2Proof.Machine.execFactoryReset s
  | .markSet written => Sys2Proof.Machine.execMarkSet written s
  | .headLimits written => Sys2Proof.Machine.execHeadLimits written s
  | .mgmtRead seq off count => Sys2Proof.Machine.execMgmtRead seq off count s
  | .mgmtEnvelope seq slots => Sys2Proof.Machine.execMgmtEnvelope seq slots s
  | .ethLinkDown t => Sys2Proof.Machine.execEthLinkDown t s
  | .ethLinkUp t => Sys2Proof.Machine.execEthLinkUp t s
  | .ctxLoad q => Sys2Proof.Machine.execCtxLoad q s
  | .ctxValidated j noMem => Sys2Proof.Machine.execCtxValidated j noMem s
  | .ctxArm q => Sys2Proof.Machine.execCtxArm q s
  | .ctxStop q => Sys2Proof.Machine.execCtxStop q s
  | .ctxUnload q => Sys2Proof.Machine.execCtxUnload q s
  | .jobRetired j => Sys2Proof.Machine.execJobRetired j s
  | .pageDescriptor q => Sys2Proof.Machine.execPageDescriptor q s
  | .pageDone q => Sys2Proof.Machine.execPageDone q s
  | .pageStreamStart q => Sys2Proof.Machine.execPageStreamStart q s
  | .workStreamStart d => Sys2Proof.Machine.execWorkStreamStart d s
  | .stagingSpace d u => Sys2Proof.Machine.execStagingSpace d u s
  | .stagingWritten d u dec n => Sys2Proof.Machine.execStagingWritten d u dec n s
  | .decompStreamError d u ecc => Sys2Proof.Machine.execDecompStreamError d u ecc s
  | .decompStreamEnd d u => Sys2Proof.Machine.execDecompStreamEnd d u s
  | .workDecomp q => Sys2Proof.Machine.execWorkDecomp q s
  | .workComp q => Sys2Proof.Machine.execWorkComp q s
  | .workCompMore q => Sys2Proof.Machine.execWorkCompMore q s
  | .producerCompressStart d u => Sys2Proof.Machine.execProducerCompressStart d u s
  | .compOutputSpace d u => Sys2Proof.Machine.execCompOutputSpace d u s
  | .compStallTimeout d u => Sys2Proof.Machine.execCompStallTimeout d u s
  | .compClose d u => Sys2Proof.Machine.execCompClose d u s
  | .rasLineBegin p t => Sys2Proof.Machine.execRasLineBegin p t s
  | .rasNzDataAccess d data => Sys2Proof.Machine.execRasNzDataAccess d data s
  | .fbkEdge f a b t stamp => Sys2Proof.Machine.execFbkEdge f a b t stamp s
  | .zEdge f t => Sys2Proof.Machine.execZEdge f t s
  | .standstillTimeout f t => Sys2Proof.Machine.execStandstillTimeout f t s
  | .losSet f t => Sys2Proof.Machine.execLosSet f t s
  | .losClear f t => Sys2Proof.Machine.execLosClear f t s
  | .emuEmit x t => Sys2Proof.Machine.execEmuEmit x t s
  | .lineTrigger g f sof bad => Sys2Proof.Machine.execLineTrigger g f sof bad s
  | .strobeFire g f => Sys2Proof.Machine.execStrobeFire g f s
  | .strobeWithdraw g f => Sys2Proof.Machine.execStrobeWithdraw g f s
  | .rejectSpanStart => Sys2Proof.Machine.execRejectSpanStart s
  | .rejectSpanEnd => Sys2Proof.Machine.execRejectSpanEnd s
  | .strobeCut g width => Sys2Proof.Machine.execStrobeCut g width s
  | .strobeStuck g => Sys2Proof.Machine.execStrobeStuck g s
  | .periodGuard g interval => Sys2Proof.Machine.execPeriodGuard g interval s
  | .groupFaultClear g high => Sys2Proof.Machine.execGroupFaultClear g high s
  | .pacerTickle g f => Sys2Proof.Machine.execPacerTickle g f s
  | .linkRetryTimer g t => Sys2Proof.Machine.execLinkRetryTimer g t s
  | .clockSettled g t => Sys2Proof.Machine.execClockSettled g t s
  | .trainedReceived g aligned rate t => Sys2Proof.Machine.execTrainedReceived g aligned rate t s
  | .trainTimeout g t => Sys2Proof.Machine.execTrainTimeout g t s
  | .memdataReceived g addr data t => Sys2Proof.Machine.execMemdataReceived g addr data t s
  | .identTimeout g t => Sys2Proof.Machine.execIdentTimeout g t s
  | .identReread g t => Sys2Proof.Machine.execIdentReread g t s
  | .statusReceived g st flags headT adaptT epoch lcrc t => Sys2Proof.Machine.execStatusReceived g st flags headT adaptT epoch lcrc t s
  | .statusTimeout g t => Sys2Proof.Machine.execStatusTimeout g t s
  | .returnCodeViolations g n => Sys2Proof.Machine.execReturnCodeViolations g n s
  | .returnPacketBad g => Sys2Proof.Machine.execReturnPacketBad g s
  | .activeSend g t => Sys2Proof.Machine.execActiveSend g t s
  | .memRead d count => Sys2Proof.Machine.execMemRead d count s
  | .memReadRetry d t => Sys2Proof.Machine.execMemReadRetry d t s
  | .adapterLineFrame g inB phys violation chars => Sys2Proof.Machine.execAdapterLineFrame g inB phys violation chars s
  | .adapterNofireFrame g inB x => Sys2Proof.Machine.execAdapterNofireFrame g inB x s
  | .adapterStrobe g inB => Sys2Proof.Machine.execAdapterStrobe g inB s
  | .adapterActive g inB first chars t => Sys2Proof.Machine.execAdapterActive g inB first chars t s
  | .adapterInputLapse g inB t => Sys2Proof.Machine.execAdapterInputLapse g inB t s
  | .adapterRead g first chars => Sys2Proof.Machine.execAdapterRead g first chars s
  | .adapterTrain g aligned => Sys2Proof.Machine.execAdapterTrain g aligned s
  | .adapterFaultEntry g flags => Sys2Proof.Machine.execAdapterFaultEntry g flags s
  | .camTrigger d t => Sys2Proof.Machine.execCamTrigger d t s
  | .camFlashPulse d t => Sys2Proof.Machine.execCamFlashPulse d t s
  | .frameStart d vc t => Sys2Proof.Machine.execFrameStart d vc t s
  | .csiPacket d vc dt hdrBad crcBad pixels => Sys2Proof.Machine.execCsiPacket d vc dt hdrBad crcBad pixels s
  | .frameEnd d vc t => Sys2Proof.Machine.execFrameEnd d vc t s
  | .cciTransferDone d nack data t => Sys2Proof.Machine.execCciTransferDone d nack data t s
  | .camRawGo d rd => Sys2Proof.Machine.execCamRawGo d rd s
  | .camArchReq d => Sys2Proof.Machine.execCamArchReq d s
  | .camArchQWrite d buf gen => Sys2Proof.Machine.execCamArchQWrite d buf gen s
  | .camTblDataRead d => Sys2Proof.Machine.execCamTblDataRead d s
  | .camInitDataAccess d data => Sys2Proof.Machine.execCamInitDataAccess d data s
  | .camStopFrameTimeout d t => Sys2Proof.Machine.execCamStopFrameTimeout d t s
  | .frameDecode d t => Sys2Proof.Machine.execFrameDecode d t s
  | .nozzleVerdict => Sys2Proof.Machine.execNozzleVerdict s
  | .hlthClearNozzle => Sys2Proof.Machine.execHlthClearNozzle s
  | .hlthClearHead => Sys2Proof.Machine.execHlthClearHead s
  | .hlthClearAll => Sys2Proof.Machine.execHlthClearAll s
  | .hlthNzDataRead => Sys2Proof.Machine.execHlthNzDataRead s
  | .calReq bars cams => Sys2Proof.Machine.execCalReq bars cams s
  | .calExport => Sys2Proof.Machine.execCalExport s
  | .calImport => Sys2Proof.Machine.execCalImport s
  | .calImportValidated => Sys2Proof.Machine.execCalImportValidated s
  | .motionTick a t => Sys2Proof.Machine.execMotionTick a t s
  | .stallClear a => Sys2Proof.Machine.execStallClear a s
  | .followLagClear a => Sys2Proof.Machine.execFollowLagClear a s
  | .memRefresh d r b busy => Sys2Proof.Machine.execMemRefresh d r b busy s
  | .mr4Poll d codes temps load => Sys2Proof.Machine.execMr4Poll d codes temps load s
  | .freqSwitch d t => Sys2Proof.Machine.execFreqSwitch d t s
  | .scrubHour d r corrected => Sys2Proof.Machine.execScrubHour d r corrected s
  | .sdramUncorrectable d r a => Sys2Proof.Machine.execSdramUncorrectable d r a s
  | .memCmdRetire d r => Sys2Proof.Machine.execMemCmdRetire d r s
  | .migrateDone d poison => Sys2Proof.Machine.execMigrateDone d poison s
  | .engineWatchdogExpire d e pc t => Sys2Proof.Machine.execEngineWatchdogExpire d e pc t s
  | .engineFault d e cause pc t => Sys2Proof.Machine.execEngineFault d e cause pc t s
  | .irqCause sig => Sys2Proof.Machine.execIrqCause sig s
  | .irqCoalTimeout g => Sys2Proof.Machine.execIrqCoalTimeout g s
  | .irqRaiseArrival d => Sys2Proof.Machine.execIrqRaiseArrival d s
  | .irqhClaim t => Sys2Proof.Machine.execIrqhClaim t s
  | .irqhDone t src => Sys2Proof.Machine.execIrqhDone t src s
  | .irqhMaskSet src => Sys2Proof.Machine.execIrqhMaskSet src s
  | .irqhMaskClr src => Sys2Proof.Machine.execIrqhMaskClr src s
  | .irqhFlush t => Sys2Proof.Machine.execIrqhFlush t s
  | .irqhAccept t accept => Sys2Proof.Machine.execIrqhAccept t accept s
  | .irqSet d src => Sys2Proof.Machine.execIrqSet d src s
  | .dieTimeSync d off t => Sys2Proof.Machine.execDieTimeSync d off t s
  | .ptpSync m t => Sys2Proof.Machine.execPtpSync m t s
  | .ptpSyncTimeout t => Sys2Proof.Machine.execPtpSyncTimeout t s
  | .timeSet v t => Sys2Proof.Machine.execTimeSet v t s
  | .timeAdj v t => Sys2Proof.Machine.execTimeAdj v t s
  | .timeSrcWrite v t => Sys2Proof.Machine.execTimeSrcWrite v t s
  | .timeStepApply t => Sys2Proof.Machine.execTimeStepApply t s
  | .trgFire k t => Sys2Proof.Machine.execTrgFire k t s
  | .pairConfig written => Sys2Proof.Machine.execPairConfig written s
  | .pairTakeoverHandover => Sys2Proof.Machine.execPairTakeoverHandover s
  | .pairTakeoverForce t => Sys2Proof.Machine.execPairTakeoverForce t s
  | .pairLinkUp latency aligned t => Sys2Proof.Machine.execPairLinkUp latency aligned t s
  | .pairLinkDown lanes replays t => Sys2Proof.Machine.execPairLinkDown lanes replays t s
  | .pairLinkRetry t => Sys2Proof.Machine.execPairLinkRetry t s
  | .pairLaneFail lane t => Sys2Proof.Machine.execPairLaneFail lane t s
  | .renewSend t => Sys2Proof.Machine.execRenewSend t s
  | .renewReceived line epoch number t => Sys2Proof.Machine.execRenewReceived line epoch number t s
  | .ackReceived epoch number t => Sys2Proof.Machine.execAckReceived epoch number t s
  | .leaseFence t => Sys2Proof.Machine.execLeaseFence t s
  | .leaseExpiry t => Sys2Proof.Machine.execLeaseExpiry t s
  | .pairStatusReceived dclass image role ready detached prefer seen t => Sys2Proof.Machine.execPairStatusReceived dclass image role ready detached prefer seen t s
  | .lineSyncReceived line count t => Sys2Proof.Machine.execLineSyncReceived line count t s
  | .controlReady t => Sys2Proof.Machine.execControlReady t s
  | .controlUnready t => Sys2Proof.Machine.execControlUnready t s
  | .controlLeave t => Sys2Proof.Machine.execControlLeave t s
  | .controlDrop t => Sys2Proof.Machine.execControlDrop t s
  | .controlFence t => Sys2Proof.Machine.execControlFence t s
  | .controlHandover h t => Sys2Proof.Machine.execControlHandover h t s
  | .pairCommitReceived part line id status self crc count t => Sys2Proof.Machine.execPairCommitReceived part line id status self crc count t s
  | .pairCancelReceived id => Sys2Proof.Machine.execPairCancelReceived id s
  | .pairCtxReceived part line id ctx stop crc t => Sys2Proof.Machine.execPairCtxReceived part line id ctx stop crc t s
  | .pairUnderReceived line bar page => Sys2Proof.Machine.execPairUnderReceived line bar page s
  | .pairVerdictReceived nozzle bar fail page => Sys2Proof.Machine.execPairVerdictReceived nozzle bar fail page s
  | .pairDecisionReceived line nozzle out => Sys2Proof.Machine.execPairDecisionReceived line nozzle out s
  | .pairRegReceived bar along across => Sys2Proof.Machine.execPairRegReceived bar along across s
  | .pairBulkReceived part words t => Sys2Proof.Machine.execPairBulkReceived part words t s
  | .joinWaitExpire t => Sys2Proof.Machine.execJoinWaitExpire t s
  | .followFenceTimer t => Sys2Proof.Machine.execFollowFenceTimer t s
  | .retakeTimer t => Sys2Proof.Machine.execRetakeTimer t s
  | .catchUpSend t => Sys2Proof.Machine.execCatchUpSend t s
  | .catchUpRetry t => Sys2Proof.Machine.execCatchUpRetry t s
  | .handoverComplete t => Sys2Proof.Machine.execHandoverComplete t s
  | .meterPowerUp t => Sys2Proof.Machine.execMeterPowerUp t s
  | .meterBootDone selfTest bad totals patch t => Sys2Proof.Machine.execMeterBootDone selfTest bad totals patch t s
  | .meterSupplyFall written t => Sys2Proof.Machine.execMeterSupplyFall written t s
  | .meterTotalsWrite t => Sys2Proof.Machine.execMeterTotalsWrite t s
  | .meterHourlySnapshot t => Sys2Proof.Machine.execMeterHourlySnapshot t s
  | .meterEdge a b t => Sys2Proof.Machine.execMeterEdge a b t s
  | .mtrMarkEdge written t => Sys2Proof.Machine.execMtrMarkEdge written t s
  | .tapSend d t => Sys2Proof.Machine.execTapSend d t s
  | .tapCountRecord d t => Sys2Proof.Machine.execTapCountRecord d t s
  | .tapSnapRecord t => Sys2Proof.Machine.execTapSnapRecord t s
  | .tapTimeRecord t => Sys2Proof.Machine.execTapTimeRecord t s
  | .tapIdleRecord d t => Sys2Proof.Machine.execTapIdleRecord d t s
  | .tapBadRecord d t => Sys2Proof.Machine.execTapBadRecord d t s
  | .tapDown d t => Sys2Proof.Machine.execTapDown d t s
  | .mtrSubmit t => Sys2Proof.Machine.execMtrSubmit t s
  | .sealBreak written => Sys2Proof.Machine.execSealBreak written s
  | .sealMeter written => Sys2Proof.Machine.execSealMeter written s
  | .setChannel written => Sys2Proof.Machine.execSetChannel written s
  | .setMass written => Sys2Proof.Machine.execSetMass written s
  | .setParam written => Sys2Proof.Machine.execSetParam written s
  | .lenCalOpen => Sys2Proof.Machine.execLenCalOpen s
  | .lenCalAbort => Sys2Proof.Machine.execLenCalAbort s
  | .lenCalTimeout t => Sys2Proof.Machine.execLenCalTimeout t s
  | .massCalOpen => Sys2Proof.Machine.execMassCalOpen s
  | .massCalClose written => Sys2Proof.Machine.execMassCalClose written s
  | .massCalAbort => Sys2Proof.Machine.execMassCalAbort s
  | .patchBegin => Sys2Proof.Machine.execPatchBegin s
  | .patchData => Sys2Proof.Machine.execPatchData s
  | .patchEnd written => Sys2Proof.Machine.execPatchEnd written s
  | .patchRemove written => Sys2Proof.Machine.execPatchRemove written s
  | .mtrKeyRotate written => Sys2Proof.Machine.execMtrKeyRotate written s
  | .mtrMarkSet written => Sys2Proof.Machine.execMtrMarkSet written s
  | .trailClear written => Sys2Proof.Machine.execTrailClear written s
  | .indRedraw t => Sys2Proof.Machine.execIndRedraw t s
  | .indReport t => Sys2Proof.Machine.execIndReport t s
  | .indStaleTimeout t => Sys2Proof.Machine.execIndStaleTimeout t s
  | .eventArrival d t => Sys2Proof.Machine.execEventArrival d t s
  | .recordAgeClose t => Sys2Proof.Machine.execRecordAgeClose t s
  | .evtFlush => Sys2Proof.Machine.execEvtFlush s
  | .recordWritten verified => Sys2Proof.Machine.execRecordWritten verified s
  | .eventFlashReturn => Sys2Proof.Machine.execEventFlashReturn s
  | .opsecTick t => Sys2Proof.Machine.execOpsecTick t s
  | .lifetimeSave => Sys2Proof.Machine.execLifetimeSave s
  | .fireCountSave => Sys2Proof.Machine.execFireCountSave s
  | .evtPersistSave => Sys2Proof.Machine.execEvtPersistSave s
  | .dumpRecords => Sys2Proof.Machine.execDumpRecords s
  | .dumpLifetime => Sys2Proof.Machine.execDumpLifetime s
  | .dumpFireCounts => Sys2Proof.Machine.execDumpFireCounts s
  | .evtRdSelWrite slot => Sys2Proof.Machine.execEvtRdSelWrite slot s
  | .ledFrameSend c t => Sys2Proof.Machine.execLedFrameSend c t s
  | .ledReturnFrame c words t => Sys2Proof.Machine.execLedReturnFrame c words t s
  | .ledReturnTimeout c t => Sys2Proof.Machine.execLedReturnTimeout c t s
  | .ledStatusStale c dev t => Sys2Proof.Machine.execLedStatusStale c dev t s
  | .ledUvUpdate c t => Sys2Proof.Machine.execLedUvUpdate c t s
  | .ledGateRise c t => Sys2Proof.Machine.execLedGateRise c t s
  | .ledGateFall c t => Sys2Proof.Machine.execLedGateFall c t s
  | .ledDataAccess d data => Sys2Proof.Machine.execLedDataAccess d data s
  | .dispVblank t => Sys2Proof.Machine.execDispVblank t s
  | .dispFrameEnd indCrc late t => Sys2Proof.Machine.execDispFrameEnd indCrc late t s
  | .dispPsrExit t => Sys2Proof.Machine.execDispPsrExit t s
  | .dispPsrReport t => Sys2Proof.Machine.execDispPsrReport t s
  | .dispLinkLost found t => Sys2Proof.Machine.execDispLinkLost found t s
  | .monConversion d temps mv t => Sys2Proof.Machine.execMonConversion d temps mv t s
  | .hotFenceClear d stuck => Sys2Proof.Machine.execHotFenceClear d stuck s
  | .keyBurnDone ok => Sys2Proof.Machine.execKeyBurnDone ok s
  | .adapterFaultCleared g => Sys2Proof.Machine.execAdapterFaultCleared g s
  | .adapterKAbsent g => Sys2Proof.Machine.execAdapterKAbsent g s
  | .ethFrameReceived good frame => Sys2Proof.Machine.execEthFrameReceived good frame s
  | .ptpAnnounce m => Sys2Proof.Machine.execPtpAnnounce m s
  | .ptpDelayResp m => Sys2Proof.Machine.execPtpDelayResp m s
  | .msixMaskWrite offset q => Sys2Proof.Machine.execMsixMaskWrite offset q s
  | .sectorEraseDone => Sys2Proof.Machine.execSectorEraseDone s
  | .persistDone fires => Sys2Proof.Machine.execPersistDone fires s
  | .mtrLockEnd => Sys2Proof.Machine.execMtrLockEnd s

end Sys2Proof.Machine
end

