-- ==== Sys2Proof/WellFormed.lean ====
section
/-! DEFINITION. Which operands a command can carry: each operand within the range of numbers the spec gives it (R6, R11, R12
of 00_scope and the rule of each row). -/

namespace Sys2Proof

/-- The numbers of a block lie within the ranges of R11. -/
def Block.wf (b : Block) : Bool :=
  match b with
  | .spw d => decide (d < 8)
  | .tkl d => decide (d < 8)
  | .ring q => decide (q < 256)
  | .zip d => decide (d < 8)
  | .ras p => decide (p < 16)
  | .lnp p => decide (p < 16)
  | .lan g => decide (g < 64)
  | .cam d => decide (d < 8)
  | .mot a => decide (a < 32)
  | .fbk f => decide (f < 40)
  | .emu x => decide (x < 16)
  | .led c => decide (c < 16)
  | .eng e => decide (e < 96)
  | .trg k => decide (k < 16)
  | .hlth => true
  | .cal => true
  | .disp => true

/-- The numbers of a consumer lie within the ranges of R11, R30 and R31. -/
def Consumer.wf (k : Consumer) : Bool :=
  match k with
  | .bar p => decide (p < 16)
  | .cam d => decide (d < 8)
  | .block d blk => decide (d < 8) && decide (blk < 0x21)

/-- Characters of the head link: data, or a special character (R343). -/
def charsWf (cs : List Nat) : Bool := cs.all (fun c => decide (c < 512))


/-- The operands of a command lie within the ranges the spec numbers them by. -/
def Instr.wf (i : Instr) : Bool :=
  match i with
  | .registerWrite a _ _ => decide (a < 16777216)
  | .pairLowRead a => decide (a < 16777216)
  | .rcRead a _ => decide (a < 16777216)
  | .rateWindowEnd code _ => decide (code < 65536)
  | .episodeQuietEnd code _ => decide (code < 65536)
  | .enWrite b _ => b.wf
  | .startComplete b _ _ => b.wf
  | .startBoundExceeded b _ => b.wf
  | .shutdownComplete b _ => b.wf
  | .stopBoundExceeded b _ => b.wf
  | .fireClockLost d _ => decide (d < 8)
  | .iareodLaneFail d p lane _ _ => decide (d < 8) && decide (p < 4) && decide (lane < 34)
  | .epochZero _ => true
  | .stagedWrite a _ => decide (a < 16777216)
  | .epochCommit _ _ => true
  | .commitApply id k _ _ => decide (id < 16777216) && k.wf
  | .commitComplete id _ => decide (id < 16777216)
  | .epochCancel id => decide (id < 16777216)
  | .snapReq _ => true
  | .snapshotLatch d _ => decide (d < 8)
  | .snapshotTimed _ => true
  | .encRoundOpen _ => true
  | .encRoundLatch silent _ => silent.all (fun x => decide (x < 8))
  | .encRoundJudge _ => true
  | .encRoundDeadline _ => true
  | .structLoad => true
  | .structFifoWrite _ => true
  | .imageWordReceived _ => true
  | .structVerifyDone _ => true
  | .structBanksSwitched _ => true
  | .structStoreDone _ _ => true
  | .structFifoTimeout _ => true
  | .resetAssert _ => true
  | .railFault _ => true
  | .resetRelease _ => true
  | .dieCensusDone failed _ => failed.all (fun x => decide (x < 32))
  | .bootFlashReadDone bad _ => bad.all (fun x => decide (x < 10))
  | .speedwellEntry _ => true
  | .sdramTrainingDone d _ failed stale _ => decide (d < 8) && failed.all (fun x => decide (x < 8)) && stale.all (fun x => decide (x < 8))
  | .eccInitDone d bad _ => decide (d < 8) && bad.all (fun x => decide (x < 8))
  | .fireCountRestoreDone _ _ => true
  | .bootAgreeRetry _ => true
  | .fullService _ => true
  | .bootRetry => true
  | .bootResume => true
  | .bootBbSave => true
  | .bootBbSaveDone _ => true
  | .tickleBurst d _ => decide (d < 8)
  | .speedwellLine d _ => decide (d < 8)
  | .spwDataAccess _ _ => true
  | .pwrWarnAssert _ => true
  | .powerDown _ => true
  | .pwrWarnDeassert _ => true
  | .bootReset _ => true
  | .pcieReset => true
  | .bar2Write _ _ => true
  | .bar2Read _ _ _ => true
  | .winDefine i => decide (i < 65536)
  | .winGive i gen => decide (i < 65536) && decide (gen < 256)
  | .winReclaim i gen => decide (i < 65536) && decide (gen < 256)
  | .winUndefine i gen => decide (i < 65536) && decide (gen < 256)
  | .winBadOp i op => decide (i < 65536) && decide (op < 16)
  | .giveEffective i => decide (i < 65536)
  | .bufferRelease => true
  | .releaseScan => true
  | .doorbell q v => decide (q < 256) && decide (v < 65536)
  | .ringEntryRead q => decide (q < 256)
  | .nop q => decide (q < 256)
  | .recordPost => true
  | .authSubmit _ => true
  | .authLockEnd => true
  | .authHwmWritten => true
  | .keyRotate => true
  | .factoryReset => true
  | .markSet _ => true
  | .headLimits _ => true
  | .mgmtRead seq off count => decide (seq < 4294967296) && decide (off < 4294967296) && decide (count < 256)
  | .mgmtEnvelope seq slots => decide (seq < 4294967296) && slots.all (fun x => decide (x < 4294967296))
  | .ethLinkDown _ => true
  | .ethLinkUp _ => true
  | .ctxLoad q => decide (q < 256)
  | .ctxValidated j noMem => decide (j < 128) && noMem.all (fun x => decide (x < 16))
  | .ctxArm q => decide (q < 256)
  | .ctxStop q => decide (q < 256)
  | .ctxUnload q => decide (q < 256)
  | .jobRetired j => decide (j < 128)
  | .pageDescriptor q => decide (q < 256)
  | .pageDone q => decide (q < 256)
  | .pageStreamStart q => decide (q < 256)
  | .workStreamStart d => decide (d < 8)
  | .stagingSpace d u => decide (d < 8) && decide (u < 8)
  | .stagingWritten d u _ _ => decide (d < 8) && decide (u < 8)
  | .decompStreamError d u _ => decide (d < 8) && decide (u < 8)
  | .decompStreamEnd d u => decide (d < 8) && decide (u < 8)
  | .workDecomp q => decide (q < 256)
  | .workComp q => decide (q < 256)
  | .workCompMore q => decide (q < 256)
  | .producerCompressStart d u => decide (d < 8) && decide (u < 2)
  | .compOutputSpace d u => decide (d < 8) && decide (u < 2)
  | .compStallTimeout d u => decide (d < 8) && decide (u.unit < 2)
  | .compClose d u => decide (d < 8) && decide (u < 2)
  | .rasLineBegin p _ => decide (p < 16)
  | .rasNzDataAccess d _ => decide (d < 8)
  | .fbkEdge f _ _ _ _ => decide (f < 40)
  | .zEdge f _ => decide (f < 40)
  | .standstillTimeout f _ => decide (f < 40)
  | .losSet f _ => decide (f < 40)
  | .losClear f _ => decide (f < 40)
  | .emuEmit x _ => decide (x < 16)
  | .lineTrigger g _ _ _ => decide (g < 64)
  | .strobeFire g _ => decide (g < 64)
  | .strobeWithdraw g _ => decide (g < 64)
  | .rejectSpanStart => true
  | .rejectSpanEnd => true
  | .strobeCut g _ => decide (g < 64)
  | .strobeStuck g => decide (g < 64)
  | .periodGuard g _ => decide (g < 64)
  | .groupFaultClear g _ => decide (g < 64)
  | .pacerTickle g _ => decide (g < 64)
  | .linkRetryTimer g _ => decide (g < 64)
  | .clockSettled g _ => decide (g < 64)
  | .trainedReceived g aligned rate _ => decide (g < 64) && decide (aligned < 512) && decide (rate < 3)
  | .trainTimeout g _ => decide (g < 64)
  | .memdataReceived g addr _ _ => decide (g < 64) && decide (addr < 65536)
  | .identTimeout g _ => decide (g < 64)
  | .identReread g _ => decide (g < 64)
  | .statusReceived g st flags _ _ _ _ _ => decide (g < 64) && decide (st < 3) && decide (flags < 64)
  | .statusTimeout g _ => decide (g < 64)
  | .returnCodeViolations g _ => decide (g < 64)
  | .returnPacketBad g => decide (g < 64)
  | .activeSend g _ => decide (g < 64)
  | .memRead d count => decide (d < 8) && decide (count < 128)
  | .memReadRetry d _ => decide (d < 8)
  | .adapterLineFrame g _ phys _ chars => decide (g < 64) && decide (phys < 9) && charsWf chars
  | .adapterNofireFrame g _ x => decide (g < 64) && decide (x.phys < 9) && charsWf x.chars
  | .adapterStrobe g _ => decide (g < 64)
  | .adapterActive g _ first chars _ => decide (g < 64) && decide (first < 512) && charsWf chars
  | .adapterInputLapse g _ _ => decide (g < 64)
  | .adapterRead g first chars => decide (g < 64) && decide (first < 512) && charsWf chars
  | .adapterTrain g aligned => decide (g < 64) && decide (aligned < 512)
  | .adapterFaultEntry g flags => decide (g < 64) && decide (flags < 16)
  | .camTrigger d _ => decide (d < 8)
  | .camFlashPulse d _ => decide (d < 8)
  | .frameStart d vc _ => decide (d < 8) && decide (vc < 4)
  | .csiPacket d vc dt _ _ _ => decide (d < 8) && decide (vc < 4) && decide (dt < 64)
  | .frameEnd d vc _ => decide (d < 8) && decide (vc < 4)
  | .cciTransferDone d nack _ _ => decide (d < 8) && nack.all (fun x => decide (x < 65536))
  | .camRawGo d _ => decide (d < 8)
  | .camArchReq d => decide (d < 8)
  | .camArchQWrite d buf gen => decide (d < 8) && decide (buf < 65536) && decide (gen < 256)
  | .camTblDataRead d => decide (d < 8)
  | .camInitDataAccess d _ => decide (d < 8)
  | .camStopFrameTimeout d _ => decide (d < 8)
  | .frameDecode d _ => decide (d < 8)
  | .nozzleVerdict => true
  | .hlthClearNozzle => true
  | .hlthClearHead => true
  | .hlthClearAll => true
  | .hlthNzDataRead => true
  | .calReq bars cams => decide (bars < 65536) && decide (cams < 256)
  | .calExport => true
  | .calImport => true
  | .calImportValidated => true
  | .motionTick a _ => decide (a < 32)
  | .stallClear a => decide (a < 32)
  | .followLagClear a => decide (a < 32)
  | .memRefresh d r b _ => decide (d < 8) && decide (r < 4) && decide (b < 4)
  | .mr4Poll d codes temps _ => decide (d < 8) && codes.all (fun x => decide (x < 8)) && temps.all (fun x => decide (x < 256))
  | .freqSwitch d _ => decide (d < 8)
  | .scrubHour d r _ => decide (d < 8) && decide (r < 4)
  | .sdramUncorrectable d r a => decide (d < 8) && decide (r < 4) && decide (a.addr < 68719476736) && a.comp.all (fun u => decide (u < 2))
  | .memCmdRetire d r => decide (d < 8) && decide (r < 4)
  | .migrateDone d _ => decide (d < 8)
  | .engineWatchdogExpire d e _ _ => decide (d < 8) && decide (e < 12)
  | .engineFault d e _ _ _ => decide (d < 8) && decide (e < 12)
  | .irqCause _ => true
  | .irqCoalTimeout g => decide (g.val < 2048)
  | .irqRaiseArrival d => decide (d < 8)
  | .irqhClaim t => decide (t < 16)
  | .irqhDone t src => decide (t < 16) && decide (src < 2048)
  | .irqhMaskSet src => decide (src < 2048)
  | .irqhMaskClr src => decide (src < 2048)
  | .irqhFlush t => decide (t < 16)
  | .irqhAccept t _ => decide (t < 16)
  | .irqSet d src => decide (d < 8) && decide (src < 256)
  | .dieTimeSync d _ _ => decide (d < 8)
  | .ptpSync m _ => m.formed
  | .ptpSyncTimeout _ => true
  | .timeSet v _ => decide (v < 18446744073709551616)
  | .timeAdj v _ => decide (v < 16777216)
  | .timeSrcWrite v _ => decide (v < 4)
  | .timeStepApply _ => true
  | .trgFire k _ => decide (k < 16)
  | .pairConfig _ => true
  | .pairTakeoverHandover => true
  | .pairTakeoverForce _ => true
  | .pairLinkUp latency aligned _ => decide (latency < 65536) && decide (aligned < 512)
  | .pairLinkDown _ _ _ => true
  | .pairLinkRetry _ => true
  | .pairLaneFail lane _ => decide (lane < 9)
  | .renewSend _ => true
  | .renewReceived line epoch number _ => decide (line < 281474976710656) && decide (epoch < 16777216) && decide (number < 16777216)
  | .ackReceived epoch number _ => decide (epoch < 16777216) && decide (number < 16777216)
  | .leaseFence _ => true
  | .leaseExpiry _ => true
  | .pairStatusReceived dclass image role _ _ _ seen _ => decide (dclass < 16777216) && decide (image < 16777216) && decide (role < 6) && decide (seen < 16777216)
  | .lineSyncReceived line count _ => decide (line < 281474976710656) && decide (count < 1099511627776)
  | .controlReady _ => true
  | .controlUnready _ => true
  | .controlLeave _ => true
  | .controlDrop _ => true
  | .controlFence _ => true
  | .controlHandover h _ => decide (h < 281474976710656)
  | .pairCommitReceived part line id status _ crc _ _ => decide (part < 3) && decide (line < 281474976710656) && decide (id < 16777216) && decide (status < 16) && decide (crc < 4294967296)
  | .pairCancelReceived id => decide (id < 16777216)
  | .pairCtxReceived part line id ctx _ crc _ => decide (part < 3) && decide (line < 281474976710656) && decide (id < 16777216) && decide (ctx < 128) && decide (crc < 4294967296)
  | .pairUnderReceived line bar page => decide (line < 281474976710656) && decide (bar < 16) && decide (page < 16777216)
  | .pairVerdictReceived nozzle bar _ page => decide (nozzle < 1048576) && decide (bar < 16) && decide (page < 16777216)
  | .pairDecisionReceived line nozzle _ => decide (line < 281474976710656) && decide (nozzle < 1048576)
  | .pairRegReceived bar along across => decide (bar < 16) && decide (along < 4096) && decide (across < 4096)
  | .pairBulkReceived part _ _ => decide (part < 3)
  | .joinWaitExpire _ => true
  | .followFenceTimer _ => true
  | .retakeTimer _ => true
  | .catchUpSend _ => true
  | .catchUpRetry _ => true
  | .handoverComplete _ => true
  | .meterPowerUp _ => true
  | .meterBootDone _ _ _ _ _ => true
  | .meterSupplyFall _ _ => true
  | .meterTotalsWrite _ => true
  | .meterHourlySnapshot _ => true
  | .meterEdge _ _ _ => true
  | .mtrMarkEdge _ _ => true
  | .tapSend d _ => decide (d < 8)
  | .tapCountRecord d _ => decide (d < 8)
  | .tapSnapRecord _ => true
  | .tapTimeRecord _ => true
  | .tapIdleRecord d _ => decide (d < 8)
  | .tapBadRecord d _ => decide (d < 8)
  | .tapDown d _ => decide (d < 8)
  | .mtrSubmit _ => true
  | .sealBreak _ => true
  | .sealMeter _ => true
  | .setChannel _ => true
  | .setMass _ => true
  | .setParam _ => true
  | .lenCalOpen => true
  | .lenCalAbort => true
  | .lenCalTimeout _ => true
  | .massCalOpen => true
  | .massCalClose _ => true
  | .massCalAbort => true
  | .patchBegin => true
  | .patchData => true
  | .patchEnd _ => true
  | .patchRemove _ => true
  | .mtrKeyRotate _ => true
  | .mtrMarkSet _ => true
  | .trailClear _ => true
  | .indRedraw _ => true
  | .indReport _ => true
  | .indStaleTimeout _ => true
  | .eventArrival d _ => decide (d < 8)
  | .recordAgeClose _ => true
  | .evtFlush => true
  | .recordWritten _ => true
  | .eventFlashReturn => true
  | .opsecTick _ => true
  | .lifetimeSave => true
  | .fireCountSave => true
  | .evtPersistSave => true
  | .dumpRecords => true
  | .dumpLifetime => true
  | .dumpFireCounts => true
  | .evtRdSelWrite slot => decide (slot < 65536)
  | .ledFrameSend c _ => decide (c < 16)
  | .ledReturnFrame c _ _ => decide (c < 16)
  | .ledReturnTimeout c _ => decide (c < 16)
  | .ledStatusStale c dev _ => decide (c < 16) && decide (dev < 64)
  | .ledUvUpdate c _ => decide (c < 16)
  | .ledGateRise c _ => decide (c < 16)
  | .ledGateFall c _ => decide (c < 16)
  | .ledDataAccess d _ => decide (d < 8)
  | .dispVblank _ => true
  | .dispFrameEnd _ _ _ => true
  | .dispPsrExit _ => true
  | .dispPsrReport _ => true
  | .dispLinkLost _ _ => true
  | .monConversion d _ mv _ => decide (d < 8) && mv.all (fun x => decide (x < 4096))
  | .hotFenceClear d stuck => decide (d < 8) && stuck.all (fun x => decide (x < 8))
  | .keyBurnDone _ => true
  | .adapterFaultCleared g => decide (g < 64)
  | .adapterKAbsent g => decide (g < 64)
  | .ethFrameReceived _ _ => true
  | .ptpAnnounce m => m.val.formed
  | .ptpDelayResp m => m.formed
  | .msixMaskWrite offset q => q.formed offset
  | .sectorEraseDone => true
  | .persistDone _ => true
  | .mtrLockEnd => true

end Sys2Proof
end

