-- ==== Sys2Proof/Safety.lean ====
section
/-! DEFINITION. The terms in which claims are stated: the parts of the state and what leaves them unchanged, the invariant of
the machine, and what a claim observes of an event. -/

namespace Sys2Proof.Safety

open Sys2Proof Sys2Proof.Machine

/-- The components of the state beside the register file. -/
inductive Part
  | pending | variant | clk | drawn | staged | snap | mem | timeBase | rate | clock | epoch | ld | rcd | flash | win | jobs | zip
  | press | axes | sdram | meter | chains | disp | boot | mon | pair | cams | eye | auth | eth | irq | eng | host
  deriving DecidableEq, Repr

/-- Two states agree in a component. -/
def Part.same (p : Part) (s t : State) : Prop :=
  match p with
  | .pending => t.pending = s.pending
  | .variant => t.variant = s.variant
  | .clk => t.clk = s.clk
  | .drawn => t.drawn = s.drawn
  | .staged => t.staged = s.staged
  | .snap => t.snap = s.snap ∧ t.snapImages = s.snapImages
  | .mem => t.mem = s.mem
  | .timeBase => t.timeBase = s.timeBase
  | .rate => t.rate = s.rate
  | .clock => t.clock = s.clock
  | .epoch => t.epoch = s.epoch
  | .ld => t.ld = s.ld
  | .rcd => t.rcd = s.rcd
  | .flash => t.flash = s.flash
  | .win => t.win = s.win
  | .jobs => t.jobs = s.jobs
  | .zip => t.zip = s.zip
  | .press => t.press = s.press
  | .axes => t.axes = s.axes
  | .sdram => t.sdram = s.sdram
  | .meter => t.meter = s.meter
  | .chains => t.chains = s.chains
  | .disp => t.disp = s.disp
  | .boot => t.boot = s.boot
  | .mon => t.mon = s.mon
  | .pair => t.pair = s.pair
  | .cams => t.cams = s.cams
  | .eye => t.eye = s.eye
  | .auth => t.auth = s.auth
  | .eth => t.eth = s.eth
  | .irq => t.irq = s.irq
  | .eng => t.eng = s.eng
  | .host => t.host = s.host

/-- Every component outside a list is unchanged. The register file is not a component: `SameRegs` speaks of it. -/
def SameBut (ps : List Part) (s t : State) : Prop := ∀ p, p ∉ ps → p.same s t

/-- Every register field is unchanged but those whose number (32 x address + lowest bit) passes a test. -/
def SameRegs (touched : Nat → Bool) (s t : State) : Prop := ∀ k, touched k = false → tget? t.live k = tget? s.live k

/-- A field number belongs to one of the fields listed. -/
def among (fs : List Fld) (k : Nat) : Bool := fs.any (fun f => f.key = k)

/-- An event has been raised at a die, behind those that were on their way, and no other (R569, R574). -/
def Raises (s t : State) (die code : Nat) (payload : List Nat) : Prop :=
  t.rcd.raised = s.rcd.raised ++ [⟨die, code, payload, t.time die⟩]

/-- No event has been raised. -/
def RaisesNone (s t : State) : Prop := t.rcd.raised = s.rcd.raised

/-- No commit of the standby waits to be matched to the active's (R523). -/
def NoneWaits (s : State) : Prop := s.pair.captures = [] ∧ ∀ m ∈ s.pair.due, m.own = none

/-- A table lists its numbers in rising order. -/
def Rising {α : Type} (t : Tab α) : Prop := t.Pairwise (fun x y => x.1 < y.1)

/-- The invariant of the machine: memory in its canonical form; the register file lists each field once, in rising order; no more than
1,024 values staged at a die (R51); the bounds of the staging FIFO (R577), of the meter's trail (R556) and of its seal counter (R554); and
no calibration window open while the meter is SEALED (R553). -/
structure Inv (s : State) : Prop where
  memory : Memory.wf s.mem = true
  regs : Rising s.live
  staged : ∀ d, s.stagedCount d ≤ 1024
  fifo : s.rcd.fifo.length ≤ 64
  trail : s.meter.trail.length ≤ 1024
  sealCount : s.meter.sealCount ≤ 0xFFFFFF
  windows : s.meter.sealed = true → s.meter.lenWin = none ∧ s.meter.massWin = none

end Sys2Proof.Safety
end

