-- ==== Sys2Proof/Certificates/Slice0/Obligations.lean ====
section
/-! DEFINITION. The statements for the provers. Each says of the commands that it names where they complete and what the machine holds then,
or what every step keeps. -/

open Sys2Proof Sys2Proof.Machine Sys2Proof.Safety


/-- R36, R38: an EN request by the state that it meets. `startFails` is what the block's chapter says makes a start fail at once. The
WEB input is always on (R304). A camera's port fields count as in effect as its start begins (R382). -/
def Obligations.EnRequestActsByBlockState : Prop :=
  ∀ (b : Block) (s : State), s.blockFitted b = true → s.inService (blockCtl b) = true →
    (alwaysOn b = true → ∀ en, exec (.enWrite b en) s = .next s) ∧
    (alwaysOn b = false →
      (s.blockState b = 0 → exec (.enWrite b false) s = .next (s.wr (blockFld b 0 1) 0)) ∧
      (s.blockState b = 0 → (s.wr (blockFld b 0 1) 1).startFails b = false →
        ∃ t, exec (.enWrite b true) s = .next t ∧ t.blockState b = 1 ∧ t.rd (blockFld b 0 1) = 1) ∧
      (∀ d, b = .cam d → s.blockState b = 0 → (s.wr (blockFld b 0 1) 1).startFails b = false →
        exec (.enWrite b true) s = .next (((s.wr (blockFld b 0 1) 1).setBlockState b 1).camStart d)) ∧
      (s.blockState b = 0 → (s.wr (blockFld b 0 1) 1).startFails b = true →
        ∃ t, exec (.enWrite b true) s = .next t ∧ t.blockState b = 0 ∧ t.rd (blockFld b 6 1) = 1 ∧ t.rd (blockFld b 2 1) = 0) ∧
      (s.blockState b = 1 → ∀ en, exec (.enWrite b en) s = .next ((s.wr (blockFld b 0 1) (nat en)).wr (blockFld b 2 1) (nat !en))) ∧
      (s.blockState b = 2 → exec (.enWrite b true) s = .next (s.wr (blockFld b 0 1) 1)) ∧
      (s.blockState b = 2 → ∃ t, exec (.enWrite b false) s = .next t ∧ t.blockState b = 3 ∧ t.rd (blockFld b 0 1) = 0) ∧
      (s.blockState b = 3 → ∀ en, exec (.enWrite b en) s = .next ((s.wr (blockFld b 0 1) (nat en)).wr (blockFld b 1 1) (nat en))))

/-- R38 to R40: how starts and stops end. `startReady` and `stopReady` are what the block's chapter says the end waits for. A camera takes
the fields that wait for its stop (R392): its OFF is stated here when none waits. A late one-shot trigger fires at its start (R502). -/
def Obligations.StartsAndStopsEnd : Prop :=
  ∀ (b : Block) (found : List Nat) (now : Nat) (s : State), s.blockFitted b = true →
    ((∀ d, b = .cam d → (s.cam d).sent = [] ∧ (s.cam d).waiting = none ∧ (s.cam d).cci = none) →
      (∀ k, b = .trg k → s.rd (F.TRG_CTL_MODE k) = 1 ∨ (s.atTime now).reached ((s.atTime now).trgCmp k) = false) →
      (s.blockState b = 1 → (s.atTime now).startReady b = true → (s.atTime now).startFails b = false →
        (s.atTime now).foundFails b found = false → s.rd (blockFld b 2 1) = 0 →
        ∃ t, exec (.startComplete b found now) s = .next t ∧ t.blockState b = 2) ∧
      (s.blockState b = 1 → (s.atTime now).startReady b = true → (s.atTime now).startFails b = false →
        (s.atTime now).foundFails b found = false → s.rd (blockFld b 2 1) = 1 →
        ∃ t, exec (.startComplete b found now) s = .next t ∧ t.blockState b = 3 ∧ t.rd (blockFld b 2 1) = 0) ∧
      (s.blockState b = 3 → (s.atTime now).stopReady b = true → s.rd (blockFld b 1 1) = 0 →
        ∃ t, exec (.shutdownComplete b now) s = .next t ∧ t.blockState b = 0) ∧
      (s.blockState b = 3 → (s.atTime now).stopReady b = true → s.rd (blockFld b 1 1) = 1 →
        ((((s.atTime now).setBlockState b 0).stopDone b).wr (blockFld b 1 1) 0).startFails b = false →
        ∃ t, exec (.shutdownComplete b now) s = .next t ∧ t.blockState b = 1 ∧ t.rd (blockFld b 1 1) = 0) ∧
      (s.blockState b = 3 → s.rd (blockFld b 1 1) = 0 →
        ∃ t, exec (.stopBoundExceeded b now) s = .next t ∧ t.blockState b = 0 ∧ t.rd (blockFld b 7 1) = 1 ∧
          ∃ r ∈ t.rcd.raised, r.die = blockDie b ∧ r.code = 0x100 * (blockInfo b).2.1 + 0xF1)) ∧
    (∀ p, b = .lnp p → s.blockState (.ras p) = 1 → exec (.startBoundExceeded b now) s = .next (s.atTime now)) ∧
    (s.blockState b = 1 → (∀ p, b = .lnp p → s.blockState (.ras p) ≠ 1) →
      ∃ t, exec (.startBoundExceeded b now) s = .next t ∧ t.blockState b = 0 ∧ t.rd (blockFld b 6 1) = 1 ∧ t.rd (blockFld b 2 1) = 0) ∧
    (∀ k, b = .trg k → s.blockState b = 1 → s.rd (blockFld b 2 1) = 0 → s.rd (F.TRG_CTL_MODE k) = 0 →
      (s.atTime now).reached ((s.atTime now).trgCmp k) = true →
      ∃ t, exec (.startComplete b found now) s = .next t ∧ t.blockState b = 0 ∧ t.rd (F.TRG_CTL_LATE k) = 1)

/-- R7, R9, R10, R32, R133: what a BAR0 write does to an RW field, a W1C field, at an address that takes no write, and before its block is in
service; and what a read of an RC register and of the low word of a pair return and do. -/
def Obligations.RegisterAccessesAct : Prop :=
  (∀ (a : Nat) (whole : Bool) (slot : Word32) (s : State),
    exec (.registerWrite a whole slot) s = .next (if s.absent a || !whole || a % 4 != 0 then s.busDiscard a
      else if s.inService a then s.writePair a slot.toNat else s.tooEarly a)) ∧
  (∀ (a : Nat) (s : State), ∃ t, exec (.pairLowRead a) s = .next t ∧ t.host.readData = [(s.busRead (a / 4 * 4)).1] ∧
    SameBut [.host] (s.busRead (a / 4 * 4)).2 t ∧ t.live = (s.busRead (a / 4 * 4)).2.live) ∧
  (∀ (a len : Nat) (s : State), ∃ t, exec (.rcRead a len) s = .next t ∧
    t.host.readData.length = (a + len + 3) / 4 - a / 4 ∧ t.host.poisoned = false) ∧
  (∀ (slot : Word32) (s : State), s.inService 0x10 = true →
    exec (.registerWrite 0x10 true slot) s = .next (s.wr F.PKG_SCRATCH_VALUE (slot.toNat % 2 ^ 24))) ∧
  (∀ (q : Nat) (slot : Word32) (s : State), q < 32 * s.dies → s.inService 0x50000 = true → slot.toNat.testBit 6 = true →
    s.blockState (.ring q) = 0 → slot.toNat.testBit 0 = false →
    ∃ t, exec (.registerWrite (0x50000 + 4 * q) true slot) s = .next t ∧ t.rd (F.QUE_CTL_START_FAIL q) = 0 ∧
      t.rd (F.QUE_CTL_DEPTH q) = min 16 (max 4 (slot.toNat / 2 ^ 12 % 32)) ∧
      SameRegs (among [blockFld (.ring q) 0 1, F.QUE_CTL_START_FAIL q, F.QUE_CTL_STOP_TIMEOUT q, F.QUE_CTL_DEPTH q]) s t) ∧
  (∀ (a : Nat) (whole : Bool) (slot : Word32) (s : State), (s.absent a || !whole || a % 4 != 0) = true →
    ∃ t, exec (.registerWrite a whole slot) s = .next t ∧
      t.rd F.WIN_BAR0_DISCARD_COUNT = min (s.rd F.WIN_BAR0_DISCARD_COUNT + 1) (2 ^ 24 - 1) ∧
      SameBut [.rcd] s t ∧ SameRegs (among [F.WIN_BAR0_DISCARD_COUNT]) s t) ∧
  (∀ (a d : Nat) (slot : Word32) (s : State), s.absent a = false → a % 4 = 0 → s.inService a = false → addrDie a = some d →
    ∃ t, exec (.registerWrite a true slot) s = .next t ∧ SameBut [] s t ∧
      t.rd F.BOOT_EARLY_VALUE = min (s.rd F.BOOT_EARLY_VALUE + 1) (2 ^ 24 - 1) ∧
      t.rd (F.DIE_ERR_EARLY d) = min (s.rd (F.DIE_ERR_EARLY d) + 1) 0xFFF ∧
      SameRegs (among [F.BOOT_EARLY_VALUE, F.DIE_ERR_EARLY d]) s t) ∧
  (∀ (d : Nat) (s : State), d < s.dies → s.inService (dieAt d 0x10) = true → s.host.pairLatch = [] → s.rd F.EPOCH_CTL_VIEW = 0 →
    ∃ t, exec (.rcRead (dieAt d 0x10) 4) s = .next t ∧
      t.host.readData = [s.rd (F.DIE_ERR_STAGE_DROP d) + 2 ^ 12 * s.rd (F.DIE_ERR_EARLY d)] ∧
      t.rd (F.DIE_ERR_STAGE_DROP d) = 0 ∧ t.rd (F.DIE_ERR_EARLY d) = 0 ∧ SameBut [.host] s t ∧
      SameRegs (among [F.DIE_ERR_STAGE_DROP d, F.DIE_ERR_EARLY d]) s t) ∧
  (∀ (d : Nat) (s : State), d < s.dies → s.inService (dieAt d 0x8) = true → s.host.pairLatch = [] → s.rd F.EPOCH_CTL_VIEW = 0 →
    ∃ t u, exec (.pairLowRead (dieAt d 0x8)) s = .next t ∧ t.host.readData = [s.rd (F.DIE_LINE_LO_LINE d)] ∧ SameBut [.host] s t ∧
      t.live = s.live ∧ exec (.rcRead (dieAt d 0xC) 4) t = .next u ∧ u.host.readData = [s.rd (F.DIE_LINE_HI_LINE d)])

/-- R24, R42, R645, R362, R377: the ends of one-second windows and of episodes, and the failures of a die's FIRE clock and of a lane. -/
def Obligations.FabricAndWindowEventsAct : Prop :=
  (∀ (d now : Nat) (s : State), d < s.dies → s.press.fireLost.contains d = false →
    ∃ t, exec (.fireClockLost d now) s = .next t ∧ t.press.fireLost.contains d = true ∧ Raises s t d 0x0803 [] ∧
      (∀ i < 8, (t.group (8 * d + i)).pend = none) ∧ SameBut [.clk, .timeBase, .press, .rcd] s t ∧ t.live = s.live) ∧
  (∀ (d p lane replays now : Nat) (s : State), d < s.dies → p < 4 → lane < 34 → s.rd (F.LNK_STAT_STATE d p) = 2 →
    s.rd (F.LNK_STAT_SPARES d p) < 2 →
    ∃ t, exec (.iareodLaneFail d p lane replays now) s = .next t ∧ t.rd (F.LNK_STAT_SPARES d p) = s.rd (F.LNK_STAT_SPARES d p) + 1 ∧
      Raises s t d 0x0F21 [p, lane] ∧ t.irq.causes = s.irq.causes ++ [256 * d + 44]) ∧
  (∀ (d p lane replays now : Nat) (s : State), d < s.dies → p < 4 → lane < 34 → s.rd (F.LNK_STAT_STATE d p) = 2 →
    s.rd (F.LNK_STAT_SPARES d p) = 2 →
    ∃ t, exec (.iareodLaneFail d p lane replays now) s = .next t ∧ t.rd (F.LNK_STAT_STATE d p) = 3 ∧ t.rd (F.LNK_STAT_LANES d p) = 16 ∧
      Raises s t d 0x0F20 [] ∧ t.irq.causes = s.irq.causes ++ [256 * d + 44]) ∧
  (∀ (w : Window) (now : Nat) (s : State), s.rcd.windows = [w] → (s.atTime now).clk < w.openedAt + 200000000 →
    exec (.rateWindowEnd w.code ⟨w.key, now⟩) s = .next (s.atTime now)) ∧
  (∀ (w : Window) (now : Nat) (s : State), s.rcd.windows = [w] → w.counted = true → w.src = none →
    w.openedAt + 200000000 ≤ (s.atTime now).clk →
    ∃ t, exec (.rateWindowEnd w.code ⟨w.key, now⟩) s = .next t ∧ t.rcd.windows = [] ∧ SameBut [.clk, .timeBase, .rcd] s t ∧
      t.live = s.live ∧ Raises s t w.die w.code ((w.first ++ [min w.count (2 ^ 24 - 1)]).map (· % 2 ^ 24))) ∧
  (∀ (code key now : Nat) (s : State), (s.atTime now).quiet code key = false →
    exec (.episodeQuietEnd code ⟨key, now⟩) s = .next (s.atTime now)) ∧
  (∀ (code key now : Nat) (s : State), s.inEpisode code key = true → (s.atTime now).quiet code key = true → code ≠ 0x0A04 →
    ∃ t, exec (.episodeQuietEnd code ⟨key, now⟩) s = .next t ∧ t.inEpisode code key = false ∧ SameBut [.clk, .timeBase, .rcd] s t ∧
      t.live = s.live ∧ RaisesNone s t) ∧
  (∀ (d now : Nat) (s : State), s.inEpisode 0x0A04 d = true → (s.cam d).skipAt + usTicks 1000000 ≤ (s.atTime now).clk →
    ∃ t, exec (.episodeQuietEnd 0x0A04 ⟨d, now⟩) s = .next t ∧ t.inEpisode 0x0A04 d = false ∧ (t.cam d).skips = 0 ∧
      Raises s t d 0x0A04 [d % 2 ^ 24, (s.cam d).skips % 2 ^ 24])

/-- R51, R52, R54, R58 to R62, R64: staging (the refresh set-point of a die stands for a field of a die view) and capture, outside a pair. -/
def Obligations.StagedWritesAndCaptures : Prop :=
  (∀ (d : Nat) (w : Word) (s : State), d < s.dies → s.inService (dieAt d 0x80008) = true →
    s.epoch.stage.any (fun e => e.die = d ∧ e.key = (F.MEM_FREQ_OP d).key) = false → s.stagedCount d < 1024 →
    ∃ t, exec (.stagedWrite (dieAt d 0x80008) w) s = .next t ∧
      t.epoch.stage = s.epoch.stage ++ [⟨d, (F.MEM_FREQ_OP d).key, w.toNat % 4⟩] ∧ SameBut [.epoch] s t ∧ t.live = s.live) ∧
  (∀ (d v : Nat) (w : Word) (s : State), d < s.dies → s.inService (dieAt d 0x80008) = true →
    s.epoch.stage = [⟨d, (F.MEM_FREQ_OP d).key, v⟩] →
    ∃ t, exec (.stagedWrite (dieAt d 0x80008) w) s = .next t ∧ t.epoch.stage = [⟨d, (F.MEM_FREQ_OP d).key, w.toNat % 4⟩] ∧
      SameBut [.epoch] s t ∧ t.live = s.live) ∧
  (∀ (d : Nat) (w : Word) (s : State), d < s.dies → s.inService (dieAt d 0x80008) = true →
    s.epoch.stage.any (fun e => e.die = d ∧ e.key = (F.MEM_FREQ_OP d).key) = false → 1024 ≤ s.stagedCount d →
    s.rd F.EPOCH_QSTAT_STAGE_OVF = 0 →
    ∃ t, exec (.stagedWrite (dieAt d 0x80008) w) s = .next t ∧ t.epoch = s.epoch ∧ t.rd F.EPOCH_QSTAT_STAGE_OVF = 2 ^ d ∧
      t.rd (F.DIE_ERR_STAGE_DROP d) = min (s.rd (F.DIE_ERR_STAGE_DROP d) + 1) 0xFFF ∧ Raises s t d 0x0242 []) ∧
  (∀ (safe snap : Bool) (s : State), s.inService 0x10000 = true → s.role = 0 →
    let fs := s.epoch.stage.foldl (fun l e => if l.any (fun x => x.1 = e.key) then l else l ++ [(e.key, e.val)]) []
    let a := s.rdPair F.EPOCH_APPLY_LO_APPLY F.EPOCH_APPLY_HI_APPLY
    let st := s.captureStatus safe fs a (s.rd F.EPOCH_QSTAT_STAGE_OVF != 0) (s.stagedBufferBad fs)
    (st = 0 →
      ∃ t c, exec (.epochCommit safe snap) s = .next t ∧ t.epoch.stage = [] ∧ t.epoch.commits = s.epoch.commits ++ [c] ∧
        c.id = s.rd F.EPOCH_NEXT_ID_ID ∧ c.safe = safe ∧ c.fields = fs ∧ c.parts = s.partsOf fs ∧ c.remaining = c.parts ∧
        (safe = false → c.line = s.linePending.foldl (fun x y => max x y.line) (max a (s.pkgLine + s.rd F.EPOCH_MIN_LEAD_LEAD)) ∧
          c.advanced = decide (a < c.line)) ∧
        t.rd F.EPOCH_NEXT_ID_ID = (if c.id < 0xFFFFFF then c.id + 1 else 1) ∧ t.epoch.lastId = c.id) ∧
    (st ≠ 0 →
      ∃ t, exec (.epochCommit safe snap) s = .next t ∧ t.epoch.stage = [] ∧ t.epoch.commits = s.epoch.commits ∧
        t.rd F.EPOCH_LAST_ID_WORD = s.rd F.EPOCH_NEXT_ID_ID % 2 ^ 24 ∧ t.rd F.EPOCH_LAST_STATUS_WORD % 16 = st ∧
        t.irq.causes = s.irq.causes ++ [17] ∧ Raises s t 0 0x0240 [s.rd F.EPOCH_NEXT_ID_ID % 2 ^ 24, st]))

/-- R50, R55, R57, R63, R64, R80: application, completion and cancelling of a commit of the host. The camera block and the display take their
parts in first; other statements speak of them. -/
def Obligations.CommitsApplyCompleteAndCancel : Prop :=
  (∀ (id now : Nat) (k : Consumer) (print : Bool) (c : Commit) (s : State), consumerDie k < s.dies → s.commit? id = some c →
    (s.atTime now).mayApply c k print = false → exec (.commitApply id k print now) s = .next (s.atTime now)) ∧
  (∀ (id now : Nat) (k : Consumer) (print : Bool) (c : Commit) (s : State), consumerDie k < s.dies → s.commit? id = some c →
    (∀ d, k ≠ .block d 5 ∧ k ≠ .block d 0x1C) → (s.atTime now).mayApply c k print = true →
    ∃ t, exec (.commitApply id k print now) s = .next t ∧ ∀ x, t.commit? id = some x → x.remaining = c.remaining.filter (fun p => p != (k, print))) ∧
  (∀ (id d blk v now : Nat) (f : Fld) (c : Commit) (s : State), d < s.dies → blk ∉ [2, 4, 5, 6, 8, 9, 0x1C, 0x1D] → c.id = id → s.epoch.commits = [c] →
    c.fields = [(f.key, v)] → fldOf f.key = f → f.addr < 0x1000000 → isEn f.key = false → c.origin = .host →
    s.consumerOf f.key = .block d blk → s.printField f.key = false → (s.atTime now).mayApply c (.block d blk) false = true →
    ∃ t, exec (.commitApply id (.block d blk) false now) s = .next t ∧ t.rd f = v % 2 ^ f.width ∧ SameRegs (among [f]) s t ∧
      ∀ x ∈ t.epoch.commits, x.id = id ∧ (.block d blk, false) ∉ x.remaining ∧ x.lastLine = t.pkgLine) ∧
  (∀ (id now : Nat) (c : Commit) (s : State), c.id = id → c.safe = false → c.origin = .host → c.remaining = [] → c.parts ≠ [] →
    s.epoch.commits = [c] → s.eye.runs = [] → s.eye.imports = [] → s.disp.replaced = [] →
    ∃ t, exec (.commitComplete id now) s = .next t ∧ t.epoch.commits = [] ∧ t.rd F.EPOCH_LAST_ID_WORD = id % 2 ^ 24 ∧
      t.rd F.EPOCH_LAST_STATUS_WORD % 16 = (if c.advanced then 1 else 0) ∧ t.irq.causes = s.irq.causes ++ [16] ∧ RaisesNone s t) ∧
  (∀ (id now : Nat) (c : Commit) (s : State), s.commit? id = some c → c.remaining ≠ [] →
    exec (.commitComplete id now) s = .next (s.atTime now)) ∧
  (∀ (id : Nat) (c : Commit) (s : State), s.inService 0x10000 = true → s.role = 0 → c.id = id → c.origin = .host → c.begun = false → c.remaining = c.parts →
    s.epoch.commits = [c] → s.eye.runs = [] → s.eye.imports = [] →
    ∃ t, exec (.epochCancel id) s = .next t ∧ t.epoch.commits = [] ∧ t.rd F.EPOCH_LAST_ID_WORD = id % 2 ^ 24 ∧
      t.rd F.EPOCH_LAST_STATUS_WORD % 16 = 7 ∧ t.irq.causes = s.irq.causes ++ [16] ∧ Raises s t 0 0x0243 []) ∧
  (∀ (id : Nat) (c : Commit) (s : State), s.inService 0x10000 = true → s.commit? id = some c → (c.remaining.length ≠ c.parts.length ∨ c.begun = true) → exec (.epochCancel id) s = .next s)

/-- R47, R48, R70 to R73: the zero, and snapshots by line and by time. -/
def Obligations.ZerosAndSnapshots : Prop :=
  (∀ (s : State), s.inService 0x10000 = true → s.mayZero = true →
    ∃ t, exec (.epochZero 0x00A55A) s = .next t ∧ (∀ d < s.dies, t.dieLine d = 0 ∧ t.rd (F.DIE_STAT_LINE_VALID d) = 1) ∧
      t.lineValid = true ∧ t.press.spans = [] ∧ t.epoch.armed = none ∧ t.epoch.commits = s.epoch.commits ∧
      Raises s t 0 0x0246 [s.pkgLine % 2 ^ 24, s.pkgLine / 2 ^ 24 % 2 ^ 24]) ∧
  (∀ (s : State), s.inService 0x10000 = true → s.mayZero = false →
    ∃ t, exec (.epochZero 0x00A55A) s = .next t ∧ Raises s t 0 0x0245 [] ∧ SameBut [.rcd] s t ∧ t.live = s.live) ∧
  (∀ (key : Word) (s : State), s.inService 0x10000 = true → key ≠ 0x00A55A → exec (.epochZero key) s = .next s) ∧
  (∀ (now : Bool) (s : State), s.inService 0x10000 = true →
    let line := if now then s.pkgLine + 2 else s.rdPair F.SNAP_LINE_LO_SNAP_LINE F.SNAP_LINE_HI_SNAP_LINE
    ∃ t, exec (.snapReq now) s = .next t ∧ t.epoch.armed = some ⟨line, (s.input 4).still, [], [], [], [], 0⟩ ∧ t.rd F.SNAP_STAT_STATE = 1 ∧
      t.snap = s.snap ∧ SameBut [.epoch] s t ∧ SameRegs (among [F.SNAP_STAT_STATE]) s t) ∧
  (∀ (d now : Nat) (a : Armed) (s : State), d < s.dies → s.epoch.armed = some a → a.timed = false → a.line ≤ s.dieLine d →
    d ∉ a.latched → a.latched.length + 1 < s.dies →
    ∃ t b, exec (.snapshotLatch d now) s = .next t ∧ t.epoch.armed = some b ∧ b.latched = d :: a.latched ∧ b.line = a.line ∧
      t.snap = s.snap ∧ t.live = s.live) ∧
  (∀ (d now : Nat) (a : Armed) (s : State), d < s.dies → s.epoch.armed = some a → a.timed = false → a.line ≤ s.dieLine d →
    d ∉ a.latched → s.dies ≤ a.latched.length + 1 → a.line < 2 ^ 48 →
    ∃ t, exec (.snapshotLatch d now) s = .next t ∧ t.epoch.armed = none ∧ t.rd F.SNAP_STAT_STATE = 2 ∧ t.rd F.SNAP_STAT_DATA = 1 ∧
      t.rd F.SNAP_STAT_TIMED = 0 ∧ t.rd F.SNAP_STAT_SEQ = (s.rd F.SNAP_STAT_SEQ + 1) % 2 ^ 16 ∧
      t.rdPair F.SNAP_AT_LO_SNAP_AT F.SNAP_AT_HI_SNAP_AT = a.line ∧ RaisesNone s t) ∧
  (∀ (now : Nat) (a : Armed) (s : State), s.epoch.armed = some a → a.timed = true → a.latched = [] →
    ∃ t, exec (.snapshotTimed now) s = .next t ∧ t.epoch.armed = none ∧ t.rd F.SNAP_STAT_STATE = 2 ∧ t.rd F.SNAP_STAT_TIMED = 1 ∧
      Raises s t 0 0x0244 [])

/-- R74 to R76, R79: rounds of an RG8. Which crossings open a round in the boot is stated elsewhere. -/
def Obligations.EncoderRoundsAgree : Prop :=
  (∀ (now : Nat) (s : State), s.epoch.round = none → s.epoch.crossed = true → s.bootRoundDue = false →
    ∃ t, exec (.encRoundOpen now) s = .next t ∧ t.epoch.round = some ⟨[], []⟩ ∧ SameBut [.clk, .timeBase, .epoch] s t ∧ t.live = s.live) ∧
  (∀ (now : Nat) (s : State), s.epoch.crossed = false → s.bootRoundDue = false →
    exec (.encRoundOpen now) s = .next (s.atTime now)) ∧
  (∀ (silent : List Nat) (now : Nat) (r : EncRound) (s : State), s.epoch.round = some r → s.sequences = false →
    ∃ t, exec (.encRoundLatch silent now) s = .next t ∧
      t.epoch.round = some ⟨(List.range s.dies).map (fun d => (d, s.webCount d)), (List.range s.dies).filter (fun d => !silent.contains d)⟩ ∧
      SameBut [.clk, .timeBase, .epoch] s t ∧ t.live = s.live) ∧
  (∀ (now : Nat) (c : Int) (off : Nat → Int) (s : State), s.variant = .rg8 → (∀ d, off d = 0 ∨ off d = 1) → s.bootRound = false →
    s.epoch.round = some ⟨(List.range 8).map (fun d => (d, c + off d)), List.range 8⟩ →
    ∃ t, exec (.encRoundJudge now) s = .next t ∧ t.epoch.round = none ∧ t.rd F.ENC_STAT_ROUNDS = (s.rd F.ENC_STAT_ROUNDS + 1) % 2 ^ 24 ∧
      t.press.inputs = s.press.inputs ∧ RaisesNone s t ∧ SameRegs (among [F.ENC_STAT_ROUNDS]) s t) ∧
  (∀ (now d : Nat) (c k : Int) (s : State), s.variant = .rg8 → d < 8 → 1 < k.natAbs → s.bootRound = false →
    s.epoch.round = some ⟨(List.range 8).map (fun i => (i, if i = d then c + k else c)), List.range 8⟩ →
    ∃ t, exec (.encRoundJudge now) s = .next t ∧ t.epoch.round = none ∧ (t.input (5 * d + 4)).count = (s.input (5 * d + 4)).count - k ∧
      t.rd (F.ENC_DIV_COUNT d) = min (s.rd (F.ENC_DIV_COUNT d) + 1) 0xFFFFFF ∧
      (∃ r ∈ t.rcd.raised, r.code = 0x0D10 ∧ r.payload = [d, unsigned 24 (-k)])) ∧
  (∀ (now d : Nat) (r : EncRound) (s : State), d < s.dies → s.epoch.round = some r → r.latched ≠ [] → r.reported.length < s.dies →
    d ∉ r.reported →
    ∃ t, exec (.encRoundDeadline now) s = .next t ∧ t.epoch.round = none ∧ (∃ x ∈ t.rcd.raised, x.code = 0x0D13 ∧ x.payload = []))

/-- R107 to R112, R116 to R119: the states of the loader up to RECEIVING. Section rules are stated by `BoardSectionsAreJudged`. -/
def Obligations.LoaderTakesImages : Prop :=
  (∀ (c : AuthCmd) (s : State), s.authCmd 1 = some c → s.loadStatus (loadCmdOf c.payload) = 0 →
    ∃ t, exec .structLoad s = .next t ∧ t.loaderState = 1 ∧ t.rd F.STRUCT_RCVD_COUNT = 0 ∧ t.ld.cmd = loadCmdOf c.payload ∧ t.ld.words = [] ∧
      t.ld.current = s.ld.current ∧ t.auth.acts = s.auth.acts.drop 1 ∧ t.rd F.AUTH_STAT_STATUS = 0) ∧
  (∀ (c : AuthCmd) (s : State), s.authCmd 1 = some c → s.loadStatus (loadCmdOf c.payload) ≠ 0 →
    ∃ t, exec .structLoad s = .next t ∧ t.loaderState = s.loaderState ∧ t.ld = s.ld ∧
      t.rd F.STRUCT_STAT_ERR = s.loadStatus (loadCmdOf c.payload) ∧ t.rd F.STRUCT_STAT_ERR_NEW = 1 ∧ t.rd F.STRUCT_ERR_SEC_VALUE = 0 ∧
      t.rd F.STRUCT_ERR_WORD_VALUE = 0 ∧ t.rd F.STRUCT_REJECTS_COUNT = min (s.rd F.STRUCT_REJECTS_COUNT + 1) (2 ^ 24 - 1) ∧
      Raises s t 0 0x0210 [s.loadStatus (loadCmdOf c.payload), 0, 0] ∧ t.rd F.AUTH_STAT_STATUS = 13) ∧
  (∀ (w : Word) (s : State), s.inService 0x20000 = true → s.loaderState = 1 → s.ld.cmd.src = 0 →
    ∃ t, exec (.structFifoWrite w) s = .next t ∧ t.ld.inbox = s.ld.inbox ++ [w.toNat] ∧ SameBut [.ld] s t ∧ t.live = s.live) ∧
  (∀ (w : Word) (s : State), s.inService 0x20000 = true → ¬(s.loaderState = 1 ∧ s.ld.cmd.src = 0) →
    ∃ t, exec (.structFifoWrite w) s = .next t ∧ t.rd F.STRUCT_DISCARD_COUNT = min (s.rd F.STRUCT_DISCARD_COUNT + 1) (2 ^ 24 - 1) ∧
      SameBut [] s t ∧ SameRegs (among [F.STRUCT_DISCARD_COUNT]) s t) ∧
  (∀ (w now : Nat) (s : State), s.loaderState = 1 → (s.atTime now).nextWord = some w → w < 2 ^ 24 → s.ld.words.length < 15 →
    (s.ld.words = [] → w = 0x524E47) → (s.atTime now).sourceLost = false →
    ∃ t, exec (.imageWordReceived now) s = .next t ∧ t.loaderState = 1 ∧ t.ld.words = w :: s.ld.words ∧
      t.rd F.STRUCT_RCVD_COUNT = s.ld.words.length + 1 ∧ t.ld.current = s.ld.current ∧ SameBut [.clk, .timeBase, .ld] s t ∧
      SameRegs (among [F.STRUCT_RCVD_COUNT]) s t) ∧
  (∀ (w now : Nat) (s : State), s.loaderState = 1 → (s.atTime now).nextWord = some w → w < 2 ^ 24 → s.ld.words = [] → w ≠ 0x524E47 →
    s.ld.cmd.auto = false → (s.atTime now).sourceLost = false →
    ∃ t, exec (.imageWordReceived now) s = .next t ∧ t.loaderState = (if s.overlayPending then 3 else 0) ∧ t.rd F.STRUCT_STAT_ERR = 1 ∧
      t.ld.words = [] ∧ t.ld.incoming = Image.empty ∧ t.ld.current = s.ld.current ∧ Raises s t 0 0x0210 [1, s.ld.sec % 2 ^ 24, 0]) ∧
  (∀ (now : Nat) (s : State), s.loaderState = 1 → (s.atTime now).sourceLost = true →
    ∃ t, exec (.imageWordReceived now) s = .next t ∧ t.loaderState = (if s.overlayPending then 3 else 0) ∧ t.rd F.STRUCT_STAT_ERR = 18 ∧
      t.ld.words = [] ∧ t.ld.incoming = Image.empty ∧ t.ld.current = s.ld.current) ∧
  (∀ (now : Nat) (s : State), s.loaderState = 1 → s.ld.cmd.src = 0 → s.ld.cmd.auto = false → s.ld.lastAt + 200000000 ≤ (s.atTime now).clk →
    ∃ t, exec (.structFifoTimeout now) s = .next t ∧ t.loaderState = (if s.overlayPending then 3 else 0) ∧ t.rd F.STRUCT_STAT_ERR = 16 ∧
      t.ld.current = s.ld.current)

/-- R94, R95, R109 to R111, R117 to R119: the states of the loader from VERIFYING on. -/
def Obligations.LoaderFinishes : Prop :=
  (∀ (now : Nat) (s : State), s.loaderState = 2 → (s.atTime now).sourceLost = false → s.imageTagOk = true → s.badFirmware = none →
    s.ld.cmd.store = 0 → s.ld.cmd.overlay = false →
    ∃ t, exec (.structVerifyDone now) s = .next t ∧ t.loaderState = 4 ∧ t.ld = s.ld ∧ RaisesNone s t) ∧
  (∀ (now : Nat) (s : State), s.loaderState = 2 → (s.atTime now).sourceLost = false → s.imageTagOk = true → s.badFirmware = none →
    s.ld.cmd.store = 1 →
    ∃ t, exec (.structVerifyDone now) s = .next t ∧ t.loaderState = 5 ∧ t.ld = s.ld ∧ t.flash.slotA = none ∧ t.flash.slotB = s.flash.slotB) ∧
  (∀ (now : Nat) (s : State), s.loaderState = 2 → (s.atTime now).sourceLost = false → s.imageTagOk = false → s.ld.cmd.auto = false →
    ∃ t, exec (.structVerifyDone now) s = .next t ∧ t.loaderState = (if s.overlayPending then 3 else 0) ∧ t.rd F.STRUCT_STAT_ERR = 8 ∧
      t.ld.current = s.ld.current ∧ t.ld.incoming = Image.empty ∧ t.rd F.STRUCT_CUR_ID_VALUE = s.rd F.STRUCT_CUR_ID_VALUE) ∧
  (∀ (now : Nat) (s : State), s.loaderState = 2 → (s.atTime now).sourceLost = true →
    ∃ t, exec (.structVerifyDone now) s = .next t ∧ t.loaderState = (if s.overlayPending then 3 else 0) ∧ t.rd F.STRUCT_STAT_ERR = 18 ∧
      t.ld.current = s.ld.current ∧ t.ld.incoming = Image.empty) ∧
  (∀ (now : Nat) (s : State), s.loaderState = 4 → s.role = 0 →
    ∃ t, exec (.structBanksSwitched now) s = .next t ∧ t.loaderState = (if s.overlayPending then 3 else 0) ∧ t.ld.current = s.ld.incoming ∧
      t.rd F.STRUCT_STAT_LOADED = 1 ∧ t.rd F.STRUCT_CUR_ID_VALUE = s.ld.incoming.id % 2 ^ 24 ∧
      t.rd F.STRUCT_DCLASS_VALUE = s.ld.incoming.dclass % 2 ^ 24 ∧ t.epoch.stage = [] ∧
      ∃ r ∈ t.rcd.raised, r.code = 0x0201 ∧ r.payload = [s.ld.incoming.id % 2 ^ 24, s.ld.incoming.dclass % 2 ^ 24]) ∧
  (∀ (now : Nat) (s : State), s.loaderState = 5 → s.flash.ok = true → s.ld.cmd.store = 2 → s.ld.cmd.noApply = true →
    ∃ t, exec (.structStoreDone true now) s = .next t ∧ t.loaderState = (if s.overlayPending then 3 else 0) ∧ t.flash.slotB = some (slotDesc s.ld.image ++ s.ld.image) ∧
      t.flash.slotA = s.flash.slotA ∧ t.ld.current = s.ld.current ∧ t.irq.causes = s.irq.causes ++ [18] ∧
      ∃ r ∈ t.rcd.raised, r.code = 0x0204 ∧ r.payload = [2, s.ld.incoming.id % 2 ^ 24]) ∧
  (∀ (now : Nat) (s : State), s.loaderState = 5 → s.ld.cmd.auto = false →
    ∃ t, exec (.structStoreDone false now) s = .next t ∧ t.loaderState = (if s.overlayPending then 3 else 0) ∧ t.rd F.STRUCT_STAT_ERR = 20 ∧
      t.flash = s.flash ∧ t.ld.current = s.ld.current)

/-- R646: the body of a BOARD section, its DIE_MASK, and the datum bar. -/
def Obligations.BoardSectionsAreJudged : Prop :=
  (∀ (dies : Nat) (x : Sec), boardFault dies x = none ↔
    x.body.length = 6 ∧ x.body.getD 0 0 = dies ∧ x.body.getD 1 0 = 0 ∧ x.body.getD 2 0 < 16 ∧ 1 ≤ x.body.getD 4 0 ∧
      x.body.getD 5 0 < 512 ∧ 1 ≤ x.body.getD 5 0 % 256) ∧
  (∀ (dies : Nat) (x : Sec) (e : Nat × Nat), boardFault dies x = some e → e.1 = 11) ∧
  (∀ (dies : Nat) (x : Sec), x.type = 1 → sectionFault true dies x = boardFault dies x) ∧
  (∀ (i m : Nat) (s : State), s.ld.cmd.overlay = false → 0 < m → m < 2 ^ s.dies - 1 → s.ld.seen = [] →
    s.maskFault i 1 m = some (11, i)) ∧
  (∀ (m : Image) (xs : List Sec) (r : Ents), r ∈ m.bars → bit (r.ws.getD 0 0) 22 = true → bits (r.ws.getD 0 0) 8 4 ≠ m.board.getD 2 0 →
    ∃ c ∈ m.datumClashes xs, c.err = 11)

/-- R123 to R127, R147 to R149, R196: resets and orderly power-down. That flash operations and windows of the recorder flow out first is not
stated here. -/
def Obligations.ResetsAndPowerWarnings : Prop :=
  (∀ (now : Nat) (s : State),
    ∃ t, exec (.resetAssert now) s = .next t ∧ t.rd F.BOOT_STAT_STAGE = 0 ∧ t.rd F.BOOT_STAT_PWR_WARN = s.rd F.BOOT_STAT_PWR_WARN ∧
      t.boot = Boot.reset ∧ t.ld = Loader.reset ∧ t.epoch.commits = [] ∧ t.epoch.stage = [] ∧ t.mem = [] ∧ t.auth.keys = s.auth.keys ∧
      t.press.adapters = s.press.adapters ∧ Part.pending.same s t ∧ Part.variant.same s t ∧ Part.flash.same s t ∧ Part.meter.same s t ∧
      t.clk = (s.atTime now).clk) ∧
  (∀ (now : Nat) (s : State), s.boot.inReset = false →
    ∃ t, exec (.railFault now) s = .next t ∧ exec (.resetAssert now) s = .next t) ∧
  (∀ (now : Nat) (s : State), s.boot.inReset = true → exec (.railFault now) s = .next (s.atTime now)) ∧
  (∀ (now : Nat) (s : State), s.boot.inReset = true → s.flash.ok = true →
    ∃ t, exec (.resetRelease now) s = .next t ∧ t.boot.inReset = false ∧ t.boot.censusDue = true ∧ t.rd F.BOOT_STAT_STAGE = 1 ∧
      (∀ d < s.dies, t.rd (F.DIE_STAT_STAGE d) = 1 ∧ t.time d = 0) ∧ t.flash.cycles = s.flash.cycles.write ((s.flash.count + 1) % 2 ^ 24) ∧
      t.rd F.BOOT_CYCLES_VALUE = (s.flash.count + 1) % 2 ^ 24 ∧ RaisesNone s t) ∧
  (∀ (now : Nat) (s : State), s.rd F.BOOT_STAT_PWR_WARN = 0 → s.boot.inReset = false → s.boot.resetPending = false → s.role ≠ 4 →
    ∃ t, exec (.pwrWarnAssert now) s = .next t ∧ t.rd F.BOOT_STAT_PWR_WARN = 1 ∧ (∀ g < 8 * s.dies, (t.group g).pend = none) ∧
      (∀ a < 4 * s.dies, (t.axis a).v = 0 ∧ t.rd (F.MOT_STAT_REFD (a / 4) (a % 4)) = 0)) ∧
  (∀ (now : Nat) (s : State), s.rd F.BOOT_STAT_PWR_WARN = 0 → s.boot.inReset = true →
    exec (.pwrWarnAssert now) s = .next ((s.atTime now).wr F.BOOT_STAT_PWR_WARN 1)) ∧
  (∀ (now : Nat) (s : State), s.rd F.BOOT_STAT_PWR_WARN = 1 → s.boot.stepping = true → s.boot.resetPending = false →
    ∃ t, exec (.powerDown now) s = .next t ∧ t.rd F.BOOT_STAT_PD_DONE = 1 ∧ t.boot.safe = true ∧ t.boot.stepping = false ∧
      Raises s t 0 0x010D [] ∧ SameBut [.clk, .timeBase, .boot, .rcd, .flash] s t ∧
      SameRegs (among [F.BOOT_STAT_PD_DONE, F.EVT_PERSIST_BUSY]) s t) ∧
  (∀ (now : Nat) (v : Tab Nat × Tab Nat) (s : State), s.rd F.BOOT_STAT_PWR_WARN = 1 → s.boot.stepping = true → s.boot.resetPending = false →
    s.rd F.EVT_STAT_FLASH_OK = 1 → s.rcd.savingLife = some v → s.rd F.AUTH_STAT_HWM_BAD = 0 →
    ∃ t, exec (.powerDown now) s = .next t ∧ t.flash.life = s.flash.life.write v ∧ t.flash.marks = s.flash.marks.write s.flash.markTable ∧
      t.rcd.savingLife = none) ∧
  (∀ (now : Nat) (s : State), s.boot.stepping = false → s.boot.resetPending = false → exec (.powerDown now) s = .next (s.atTime now)) ∧
  (∀ (now : Nat) (s : State), s.boot.resetPending = true →
    ∃ t, exec (.powerDown now) s = .next t ∧ t.rd F.BOOT_STAT_STAGE = 1 ∧ t.boot.inReset = false ∧ t.boot.resetPending = false ∧
      t.ld = Loader.reset ∧ t.epoch.commits = [] ∧ t.mem = [] ∧ Part.meter.same s t ∧ Part.pending.same s t) ∧
  (∀ (now : Nat) (s : State), s.rd F.BOOT_STAT_PWR_WARN = 1 → s.boot.inReset = true →
    exec (.pwrWarnDeassert now) s = .next ((s.atTime now).wr F.BOOT_STAT_PWR_WARN 0)) ∧
  (∀ (now : Nat) (s : State), s.rd F.BOOT_STAT_PWR_WARN = 1 → s.boot.inReset = false →
    ∃ t, exec (.pwrWarnDeassert now) s = .next t ∧ t.rd F.BOOT_STAT_PWR_WARN = 0 ∧ t.rd F.BOOT_STAT_HELD = 1 ∧ t.boot.warnLowAt = t.clk ∧
      SameBut [.clk, .timeBase, .boot] s t ∧ SameRegs (among [F.BOOT_STAT_PWR_WARN, F.BOOT_STAT_HELD]) s t) ∧
  (∀ (s : State), s.inService 0x100000 = true → s.rd F.BOOT_STAT_HELD = 1 → s.rd F.BOOT_STAT_PWR_WARN = 0 →
    (s.boot.warnLowAt + 2000000 ≤ s.clk →
      ∃ t, exec .bootResume s = .next t ∧ t.rd F.BOOT_STAT_HELD = 0 ∧ Raises s t 0 0x010E [] ∧ SameBut [.boot, .rcd] s t ∧
        SameRegs (among [F.BOOT_STAT_HELD, F.BOOT_STAT_PD_DONE]) s t) ∧
    (s.clk < s.boot.warnLowAt + 2000000 → exec .bootResume s = .next s)) ∧
  (∀ (s : State), s.inService 0x100000 = true → s.boot.resetPending = false → s.role ≠ 4 →
    ∃ t, exec (.bootReset 0x00C3C3) s = .next t ∧ t.boot.resetPending = true ∧ t.boot.inReset = s.boot.inReset ∧
      (∀ g < 8 * s.dies, (t.group g).pend = none)) ∧
  (∀ (w : Word) (s : State), s.inService 0x100000 = true → w ≠ 0x00C3C3 → exec (.bootReset w) s = .next s) ∧
  (∀ (c : AuthCmd) (s : State), s.authCmd 6 = some c → c.payload.getD 0 0 = 0x465253 → s.boot.resetPending = false → s.role ≠ 4 →
    s.loaderState = 0 →
    ∃ t, exec .factoryReset s = .next t ∧ t.boot.resetPending = true ∧ t.flash.slotA = none ∧ t.flash.slotB = none ∧ t.flash.bootA = none ∧
      t.flash.bootB = none ∧ t.flash.training = [] ∧ Part.meter.same s t) ∧
  (∀ (c : AuthCmd) (s : State), s.authCmd 6 = some c → c.payload.getD 0 0 ≠ 0x465253 →
    ∃ t, exec .factoryReset s = .next t ∧ t.rd F.AUTH_STAT_STATUS = 13 ∧ t.flash = s.flash ∧ t.boot = s.boot ∧ RaisesNone s t)

/-- R127 to R133, R135, R145, R146: the steps of bring-up. -/
def Obligations.BringUpSteps : Prop :=
  (∀ (now : Nat) (s : State), s.boot.censusDue = true →
    ∃ t, exec (.dieCensusDone [] now) s = .next t ∧ t.boot.censusDue = false ∧ t.boot.censused = true ∧
      (∀ d < s.dies, t.present d = true) ∧ t.rd F.BOOT_STAT_FAIL = s.rd F.BOOT_STAT_FAIL ∧ RaisesNone s t) ∧
  (∀ (d now : Nat) (s : State), s.boot.censusDue = true → 0 < d → d < s.dies → s.boot.failed = [] →
    ∃ t, exec (.dieCensusDone [4 * d, 4 * d + 1, 4 * d + 2, 4 * d + 3] now) s = .next t ∧ t.present d = false ∧ t.present 0 = true ∧ t.rd (F.DIE_STAT_STAGE d) = 0 ∧
      t.rd F.BOOT_STAT_FAIL = 1 ∧ t.rd F.BOOT_STAT_FAIL_STEP = 1 ∧ Raises s t 0 0x0103 [d] ∧ t.irq.causes = s.irq.causes ++ [20]) ∧
  (∀ (c : List Nat) (now : Nat) (s : State), s.boot.censused = true → s.boot.censusDue = false → s.boot.flashRead = false → s.flash.ok = true →
    s.flash.bootA = some c →
    ∃ t, exec (.bootFlashReadDone [] now) s = .next t ∧ t.boot.flashRead = true ∧ t.boot.block = c ∧ t.rd F.BOOT_STAT_BB_SRC = 0 ∧
      t.rd F.EVT_STAT_FLASH_OK = 1 ∧ ∀ n < 14, t.rd (F.BOOT_BB_WORD n) = c.getD n 0 % 2 ^ 24) ∧
  (∀ (bad : List Nat) (now : Nat) (s : State), s.boot.censused = true → s.boot.censusDue = false → s.boot.flashRead = false → s.flash.ok = false →
    ∃ t, exec (.bootFlashReadDone bad now) s = .next t ∧ t.boot.flashRead = true ∧ t.rd F.EVT_STAT_FLASH_OK = 0 ∧ t.rd F.AUTH_STAT_HWM_BAD = 1 ∧
      t.bb 1 = 0 ∧ t.bb 7 = 1000 ∧ t.rd F.BOOT_STAT_BB_SRC = 1 ∧
      (∃ r ∈ t.rcd.raised, r.code = 0x0105) ∧ ∃ r ∈ t.rcd.raised, r.code = 0x0106) ∧
  (∀ (now : Nat) (s : State), s.boot.flashRead = true → s.boot.entered = false → s.boot.censusDue = false → s.bb 1 = 0 → s.present 0 = true →
    ∃ t, exec (.speedwellEntry now) s = .next t ∧ t.boot.entered = true ∧ t.boot.safe = false ∧ t.rd F.BOOT_STAT_STAGE = 2 ∧
      (∀ d < s.dies, s.present d = true → t.rd (F.DIE_STAT_STAGE d) = 2) ∧ RaisesNone s t ∧
      t.rd F.BOOT_T_SPW_MS = (t.clk - s.boot.releasedAt) / 200000 % 2 ^ 24) ∧
  (∀ (now : Nat) (s : State), s.boot.flashRead = true → s.boot.entered = false → s.boot.censusDue = false → s.bb 1 = 1 → s.present 0 = true →
    s.loading = false → s.slotWords 2 ≠ none →
    ∃ t, exec (.speedwellEntry now) s = .next t ∧ t.rd F.BOOT_STAT_STAGE = 3 ∧ t.loaderState = 1 ∧ t.ld.cmd.src = 2 ∧ t.ld.cmd.auto = true ∧
      t.boot.slotsLeft = [3]) ∧
  (∀ (d set now : Nat) (s : State), d < s.dies → set < 16 → s.rd (F.DIE_STAT_STAGE d) = 4 → s.memFailed d = false →
    ∃ t, exec (.sdramTrainingDone d set [] [] now) s = .next t ∧ t.rd (F.DIE_STAT_STAGE d) = 5 ∧ t.rd (F.MEM_FREQ_TRAINED d) = set ∧
      t.rd (F.DIE_STAT_TRAINED d) = 1 ∧ t.rd (F.DIE_STAT_INIT d) = 0 ∧ RaisesNone s t) ∧
  (∀ (d set r now : Nat) (s : State), d < s.dies → set < 16 → r < 4 → s.rd (F.DIE_STAT_STAGE d) = 4 → s.memFailed d = false →
    s.rd (F.MEM_RANK_ROLE d r) = 1 → s.freeSpare d = none → s.boot.failed = [] →
    ∃ t, exec (.sdramTrainingDone d set [r] [] now) s = .next t ∧ t.rd (F.DIE_STAT_STAGE d) = 4 ∧ t.memFailed d = true ∧
      t.rd F.BOOT_STAT_FAIL = 1 ∧ t.rd F.BOOT_STAT_FAIL_STEP = 6 ∧ Raises s t d 0x0109 [d, r / 2, r % 2]) ∧
  (∀ (d now : Nat) (s : State), d < s.dies → s.rd (F.DIE_STAT_STAGE d) = 5 → s.memFailed d = false →
    ∃ t, exec (.eccInitDone d [] now) s = .next t ∧ t.rd (F.DIE_STAT_STAGE d) = 6 ∧ t.rd (F.DIE_STAT_TRAINED d) = 1 ∧
      t.rd (F.DIE_STAT_INIT d) = 1 ∧ RaisesNone s t) ∧
  (∀ (now : Nat) (s : State), s.rd F.BOOT_STAT_STAGE = 6 → s.boot.restored = false → s.flash.ok = true →
    ∃ t, exec (.fireCountRestoreDone false now) s = .next t ∧ t.boot.restored = true ∧ t.rcd.fires = [] ∧ Raises s t 0 0x010B [] ∧
      SameBut [.clk, .timeBase, .boot, .rcd, .flash] s t ∧ t.live = s.live) ∧
  (∀ (now : Nat) (s : State), s.bootRound = true → s.epoch.round = none → s.rd F.BOOT_STAT_FAIL = 0 → s.boot.failed = [] →
    (0 < s.boot.rounds → s.boot.rounds < 5 →
      ∃ t, exec (.bootAgreeRetry now) s = .next t ∧ t.epoch.round = some ⟨[], []⟩ ∧ t.boot.rounds = s.boot.rounds + 1 ∧ RaisesNone s t) ∧
    (5 ≤ s.boot.rounds →
      ∃ t, exec (.bootAgreeRetry now) s = .next t ∧ t.epoch.round = none ∧ t.rd F.BOOT_STAT_FAIL = 1 ∧ t.rd F.BOOT_STAT_FAIL_STEP = 9 ∧
        Raises s t 0 0x010C [])) ∧
  (∀ (now : Nat) (s : State), s.bootDone = true →
    ∃ t, exec (.fullService now) s = .next t ∧ t.rd F.BOOT_STAT_STAGE = 7 ∧
      (∀ d < s.dies, t.rd (F.DIE_STAT_STAGE d) = 7 ∧ t.dieLine d = 0) ∧ t.lineValid = true ∧ 20 ∈ t.irq.causes ∧
      ∃ r ∈ t.rcd.raised, r.code = 0x0102) ∧
  (∀ (s : State), s.inService 0x100000 = true → s.rd F.BOOT_STAT_FAIL = 1 → s.rd F.BOOT_STAT_STAGE ≠ 7 → s.rd F.BOOT_STAT_FAIL_STEP = 1 →
    ∃ t, exec .bootRetry s = .next t ∧ t.rd F.BOOT_STAT_FAIL = 0 ∧ t.boot.censusDue = true ∧ RaisesNone s t)

/-- R136, R138 to R142, R144: the boot block, the stores, tickle and Speedwell printing. -/
def Obligations.SpeedwellService : Prop :=
  (∀ (s : State), s.inService 0x100000 = true → s.rd F.BOOT_BB_CTL_BUSY = 0 → s.flash.ok = true →
    let ws := (List.range 14).map (fun n => s.rd (F.BOOT_BB_WORD n))
    (bootBlockOk ws = true →
      ∃ t, exec .bootBbSave s = .next t ∧ t.boot.saving = some ws ∧ t.rd F.BOOT_BB_CTL_BUSY = 1 ∧ t.flash = s.flash) ∧
    (bootBlockOk ws = false → exec .bootBbSave s = .next (s.wr F.BOOT_BB_CTL_BB_ERR 1))) ∧
  (∀ (ws : List Nat) (now : Nat) (s : State), s.boot.saving = some ws →
    ∃ t, exec (.bootBbSaveDone now) s = .next t ∧ t.boot.saving = none ∧ t.rd F.BOOT_BB_CTL_BUSY = 0 ∧
      t.flash.bootA = some ws ∧ t.flash.bootB = some ws ∧ t.boot.block = s.boot.block) ∧
  (∀ (w : Word) (s : State), s.inService 0x100000 = true → s.rd F.SPW_SEL_STORE = 0 → s.rd F.SPW_SEL_DIE < s.dies →
    let d := s.rd F.SPW_SEL_DIE
    let a := s.rd F.SPW_ADDR_ADDR
    a < 2 ^ 22 →
    (s.blockState (.spw d) = 0 →
      ∃ t, exec (.spwDataAccess true w) s = .next t ∧ tget t.press.pageStore (2 ^ 22 * d + a) 0 = w.toNat % 2 ^ 16 ∧
        t.rd F.SPW_ADDR_ADDR = (a + 1) % 2 ^ 22 ∧ SameBut [.press] s t ∧ SameRegs (among [F.SPW_ADDR_ADDR, F.SPW_DATA_DATA]) s t) ∧
    (s.blockState (.spw d) ≠ 0 →
      ∃ t, exec (.spwDataAccess true w) s = .next t ∧ t.press = s.press ∧
        t.rd F.BOOT_EARLY_VALUE = min (s.rd F.BOOT_EARLY_VALUE + 1) (2 ^ 24 - 1)) ∧
    (∃ t, exec (.spwDataAccess false w) s = .next t ∧ t.host.readData = [tget s.press.pageStore (2 ^ 22 * d + a) 0] ∧
      t.rd F.SPW_ADDR_ADDR = (a + 1) % 2 ^ 22 ∧ SameBut [.host] s t ∧ SameRegs (among [F.SPW_ADDR_ADDR]) s t)) ∧
  (∀ (d i f : Nat) (s : State), d < s.dies → i < 8 → s.blockState (.tkl d) = 2 → s.blockState (.spw d) = 0 → s.boot.tickledAt = [] →
    s.press.fireLost = [] → s.halted = false → s.role = 0 → s.loaded = false → s.rd (F.LAN_GSTAT_IDV d i) = 1 → s.grpState (8 * d + i) = 0 →
    1 ≤ s.bb 8 →
    ∃ t, exec (.tickleBurst d f) s = .next t ∧ tget? t.boot.tickledAt d = some f ∧
      (t.group (8 * d + i)).last = some (f + (s.bb 8 - 1) * s.bb 10) ∧ (t.group (8 * d + i)).width = s.bb 6 ∧
      (t.group (8 * d + i)).pend = (s.group (8 * d + i)).pend ∧ t.live = s.live) ∧
  (∀ (d f : Nat) (s : State), d < s.dies → s.blockState (.spw d) = 2 → exec (.tickleBurst d f) s = .next (s.atFire f)) ∧
  (∀ (d i f : Nat) (x : Spw) (s : State), d < s.dies → i < 8 → s.blockState (.spw d) = 2 → s.spw d = x → x.ahead = true → x.lastAt = none → x.fast = false →
    ((x.line + 1) * s.bbPitch : Nat) ≤ (s.webCount d - x.zero) * 2 ^ 24 → (s.atFire f).webFaster d 1000 = false →
    s.press.fireLost = [] → s.halted = false → s.role = 0 → s.loaded = false → s.grpState (8 * d + i) = 0 → s.rd (F.SPW_CTL_REPEATS d) = 0 →
    x.reverse = false →
    ∃ t, exec (.speedwellLine d f) s = .next t ∧ (t.spw d).line = x.line + 1 ∧ (t.spw d).lastAt = some f ∧ RaisesNone s t ∧ t.live = s.live ∧
      (s.rd (F.LAN_GSTAT_IDV d i) = 1 → (t.group (8 * d + i)).sentNofire = false ∧ (t.group (8 * d + i)).last = some f ∧
        (t.group (8 * d + i)).width = s.bb 9) ∧
      (s.rd (F.LAN_GSTAT_IDV d i) = 0 → (t.group (8 * d + i)).sentNofire = true ∧ (t.group (8 * d + i)).last = (s.group (8 * d + i)).last)) ∧
  (∀ (d f : Nat) (x : Spw) (s : State), d < s.dies → s.blockState (.spw d) = 2 → s.spw d = x → x.ahead = true → x.lastAt = none → x.fast = false →
    ((x.line + 1) * s.bbPitch : Nat) ≤ (s.webCount d - x.zero) * 2 ^ 24 → (s.atFire f).webFaster d 1000 = true →
    s.rd (F.SPW_CTL_REPEATS d) = 0 →
    ∃ t, exec (.speedwellLine d f) s = .next t ∧ (t.spw d).line = x.line + 1 ∧ (t.spw d).fast = true ∧ Raises s t d 0x0110 [] ∧
      ∀ i < 8, (t.group (8 * d + i)).sentNofire = true) ∧
  (∀ (d f : Nat) (x : Spw) (s : State), d < s.dies → s.blockState (.spw d) = 2 → s.spw d = x → x.ahead = true → s.rd (F.SPW_CTL_REPEATS d) ≠ 0 →
    ((x.line + 1) * s.bbPitch : Nat) ≤ (s.webCount d - x.zero) * 2 ^ 24 →
    (x.line + 1) % s.rd (F.SPW_LEN_LINES d) = 0 → s.rd (F.SPW_CTL_REPEATS d) ≤ x.passes + 1 →
    ∃ t, exec (.speedwellLine d f) s = .next t ∧ t.blockState (.spw d) = 3) ∧
  (∀ (d f : Nat) (x : Spw) (s : State), d < s.dies → s.spw d = x →
    ((s.webCount d - x.zero) * 2 ^ 24 < ((x.line + 1) * s.bbPitch : Nat) ∨ x.ahead = false) →
    exec (.speedwellLine d f) s = .next (s.atFire f))

/-- R154, R156, R158, R160 to R168: the window. -/
def Obligations.WindowAndBuffers : Prop :=
  (∀ (addr : Nat) (data : List (Option Byte)) (s : State), Memory.wf s.mem = true → addr + data.length ≤ 2 ^ 36 →
    ∃ t, exec (.bar2Write addr data) s = .next t ∧
      (∀ (i : Nat) (v : Byte), data[i]? = some (some v) → s.unitFate ((addr + i) / 4 * 4) = .written → memGet t.mem (addr + i) = v) ∧
      (∀ a, (∀ (i : Nat) (v : Byte), a = addr + i → data[i]? = some (some v) → s.unitFate (a / 4 * 4) ≠ .written) →
        memGet t.mem a = memGet s.mem a) ∧
      SameBut [.mem, .rcd, .sdram] s t ∧ SameRegs (among [F.WIN_WR_UNDEF_COUNT, F.WIN_WR_DEV_COUNT, F.BOOT_EARLY_VALUE]) s t) ∧
  (∀ (addr i : Nat) (v : Byte) (s : State), addr < 2 ^ 36 → s.unitFate (addr / 4 * 4) = .device i →
    ∃ t, exec (.bar2Write addr [some v]) s = .next t ∧ t.mem = s.mem ∧ t.rd F.WIN_WR_DEV_COUNT = min (s.rd F.WIN_WR_DEV_COUNT + 1) (2 ^ 24 - 1)) ∧
  (∀ (addr : Nat) (data : List (Option Byte)) (s : State), 2 ^ 36 < addr + data.length → exec (.bar2Write addr data) s = .fault .outsideWindow) ∧
  (∀ (addr len : Nat) (p : Bool) (s : State), addr + len ≤ 2 ^ 36 →
    ∃ t, exec (.bar2Read addr len p) s = .next t ∧ t.host.readData.length = len ∧ t.host.poisoned = p ∧ SameBut [.host, .sdram] s t ∧
      t.live = s.live ∧
      (∀ i < len, s.bufAt ((addr + i) / 65536) = none → t.host.readData[i]? = some 0) ∧
      (∀ i < len, ∀ (n : Nat) (b : Buf), s.bufAt ((addr + i) / 65536) = some (n, b) → s.inService 0x40000 = true →
        s.rd (F.DIE_STAT_INIT (s.home b)) = 1 → s.backed ((addr + i) / 65536) = true →
        t.host.readData[i]? = some (memGet s.mem (addr + i)).toNat)) ∧
  (∀ (i : Nat) (s : State), i < 65536 → s.inService 0x40000 = true →
    (s.defineStatus i = 0 →
      ∃ t, exec (.winDefine i) s = .next t ∧ (t.buf i).st = .host ∧ (t.buf i).base = s.rd F.WIN_DEF_BASE_UNITS ∧
        (t.buf i).len = s.rd F.WIN_DEF_LEN_UNITS ∧ (t.buf i).gen = nextGen (s.buf i).gen ∧ (∀ j, j ≠ i → t.buf j = s.buf j) ∧
        t.rd F.WIN_RESULT_STATUS = 0 ∧ RaisesNone s t) ∧
    (s.defineStatus i ≠ 0 →
      ∃ t, exec (.winDefine i) s = .next t ∧ t.win = s.win ∧ t.rd F.WIN_RESULT_STATUS = s.defineStatus i ∧ t.rd F.WIN_RESULT_INDEX = i ∧
        t.rd F.WIN_RESULT_OP = 1 ∧ t.rd F.WIN_REJECTS_COUNT = min (s.rd F.WIN_REJECTS_COUNT + 1) (2 ^ 24 - 1) ∧
        t.irq.causes = s.irq.causes ++ [23] ∧ Raises s t 0 0x0410 [(i + 2 ^ 16 + 2 ^ 19 * s.defineStatus i) % 2 ^ 24])) ∧
  (∀ (i gen : Nat) (s : State), i < 65536 → s.inService 0x40000 = true → s.opStatus i gen = 0 →
    ((s.buf i).st = .host →
      (∃ t, exec (.winGive i gen) s = .next t ∧ (t.buf i).st = .device ∧ (t.buf i).gen = gen ∧ (t.buf i).atHome = false ∧
        t.rd F.WIN_RESULT_STATUS = 0 ∧ ∀ j, j ≠ i → t.buf j = s.buf j) ∧
      (∃ t, exec (.winReclaim i gen) s = .next t ∧ t.win = s.win ∧ t.rd F.WIN_RESULT_STATUS = 4) ∧
      (∃ t, exec (.winUndefine i gen) s = .next t ∧ (t.buf i).st = .undef ∧ (t.buf i).gen = gen ∧ t.rd F.WIN_RESULT_STATUS = 0 ∧
        ∀ j, j ≠ i → t.buf j = s.buf j)) ∧
    ((s.buf i).st = .device →
      (∃ t, exec (.winGive i gen) s = .next t ∧ t.win = s.win ∧ t.rd F.WIN_RESULT_STATUS = 4) ∧
      (∃ t, exec (.winReclaim i gen) s = .next t ∧ (t.buf i).st = .reclaiming ∧ t.win.scan = true ∧ t.rd F.WIN_RESULT_STATUS = 0 ∧
        ∀ j, j ≠ i → t.buf j = s.buf j) ∧
      (∃ t, exec (.winUndefine i gen) s = .next t ∧ t.win = s.win ∧ t.rd F.WIN_RESULT_STATUS = 5)) ∧
    ((s.buf i).st = .reclaiming →
      (∃ t, exec (.winGive i gen) s = .next t ∧ t.win = s.win ∧ t.rd F.WIN_RESULT_STATUS = 6) ∧
      (∃ t, exec (.winReclaim i gen) s = .next t ∧ t.win = s.win ∧ t.rd F.WIN_RESULT_STATUS = 4) ∧
      (∃ t, exec (.winUndefine i gen) s = .next t ∧ t.win = s.win ∧ t.rd F.WIN_RESULT_STATUS = 5))) ∧
  (∀ (i gen : Nat) (s : State), i < 65536 → s.inService 0x40000 = true → s.opStatus i gen ≠ 0 →
    (∃ t, exec (.winGive i gen) s = .next t ∧ t.win = s.win ∧ t.rd F.WIN_RESULT_STATUS = s.opStatus i gen) ∧
    (∃ t, exec (.winReclaim i gen) s = .next t ∧ t.win = s.win ∧ t.rd F.WIN_RESULT_STATUS = s.opStatus i gen) ∧
    (∃ t, exec (.winUndefine i gen) s = .next t ∧ t.win = s.win ∧ t.rd F.WIN_RESULT_STATUS = s.opStatus i gen)) ∧
  (∀ (i op : Nat) (s : State), i < 65536 → s.inService 0x40000 = true → op = 0 ∨ (5 ≤ op ∧ op < 16) →
    ∃ t, exec (.winBadOp i op) s = .next t ∧ t.win = s.win ∧ t.rd F.WIN_RESULT_STATUS = 12) ∧
  (∀ (i : Nat) (s : State), i < 65536 → (s.buf i).st = .device →
    ∃ t, exec (.giveEffective i) s = .next t ∧ (t.buf i).atHome = true ∧ (t.buf i).st = .device ∧ (t.buf i).gen = (s.buf i).gen ∧
      SameBut [.win] s t ∧ t.live = s.live) ∧
  (∀ (i bytes tag : Nat) (s : State), s.win.postings = [.release i bytes tag] → (s.buf i).st = .device ∨ (s.buf i).st = .reclaiming →
    ∃ t, exec .bufferRelease s = .next t ∧ (t.buf i).st = .host ∧ (t.buf i).gen = nextGen (s.buf i).gen ∧ t.live = s.live ∧
      (∀ j, j ≠ i → t.buf j = s.buf j) ∧ SameBut [.win, .rcd] s t ∧
      (s.rd F.WIN_CTL_RING_EN = 0 → t.win.postings = []) ∧
      (s.rd F.WIN_CTL_RING_EN = 1 → ∃ body, t.win.postings = [.post (s.rd F.WIN_CTL_RING) 2 body] ∧ body.length = 7 ∧
        body[1]? = some ((nextGen (s.buf i).gen + 2 ^ 8 * (s.buf i).gen) % 2 ^ 24)) ∧
      ((s.buf i).st = .device → RaisesNone s t) ∧
      ((s.buf i).st = .reclaiming → Raises s t 0 0x0411 [i % 2 ^ 24, nextGen (s.buf i).gen % 2 ^ 24])) ∧
  (∀ (i : Nat) (b : Buf) (s : State), s.win.scan = true → s.win.bufs = [(i, b)] → b.st = .reclaiming → b.uses = 0 → s.win.postings = [] →
    ∃ t, exec .releaseScan s = .next t ∧ t.win.postings = [.release i 0 0] ∧ t.win.scan = false ∧ t.win.bufs = s.win.bufs) ∧
  (∀ (c : Instr) (d3hot : Bool) (s : State), (c, d3hot) ∈ [(Instr.pcieReset, false), (.msixMaskWrite 0 (.power true), true)] →
    ∃ t, exec c s = .next t ∧ t.host.msixTable = [] ∧ t.host.pcie = { PcieConfig.reset with d3hot := d3hot } ∧ t.host.msixPending = s.host.msixPending ∧
    SameBut [.host] s t ∧ t.live = s.live)

/-- R172 to R176, R179 to R181: rings. -/
def Obligations.RingsCarryEntriesAndRecords : Prop :=
  (∀ (q v : Nat) (s : State), q < s.ringCount → s.inService 0x50000 = true → s.doorbellOk q v = true →
    (s.ringToHost q = false ∨ (s.ring q).reserve = []) →
    exec (.doorbell q v) s = .next (s.wr (F.QUE_DB_INDEX q) v)) ∧
  (∀ (q v : Nat) (s : State), q < s.ringCount → v < 65536 → s.inService 0x50000 = true → s.doorbellOk q v = false →
    ∃ t, exec (.doorbell q v) s = .next t ∧ t.rd (F.QUE_DB_INDEX q) = s.rd (F.QUE_DB_INDEX q) ∧
      t.rd (F.QUE_ERR_DB_ERR q) = min (s.rd (F.QUE_ERR_DB_ERR q) + 1) 255 ∧ Raises s t (q / 32) 0x0420 [q, v] ∧ SameBut [.rcd, .irq] s t ∧
      (s.ringToHost q = false → t.irq.causes = s.irq.causes ++ [256 * (q / 32) + (64 + q % 32)]) ∧ (s.ringToHost q = true → t.irq = s.irq)) ∧
  (∀ (q : Nat) (s : State), q < s.ringCount → s.readable q = true →
    let w := s.loadWord (s.entryAddr q (s.rd (F.QUE_IDX_INDEX q)))
    (entryLen (s.rd (F.QUE_CTL_TYPE q)) q (bits w 0 8) = some (bits w 8 4) →
      ∃ t e, exec (.ringEntryRead q) s = .next t ∧ t.win.entries = s.win.entries ++ [e] ∧ e.ring = q ∧ e.begun = false ∧
        e.words.length = 16 ∧ e.words[0]? = some w ∧ t.rd (F.QUE_IDX_INDEX q) = (s.rd (F.QUE_IDX_INDEX q) + 1) % 65536 ∧
        SameBut [.win] s t ∧ SameRegs (among [F.QUE_IDX_INDEX q]) s t) ∧
    (entryLen (s.rd (F.QUE_CTL_TYPE q)) q (bits w 0 8) = none → s.win.entries = [] →
      ∃ t, exec (.ringEntryRead q) s = .next t ∧ t.win.entries = [] ∧
        t.rd (F.QUE_ERR_ENTRY_BAD q) = min (s.rd (F.QUE_ERR_ENTRY_BAD q) + 1) 255 ∧ Raises s t (q / 32) 0x0422 [] ∧
        t.rd (F.QUE_IDX_INDEX q) = (s.rd (F.QUE_IDX_INDEX q) + 1) % 65536)) ∧
  (∀ (q : Nat) (s : State), q < s.ringCount → s.readable q = false → exec (.ringEntryRead q) s = .next s) ∧
  (∀ (q : Nat) (e : Entry) (s : State), q < s.ringCount → s.win.entries = [e] → e.ring = q → e.begun = false → e.words.getD 0 0 = 0x000100 →
    ∃ t, exec (.nop q) s = .next t ∧ t.win.entries = [] ∧ SameBut [.win] s t ∧ t.live = s.live ∧
      (s.rd (F.QUE_ANS_EN q) = 1 → t.win.postings = s.win.postings ++
        [.post (s.rd (F.QUE_ANS_RING q)) 3 [e.words.getD 1 0 % 2 ^ 24, 256 * q % 2 ^ 24]]) ∧
      (s.rd (F.QUE_ANS_EN q) = 0 → t.win.postings = s.win.postings)) ∧
  (∀ (q kind : Nat) (body : List Nat) (rest : List Posting) (s : State), s.win.postings = .post q kind body :: rest →
    Memory.wf s.mem = true → q < s.ringCount →
    s.rd (F.QUE_CTL_STATE q) = 2 → s.ringToHost q = true → kind < 256 → body.length ≤ 15 → (∀ w ∈ body, w < 2 ^ 24) →
    let a := s.entryAddr q (s.rd (F.QUE_IDX_INDEX q))
    ((s.ring q).reserve = [] → s.ringRoom q = true →
      ∃ t, exec .recordPost s = .next t ∧ t.win.postings = rest ∧ t.rd (F.QUE_IDX_INDEX q) = (s.rd (F.QUE_IDX_INDEX q) + 1) % 65536 ∧
        bits (t.loadWord a) 0 8 = kind ∧ bits (t.loadWord a) 8 4 = body.length ∧ (∀ k < 15, t.loadWord (a + 4 * (k + 1)) = body.getD k 0) ∧
        (∀ x, x < a ∨ a + 64 ≤ x → memGet t.mem x = memGet s.mem x) ∧
        t.irq.causes = s.irq.causes ++ [256 * (q / 32) + (64 + q % 32)] ∧ SameBut [.mem, .win, .irq] s t ∧
        SameRegs (among [F.QUE_IDX_INDEX q]) s t) ∧
    (reserved (s.ring q).reserve < 16 → (s.ringRoom q = false ∨ (s.ring q).reserve ≠ []) →
      ∃ t, exec .recordPost s = .next t ∧ (t.ring q).reserve = (s.ring q).reserve ++ [.record kind body] ∧ t.mem = s.mem ∧ t.live = s.live) ∧
    (16 ≤ reserved (s.ring q).reserve → s.inEpisode 0x0421 q = false →
      ∃ t, exec .recordPost s = .next t ∧ (t.ring q).reserve = noteLost (s.ring q).reserve ∧ t.mem = s.mem ∧
        t.rd (F.QUE_ERR_LOST q) = min (s.rd (F.QUE_ERR_LOST q) + 1) 255 ∧ Raises s t (q / 32) 0x0421 [])) ∧
  (∀ (q kind : Nat) (body : List Nat) (rest : List Posting) (s : State), s.win.postings = .post q kind body :: rest →
    s.rd (F.QUE_CTL_STATE q) ≠ 2 →
    ∃ t, exec .recordPost s = .next t ∧ t.win.postings = rest ∧ t.mem = s.mem ∧
      t.rd (F.QUE_ERR_LOST q) = min (s.rd (F.QUE_ERR_LOST q) + 1) 255) ∧
  (∀ (s : State), s.win.postings = [] → exec .recordPost s = .next s)

/-- R185 to R189, R191 to R193, R195, R336: AUTH. The body of the AUTH_RESULT record is not stated. -/
def Obligations.CriticalCommandsAreChecked : Prop :=
  (∀ (now : Nat) (s : State), s.inService 0x30000 = true →
    let u := s.atTime now
    let env := (List.range 64).map (fun i => tget s.auth.env i 0)
    let st := u.envStatus env
    let k := envSlot env
    (st = 0 → envOpcode env ≠ 7 → envCounter env ≤ s.hwm k →
      ∃ t, exec (.authSubmit now) s = .next t ∧ t.cnt k = envCounter env ∧
        t.auth.acts = s.auth.acts ++ [⟨envOpcode env, k, envCounter env, envPayload env, none⟩] ∧
        ∃ r, t.rcd.raised = s.rcd.raised ++ [r] ∧ r.code = 0x0300) ∧
    (st = 0 → envOpcode env ≠ 7 → s.hwm k < envCounter env →
      ∃ t, exec (.authSubmit now) s = .next t ∧ t.cnt k = envCounter env ∧ t.auth.acts = s.auth.acts ∧ t.rd F.AUTH_STAT_BUSY = 1 ∧
        t.auth.marking = some ⟨envOpcode env, k, envCounter env, envPayload env, none⟩) ∧
    (st ∈ [1, 2, 3, 4, 5, 6, 12] →
      ∃ t, exec (.authSubmit now) s = .next t ∧ t.rd F.AUTH_STAT_STATUS = st ∧ t.auth = s.auth ∧ t.irq.causes = s.irq.causes ++ [22] ∧
        t.rd F.AUTH_MALFORMED_COUNT = min (s.rd F.AUTH_MALFORMED_COUNT + 1) (2 ^ 24 - 1) ∧ Raises s t 0 0x0303 []) ∧
    (st ∈ [7, 8, 11] →
      ∃ t, exec (.authSubmit now) s = .next t ∧ t.rd F.AUTH_STAT_STATUS = st ∧ t.auth = s.auth ∧ RaisesNone s t) ∧
    (st = 10 →
      ∃ t, exec (.authSubmit now) s = .next t ∧ t.rd F.AUTH_STAT_STATUS = 10 ∧ t.auth.acts = s.auth.acts ∧ t.cnt k = s.cnt k ∧
        t.rd F.AUTH_REPLAY_COUNT = min (s.rd F.AUTH_REPLAY_COUNT + 1) (2 ^ 24 - 1) ∧ Raises s t 0 0x0302 []) ∧
    (st = 9 → s.auth.tagFails = [] →
      ∃ t, exec (.authSubmit now) s = .next t ∧ t.rd F.AUTH_STAT_STATUS = 9 ∧ t.auth.acts = s.auth.acts ∧ t.cnt k = s.cnt k ∧
        t.rd F.AUTH_TAG_FAIL_COUNT = min (s.rd F.AUTH_TAG_FAIL_COUNT + 1) (2 ^ 24 - 1) ∧ Raises s t 0 0x0301 [])) ∧
  (∀ s : State,
    (s.auth.lockedAt + 200000000 ≤ s.clk → exec .authLockEnd s = .next (s.wr F.AUTH_STAT_LOCKED 0)) ∧
    (s.clk < s.auth.lockedAt + 200000000 → exec .authLockEnd s = .next s)) ∧
  (∀ (c : AuthCmd) (s : State), s.auth.marking = some c → c.counter < 2 ^ 32 →
    ∃ t, exec .authHwmWritten s = .next t ∧ t.auth.marking = none ∧ t.auth.acts = s.auth.acts ++ [c] ∧ t.rd F.AUTH_STAT_BUSY = 0 ∧
      t.hwm c.slot = min (c.counter + 4096) (2 ^ 32 - 1) ∧ t.flash.marks = s.flash.marks.writeBoth (tset s.flash.markTable c.slot (t.hwm c.slot)) ∧ RaisesNone s t) ∧
  (∀ (c : AuthCmd) (s : State), s.authCmd 2 = some c →
    (c.payload.getD 0 0 % 8 = 2 →
      ∃ t, exec .keyRotate s = .next t ∧ t.rd F.AUTH_STAT_STATUS = 5 ∧ t.auth.keys = s.auth.keys ∧ t.auth.burning = s.auth.burning) ∧
    (c.payload.getD 0 0 % 8 ≠ 2 →
      keyUnwrap (wrapKey (tget s.auth.keys 5 [])) ((wordBytes (c.payload.drop 1)).take 40) = none →
      ∃ t, exec .keyRotate s = .next t ∧ t.rd F.AUTH_STAT_STATUS = 13 ∧ t.auth.keys = s.auth.keys ∧ t.auth.burning = s.auth.burning) ∧
    (∀ key, c.payload.getD 0 0 % 8 ≠ 2 →
      keyUnwrap (wrapKey (tget s.auth.keys 5 [])) ((wordBytes (c.payload.drop 1)).take 40) = some key →
      s.rd (F.AUTH_SLOT_EXHAUSTED (c.payload.getD 0 0 % 8)) = 0 →
      ∃ t, exec .keyRotate s = .next t ∧ t.rd F.AUTH_STAT_BUSY = 1 ∧ t.auth.burning = some (c.payload.getD 0 0 % 8, key, c) ∧
        t.auth.keys = s.auth.keys)) ∧
  (∀ (k : Nat) (key : List Nat) (c : AuthCmd) (s : State), s.auth.burning = some (k, key, c) →
    (k < 8 → s.rd (F.AUTH_SLOT_PROV k) = 1 → s.rd (F.AUTH_SLOT_CUR k) < 3 →
      ∃ t, exec (.keyBurnDone true) s = .next t ∧ tget? t.auth.keys k = some key ∧ t.rd (F.AUTH_SLOT_CUR k) = s.rd (F.AUTH_SLOT_CUR k) + 1 ∧
        t.rd F.AUTH_STAT_BUSY = 0 ∧ t.auth.burning = none ∧ t.cnt k = s.cnt k ∧ t.hwm k = s.hwm k ∧
        Raises s t 0 0x0305 [k + 8 * (s.rd (F.AUTH_SLOT_CUR k) + 1)]) ∧
    (∃ t, exec (.keyBurnDone false) s = .next t ∧ t.auth.keys = s.auth.keys ∧ t.auth.burning = none ∧ t.rd F.AUTH_STAT_STATUS = 13 ∧
      RaisesNone s t)) ∧
  (∀ (c : AuthCmd) (s : State), s.authCmd 7 = some c → s.rd F.EVT_STAT_FLASH_OK = 1 → (∀ w ∈ c.payload, w < 2 ^ 24) →
    (∃ t, exec (.markSet true) s = .next t ∧ t.rd F.AUTH_STAT_HWM_BAD = 0 ∧ Raises s t 0 0x0307 [] ∧ t.rd F.AUTH_STAT_STATUS = 0 ∧
      ∀ k < 8, k ≠ 2 →
        t.cnt k = c.payload.getD (2 * k) 0 + 2 ^ 24 * (c.payload.getD (2 * k + 1) 0 % 256) ∧ t.hwm k = t.cnt k) ∧
    (∃ t, exec (.markSet false) s = .next t ∧ t.rd F.AUTH_STAT_HWM_BAD = s.rd F.AUTH_STAT_HWM_BAD ∧ t.flash = s.flash ∧
      t.rd F.AUTH_STAT_STATUS = 13 ∧ ∀ k < 8, t.cnt k = s.cnt k ∧ t.hwm k = s.hwm k)) ∧
  (∀ (c : AuthCmd) (s : State), s.authCmd 5 = some c →
    let h := c.payload.getD 0 0 % 256
    let lo := c.payload.getD 1 0 % 4096
    let hi := c.payload.getD 2 0 % 4096
    (lo = 0 ∨ hi < lo →
      ∃ t, exec (.headLimits true) s = .next t ∧ t.flash = s.flash ∧ t.rd F.AUTH_STAT_STATUS = 13 ∧ RaisesNone s t) ∧
    (0 < lo → lo ≤ hi → bit (c.payload.getD 0 0) 8 = false → s.headNow h ≠ none → s.flash.ok = true →
      ∃ t, exec (.headLimits true) s = .next t ∧ t.flash.limits = s.flash.limits.write (tset s.flash.limitTable h (lo, hi)) ∧ t.rd F.AUTH_STAT_STATUS = 0 ∧
        ∃ r ∈ t.rcd.raised, r.code = 0x080F ∧ r.payload = [h, lo, hi]))

/-- R33, R198, R199: the Ethernet port. -/
def Obligations.EthernetAndManagement : Prop :=
  (∀ (now : Nat) (s : State), s.rd F.PKG_ETH_STAT_LINK = 1 → s.rd F.TIME_CTL_SRC ≠ 1 →
    ∃ t, exec (.ethLinkDown now) s = .next t ∧ t.rd F.PKG_ETH_STAT_LINK = 0 ∧ t.rd F.PKG_ETH_STAT_ACTIVE = 0 ∧
      t.rd F.PKG_ETH_CNT_DOWNS = min (s.rd F.PKG_ETH_CNT_DOWNS + 1) (2 ^ F.PKG_ETH_CNT_DOWNS.width - 1) ∧
      (s.rd F.PKG_ETH_CTL_ETH_EN = 1 → Raises s t 0 0x1007 [])) ∧
  (∀ (now : Nat) (s : State), s.rd F.PKG_ETH_STAT_LINK = 0 →
    ∃ t, exec (.ethLinkUp now) s = .next t ∧ t.rd F.PKG_ETH_STAT_LINK = 1 ∧ Raises s t 0 0x1008 [] ∧ SameBut [.clk, .timeBase, .rcd] s t ∧
      SameRegs (among [F.PKG_ETH_STAT_LINK, F.PKG_ETH_STAT_ACTIVE]) s t) ∧
  (∀ (frame : List Byte) (s : State), s.ethActive = true →
    ∃ t, exec (.ethFrameReceived false frame) s = .next t ∧ t.eth = s.eth ∧
      t.rd F.PKG_ETH_CNT_DROPPED = min (s.rd F.PKG_ETH_CNT_DROPPED + 1) (2 ^ F.PKG_ETH_CNT_DROPPED.width - 1) ∧ SameBut [] s t ∧
      SameRegs (among [F.PKG_ETH_CNT_DROPPED]) s t) ∧
  (∀ (dest src tail : List Byte) (sha spa tha tpa : List Byte) (s : State), s.ethActive = true → s.rd F.PKG_ETH_CTL_VLAN_EN = 0 →
    dest.length = 6 → src.length = 6 → sha.length = 6 → spa.length = 4 → tha.length = 6 → tpa.length = 4 → tail.length ≤ 1000 →
    beNat (dest.map BitVec.toNat) = 2 ^ 48 - 1 → beNat (tpa.map BitVec.toNat) = s.ethIp →
    ∃ t, exec (.ethFrameReceived true (dest ++ src ++ [8, 6, 0, 1, 8, 0, 6, 4, 0, 1] ++ sha ++ spa ++ tha ++ tpa ++ tail)) s = .next t ∧
      t.eth.sent = ⟨none, .arp (beNat (src.map BitVec.toNat)) (beNat (spa.map BitVec.toNat))⟩ :: s.eth.sent ∧ t.live = s.live) ∧
  (∀ (seq off count : Nat) (s : State), s.ethActive = true → s.eth.second ≠ s.opsec →
    (count = 0 ∨ 64 < count →
      ∃ t b, exec (.mgmtRead seq off count) s = .next t ∧ t.eth.sent = ⟨s.ethTag, .mgmt b⟩ :: s.eth.sent ∧ b[8]? = some 2 ∧ t.live = s.live) ∧
    (0 < count → count ≤ 64 → off % 4 = 0 → s.mgmtReadable off = false →
      ∃ t b, exec (.mgmtRead seq off count) s = .next t ∧ t.eth.sent = ⟨s.ethTag, .mgmt b⟩ :: s.eth.sent ∧ b[8]? = some 1 ∧ t.live = s.live)) ∧
  (∀ (seq : Nat) (s : State), s.ethActive = true → s.eth.second ≠ s.opsec → s.host.pairLatch = [] → s.rd F.EPOCH_CTL_VIEW = 0 →
    s.inService 0x10 = true →
    ∃ t b, exec (.mgmtRead seq 0x10 1) s = .next t ∧ t.eth.sent = ⟨s.ethTag, .mgmt b⟩ :: s.eth.sent ∧ b.take 9 = [0x4D, 0x52, 1, 1] ++ leBytes seq 4 ++ [0] ∧
      b.drop 12 = leBytes (s.rd F.PKG_SCRATCH_VALUE) 4 ∧ t.live = s.live) ∧
  (∀ (seq off count : Nat) (s : State), s.ethActive = true → s.eth.second = s.opsec → 1000 ≤ s.eth.answered →
    ∃ t b, exec (.mgmtRead seq off count) s = .next t ∧ t.eth.sent = ⟨s.ethTag, .mgmt b⟩ :: s.eth.sent ∧ b[8]? = some 3) ∧
  (∀ (seq : Nat) (slots : List Nat) (s : State), s.ethActive = true → s.eth.second ≠ s.opsec → 0 < slots.length → slots.length ≤ 64 →
    s.envStatus slots ∈ [1, 2, 3, 4, 5, 6, 7, 8, 11, 12] →
    ∃ t b, exec (.mgmtEnvelope seq slots) s = .next t ∧ t.rd F.AUTH_STAT_STATUS = s.envStatus slots ∧ t.auth = s.auth ∧
      t.eth.sent = ⟨s.ethTag, .mgmt b⟩ :: s.eth.sent ∧ b.take 9 = [0x4D, 0x52, 2, slots.length] ++ leBytes seq 4 ++ [0]) ∧
  (∀ (seq off count : Nat) (slots : List Nat) (s : State), s.ethActive = false →
    exec (.mgmtRead seq off count) s = .next s ∧ exec (.mgmtEnvelope seq slots) s = .next s) ∧
  (∀ (seq : Nat) (slots : List Nat) (s : State), s.ethActive = true →
    (s.eth.second ≠ s.opsec ∨ s.eth.answered < 1000 → 0 < slots.length → slots.length ≤ 64 →
      exec (.mgmtEnvelope seq slots) s = .next ((s.onEth fun e =>
        { e with second := s.opsec, answered := (if s.eth.second = s.opsec then s.eth.answered else 0) + 1 }).submitEnv slots
          (some (mgmtHead 2 slots.length seq)))) ∧
    (s.eth.second ≠ s.opsec ∨ s.eth.answered < 1000 → slots.length = 0 ∨ 64 < slots.length →
      ∃ t b, exec (.mgmtEnvelope seq slots) s = .next t ∧ t.eth.sent = ⟨s.ethTag, .mgmt b⟩ :: s.eth.sent ∧ b[8]? = some 2 ∧
        t.live = s.live) ∧
    (s.eth.second = s.opsec → 1000 ≤ s.eth.answered →
      ∃ t b, exec (.mgmtEnvelope seq slots) s = .next t ∧ t.eth.sent = ⟨s.ethTag, .mgmt b⟩ :: s.eth.sent ∧ b[8]? = some 3))

/-- R207 to R212, R215, R217, R218: context commands outside a pair, and retirement. -/
def Obligations.ContextsFollowR211 : Prop :=
  (∀ (q : Nat) (e : Entry) (s : State), q < s.ringCount → s.entryOf q [0x20] = some e →
    let buf := bits (e.words.getD 3 0) 0 16
    let gen := bits (e.words.getD 3 0) 16 8
    ((s.ctx e.ctx).st = .free → s.refStatus buf gen = 0 →
      ∃ t, exec (.ctxLoad q) s = .next t ∧ (t.ctx e.ctx).st = .loading ∧ (t.ctx e.ctx).buf = buf ∧ (t.ctx e.ctx).gen = gen ∧
        (∀ j, j ≠ e.ctx → t.ctx j = s.ctx j) ∧ (t.buf buf).uses = (s.buf buf).uses + 1 ∧ SameBut [.win, .jobs] s t ∧ t.live = s.live) ∧
    ((s.ctx e.ctx).st ≠ .free →
      ∃ t, exec (.ctxLoad q) s = .next t ∧ t.jobs = s.jobs ∧ t.irq.causes = s.irq.causes ++ [24] ∧
        Raises s t 0 0x0506 [e.ctx, 16, (s.ctx e.ctx).st.code]) ∧
    ((s.ctx e.ctx).st = .free → s.refStatus buf gen ≠ 0 →
      ∃ t, exec (.ctxLoad q) s = .next t ∧ t.jobs = s.jobs ∧ t.irq.causes = s.irq.causes ++ [24] ∧
        Raises s t 0 0x0506 [e.ctx, min (s.refStatus buf gen) 4, 0] ∧ SameBut [.win, .irq, .rcd] s t) ∧
    ((s.ctx e.ctx).st ≠ .free → s.refStatus buf gen = 0 →
      ∃ t, exec (.ctxLoad q) s = .next t ∧ .release buf 0 0 ∈ t.win.postings)) ∧
  (∀ (j : Nat) (noMem : Option Nat) (e : Entry) (s : State), j < 128 → (s.ctx j).st = .loading → s.win.entries = [e] →
    (s.ctx j).entry = (e.ring, e.seq) →
    (∀ b d, s.validate (s.ctx j) noMem = (0, d, b) →
      ∃ t, exec (.ctxValidated j noMem) s = .next t ∧ (t.ctx j).st = .ready ∧ (t.ctx j).block = some b ∧ t.win.entries = [] ∧
        t.irq.causes = s.irq.causes ++ [24] ∧ Raises s t 0 0x0501 [j, b.jobId % 2 ^ 24] ∧ SameBut [.win, .jobs, .irq, .rcd] s t ∧ t.live = s.live) ∧
    (∀ st b d, st ≠ 0 → s.validate (s.ctx j) noMem = (st, d, b) →
      ∃ t, exec (.ctxValidated j noMem) s = .next t ∧ (t.ctx j).st = .free ∧ .release (s.ctx j).buf 0 0 ∈ t.win.postings ∧
        t.irq.causes = s.irq.causes ++ [24] ∧ Raises s t 0 0x0506 [j, st % 2 ^ 24, d % 2 ^ 24] ∧ SameBut [.win, .jobs, .irq, .rcd] s t ∧
        t.live = s.live)) ∧
  (∀ (j : Nat) (noMem : Option Nat) (s : State), (s.ctx j).st ≠ .loading → exec (.ctxValidated j noMem) s = .next s) ∧
  (∀ (q : Nat) (e : Entry) (s : State), q < s.ringCount → s.entryOf q [0x21] = some e → s.matched = false → s.waitsFor e.ctx = false →
    ((s.ctx e.ctx).st ≠ .ready →
      ∃ t, exec (.ctxArm q) s = .next t ∧ t.jobs = s.jobs ∧ t.epoch = s.epoch ∧ t.irq.causes = s.irq.causes ++ [24] ∧ RaisesNone s t) ∧
    (∀ b, (s.ctx e.ctx).st = .ready → (s.ctx e.ctx).block = some b → s.structCheck b = none → s.ringBusy b = none →
      (8 ≤ (s.jobs.ctxs.filter (fun x => x.2.st = .armed)).length →
        ∃ t, exec (.ctxArm q) s = .next t ∧ t.jobs = s.jobs ∧ t.epoch = s.epoch ∧ t.irq.causes = s.irq.causes ++ [24] ∧ RaisesNone s t) ∧
      ((s.jobs.ctxs.filter (fun x => x.2.st = .armed)).length < 8 →
        s.captureStatus false [] (s.askedLine e) false false = 0 →
        ∃ t c, exec (.ctxArm q) s = .next t ∧ (t.ctx e.ctx).st = .armed ∧ (t.ctx e.ctx).start = s.lineInEffect false true (s.askedLine e) ∧
          (t.ctx e.ctx).commit = s.rd F.EPOCH_NEXT_ID_ID ∧ t.epoch.commits = s.epoch.commits ++ [c] ∧ c.id = s.rd F.EPOCH_NEXT_ID_ID ∧
          c.line = (t.ctx e.ctx).start ∧ c.parts = s.jobParts ∧
          ∃ r ∈ t.rcd.raised, r.code = 0x0502 ∧ r.payload = [e.ctx, c.id % 2 ^ 24, c.line % 2 ^ 24]))) ∧
  (∀ (q : Nat) (e : Entry) (s : State), q < s.ringCount → s.entryOf q [0x22] = some e → s.matched = false →
    ((s.ctx e.ctx).st ≠ .running →
      ∃ t, exec (.ctxStop q) s = .next t ∧ t.jobs = s.jobs ∧ t.epoch = s.epoch ∧ t.irq.causes = s.irq.causes ++ [24] ∧ RaisesNone s t) ∧
    ((s.ctx e.ctx).st = .running → s.captureStatus false [] (s.askedLine e) false false = 0 →
      ∃ t, exec (.ctxStop q) s = .next t ∧ (t.ctx e.ctx).st = .running ∧
        (t.ctx e.ctx).ends = (s.ctx e.ctx).ends ++ [(s.lineInEffect false true (s.askedLine e), s.rd F.EPOCH_NEXT_ID_ID)] ∧
        t.epoch.commits.length = s.epoch.commits.length + 1)) ∧
  (∀ (q : Nat) (e : Entry) (s : State), q < s.ringCount → s.entryOf q [0x23] = some e →
    ((s.ctx e.ctx).st = .ready →
      ∃ t, exec (.ctxUnload q) s = .next t ∧ (t.ctx e.ctx).st = .free ∧ .release (s.ctx e.ctx).buf 0 0 ∈ t.win.postings ∧ RaisesNone s t ∧
        SameBut [.win, .jobs] s t ∧ t.live = s.live) ∧
    ((s.ctx e.ctx).st ≠ .ready →
      ∃ t, exec (.ctxUnload q) s = .next t ∧ t.jobs = s.jobs ∧ t.irq.causes = s.irq.causes ++ [24] ∧ RaisesNone s t)) ∧
  (∀ (j e : Nat) (b : CtxBlock) (s : State), (s.ctx j).block = some b → (s.ctx j).final = some e →
    ((s.ctx j).st = .running ∨ (s.ctx j).st = .ending → e + s.jobDelay b ≤ s.pkgLine →
      ∃ t, exec (.jobRetired j) s = .next t ∧ (t.ctx j).st = .free ∧ .release (s.ctx j).buf 0 0 ∈ t.win.postings ∧
        t.irq.causes = s.irq.causes ++ [24] ∧ Raises s t 0 0x0505 [j % 2 ^ 24, b.jobId % 2 ^ 24, ceilDiv (e - (s.ctx j).start) b.pageLines % 2 ^ 24]) ∧
    (s.pkgLine < e + s.jobDelay b → exec (.jobRetired j) s = .next s))

/-- R212, R213, R216, R219, R222, R224: page descriptors and the job in force. -/
def Obligations.PageDescriptorsAndJobInForce : Prop :=
  (∀ (q j bar : Nat) (e : Entry) (s : State), q < s.ringCount → s.entryOf q [0x10] = some e → s.binding q = some (j, bar) →
    bits (e.words.getD 2 0) 0 7 = j → bits (e.words.getD 2 0) 8 4 = bar →
    let page := e.words.getD 3 0
    let bh := bit (e.words.getD 7 0) 0 || bit (e.words.getD 7 0) 1
    let ref := s.refStatus (bits (e.words.getD 4 0) 0 16) (bits (e.words.getD 4 0) 16 8)
    let next := max (s.stream j bar).expected (s.stream j bar).unbegun
    (bh = false → ref ≠ 0 →
      ∃ t, exec (.pageDescriptor q) s = .next t ∧ t.jobs = s.jobs ∧ SameBut [.win] s t ∧ t.live = s.live) ∧
    (bh = true ∨ ref = 0 →
      (page = next → (s.ctx j).final = none →
        ∃ t d, exec (.pageDescriptor q) s = .next t ∧ (t.stream j bar).descs = (s.stream j bar).descs ++ [d] ∧ d.page = page ∧
          d.repeats = bits (e.words.getD 5 0) 0 16 ∧ d.tag = e.words.getD 1 0 ∧ d.st = .queued ∧
          (t.stream j bar).expected = page + d.repeats + 1 ∧ SameBut [.win, .jobs] s t ∧ t.live = s.live) ∧
      (next < page →
        ∃ t, exec (.pageDescriptor q) s = .next t ∧ t.jobs = s.jobs ∧ SameBut [.win, .rcd] s t ∧
          t.rd (F.JOB_STREAM_ERR_SEQ bar) = min (s.rd (F.JOB_STREAM_ERR_SEQ bar) + 1) 255 ∧
          Raises s t (q / 32) 0x0514 [bar % 2 ^ 24, page % 2 ^ 24, next % 2 ^ 24]) ∧
      (page < next →
        ∃ t, exec (.pageDescriptor q) s = .next t ∧ t.jobs = s.jobs ∧ SameBut [.win, .rcd] s t ∧
          t.rd (F.JOB_STREAM_ERR_LATE bar) = min (s.rd (F.JOB_STREAM_ERR_LATE bar) + 1) 255 ∧
          Raises s t (q / 32) 0x0511 [bar % 2 ^ 24, page % 2 ^ 24]) ∧
      (∀ z, page = next → (s.ctx j).final = some z → z ≤ (s.ctx j).start + page * (((s.ctx j).block.map CtxBlock.pageLines).getD 1) →
        ∃ t, exec (.pageDescriptor q) s = .next t ∧ (t.stream j bar).descs = (s.stream j bar).descs ∧
          (t.stream j bar).expected = page + bits (e.words.getD 5 0) 0 16 + 1 ∧
          t.rd (F.JOB_STREAM_ERR_CUT bar) = min (s.rd (F.JOB_STREAM_ERR_CUT bar) + 1) 255 ∧ RaisesNone s t))) ∧
  (∀ (q j bar : Nat) (e : Entry) (s : State), q < s.ringCount → s.entryOf q [0x10] = some e → s.binding q = some (j, bar) →
    bits (e.words.getD 2 0) 0 7 ≠ j ∨ bits (e.words.getD 2 0) 8 4 ≠ bar →
    ∃ t, exec (.pageDescriptor q) s = .next t ∧ t.jobs = s.jobs ∧ SameBut [.win] s t ∧ t.live = s.live) ∧
  (∀ (q j bar : Nat) (b : CtxBlock) (d : PDesc) (s : State), q < s.ringCount → s.binding q = some (j, bar) → (s.ctx j).block = some b →
    (s.stream j bar).descs = [d] →
    ((s.ctx j).lastLine b d < tget s.jobs.fired ((s.ld.current.pacerOf bar).getD 0) 0 →
      ∃ t, exec (.pageDone q) s = .next t ∧ (t.stream j bar).descs = [] ∧ SameBut [.win, .jobs] s t ∧ t.live = s.live) ∧
    (tget s.jobs.fired ((s.ld.current.pacerOf bar).getD 0) 0 ≤ (s.ctx j).lastLine b d → exec (.pageDone q) s = .next s)) ∧
  (∀ (l j : Nat) (c : Ctx) (s : State), s.jobAt l = some (j, c) →
    (j, c) ∈ s.jobs.ctxs ∧ c.live = true ∧ c.start ≤ l ∧ below l c.endLine = true ∧
      ∀ e ∈ s.jobs.ctxs, e.2.live = true → e.2.start ≤ l → e.2.start ≤ c.start) ∧
  (∀ (l j : Nat) (c : Ctx) (b : CtxBlock) (s : State), s.jobAt s.pkgLine = some (j, c) → c.block = some b → 0 < b.pageLines →
    l ≤ s.boundaryFrom l ∧ c.start ≤ s.boundaryFrom l ∧ (s.boundaryFrom l - c.start) % b.pageLines = 0 ∧
      (c.start ≤ l → s.boundaryFrom l < l + b.pageLines))

/-- R222, R223, R234, R236, R238, R240 to R243, R245, R252: streams on the decompressor units. -/
def Obligations.StreamsExpandOrAbort : Prop :=
  (∀ (q j bar u slot : Nat) (p : PDesc) (b : CtxBlock) (s : State), q < s.ringCount → s.binding q = some (j, bar) → (s.stream j bar).descs = [p] →
    p.st = .queued → p.blank = false → p.hold = false → (s.ctx j).block = some b → s.idleUnit (q / 32) = some u →
    (s.stream j bar).freeSlot = some slot → s.zipOn (q / 32) = true → s.barFilling bar = false →
    s.refStatus p.buf p.gen = 0 →
    let a := (s.buf p.buf).addr + 256 * p.offset
    let h := s.packetHead a
    let inside : Prop := a + 64 + h.inLen ≤ (s.buf p.buf).addr + (s.buf p.buf).bytes
    let page : Prop := h.use = false ∧ bits (h.ws.getD 1 0) 8 4 = bar ∧ h.ws.getD 2 0 = 0 ∧ h.ws.getD 3 0 = b.pageLines - 1 ∧
      h.outSize = b.pageLines * s.lineBytes ((s.ld.current.pacerOf bar).getD 0) ((s.ctx j).start + p.page * b.pageLines : Nat) (b.plane bar).code
    (h.ok = true → inside → page →
      ∃ t, exec (.pageStreamStart q) s = .next t ∧ (t.stream j bar).descs = [{ p with st := .filling, slot := some slot }] ∧
        (t.dunit (q / 32) u).st = .run ∧ (t.dunit (q / 32) u).outSize = h.outSize ∧
        (t.dunit (q / 32) u).result = inflate (s.loadBytes (a + 64) h.inLen) ∧ (t.dunit (q / 32) u).crc = h.crc ∧
        (t.buf p.buf).uses = (s.buf p.buf).uses + 1 ∧ SameBut [.win, .jobs, .zip] s t ∧ t.live = s.live) ∧
    (h.ok = true → inside → ¬ page →
      ∃ t, exec (.pageStreamStart q) s = .next t ∧ (t.stream j bar).descs = [{ p with st := .packet }] ∧ t.zip = s.zip ∧
        .release p.buf 0 p.tag ∈ t.win.postings ∧ SameBut [.win, .jobs] s t ∧ t.live = s.live) ∧
    (h.ok = false ∨ ¬ inside →
      ∃ t, exec (.pageStreamStart q) s = .next t ∧ (t.stream j bar).descs = [{ p with st := .aborted 1, slot := none }] ∧
        (t.dunit (q / 32) u).st = .idle ∧ .release p.buf 0 p.tag ∈ t.win.postings ∧
        t.irq.causes = s.irq.causes ++ [256 * (q / 32) + 26] ∧ Raises s t (q / 32) 0x0601 [u, 1, p.tag % 2 ^ 24, bar])) ∧
  (∀ (d u : Nat) (x : DUnit) (s : State), d < s.dies → s.zip.dwait = [(d, x)] → s.idleUnit d = some u → s.zipOn d = true → x.work = true →
    x.ring ≠ 0xFFFF →
    (s.rd (F.ZIP_CTL_WORK_MAX d) ≤ s.onWork d → exec (.workStreamStart d) s = .next s) ∧
    (s.onWork d < s.rd (F.ZIP_CTL_WORK_MAX d) → s.refStatus x.inBuf (s.buf x.inBuf).gen = 0 → s.refStatus x.outBuf (s.buf x.outBuf).gen = 0 →
      let a := x.outSize + (s.buf x.inBuf).addr
      let h := s.packetHead a
      h.ok = true → a + 64 + h.inLen ≤ (s.buf x.inBuf).addr + (s.buf x.inBuf).bytes →
      (h.outSize ≤ (s.buf x.outBuf).addr + (s.buf x.outBuf).bytes - x.outAddr →
        ∃ t, exec (.workStreamStart d) s = .next t ∧ (t.dunit d u).st = .run ∧ (t.dunit d u).outSize = h.outSize ∧
          (t.dunit d u).result = inflate (s.loadBytes (a + 64) h.inLen) ∧ t.zip.dwait = [] ∧ SameBut [.zip] s t ∧ t.live = s.live) ∧
      ((s.buf x.outBuf).addr + (s.buf x.outBuf).bytes - x.outAddr < h.outSize →
        ∃ t, exec (.workStreamStart d) s = .next t ∧ (t.dunit d u).st = .idle ∧ t.irq.causes = s.irq.causes ++ [256 * d + 26] ∧
          Raises s t d 0x0601 [u, 2, x.tag % 2 ^ 24, 0xFFFFFF]))) ∧
  (∀ (d u dec n : Nat) (s : State), d < s.dies → u < 8 → Memory.wf s.mem = true →
    let x := s.dunit d u
    x.st = .run → x.written ≤ n → n ≤ dec → dec ≤ n + 4096 → dec ≤ x.limit → x.decoded ≤ dec →
    ∃ t, exec (.stagingWritten d u dec n) s = .next t ∧ (t.dunit d u).decoded = dec ∧ (t.dunit d u).written = n ∧
      t.rdPair (F.ZIP_OUT_LO_BYTES d) (F.ZIP_OUT_HI_BYTES d) =
        (s.rdPair (F.ZIP_OUT_LO_BYTES d) (F.ZIP_OUT_HI_BYTES d) + (dec - x.decoded)) % 2 ^ 48 ∧
      (x.work = false → 0 < x.lineBytes → tget? (t.stream (x.stream / 16) (x.stream % 16)).slots x.slot =
        some ⟨x.result.out.take n, n / x.lineBytes, x.lineBytes⟩) ∧ (x.work = false → t.mem = s.mem) ∧
      (x.work = true → x.ring ≠ 0xFFFF → (∀ k, x.written ≤ k → k < n → memGet t.mem (x.outAddr + k) = BitVec.ofNat 8 (x.result.out.getD k 0)) ∧
        (∀ a, a < x.outAddr + x.written ∨ x.outAddr + n ≤ a → memGet t.mem a = memGet s.mem a)) ∧
      (dec < n + 4096 → (t.dunit d u).st = .run) ∧
      (dec = n + 4096 → dec < x.limit → (t.dunit d u).st = .suspended ∧
        t.rd (F.ZIP_SUSP_COUNT d) = min (s.rd (F.ZIP_SUSP_COUNT d) + 1) (2 ^ 24 - 1))) ∧
  (∀ (d u : Nat) (s : State), d < s.dies → u < 8 → (s.dunit d u).st = .suspended →
    ((s.dunit d u).decoded < (s.dunit d u).written + 4096 →
      ∃ t, exec (.stagingSpace d u) s = .next t ∧ t.dunit d u = { s.dunit d u with st := .run } ∧ SameBut [.zip] s t ∧ t.live = s.live) ∧
    ((s.dunit d u).written + 4096 ≤ (s.dunit d u).decoded → exec (.stagingSpace d u) s = .next s)) ∧
  (∀ (d u : Nat) (ecc : Bool) (p : PDesc) (s : State), d < s.dies → u < 8 →
    let x := s.dunit d u
    let bar := x.stream % 16
    x.st = .run → x.work = false → (s.stream (x.stream / 16) bar).descs = [p] → p.ring = x.ring → p.seq = x.seq →
    let code := if ecc then 13 else if x.outSize < x.result.out.length then 10 else x.result.err
    (code = 0 → exec (.decompStreamError d u ecc) s = .next s) ∧
    (1 ≤ code → code ≤ 16 → code ≠ 14 → code ≠ 12 →
      ∃ t, exec (.decompStreamError d u ecc) s = .next t ∧ (t.dunit d u).st = .idle ∧ (t.stream (x.stream / 16) bar).descs =
          [{ p with st := .aborted code, slot := none }] ∧
        .release x.inBuf 0 x.tag ∈ t.win.postings ∧ t.irq.causes = s.irq.causes ++ [256 * d + 26] ∧ t.rd (F.ZIP_LAST_ERR_CODE d) = code ∧
        Raises s t d (if code = 10 then 0x0602 else 0x0601) [u, code, x.tag % 2 ^ 24, bar])) ∧
  (∀ (d u : Nat) (p : PDesc) (s : State), d < s.dies → u < 8 →
    let x := s.dunit d u
    let bar := x.stream % 16
    x.st = .run → x.work = false → (s.stream (x.stream / 16) bar).descs = [p] → p.ring = x.ring → p.seq = x.seq → x.result.err = 0 →
    x.result.out.length ≤ x.outSize →
    (x.result.out.length < x.outSize → ∃ t, exec (.decompStreamEnd d u) s = .next t ∧ Raises s t d 0x0601 [u, 11, x.tag % 2 ^ 24, bar]) ∧
    (x.result.out.length = x.outSize → x.result.used < x.inLen →
      ∃ t, exec (.decompStreamEnd d u) s = .next t ∧ Raises s t d 0x0601 [u, 9, x.tag % 2 ^ 24, bar]) ∧
    (x.result.out.length = x.outSize → x.inLen ≤ x.result.used → crc32 x.result.out ≠ x.crc →
      ∃ t, exec (.decompStreamEnd d u) s = .next t ∧ Raises s t d 0x0603 [u, 12, x.tag % 2 ^ 24, bar] ∧
        t.rd (F.ZIP_ERR_CRC d) = min (s.rd (F.ZIP_ERR_CRC d) + 1) 255) ∧
    (x.result.out.length = x.outSize → x.inLen ≤ x.result.used → crc32 x.result.out = x.crc → p.replaced = 0 →
      (s.stream (x.stream / 16) bar).under = [] →
      ∃ t, exec (.decompStreamEnd d u) s = .next t ∧ (t.dunit d u).st = .idle ∧ (t.stream (x.stream / 16) bar).descs = [{ p with st := .complete }] ∧
        (t.stream (x.stream / 16) bar).held = p.slot ∧ .release x.inBuf 0 x.tag ∈ t.win.postings))

/-- R247 to R252: WORK entries and compressor units. -/
def Obligations.WorkEntriesAndCompressors : Prop :=
  (∀ (q : Nat) (e : Entry) (s : State), q < s.ringCount → s.entryOf q [0x30] = some e →
    let w (i : Nat) : Nat := e.words.getD i 0
    let bad := if s.workRef q (w 2) ≠ 0 then s.workRef q (w 2) else s.workRef q (w 4)
    (bad = 0 → ∃ t x, exec (.workDecomp q) s = .next t ∧ t.zip.dwait = s.zip.dwait ++ [(q / 32, x)] ∧ x.work = true ∧ x.ring = q ∧ x.seq = e.seq ∧
      x.tag = w 1 ∧ x.inBuf = bits (w 2) 0 16 ∧ x.outBuf = bits (w 4) 0 16 ∧ x.outAddr = (s.buf x.outBuf).addr + 256 * w 5 ∧
      SameBut [.win, .zip] s t ∧ t.live = s.live) ∧
    (bad ≠ 0 → ∃ t, exec (.workDecomp q) s = .next t ∧ SameBut [.win] s t ∧ t.live = s.live)) ∧
  (∀ (q : Nat) (e : Entry) (s : State), q < s.ringCount → s.entryOf q [0x31] = some e →
    let w (i : Nat) : Nat := e.words.getD i 0
    let len := w 4 + 2 ^ 24 * w 5
    (s.workRef q (w 2) = 0 → s.workRef q (w 6) = 0 → 1 ≤ bits (w 7) 0 4 → bits (w 7) 0 4 ≤ 9 →
      256 * w 3 + len ≤ (s.buf (bits (w 2) 0 16)).bytes →
      ∃ t, exec (.workComp q) s = .next t ∧ SameBut [.win, .zip] s t ∧ t.live = s.live ∧ t.zip.cwait = s.zip.cwait ++ [(q / 32,
        ⟨.work q e.seq, w 1, bits (w 7) 0 4, s.loadBytes ((s.buf (bits (w 2) 0 16)).addr + 256 * w 3) len, some (bits (w 2) 0 16),
          [(bits (w 6) 0 16, 0)], false⟩)]) ∧
    (9 < bits (w 7) 0 4 → ∃ t, exec (.workComp q) s = .next t ∧ SameBut [.win] s t ∧ t.live = s.live)) ∧
  (∀ (q d u : Nat) (e : Entry) (c : CUnit) (j : CJob) (s : State), q < s.ringCount → s.entryOf q [0x32] = some e →
    s.zip.cunits = [(2 * d + u, c)] → c.job = some j → j.isWork q (e.words.getD 2 0) = true → s.workRef q (e.words.getD 3 0) = 0 → s.zip.cwait = [] →
    (j.chain.length < 16 →
      ∃ t, exec (.workCompMore q) s = .next t ∧ t.cunit d u = { c with job := some { j with chain := j.chain ++ [(bits (e.words.getD 3 0) 0 16, 0)] } } ∧
        SameBut [.win, .zip] s t ∧ t.live = s.live) ∧
    (16 ≤ j.chain.length → ∃ t, exec (.workCompMore q) s = .next t ∧ SameBut [.win] s t ∧ t.live = s.live)) ∧
  (∀ (d u k n : Nat) (j : CJob) (s : State), d < s.dies → u < 2 → s.zip.cwait = [(d, j)] → s.zipOn d = true → (s.cunit d u).job = none → j.bad = false →
    j.owner = .work k n →
    (s.workLost j = none →
      let out := List.replicate 64 0 ++ deflate j.level j.input
      ∃ t, exec (.producerCompressStart d u) s = .next t ∧ t.cunit d u = ⟨some j, j.level, decide (s.chainRoom j.chain < out.length), out,
          elementEnds 512 (deflateElements j.level j.input), s.rd (F.ZIP_STALL_TO_MS d), s.clk⟩ ∧
        t.zip.cwait = [] ∧ t.rdPair (F.ZIP_CIN_LO_BYTES d) (F.ZIP_CIN_HI_BYTES d) =
          (s.rdPair (F.ZIP_CIN_LO_BYTES d) (F.ZIP_CIN_HI_BYTES d) + j.input.length) % 2 ^ 48 ∧ SameBut [.mem, .zip] s t) ∧
    (s.workLost j ≠ none →
      ∃ t, exec (.producerCompressStart d u) s = .next t ∧ (t.cunit d u).job = none ∧ t.zip.cwait = [] ∧ SameBut [.win, .zip] s t ∧
        t.live = s.live)) ∧
  (∀ (d u k n : Nat) (j : CJob) (s : State), d < s.dies → u < 2 → (s.cunit d u).job = some j → (s.cunit d u).stalled = true → j.owner = .work k n →
    ∃ t, exec (.compOutputSpace d u) s = .next t ∧
      t.cunit d u = { s.cunit d u with stalled := decide (s.chainRoom j.chain < (s.cunit d u).out.length), stalledAt := s.clk } ∧ SameBut [.mem, .zip] s t ∧ t.live = s.live) ∧
  (∀ (d u k n now : Nat) (j : CJob) (s : State), d < s.dies → u < 2 → (s.cunit d u).job = some j → j.owner = .work k n →
    let x := s.cunit d u
    (x.stalled = true → x.stalledAt + 200000 * x.stallMs ≤ (s.atTime now).clk →
      ∃ t, exec (.compStallTimeout d ⟨u, false, now⟩) s = .next t ∧ (t.cunit d u).job = none ∧ t.irq.causes = s.irq.causes ++ [256 * d + 26] ∧
        Raises s t d 0x0604 [8 + u, 15, j.tag % 2 ^ 24, 0xFFFFFF] ∧ t.rd (F.ZIP_CERR_ABORT d) = min (s.rd (F.ZIP_CERR_ABORT d) + 1) 255 ∧
        (∀ e ∈ s.chainBytes j.chain (x.fits (s.chainRoom j.chain)), .release e.1 e.2 j.tag ∈ t.win.postings)) ∧
    (∃ t, exec (.compStallTimeout d ⟨u, true, now⟩) s = .next t ∧ (t.cunit d u).job = none ∧ t.irq.causes = s.irq.causes ++ [256 * d + 26] ∧
      Raises s t d 0x0604 [8 + u, 15, j.tag % 2 ^ 24, 0xFFFFFF]) ∧
    (x.stalled = false ∨ (s.atTime now).clk < x.stalledAt + 200000 * x.stallMs →
      exec (.compStallTimeout d ⟨u, false, now⟩) s = .next (s.atTime now))) ∧
  (∀ (d u k n b first : Nat) (j : CJob) (s : State), d < s.dies → u < 2 → Memory.wf s.mem = true → (s.cunit d u).job = some j → j.owner = .work k n →
    (s.cunit d u).stalled = false → j.chain = [(b, first)] → 64 ≤ (s.cunit d u).out.length → first + (s.cunit d u).out.length ≤ (s.buf b).bytes →
    ∃ t, exec (.compClose d u) s = .next t ∧ (t.cunit d u).job = none ∧ .release b (s.cunit d u).out.length j.tag ∈ t.win.postings ∧
      (∀ i < 64, memGet t.mem ((s.buf b).addr + first + i) =
        BitVec.ofNat 8 ((packetBytes j.input.length ((s.cunit d u).out.length - 64) (crc32 j.input)).getD i 0)) ∧
      (∀ a, a < (s.buf b).addr + first ∨ (s.buf b).addr + first + (s.cunit d u).out.length ≤ a → memGet t.mem a = memGet s.mem a) ∧
      SameBut [.mem, .win, .zip] s t ∧ t.live = s.live)

/-- R265. -/
def Obligations.RankAndPreferredRow : Prop :=
  (∀ p i : Nat, rank p i < 64 ∧ ∀ j < 3, (rank p i).testBit (5 - 2 * j) = (p.testBit j != i.testBit j) ∧ (rank p i).testBit (4 - 2 * j) = i.testBit j) ∧
  (∀ (e : LineEnv) (p : Nat),
    let ts := (List.range 16).filter (fun t => e.maskSet.testBit t)
    let r := if ts = [] then 0
      else if (e.tiles.getD (64 * ts.getD ((e.line / 64 + p / 64 + e.page) % ts.length) 0 + e.line % 64) 0).testBit (p % 64) then 1 else 0
    e.rowpref p = if e.heads p r = [] then 1 - r else r)

/-- R257, R264, R266, R268, R270, R271: the computation of a line. -/
def Obligations.NozzlesAreChosen : Prop :=
  (∀ (e : LineEnv) (p : Nat),
    let r := e.rowpref p
    let cands : List (Option Nozzle) := [(e.pair p r).1, (e.pair p r).2] ++ (if e.neighbourOnly then [] else [(e.pair p (1 - r)).1, (e.pair p (1 - r)).2])
    (∀ n sub, e.choose p = some (n, sub) → e.out n = false ∧ (sub = false ↔ (e.pair p r).1 = some n) ∧
      ∃ pre post, cands = pre ++ some n :: post ∧ ∀ m, some m ∈ pre → e.out m = true) ∧
    (e.choose p = none ↔ ∀ m, some m ∈ cands → e.out m = true)) ∧
  (∀ (e : LineEnv) (p r : Nat),
    (e.heads p r = [] → e.pair p r = (none, none)) ∧
    (∀ a, e.heads p r = [a] → e.pair p r = (some a, none)) ∧
    (∀ a b, e.heads p r = [a, b] →
      let z := p - (zoneOf e.nozzles r a.head b.head).1
      let v := (zoneOf e.nozzles r a.head b.head).2
      (e.stitch = true → e.pair p r = if 2 * z ≥ v then (some b, some a) else (some a, some b)) ∧
      (e.stitch = false → e.pair p r = if rank p e.line * v < 32 * (2 * z + 1) then (some b, some a) else (some a, some b)))) ∧
  (∀ (e : LineEnv) (n : Nozzle) (c p : Nat), e.curved n c p ≤ e.cmax ∧
    (e.curve (Machine.bits (e.word n.addr) 0 6) c = c + 16 * c → c ≤ e.cmax → c < 16 → e.curved n c p = c)) ∧
  (∀ (e : LineEnv) (t : LineSum), (∀ x ∈ t.codes, x.2 ≤ e.cmax) →
    (e.substitute t).lost ≤ t.lost + t.missed.length ∧
    t.lost + t.subst + t.missed.length ≤ (e.substitute t).lost + (e.substitute t).subst ∧
    ∀ x ∈ (e.substitute t).codes, x.2 ≤ e.cmax) ∧
  (∀ (e : LineEnv) (data : List Nat) (xreg : Int), ∀ x ∈ (e.place data xreg).missed, x.1 < e.width ∧ 0 < x.2 ∧
    (x.2 : Int) = pixel data e.bits ((x.1 : Int) - xreg).toNat ∧ e.choose x.1 = none) ∧
  (∀ (e : LineEnv) (codes : Tab Nat), ∀ x ∈ e.waves codes, 0 < x.2 ∧ x.2 < 2 ^ e.bits) ∧
  (∀ (data : List Nat) (b j : Nat), pixel data b j = data.getD (j * b / 8) 0 / 2 ^ (j * b % 8) % 2 ^ b)

/-- R226, R262, R264, R267, R272, R275, R281: lines begun, and the nozzle table port. -/
def Obligations.RasterLinesBegin : Prop :=
  (∀ (p now : Nat) (s : State), p < 2 * s.dies →
    let u := s.atTime now
    let r := u.raster p
    ((u.imageFor (.bar p)).barOf p = none ∨ u.rasOn p = false ∨ (u.dieLine (p / 2) : Int) < r.next + u.delay (.bar p) - u.leadEff p →
      exec (.rasLineBegin p now) s = .next u) ∧
    (∀ bar, (u.imageFor (.bar p)).barOf p = some bar → u.rasOn p = true → r.next + u.delay (.bar p) - u.leadEff p ≤ (u.dieLine (p / 2) : Int) →
      (r.next < 0 → exec (.rasLineBegin p now) s = .next (u.setRaster p { r with next := r.next + 1 })) ∧
      (∀ l : Nat, r.next = l →
        ((∀ j c b, u.jobAt l = some (j, c) → c.block ≠ some b) →
          ∃ t x, exec (.rasLineBegin p now) s = .next t ∧ (t.raster p).recs.head? = some x ∧ x.line = l ∧ x.nofire = true ∧ (t.raster p).next = l + 1 ∧
            t.rdPair (F.RAS_BEGUN_LO_LINE (p / 2) (p % 2)) (F.RAS_BEGUN_HI_LINE (p / 2) (p % 2)) = l % 2 ^ 48 ∧
            SameBut [.clk, .timeBase, .press] s t) ∧
        (∀ j c b, u.jobAt l = some (j, c) → c.block = some b →
          let k := (c.pageOf l).1
          let i := (c.pageOf l).2
          let env := u.lineEnv p bar l b k i
          let size := 2 ^ u.rd (F.RAS_DL_DEPTH (p / 2) (p % 2))
          (∀ line use, u.claimAt l = some (line, use) →
            ∃ t x, exec (.rasLineBegin p now) s = .next t ∧ (t.raster p).recs = x :: r.recs.filter (fun y => y.line % size != l % size) ∧ x.line = l ∧
              x.nofire = false ∧ x.vals = env.checkCodes bar line use (u.rd F.HLTH_CTL_CHK_CODE)) ∧
          (u.claimAt l = none → (u.sourceOf bar p l (u.role = 2)).1 = .nofire →
            ∃ t x, exec (.rasLineBegin p now) s = .next t ∧ (t.raster p).recs = x :: r.recs.filter (fun y => y.line % size != l % size) ∧ x.line = l ∧
              x.nofire = true ∧ x.code = (b.plane bar).code) ∧
          (∀ data, u.claimAt l = none → (u.sourceOf bar p l (u.role = 2)).1 = .bytes data →
            let sum := env.substitute (env.place data (signed 10 (u.atLine (.bar p) l (F.RAS_XREG_XREG (p / 2) (p % 2)))))
            ∃ t x, exec (.rasLineBegin p now) s = .next t ∧ (t.raster p).recs = x :: r.recs.filter (fun y => y.line % size != l % size) ∧ x.line = l ∧
              x.nofire = false ∧ x.vals = env.waves sum.codes ∧ x.code = (b.plane bar).code ∧ x.writtenAt = u.dieLine (p / 2) ∧
              t.rd (F.RAS_SUBST_COUNT (p / 2) (p % 2)) = min (u.rd (F.RAS_SUBST_COUNT (p / 2) (p % 2)) + sum.subst) (2 ^ 24 - 1) ∧
              t.rd (F.RAS_LOST_COUNT (p / 2) (p % 2)) = min (u.rd (F.RAS_LOST_COUNT (p / 2) (p % 2)) + sum.lost) (2 ^ 24 - 1) ∧
              t.mem = s.mem ∧ t.epoch = s.epoch))))) ∧
  (∀ (d : Nat) (s : State), d < s.dies → s.inService (dieAt d 0x20000) = true → s.rd (F.RAS_NZ_ADDR_ADDR d) < 131072 →
    let a := s.rd (F.RAS_NZ_ADDR_ADDR d)
    (∃ t, exec (.rasNzDataAccess d none) s = .next t ∧ t.host.readData = [s.readNozzle d a] ∧ t.rd (F.RAS_NZ_ADDR_ADDR d) = (a + 1) % 131072 ∧
      SameBut [.host] s t ∧ SameRegs (among [F.RAS_NZ_ADDR_ADDR d]) s t) ∧
    (s.rd F.EPOCH_CTL_VIEW = 1 → s.rd (nozzleWord (131072 * d + a)) < 1024 → s.rd (nozzleEbOut (131072 * d + a)) < 2 → (s.readNozzle d a).testBit 11 =
      nozzleOut (s.rd (nozzleWord (131072 * d + a))) (s.on (nozzleEbOut (131072 * d + a)))) ∧
    (∀ w : Word, s.epoch.stage.length < 1024 → s.epoch.stage.all (fun e => e.key ≠ (nozzleWord (131072 * d + a)).key) = true →
      ∃ t, exec (.rasNzDataAccess d (some w)) s = .next t ∧
        t.epoch.stage = s.epoch.stage ++ [⟨d, (nozzleWord (131072 * d + a)).key, w.toNat % 64 + 256 * (w.toNat / 256 % 4)⟩] ∧
        t.rd (F.RAS_NZ_ADDR_ADDR d) = (a + 1) % 131072 ∧ SameBut [.epoch] s t ∧ SameRegs (among [F.RAS_NZ_ADDR_ADDR d]) s t))

/-- R296, as a reported position is computed at the SENSE clock of its read. -/
def Obligations.PositionHasItsFraction : Prop :=
  ∀ (x : Input) (now : Nat),
    let frac : Nat := if x.still = true ∨ x.hold = true then 0
      else match x.hist with
        | t :: t' :: _ => min 255 (256 * (now - t) / (t - t'))
        | _ => 0
    (x.frozen = none → x.position now = 256 * x.count + (if x.back then -1 else 1) * frac) ∧
    (∀ v, x.frozen = some v → x.position now = v)

/-- R285 to R287, R292 to R294: edges of an input. -/
def Obligations.EdgesCount : Prop :=
  (∀ (inv a b a' b' : Bool),
    (decodeLevels 0 inv a b a' b' = .illegal ↔ a ≠ a' ∧ b ≠ b') ∧ (decodeLevels 0 inv a b a' b' = .still ↔ a = a' ∧ b = b') ∧
    (decodeLevels 0 false a b a' b' = .up ↔ decodeLevels 0 true a b a' b' = .down) ∧
    (decodeLevels 0 false a b a' b' = .up ↔ (a, b, a', b') ∈ [(false, false, true, false), (true, false, true, true), (true, true, false, true),
      (false, true, false, false)]) ∧
    decodeLevels 1 inv a b a' b' = (if a = false ∧ a' = true then (if b' ≠ inv then .up else .down) else .still) ∧
    (decodeLevels 2 inv a b a' b' = .up ↔ (a = false ∧ a' = true) ∧ ¬ (b = false ∧ b' = true)) ∧
    (decodeLevels 2 inv a b a' b' = .down ↔ (b = false ∧ b' = true) ∧ ¬ (a = false ∧ a' = true))) ∧
  (∀ (f stamp now : Nat) (a b : Bool) (s : State), f < 5 * s.dies →
    let u := s.atTime now
    let x := u.input f
    let way := decodeLevels (if f % 5 = 4 then 0 else u.rd (F.FBK_CTL_MODE (f / 5) (f % 5))) (u.on (F.FBK_CTL_INV (f / 5) (f % 5))) x.a x.b a b
    (u.inputLive f = false ∨ u.filtered f stamp = false → exec (.fbkEdge f a b now stamp) s = .next u) ∧
    (u.inputLive f = true → u.filtered f stamp = true →
      (way = .still → f ≠ 4 → exec (.fbkEdge f a b now stamp) s = .next (u.setInput f { x with a := a, b := b })) ∧
      (∀ back : Bool, way = (if back then .down else .up) →
        ∃ t, exec (.fbkEdge f a b now stamp) s = .next t ∧ (t.input f).count = x.count + (if back then -1 else 1) ∧ (t.input f).a = a ∧
          (t.input f).b = b ∧ (t.input f).still = false ∧ (t.input f).back = back ∧ (t.input f).valid = some back ∧
          (t.input f).edgeAt = now ∧
          (t.input f).hist = (now :: (if x.still = true ∨ x.back ≠ back then [] else x.hist)).take (u.avg f + 1) ∧
          (∀ g, g ≠ f → t.input g = u.input g)) ∧
      (way = .illegal →
        ∃ t, exec (.fbkEdge f a b now stamp) s = .next t ∧ (t.input f).hist = [] ∧ (t.input f).hold = true ∧
          (t.input f).kept = x.speed u.clk (u.stillTo f) ∧ (t.input f).edgeAt = u.clk ∧
          (t.input f).count = x.count + (if u.on (F.FBK_CTL_INFER (f / 5) (f % 5)) then (match x.valid with
            | some back => if back then -2 else 2
            | none => 0) else 0) ∧
          t.rd (F.FBK_QERR_COUNT (f / 5) (f % 5)) = min (u.rd (F.FBK_QERR_COUNT (f / 5) (f % 5)) + 1) (2 ^ 24 - 1) ∧
          t.rd (F.FBK_STAT_QERR (f / 5) (f % 5)) = 1)))

/-- R288, R294, R295, R297 to R301. -/
def Obligations.IndexLossAndEmulation : Prop :=
  (∀ (f now stamp : Nat) (s : State), f < 5 * s.dies →
    let u := s.atTime now
    let d := f / 5
    let i := f % 5
    let x := u.input f
    (u.inputLive f = false ∨ u.filtered f stamp = false ∨ u.rd (F.FBK_CTL_ZMODE d i) = 0 → exec (.zEdge f ⟨now, stamp⟩) s = .next u) ∧
    (u.inputLive f = true → u.filtered f stamp = true → u.rd (F.FBK_CTL_ZMODE d i) ≠ 0 →
      ∃ t, exec (.zEdge f ⟨now, stamp⟩) s = .next t ∧
        t.rdPair (F.FBK_IDX_LO_VALUE d i) (F.FBK_IDX_HI_VALUE d i) = unsigned 48 (x.position u.clk) ∧ t.rd (F.FBK_STAT_IDX_NEW d i) = 1 ∧
        t.input f = (if u.rd (F.FBK_CTL_ZMODE d i) = 2 ∧ i ≠ 4 then { x with count := 0 } else x) ∧ SameBut [.clk, .timeBase, .press] s t)) ∧
  (∀ (f now : Nat) (s : State), f < 5 * s.dies →
    let u := s.atTime now
    let x := u.input f
    (x.still = true ∨ u.clk < x.edgeAt + u.stillTo f → exec (.standstillTimeout f now) s = .next u) ∧
    (x.still = false → x.edgeAt + u.stillTo f ≤ u.clk →
      ∃ t, exec (.standstillTimeout f now) s = .next t ∧ t.input f = { x with hist := [], still := true, hold := false, valid := none } ∧
        (∀ n, (t.input f).speed n (u.stillTo f) = 0) ∧ (f % 5 = 4 → (t.web (f / 5)).stamps = []) ∧ SameBut [.clk, .timeBase, .press] s t ∧ t.live = u.live)) ∧
  (∀ (f now : Nat) (s : State), f < 5 * s.dies →
    let u := s.atTime now
    let d := f / 5
    let i := f % 5
    (u.on (F.FBK_STAT_LOS d i) = true ∨ (i ≠ 4 ∧ (u.input f).single = true) → exec (.losSet f now) s = .next u) ∧
    (u.on (F.FBK_STAT_LOS d i) = false → i = 4 ∨ (u.input f).single = false →
      ∃ t, exec (.losSet f now) s = .next t ∧ t.rd (F.FBK_STAT_LOS d i) = 1 ∧ 256 * d + 28 ∈ t.irq.causes ∧
        (∃ r ∈ t.rcd.raised, r.die = d ∧ r.code = 0x0D02 ∧ r.payload = [i]) ∧ (i ≠ 4 → SameBut [.clk, .timeBase, .rcd, .irq] s t)) ∧
    (u.on (F.FBK_STAT_LOS d i) = false → exec (.losClear f now) s = .next u) ∧
    (u.on (F.FBK_STAT_LOS d i) = true →
      ∃ t, exec (.losClear f now) s = .next t ∧ t.rd (F.FBK_STAT_LOS d i) = 0 ∧ Raises s t d 0x0D03 [i] ∧
        SameBut [.clk, .timeBase, .rcd, .press] s t)) ∧
  (∀ (x n : Nat) (s : State),
    let num := s.rd (F.FBK_EMU_NUM_VALUE (x / 2) (x % 2))
    let den := s.rd (F.FBK_EMU_DEN_VALUE (x / 2) (x % 2))
    let e := s.emu x
    let t := (List.range n).foldl (fun s _ => s.emuCount x false) s
    0 < num → num ≤ den → e.acc < den → 0 ≤ e.backlog → e.backlog + ((e.acc + n * num) / den : Nat) ≤ 65535 →
      (t.emu x).backlog = e.backlog + ((e.acc + n * num) / den : Nat) ∧ (t.emu x).acc = (e.acc + n * num) % den ∧ SameBut [.press] s t ∧ t.live = s.live) ∧
  (∀ (x now : Nat) (s : State), x < 2 * s.dies →
    let u := s.atTime now
    let e := u.emu x
    let st := u.rd (F.FBK_EMU_CTL_STATE (x / 2) (x % 2))
    (e.backlog = 0 ∨ (st ≠ 2 ∧ st ≠ 3) ∨ u.clk < e.lastAt + u.rd (F.FBK_EMU_GAP_VALUE (x / 2) (x % 2)) → exec (.emuEmit x now) s = .next u) ∧
    (e.backlog ≠ 0 → st = 2 ∨ st = 3 → e.lastAt + u.rd (F.FBK_EMU_GAP_VALUE (x / 2) (x % 2)) ≤ u.clk →
      ∃ t, exec (.emuEmit x now) s = .next t ∧ (t.emu x).backlog.natAbs + 1 = e.backlog.natAbs ∧ (t.emu x).pos - e.pos = e.backlog - (t.emu x).backlog ∧
        (t.emu x).lastAt = (if u.on (F.FBK_EMU_CTL_MODE (x / 2) (x % 2)) = true ∧ e.b = decide (e.backlog < 0) then u.clk + 4 else u.clk) ∧ (∀ y, y ≠ x → t.emu y = u.emu y) ∧ SameBut [.clk, .timeBase, .press] s t ∧ t.live = u.live))

/-- R325, R326: the band step. -/
def Obligations.BandsFollowSpeed : Prop :=
  (∀ (p f : Nat) (s : State), p < 2 * s.dies →
    let q := s.speedQ p ((f : Int) - s.delay (.bar p))
    let os := (s.thresholds (p / 2)).1
    let ns := (s.thresholds (p / 2)).2.1
    let rs := (s.thresholds (p / 2)).2.2.1
    let om := (s.thresholds (p / 2)).2.2.2
    let x := s.pacer p
    let t := s.bandStep p f
    (ns < q → t.band p = 2 ∧ (t.pacer p).step = .nofire ∧ t.rd (F.LNP_NOFIRE_COUNT (p / 2) (p % 2)) =
      min (s.rd (F.LNP_NOFIRE_COUNT (p / 2) (p % 2)) + 1) (2 ^ 24 - 1)) ∧
    (q ≤ ns → s.band p = 0 → os < q → t.band p = 1 ∧ (t.pacer p).step = .fire ∧ 256 * (p / 2) + 29 ∈ t.irq.causes ∧
      (t.pacer p).acc = q - 1024 ∧ (t.pacer p).gap = om + 1) ∧
    (q ≤ ns → s.band p = 0 → q ≤ os → t.band p = 0 ∧ (t.pacer p).step = .fire ∧ RaisesNone s t) ∧
    (q ≤ ns → s.band p ≠ 0 → q < rs → t.band p = 0 ∧ (t.pacer p).step = .fire ∧
      Raises s t (p / 2) 0x0804 [p % 2, x.omitted % 2 ^ 24, x.nofired % 2 ^ 24]) ∧
    (q ≤ ns → s.band p = 2 → rs ≤ q → t.band p = 2 ∧ (t.pacer p).step = .nofire ∧ RaisesNone s t) ∧
    (q ≤ ns → s.band p = 1 → rs ≤ q →
      t.band p = 1 ∧ ((t.pacer p).step = .omit ↔ q ≤ x.acc + q - 1024 ∧ om ≤ x.gap + 1) ∧
      (t.pacer p).gap = (if (t.pacer p).step = .omit then 0 else x.gap + 1) ∧
      (t.pacer p).acc = x.acc + q - 1024 - (if (t.pacer p).step = .omit then q else 0))) ∧
  (∀ (p f n q : Nat) (s : State), p < 2 * s.dies → s.band p = 1 → (s.thresholds (p / 2)).2.2.1 ≤ q → q ≤ (s.thresholds (p / 2)).2.1 → 1024 ≤ q →
    (∀ l : Int, s.speedQ p l = q) →
    let t := (List.range n).foldl (fun s k => s.bandStep p (f + k)) s
    (t.pacer p).acc + q * ((t.pacer p).omitted - (s.pacer p).omitted) = (s.pacer p).acc + n * (q - 1024) ∧
      (s.pacer p).omitted ≤ (t.pacer p).omitted ∧ t.band p = 1)

/-- R312, R315, R319 to R323: lines fired by a group. -/
def Obligations.StrobesFireOrAreWithheld : Prop :=
  (∀ (g f sof : Nat) (bad : List Nat) (s : State), g < 8 * s.dies →
    let u := s.atFire f
    let d := g / 8
    let i := g % 8
    let p := u.groupPacer g
    let m := u.imageFor (.bar p)
    let line := (u.group g).next
    let l : Int := line - u.delay (.bar p)
    let ml := u.imageAt (.bar p) l
    let v := u.settleGroup g
    (u.pacerOn p = false ∨ m.groupPacer d i ≠ some (p % 2) ∨ u.triggerDue g f = false → exec (.lineTrigger g f sof bad) s = .next u) ∧
    (u.pacerOn p = true → m.groupPacer d i = some (p % 2) → u.triggerDue g f = true →
      (v.grpState g ≠ 1 ∨ (u.web d).reverse = true →
        ∃ t, exec (.lineTrigger g f sof bad) s = .next t ∧ (t.group g).next = line + 1 ∧ (t.group g).pend = none ∧ (t.group g).sentNofire = true) ∧
      (v.grpState g = 1 → (u.web d).reverse = false → u.atLine (.bar p) l (F.LNP_GRP_QUIESCE d i) = 0 → (u.pacer p).stepLine = line →
        (u.pacer p).step = .fire → (u.pacer p).loss = .none → (u.pacer p).diverged = none → u.mayFire d = true → u.firesLine p line = true →
        (∃ a ∈ ml.groupLanes d i, bit (u.rd (F.LAN_GSTAT_ALIGNED d i)) (if a.phys < 64 then a.phys % 8 else 8) = true ∧ ∃ r < 2, ∃ y, u.recordFor p line a.head r = some y ∧ y.nofire = false ∧ y.writtenAt + 4 ≤ line ∧ y.line ∉ bad) →
        ∃ t b, exec (.lineTrigger g f sof bad) s = .next t ∧ (t.group g).next = line + 1 ∧ (t.group g).pend = some b ∧ (t.group g).sentNofire = false ∧
          b.line = line ∧ b.target = u.target g line ∧ b.adv = (u.lineMark g line).adv ∧ b.pw = u.atLine (.bar p) l (F.LNP_PW_PW d i) ∧
          max sof (u.group g).burstTo ≤ b.ready ∧ t.mem = s.mem ∧ t.epoch = s.epoch))) ∧
  (∀ (g f : Nat) (s : State), g < 8 * s.dies →
    let u := s.atFire f
    let d := g / 8
    let p := u.groupPacer g
    let x := u.group g
    (x.pend = none → exec (.strobeFire g f) s = .next u) ∧
    (∀ b, x.pend = some b →
      let l : Int := b.line - u.delay (.bar p)
      (u.mayFire d = false ∨ u.firesLine p b.line = false ∨ (∀ k, b.placed = some k → f < k) → exec (.strobeFire g f) s = .next u) ∧
      (∀ k, b.placed = some k → k ≤ f → u.mayFire d = true → u.firesLine p b.line = true →
        (f < b.ready + u.rd (F.LNP_TSET_TSET d) →
          ∃ t, exec (.strobeFire g f) s = .next t ∧ (t.group g).pend = none ∧ (t.group g).last = x.last ∧
            t.rd (F.LNP_LATE_COUNT d (p % 2)) = min (u.rd (F.LNP_LATE_COUNT d (p % 2)) + 1) (2 ^ 24 - 1) ∧
            (t.group g).lateRun = true ∧ (x.lateRun = true → RaisesNone s t) ∧ (x.lateRun = false → Raises s t d 0x080A [p % 2, g % 8, b.line % 2 ^ 24])) ∧
        (∀ z, b.ready + u.rd (F.LNP_TSET_TSET d) ≤ f → x.last = some z → f < z + u.floorOf p l →
          ∃ t, exec (.strobeFire g f) s = .next t ∧ (t.group g).pend = none ∧ (t.group g).last = x.last ∧
            t.rd (F.LNP_OMIT_COUNT (p / 2) (p % 2)) = min (u.rd (F.LNP_OMIT_COUNT (p / 2) (p % 2)) + 1) (2 ^ 24 - 1) ∧ RaisesNone s t) ∧
        (b.ready + u.rd (F.LNP_TSET_TSET d) ≤ f → (∀ z, x.last = some z → z + u.floorOf p l ≤ f) →
          ∃ t, exec (.strobeFire g f) s = .next t ∧ (t.group g).pend = none ∧ (t.group g).last = some f ∧
            (t.group g).width = u.clampPulse g b.pw l ∧ (t.group g).lateRun = false ∧ (t.group g).width ≤ u.pulseMax g ∧
            (t.group g).width ≤ u.floorOf p l - 40 ∧ (t.pacer p).firedTo = max (u.pacer p).firedTo (b.line + 1) ∧ RaisesNone s t ∧
            t.live = u.live ∧ SameBut [.clk, .timeBase, .press, .rcd] s t)))) ∧
  (∀ (g f : Nat) (s : State), g < 8 * s.dies →
    let u := s.atFire f
    let due : Prop := match (u.web (g / 8)).stamps with
      | a :: b :: _ => a + 2 * (a - b) ≤ f
      | _ => True
    (due → ∃ t, exec (.strobeWithdraw g f) s = .next t ∧ (∀ x, (u.group g).pend = some x → (t.group g).pend = some { x with placed := none }) ∧
      ((u.group g).pend = none → (t.group g).pend = none) ∧ (∀ h, h ≠ g → t.group h = u.group h) ∧
      SameBut [.clk, .timeBase, .press] s t ∧ t.live = u.live) ∧
    (¬ due → exec (.strobeWithdraw g f) s = .next u))

/-- R322, R328, R331, R334, R337. -/
def Obligations.WatchdogRejectAndTickle : Prop :=
  (∀ (g n : Nat) (s : State), g < 8 * s.dies →
    let d := g / 8
    let i := g % 8
    (n ≤ s.cutLimit g → exec (.strobeCut g n) s = .next s) ∧
    (20 * s.cutLimit g ≥ 11 * (if (s.group g).own then (s.group g).width else s.pulseMax g) ∧
      20 * s.cutLimit g < 11 * (if (s.group g).own then (s.group g).width else s.pulseMax g) + 20) ∧
    (s.cutLimit g < n → ∃ t, exec (.strobeCut g n) s = .next t ∧ (t.group g).pend = none ∧ Raises s t d 0x0807 [i, n % 2 ^ 24] ∧
      t.irq.causes = s.irq.causes ++ [256 * d + 30] ∧ t.rd (F.LNP_WD_CUT d i) = min (s.rd (F.LNP_WD_CUT d i) + 1) 255 ∧
      (s.grpState g ≠ 3 → t.grpState g = 2 ∧ t.rd (F.LNP_GRP_FAULT d i) = 1) ∧ (s.grpState g = 3 → t.grpState g = 3) ∧
      SameBut [.press, .rcd, .irq] s t) ∧
    (∃ t, exec (.strobeStuck g) s = .next t ∧ (t.group g).pend = none ∧ Raises s t d 0x0808 [i, 20] ∧
      t.rd (F.LNP_WD_STUCK d i) = min (s.rd (F.LNP_WD_STUCK d i) + 1) 255 ∧ (s.grpState g ≠ 3 → t.grpState g = 2) ∧ SameBut [.press, .rcd, .irq] s t) ∧
    (s.pacerOn (s.groupPacer g) = true →
      (s.tooClose g n = true ↔ 2 * n + 2 < s.floorOf (s.groupPacer g) ((s.dieLine d : Int) - s.delay (.bar (s.groupPacer g))))) ∧
    (s.tooClose g n = false → exec (.periodGuard g n) s = .next s) ∧
    (s.tooClose g n = true → ∃ t, exec (.periodGuard g n) s = .next t ∧ (t.group g).pend = none ∧ Raises s t d 0x0809 [i, n % 2 ^ 24] ∧
      t.rd (F.LNP_WD_GUARD d i) = min (s.rd (F.LNP_WD_GUARD d i) + 1) 255 ∧ (s.grpState g ≠ 3 → t.grpState g = 2) ∧ SameBut [.press, .rcd, .irq] s t) ∧
    (s.inService (dieAt d (0x30080 + 4 * i)) = true → s.grpState g = 2 →
      (s.on (F.LAN_GSTAT_IDV d i) = true →
        ∃ t, exec (.groupFaultClear g false) s = .next t ∧ t.grpState g = 1 ∧ t.rd (F.LNP_GRP_FAULT d i) = 0 ∧ SameBut [] s t ∧
          SameRegs (among [F.LNP_GRP_STATE d i, F.LNP_GRP_FAULT d i]) s t) ∧
      (∃ t, exec (.groupFaultClear g true) s = .next t ∧ t.grpState g = 2 ∧ Raises s t d 0x0808 [i, 20] ∧ SameBut [.rcd, .irq] s t ∧ t.live = s.live) ∧
      (s.on (F.LAN_GSTAT_IDV d i) = false → exec (.groupFaultClear g false) s = .next s))) ∧
  (∀ s : State,
    ((∃ x ∈ s.press.spans, x.first ≤ s.pkgLine) → ∃ t, exec .rejectSpanStart s = .next t ∧ t.rd (F.LNP_REJ_STAT_REJECT 0) = 1 ∧
      t.press.spans.length = s.press.spans.length ∧ SameBut [.press] s t ∧ SameRegs (among [F.LNP_REJ_STAT_REJECT 0]) s t) ∧
    ((∀ x ∈ s.press.spans, s.pkgLine < x.first) → exec .rejectSpanStart s = .next s) ∧
    (∃ t, exec .rejectSpanEnd s = .next t ∧ t.press.spans = s.press.spans.filter (fun x => s.pkgLine ≤ x.last) ∧
      ((∀ x ∈ t.press.spans, x.started = false) → t.rd (F.LNP_REJ_STAT_REJECT 0) = 0) ∧ ((∃ x ∈ t.press.spans, x.started = true) → t.live = s.live) ∧
      SameBut [.press] s t ∧ SameRegs (among [F.LNP_REJ_STAT_REJECT 0]) s t)) ∧
  (∀ (g f : Nat) (s : State), g < 8 * s.dies →
    let u := s.atFire f
    let d := g / 8
    let p := u.groupPacer g
    let idle : Prop := u.pacerOn p = true ∧ u.grpState g = 1 ∧ u.rd (F.LNP_TKLPW_PW d (p % 2)) ≠ 0 ∧ (u.group g).pend = none ∧
      (∀ z, (u.group g).last = some z → z + 400000 * u.rd (F.LNP_TKL_IDLE d (p % 2)) ≤ f) ∧ u.mayFire d = true ∧ u.leads = true
    (¬ idle → exec (.pacerTickle g f) s = .next u) ∧
    (idle →
      let l : Int := (u.dieLine d : Int) - u.delay (.bar p)
      let n := u.rd (F.LNP_TKL_LINES d (p % 2))
      ∃ t, exec (.pacerTickle g f) s = .next t ∧ (t.group g).burstTo = f + (n - 1) * u.minPeriod p l ∧
        SameBut [.clk, .timeBase, .press, .rcd] s t ∧ RaisesNone s t ∧
        (0 < n → u.floorOf p l ≤ u.minPeriod p l → (∀ z, (u.group g).last = some z → z + u.floorOf p l ≤ f) →
          (t.group g).last = some ((t.group g).burstTo) ∧ (t.group g).width = u.clampPulse g (u.rd (F.LNP_TKLPW_PW d (p % 2))) l ∧
          (t.group g).own = true ∧ (t.group g).tickled = (u.group g).tickled + n ∧ t.live = u.live)))

/-- R353 to R355, R362 to R364, R366: the Rangar's side of the head link. -/
def Obligations.LinksTrainAndReport : Prop :=
  (∀ (g now : Nat) (s : State), g < 8 * s.dies →
    let u := s.atTime now
    let d := g / 8
    let i := g % 8
    (u.link g = 0 → u.lanOn g = true → (u.group g).retryAt ≤ u.clk → ∃ t, exec (.linkRetryTimer g now) s = .next t ∧ t.link g = 1 ∧
      t.rd (F.LAN_GSTAT_RATE d i) = u.eqRate g % 4 ∧ t.rd (F.LAN_GSTAT_RATE_PEND d i) = 0 ∧ (t.group g).since = u.clk ∧
      SameBut [.clk, .timeBase, .press] s t) ∧
    (u.link g ≠ 0 ∨ u.lanOn g = false ∨ u.clk < (u.group g).retryAt → exec (.linkRetryTimer g now) s = .next u) ∧
    (u.link g = 1 → (u.group g).since + 4000 ≤ u.clk → ∃ t, exec (.clockSettled g now) s = .next t ∧ t.link g = 2 ∧ (t.group g).since = u.clk ∧
      SameRegs (among [F.LAN_GSTAT_LINK d i]) u t) ∧
    (u.link g ≠ 1 ∨ u.clk < (u.group g).since + 4000 → exec (.clockSettled g now) s = .next u) ∧
    (u.link g = 2 → (u.group g).since + 100000 ≤ u.clk → ∃ t, exec (.trainTimeout g now) s = .next t ∧ t.link g = 0 ∧
      (t.group g).retryAt = u.clk + 200000 ∧ SameRegs (among [F.LAN_GSTAT_LINK d i]) u t) ∧
    (u.link g ≠ 2 ∨ u.clk < (u.group g).since + 100000 → exec (.trainTimeout g now) s = .next u) ∧
    (∀ aligned rate, aligned < 512 → rate < 3 → u.link g = 2 →
      ((∀ n < 9, (u.serviceMask g).testBit n = true → aligned.testBit n = true) →
        ∃ t, exec (.trainedReceived g aligned rate now) s = .next t ∧ t.link g = 3 ∧ (t.group g).reading = true ∧ t.rd (F.LAN_GSTAT_ALIGNED d i) = aligned) ∧
      (∀ n < 9, (u.serviceMask g).testBit n = true → aligned.testBit n = false →
        ∃ t, exec (.trainedReceived g aligned rate now) s = .next t ∧ t.link g = 2)) ∧
    (∀ aligned rate, aligned < 512 → rate < 3 → u.link g ≠ 2 → exec (.trainedReceived g aligned rate now) s = .next u) ∧
    (let due : Prop := u.link g = 4 ∧ u.on (F.LAN_GSTAT_IDV d i) = false ∧ (u.group g).reading = false ∧ (u.group g).askedAt + 20000000 ≤ u.clk
     (due → ∃ t, exec (.identReread g now) s = .next t ∧ (t.group g).reading = true ∧ (t.group g).askedAt = u.clk ∧ t.live = u.live) ∧
     (¬ due → exec (.identReread g now) s = .next u)) ∧
    ((u.group g).reading = false ∨ u.clk < (u.group g).askedAt + 40000 → exec (.identTimeout g now) s = .next u) ∧
    ((u.group g).reading = true → (u.group g).askedAt + 40000 ≤ u.clk →
      ((u.group g).tries < 3 → ∃ t, exec (.identTimeout g now) s = .next t ∧ (t.group g).tries = (u.group g).tries + 1 ∧
        (t.group g).askedAt = u.clk ∧ t.live = u.live) ∧
      (3 ≤ (u.group g).tries → u.link g = 3 →
        ∃ t, exec (.identTimeout g now) s = .next t ∧ t.link g = 4 ∧ (t.group g).reading = false ∧ Raises s t d 0x0904 [i, 1])) ∧
    ((u.group g).reading = true →
      (∀ data : List Byte, data.length = 32 →
        let b := data.map BitVec.toNat
        (u.identFault g b = 0 →
          ∃ t, exec (.memdataReceived g 0 data now) s = .next t ∧ t.link g = 4 ∧ t.on (F.LAN_GSTAT_IDV d i) = true ∧
            t.rdPair (F.LAN_SER_LO_SERIAL d i) (F.LAN_SER_HI_SERIAL d i) = ofBytes ((b.drop 6).take 6) ∧
            (∃ r ∈ t.rcd.raised, r.die = d ∧ r.code = 0x0901 ∧ r.payload.head? = some i) ∧
            (u.grpState g = 0 → t.grpState g = 0 ∧ (u.groupRank g = some (ofBytes ((b.drop 4).take 2)) → u.on (F.LNP_GRP_QUIESCE d i) = false →
              (t.settleGroup g).grpState g = 1)) ∧
            (u.grpState g = 3 → (u.group g).serial ≠ ofBytes ((b.drop 6).take 6) → t.grpState g = 3 ∧ t.rd (F.LNP_GRP_NEW d i) = 1)) ∧
        (u.identFault g b ≠ 0 → u.link g = 3 →
          ∃ t, exec (.memdataReceived g 0 data now) s = .next t ∧ t.link g = 4 ∧ t.rd (F.LAN_GSTAT_IDV d i) = u.rd (F.LAN_GSTAT_IDV d i) ∧
            Raises s t d 0x0904 [i, u.identFault g b]))) ∧
    ((u.group g).reading = false → ∀ (r : MemRead) (data : List Byte), tget? u.press.reads d = some r → r.group = i → r.count = data.length →
      data.length ≤ 64 →
        ∃ t, exec (.memdataReceived g r.addr data now) s = .next t ∧ tget? t.press.reads d = none ∧ t.rd (F.LAN_MRD_STAT_BUSY d) = 0 ∧
          t.rd (F.LAN_MRD_STAT_RESULT d) = 0 ∧
          ∀ w, 3 * w < data.length → t.rd (F.LAN_MRD_DATA_BYTES d w) = ofBytes (((data.map BitVec.toNat).drop (3 * w)).take 3)) ∧
    (∀ (st flags epoch : Nat) (headT adaptT : Int) (lcrc : List Nat), st < 3 → flags < 64 → lcrc.length = 9 →
      ∃ t, exec (.statusReceived g st flags headT adaptT epoch lcrc now) s = .next t ∧ t.rd (F.LAN_GSTAT_FLAGS d i) = flags ∧
        t.rd (F.LAN_FLW_EPOCH d i) = epoch % 2 ^ 24 ∧ (t.group g).lcrc = lcrc ∧
        (∀ p < 8, t.rd (F.LAN_LERR_COUNT d (8 * i + p)) =
          (let n := (lcrc.getD p 0 + 256 - (u.group g).lcrc.getD p 0) % 256
           if n = 0 then u.rd (F.LAN_LERR_COUNT d (8 * i + p)) else min (u.rd (F.LAN_LERR_COUNT d (8 * i + p)) + n) (2 ^ 24 - 1))) ∧
        (st = 1 → t.link g = u.link g) ∧ (st ≠ 1 → u.link g = 4 → t.link g = 0 ∧ t.on (F.LAN_GSTAT_IDV d i) = false ∧
          ∃ r ∈ t.rcd.raised, r.die = d ∧ r.code = 0x0902 ∧ r.payload = [i, if st = 2 then 4 else 3])) ∧
    (∀ n, 8 ≤ n → u.link g = 4 → (u.group g).heard + 200000 ≤ u.clk →
      ∀ ev cause, (ev, cause) ∈ [(Instr.statusTimeout g now, 1), (.returnCodeViolations g ⟨n, now⟩, 2)] →
        ∃ t, exec ev s = .next t ∧ t.link g = 0 ∧ t.on (F.LAN_GSTAT_IDV d i) = false ∧ Raises s t d 0x0902 [i, cause] ∧
          t.irq.causes = s.irq.causes ++ [256 * d + 31] ∧ t.grpState g = u.grpState g ∧ (u.grpState g = 1 → (t.settleGroup g).grpState g = 0)) ∧
    (u.link g ≠ 4 ∨ u.clk < (u.group g).heard + 200000 → exec (.statusTimeout g now) s = .next u) ∧
    (∀ n, ∃ t, exec (.returnCodeViolations g ⟨n, now⟩) s = .next t ∧ t.rd (F.LAN_RERR_CODE d i) = min (u.rd (F.LAN_RERR_CODE d i) + n) 255 ∧
      (u.link g = 4 → 8 ≤ n → t.link g = 0) ∧ (n < 8 → t.link g = u.link g ∧ RaisesNone s t)) ∧
    (∃ t, exec (.returnPacketBad g) s = .next t ∧ t.rd (F.LAN_RERR_PKT d i) = min (s.rd (F.LAN_RERR_PKT d i) + 1) 255 ∧ SameBut [] s t ∧
      SameRegs (among [F.LAN_RERR_PKT d i]) s t) ∧
    (u.link g = 4 → u.lanesFree g = true →
      ∃ t, exec (.activeSend g now) s = .next t ∧ (t.group g).active = some (u.clk, (u.activeOf g).1, (u.activeOf g).2) ∧ t.live = u.live) ∧
    (u.link g ≠ 4 ∨ u.lanesFree g = false → exec (.activeSend g now) s = .next u)) ∧
  (∀ (d count now : Nat) (s : State), d < s.dies →
    let i := s.rd (F.LAN_MRD_ADDR_GROUP d)
    (s.inService (dieAt d 0x40000) = true → s.on (F.LAN_MRD_STAT_BUSY d) = false → 1 ≤ count → count ≤ 64 →
      (s.link (8 * d + i) = 4 → ∃ t, exec (.memRead d count) s = .next t ∧ t.rd (F.LAN_MRD_STAT_BUSY d) = 1 ∧
        tget? t.press.reads d = some ⟨i, s.rd (F.LAN_MRD_ADDR_ADDR d), count, 1, s.clk⟩ ∧ SameBut [.press] s t) ∧
      (s.link (8 * d + i) ≠ 4 → ∃ t, exec (.memRead d count) s = .next t ∧ t.rd (F.LAN_MRD_STAT_RESULT d) = 2 ∧ t.rd (F.LAN_MRD_STAT_BUSY d) = 0 ∧
        SameBut [] s t)) ∧
    (tget? (s.atTime now).press.reads d = none → exec (.memReadRetry d now) s = .next (s.atTime now)) ∧
    (∀ r, tget? (s.atTime now).press.reads d = some r →
      ((s.atTime now).clk < r.sentAt + 40000 → exec (.memReadRetry d now) s = .next (s.atTime now)) ∧
      (r.sentAt + 40000 ≤ (s.atTime now).clk → r.tries < 3 → ∃ t, exec (.memReadRetry d now) s = .next t ∧
        tget? t.press.reads d = some { r with tries := r.tries + 1, sentAt := (s.atTime now).clk }) ∧
      (r.sentAt + 40000 ≤ (s.atTime now).clk → 3 ≤ r.tries → ∃ t, exec (.memReadRetry d now) s = .next t ∧ tget? t.press.reads d = none ∧ t.rd (F.LAN_MRD_STAT_RESULT d) = 1 ∧
        t.rd (F.LAN_MRD_STAT_BUSY d) = 0 ∧ Raises s t d 0x0905 [r.group % 2 ^ 24, r.addr % 2 ^ 24])))

/-- R353, R358 to R360: the adapter. -/
def Obligations.AdaptersFileAndFire : Prop :=
  (∀ (cs : List Nat) (f : LineFrame), readLine cs = some f →
    f.code < 3 ∧ cs.length = 14 + 256 * 2 ^ f.code ∧ cs.head? = some k277 ∧ cs.getLast? = some k297 ∧
      ofBytes ((cs.drop (9 + 256 * 2 ^ f.code)).take 4) = crc32 ((cs.drop 1).take (8 + 256 * 2 ^ f.code)) ∧
      ∀ x ∈ f.slots, x.1 < 2048 ∧ x.2 ≠ 0) ∧
  (∀ (hold : Bool) (epoch addr count : Nat), epoch < 2 ^ 24 → addr < 65536 → 1 ≤ count → count ≤ 64 →
    readActive (activeSet hold epoch) = some (hold, epoch) ∧ readCommand (readSet addr count) = some (addr, count)) ∧
  (∀ (g phys : Nat) (inB bad : Bool) (cs : List Nat) (s : State), g < 8 * s.dies → phys < 9 →
    let a := s.adapter g
    (a.st ≠ .up → exec (.adapterLineFrame g inB phys bad cs) s = .next s ∧ exec (.adapterNofireFrame g inB ⟨phys, cs⟩) s = .next s ∧
      exec (.adapterStrobe g inB) s = .next s) ∧
    (a.st = .up →
      (∀ f, bad = false → readLine cs = some f → a.hears inB = true →
        ∃ t, exec (.adapterLineFrame g inB phys bad cs) s = .next t ∧ (inB, phys, f) ∈ (t.adapter g).held ∧
        (∀ h ∈ (t.adapter g).held, h = (inB, phys, f) ∨ (h ∈ a.held ∧ ¬ (h.1 = inB ∧ h.2.2.lane = f.lane))) ∧ SameBut [.press] s t ∧ t.live = s.live) ∧
      (bad = false → readLine cs ≠ none → a.hears inB = false → exec (.adapterLineFrame g inB phys bad cs) s = .next s) ∧
      (bad = true ∨ readLine cs = none → ∃ t, exec (.adapterLineFrame g inB phys bad cs) s = .next t ∧ (t.adapter g).held = a.held ∧
        (phys < (if inB then a.inB else a.inA).lcrc.length →
          (if inB then (t.adapter g).inB else (t.adapter g).inA).lcrc.getD phys 0 = ((if inB then a.inB else a.inA).lcrc.getD phys 0 + 1) % 256) ∧
        SameBut [.press] s t ∧ t.live = s.live) ∧
      (setData k283 3 cs = none → exec (.adapterNofireFrame g inB ⟨phys, cs⟩) s = .next s) ∧
      (setData k283 3 cs ≠ none → ∃ t, exec (.adapterNofireFrame g inB ⟨phys, cs⟩) s = .next t ∧ (t.adapter g).held = a.held.filter (fun h => !(h.1 = inB && h.2.1 = phys)) ∧
        (t.adapter g).fired = a.fired ∧ SameBut [.press] s t ∧ t.live = s.live) ∧
      (a.follow = some inB → a.change ≠ some inB →
        ∃ t, exec (.adapterStrobe g inB) s = .next t ∧ (t.adapter g).held = [] ∧ SameBut [.press] s t ∧ t.live = s.live ∧
          ∀ x, x ∈ (t.adapter g).fired ↔ (∃ k, (inB, k, x) ∈ a.held) ∧ ∀ h ∈ a.held, h.1 = inB → h.2.2.line ≤ x.line) ∧
      (a.change = some inB → ∃ t, exec (.adapterStrobe g inB) s = .next t ∧ (t.adapter g).follow = some inB ∧ (t.adapter g).change = none) ∧
      (a.follow ≠ some inB → a.change ≠ some inB → ∃ t, exec (.adapterStrobe g inB) s = .next t ∧ (t.adapter g).fired = a.fired))) ∧
  (∀ (g epoch first now : Nat) (inB : Bool) (cs : List Nat) (s : State), g < 8 * s.dies →
    let u := s.atTime now
    let a := u.adapter g
    (readActive (first :: cs) = none → exec (.adapterActive g inB first cs now) s = .next u) ∧
      (readActive (first :: cs) = some (true, epoch) → ∃ t, exec (.adapterActive g inB first cs now) s = .next t ∧ SameBut [.clk, .timeBase, .press] s t ∧ t.live = s.live ∧
        (if inB then (t.adapter g).inB else (t.adapter g).inA).epoch = epoch ∧ (if inB then (t.adapter g).inB else (t.adapter g).inA).heard = some u.clk ∧
        ((if inB then a.inA else a.inB).heard = none → a.follow ≠ some inB → (t.adapter g).change = some inB) ∧
        (a.follow = some (!inB) → (if inB then a.inA else a.inB).heard ≠ none → epoch ≤ (if inB then a.inA else a.inB).epoch → (t.adapter g).change = none)) ∧
      (readActive (first :: cs) = some (false, epoch) → ∃ t, exec (.adapterActive g inB first cs now) s = .next t ∧ (if inB then (t.adapter g).inB else (t.adapter g).inA).heard = none ∧
        ((if inB then a.inA else a.inB).heard = none → (t.adapter g).follow = none ∧ (t.adapter g).held = [])) ∧
    ((if inB then a.inB else a.inA).heard = none → exec (.adapterInputLapse g inB now) s = .next u) ∧
    (∀ k, (if inB then a.inB else a.inA).heard = some k →
      (k + 50000 ≤ u.clk → ∃ t, exec (.adapterInputLapse g inB now) s = .next t ∧ (if inB then (t.adapter g).inB else (t.adapter g).inA).heard = none) ∧
      (u.clk < k + 50000 → exec (.adapterInputLapse g inB now) s = .next u))) ∧
  (∀ (g n flags first : Nat) (cs : List Nat) (s : State), g < 8 * s.dies →
    let a := s.adapter g
    (a.st ≠ .up ∨ readCommand (first :: cs) = none → exec (.adapterRead g first cs) s = .next s) ∧
    (∀ count, readCommand (first :: cs) = some (n, count) → a.st = .up →
      ∃ t, exec (.adapterRead g first cs) s = .next t ∧ (t.adapter g).answered = (List.range count).map (fun k => tget a.mem ((n + k) % 65536) 0) ∧
        SameBut [.press] s t ∧ t.live = s.live) ∧
    (n < 512 → a.st = .training → ∃ t, exec (.adapterTrain g n) s = .next t ∧ (t.adapter g).st = .up ∧ (t.adapter g).aligned = n ∧ SameBut [.press] s t) ∧
    (flags < 16 → ∃ t, exec (.adapterFaultEntry g flags) s = .next t ∧ (t.adapter g).st = .fault ∧ (t.adapter g).held = [] ∧ (t.adapter g).flags = flags) ∧
    (a.st = .fault → (∃ t, exec (.adapterFaultCleared g) s = .next t ∧ (t.adapter g).st = .training) ∧ exec (.adapterKAbsent g) s = .next s) ∧
    (a.st ≠ .fault → (∃ t, exec (.adapterKAbsent g) s = .next t ∧ (t.adapter g).st = .training ∧ (t.adapter g).held = []) ∧
      exec (.adapterFaultCleared g) s = .next s))

/-- R369 to R373, R377 to R379, R389. -/
def Obligations.FramesAreTriggeredAndReceived : Prop :=
  (∀ (d now : Nat) (s : State), d < s.dies →
    let u := s.atTime now
    let n := (u.trigPoints d).1
    let c := u.cam d
    let timed := decide (u.rd (F.CAM_TRIG_MODE d) = 2)
    let early : Prop := c.frame ≠ none ∨ ∃ l, c.lastTrig = some l ∧ u.clk < l + 200 * u.rd (F.CAM_FMIN_FMIN d)
    (u.camState d ≠ 2 ∨ n = 0 → exec (.camTrigger d now) s = .next u) ∧
    (u.camState d = 2 → 0 < n →
      (early → u.rd (F.CAM_TRIG_MODE d) = 1 →
        ∃ t, exec (.camTrigger d now) s = .next t ∧ (t.cam d).number = c.number ∧ (t.cam d).unmatched = c.unmatched ∧
          t.rd (F.CAM_SKIP_TRIG d) = min (u.rd (F.CAM_SKIP_TRIG d) + n) 255 ∧ (t.cam d).judged = u.dieLine d) ∧
      (¬ early → c.sent = [] → c.number + 1 < 0xFFFFFF →
        ∃ t x, exec (.camTrigger d now) s = .next t ∧ (t.cam d).number = c.number + 1 ∧ (t.cam d).unmatched = some x ∧ x.number = c.number + 1 ∧
          x.time = u.time d ∧ (t.cam d).lastTrig = some u.clk ∧ (t.cam d).trigTo = u.clk + 2000 ∧
          x.l0 = (if timed then (u.pkgLine : Int) else (u.trigPoints d).2) - u.delay (.cam d) + signed 16 (u.rd (F.CAM_ROW0_ROW0 d)) ∧
          (c.unmatched = none → RaisesNone s t)))) ∧
  (∀ (d now : Nat) (s : State), d < s.dies → (∀ a, ((s.atTime now).cam d).flashDue = some a → (s.atTime now).clk < a) →
    exec (.camFlashPulse d now) s = .next (s.atTime now)) ∧
  (∀ (d a now : Nat) (s : State), d < s.dies → ((s.atTime now).cam d).flashDue = some a → a ≤ (s.atTime now).clk →
    ∃ t, exec (.camFlashPulse d now) s = .next t ∧ (t.cam d).flash = (a, a + 20 * s.rd (F.CAM_FLASH_FLASH_W d)) ∧ (t.cam d).flashDue = none ∧
      SameBut [.clk, .timeBase, .cams] s t ∧ t.live = s.live) ∧
  (∀ (d vc now : Nat) (s : State), d < s.dies →
    let u := s.atTime now
    let c := u.cam d
    (vc ≠ u.port d (F.CAM_CTL_VC d) ∨ (u.camState d ≠ 2 ∧ c.frame = none) → exec (.frameStart d vc now) s = .next u) ∧
    (u.camState d ≠ 2 → vc = u.port d (F.CAM_CTL_VC d) → ∃ t, exec (.frameStart d vc now) s = .next t ∧ (t.cam d).frame = none) ∧
    (u.camState d = 2 → vc = u.port d (F.CAM_CTL_VC d) →
      ∃ t, exec (.frameStart d vc now) s = .next t ∧ (t.cam d).frame = some ⟨c.unmatched, [], 0⟩ ∧ (t.cam d).unmatched = none ∧
        (c.frame = none → u.rd (F.CAM_TRIG_MODE d) ≠ 0 →
          (c.unmatched = none → t.rd (F.CAM_SKIP_ORPHAN d) = min (u.rd (F.CAM_SKIP_ORPHAN d) + 1) 255) ∧ (c.unmatched ≠ none → t.live = u.live)))) ∧
  (∀ (d vc dt : Nat) (hdrBad crcBad : Bool) (px : List Nat) (s : State), d < s.dies → s.camState d ≠ 2 → s.camState d ≠ 3 →
    exec (.csiPacket d vc dt hdrBad crcBad px) s = .next s) ∧
  (∀ (d vc dt : Nat) (crcBad : Bool) (px : List Nat) (s : State), d < s.dies → s.camState d = 2 ∨ s.camState d = 3 →
    let w := s.port d (F.CAM_WIDTH_SIZE d)
    let h := s.port d (F.CAM_HEIGHT_SIZE d)
    (∃ t, exec (.csiPacket d vc dt true crcBad px) s = .next t ∧ t.rd (F.CAM_ERR_HDR d) = min (s.rd (F.CAM_ERR_HDR d) + 1) 255 ∧
      (t.cam d).frame = (s.cam d).frame ∧ (∃ w ∈ t.rcd.windows, w.code = 0x0A05)) ∧
    (∀ o, (s.cam d).frame = some o → vc = s.port d (F.CAM_CTL_VC d) → dt = (if s.portOn d (F.CAM_CTL_FMT d) then 0x2C else 0x2B) →
      (o.lines.length < h →
        ∃ t, exec (.csiPacket d vc dt false crcBad px) s = .next t ∧
          (t.cam d).frame = some { o with lines := (!crcBad && decide (w ≤ px.length), px.take w) :: o.lines } ∧
          (crcBad = false → px.length = w → SameBut [.cams] s t ∧ t.live = s.live) ∧
          (crcBad = true → px.length = w → t.rd (F.CAM_ERR_CRC d) = min (s.rd (F.CAM_ERR_CRC d) + 1) 255)) ∧
      (h ≤ o.lines.length →
        ∃ t, exec (.csiPacket d vc dt false crcBad px) s = .next t ∧ (t.cam d).frame = some { o with dropped := o.dropped + 1 } ∧
          t.rd (F.CAM_DROP_LINES d) = min (s.rd (F.CAM_DROP_LINES d) + 1) (2 ^ 24 - 1)))) ∧
  (∀ (d vc now : Nat) (s : State), d < s.dies →
    let u := s.atTime now
    (vc ≠ u.port d (F.CAM_CTL_VC d) ∨ (u.cam d).frame = none → exec (.frameEnd d vc now) s = .next u) ∧
    (u.camState d ≠ 3 ∨ u.clk < (u.cam d).stopAt + 20000000 ∨ (u.cam d).frame = none → exec (.camStopFrameTimeout d now) s = .next u)) ∧
  (∀ (d now : Nat) (o : OpenFrame) (s : State), d < s.dies →
    let u := s.atTime now
    let number := (o.trig.map Trigger.number).getD 0xFFFFFF
    let h := u.port d (F.CAM_HEIGHT_SIZE d)
    let valid := ((List.range h).filter (fun y => (o.lines.reverse.getD y (false, [])).1)).length
    (u.cam d).frame = some o →
    ∀ ev cut, (ev = Instr.frameEnd d (u.port d (F.CAM_CTL_VC d)) now ∧ cut = false) ∨
        (ev = .camStopFrameTimeout d now ∧ cut = true ∧ u.camState d = 3 ∧ (u.cam d).stopAt + 20000000 ≤ u.clk) →
      ∃ t, exec ev s = .next t ∧ (t.cam d).frame = none ∧ t.rd (F.CAM_FRAME_FRAME d) = number % 2 ^ 24 ∧ t.rd (F.CAM_LINES_VALID d) = valid % 2 ^ 13 ∧
        t.rd (F.CAM_LINES_SHORT d) = (if cut = true ∨ o.lines.length < h then 1 else 0) ∧ t.rd (F.CAM_LINES_ORPHAN d) = (if o.trig = none then 1 else 0) ∧
        (cut = true ∨ o.lines.length < h → (∃ r ∈ t.rcd.raised, r.die = d ∧ r.code = 0x0A01 ∧ r.payload = [d, number % 2 ^ 24, o.lines.length % 2 ^ 24]) ∧
          256 * d + 33 ∈ t.irq.causes) ∧
        (u.on (F.CAM_OUT_VIS_EN d) = true → o.trig ≠ none →
          ∃ body, .post (u.rd (F.CAM_OUT_VIS_RING d)) 6 body ∈ t.win.postings ∧ body.head? = some (number % 2 ^ 24) ∧ body.getD 8 0 = (valid + 2 ^ 13 * d) % 2 ^ 24 ∧
            256 * d + 32 ∈ t.irq.causes))

/-- R374, R376, R381, R383, R384, R391, R393. -/
def Obligations.CameraControlActs : Prop :=
  (∀ (d a now : Nat) (data : Byte) (x : CciSet) (s : State), d < s.dies →
    let u := s.atTime now
    ((u.cam d).cci = none → exec (.cciTransferDone d none data now) s = .next u) ∧
    ((u.cam d).cci = some (.set x) → (u.cam d).waiting = none →
      (x.missed = false → ∃ t, exec (.cciTransferDone d none data now) s = .next t ∧ (t.cam d).cci = none ∧
        (t.cam d).sent = (u.cam d).sent ++ [{ x with sentAt := u.clk, nack := false }] ∧ SameBut [.clk, .timeBase, .cams] s t ∧ t.live = s.live) ∧
      (∃ t, exec (.cciTransferDone d (some a) data now) s = .next t ∧ (t.cam d).sent = (u.cam d).sent ++ [{ x with sentAt := u.clk, nack := true }] ∧
        t.rd (F.CAM_ERR_CCI d) = min (s.rd (F.CAM_ERR_CCI d) + 1) 255 ∧ t.rd (F.CAM_STAT_SET_FAIL d) = 1 ∧ 256 * d + 33 ∈ t.irq.causes ∧
        ∃ r ∈ t.rcd.raised, r.die = d ∧ r.code = 0x0A06 ∧ r.payload = [d, a % 2 ^ 24, x.newest % 2 ^ 24])) ∧
    ((u.cam d).cci = some .raw →
      ∃ t, exec (.cciTransferDone d none data now) s = .next t ∧ (t.cam d).cci = none ∧ t.rd (F.CAM_RAW_CTL_BUSY d) = 0 ∧ t.rd (F.CAM_RAW_CTL_NACK d) = 0 ∧
        (u.on (F.CAM_RAW_CTL_RD d) = true → t.rd (F.CAM_RAW_CTL_RDATA d) = data.toNat))) ∧
  (∀ (d : Nat) (rd : Bool) (s : State), d < s.dies → s.inService (dieAt d 0x50000) = true →
    (s.camState d = 0 → (s.cam d).cci = none →
      ∃ t, exec (.camRawGo d rd) s = .next t ∧ (t.cam d).cci = some .raw ∧ t.rd (F.CAM_RAW_CTL_BUSY d) = 1 ∧ SameBut [.cams] s t) ∧
    (s.camState d ≠ 0 ∨ (s.cam d).cci ≠ none → ∃ t, exec (.camRawGo d rd) s = .next t ∧ t.rd (F.CAM_RAW_CTL_NACK d) = 1 ∧ SameBut [] s t) ∧
    (∃ t, exec (.camArchReq d) s = .next t ∧ (t.cam d).archReq = true ∧ SameBut [.cams] s t ∧ t.live = s.live) ∧
    (∀ b gen, s.refStatus b gen = 0 → (s.cam d).archQ.length < 8 →
      ∃ t, exec (.camArchQWrite d b gen) s = .next t ∧ (t.cam d).archQ = (s.cam d).archQ ++ [(b, gen)] ∧ (t.buf b).uses = (s.buf b).uses + 1 ∧
        SameBut [.cams, .win] s t ∧ t.live = s.live) ∧
    (∀ b gen, s.refStatus b gen ≠ 0 ∨ 8 ≤ (s.cam d).archQ.length →
      ∃ t, exec (.camArchQWrite d b gen) s = .next t ∧ t.rd (F.CAM_SKIP_ARCH d) = min (s.rd (F.CAM_SKIP_ARCH d) + 1) 255 ∧ SameBut [] s t) ∧
    (∃ t, exec (.camTblDataRead d) s = .next t ∧ t.host.readData = [if s.on (F.CAM_TBL_ADDR_TABLE d) then s.defectWord d (s.rd (F.CAM_TBL_ADDR_ADDR d))
        else s.shadeGain d (s.rd (F.CAM_TBL_ADDR_ADDR d))] ∧ t.rd (F.CAM_TBL_ADDR_ADDR d) = (s.rd (F.CAM_TBL_ADDR_ADDR d) + 1) % 16384 ∧ SameBut [.host] s t) ∧
    (∃ t, exec (.camInitDataAccess d none) s = .next t ∧ t.host.readData = [s.readInit d] ∧
      t.rd (F.CAM_INIT_ADDR_ADDR d) = (s.rd (F.CAM_INIT_ADDR_ADDR d) + 1) % 64 ∧ SameBut [.host] s t) ∧
    (∀ w : Word, s.epoch.stage = [] →
      ∃ t, exec (.camInitDataAccess d (some w)) s = .next t ∧ t.epoch.stage = [⟨d, (initEntry d (s.rd (F.CAM_INIT_ADDR_ADDR d))).key, w.toNat⟩] ∧
        t.rd (F.CAM_INIT_ADDR_ADDR d) = (s.rd (F.CAM_INIT_ADDR_ADDR d) + 1) % 64 ∧ SameBut [.epoch] s t))

/-- R385, R386, R390. -/
def Obligations.ImagesStayInRange : Prop :=
  (∀ (x : Int) (w : Nat), -(w : Int) < x → x < 2 * w - 1 → mirror x w < w ∧ (mirror x w : Int) % 2 = x % 2) ∧
  (∀ (f : Frame) (g : Nat → Nat) (listed : List (Nat × Nat)) (thr : Nat), ∀ row ∈ (f.black g).rows ++ (f.defects listed thr).rows ++ (f.shaded g).rows ++
    (f.balanced g).rows, ∀ v ∈ row, v ≤ 4095) ∧
  (∀ (d : Nat) (f : Frame) (s : State), ∀ row ∈ s.develop d f, ∀ p ∈ row, p.r ≤ 4095 ∧ p.g ≤ 4095 ∧ p.b ≤ 4095 ∧ p.luma / 64 < 64) ∧
  (∀ (f : Frame) (g : Nat → Nat) (x y : Nat), x < f.w → y < f.h → (f.rows.getD y []).getD x 0 ≤ 4095 →
    ((f.black g).rows.getD y []).getD x 0 = (f.rows.getD y []).getD x 0 - g (channel x y) ∧
    ((f.balanced fun _ => 1024).rows.getD y []).getD x 0 = (f.rows.getD y []).getD x 0 ∧
    ((f.defects [] 0).rows.getD y []).getD x 0 = (f.rows.getD y []).getD x 0) ∧
  (∀ p : Pixel, p.r ≤ 4095 → p.g ≤ 4095 → p.b ≤ 4095 → p.corrected (fun k => if k = 0 ∨ k = 4 ∨ k = 8 then 1024 else 0) = p)

/-- R403, R405, R407, R409, R426. -/
def Obligations.VerdictsFollowKofM : Prop :=
  (∀ (v : Verdict) (r : List Verdict) (s : State), s.eye.verdicts = v :: r →
    let m := s.rd F.HLTH_KM_M
    let h := ((v.spot != .pass) :: (tget s.eye.hists v.nozzle ⟨[], none, 0⟩).hist).take m
    let fails := (h.filter id).length
    let out := s.on (nozzleEbOut v.nozzle)
    let decides := s.on (F.HLTH_BAR_DECIDE v.bar)
    let word := [v.nozzle % 2 ^ 24, v.bar % 2 ^ 24, v.page % 2 ^ 24]
    ∃ t, exec .nozzleVerdict s = .next t ∧ (tget t.eye.hists v.nozzle ⟨[], none, 0⟩).hist = h ∧ t.eye.verdicts = r ∧
      (∀ a, a ≠ v.nozzle → tget? t.eye.hists a = tget? s.eye.hists a) ∧
      (decides = false → SameBut [.eye] s t ∧ t.live = s.live) ∧
      (decides = true → out = false → s.rd F.HLTH_KM_K ≤ fails → t.rd (nozzleEbOut v.nozzle) = 1 ∧
        (∃ e ∈ t.rcd.raised, e.die = v.nozzle / 131072 ∧ e.code = 0x0B01 ∧ e.payload = word) ∧ 256 * (v.nozzle / 131072) + 34 ∈ t.irq.causes) ∧
      (decides = true → out = true → h.length = m → fails = 0 → t.rd (nozzleEbOut v.nozzle) = 0 ∧
        (∃ e ∈ t.rcd.raised, e.die = v.nozzle / 131072 ∧ e.code = 0x0B02 ∧ e.payload = word) ∧ 256 * (v.nozzle / 131072) + 34 ∈ t.irq.causes) ∧
      (decides = true → (out = false ∧ fails < s.rd F.HLTH_KM_K) ∨ (out = true ∧ (h.length ≠ m ∨ fails ≠ 0)) → SameBut [.eye] s t ∧ t.live = s.live)) ∧
  (∀ s : State, s.eye.verdicts = [] → exec .nozzleVerdict s = .next s) ∧
  (∀ s : State, s.inService 0xD0000 = true →
    let a := s.rd F.HLTH_NZ_ADDR_ADDR
    let h := s.rd F.HLTH_HEAD_SEL_HEAD
    (s.isNozzle a = false → exec .hlthClearNozzle s = .next s) ∧
    (a < 2 ^ 20 → s.isNozzle a = true → ∃ t, exec .hlthClearNozzle s = .next t ∧ t.rd (nozzleEbOut a) = 0 ∧ tget? t.eye.hists a = none ∧
      (∀ b, b ≠ a → t.rd (nozzleEbOut b) = s.rd (nozzleEbOut b) ∧ tget? t.eye.hists b = tget? s.eye.hists b) ∧
      ∃ e ∈ t.rcd.raised, e.code = 0x0B02 ∧ e.payload = [a]) ∧
    (∃ t, exec .hlthClearHead s = .next t ∧
      (∀ b, b < 2 ^ 20 → s.nozzleHead b = some h → t.rd (nozzleEbOut b) = 0 ∧ tget? t.eye.hists b = none) ∧
      (∀ b, s.nozzleHead b ≠ some h → t.rd (nozzleEbOut b) = s.rd (nozzleEbOut b) ∧ tget? t.eye.hists b = tget? s.eye.hists b) ∧
      ∃ e ∈ t.rcd.raised, e.code = 0x0B02 ∧ e.payload = [0xFFFFFF]) ∧
    (∃ t, exec .hlthClearAll s = .next t ∧ t.eye.hists = [] ∧ (∀ b, b < 2 ^ 20 → t.rd (nozzleEbOut b) = 0) ∧
      ∃ e ∈ t.rcd.raised, e.code = 0x0B02 ∧ e.payload = [0xFFFFFF]) ∧
    (∃ t, exec .hlthNzDataRead s = .next t ∧ t.host.readData = [s.readHist a] ∧ SameBut [.host] s t ∧
      SameRegs (among [F.HLTH_NZ_ADDR_ADDR]) s t ∧ (a < 2 ^ 20 → t.rd F.HLTH_NZ_ADDR_ADDR = a / 2048 * 2048 + (a + 1) % 2048))) ∧
  (∀ (d now : Nat) (s : State), d < s.dies →
    let u := s.atTime now
    ((u.cam d).planes = [] → exec (.frameDecode d now) s = .next u) ∧
    (∀ p rest, (u.cam d).planes = p :: rest →
      (p.decoded = true ∨ p.trig = none → exec (.frameDecode d now) s = .next u) ∧
      (p.decoded = false → p.trig ≠ none → u.eye.runs = [] → (∀ x ∈ u.eye.printed, ∀ b, x.use = .ladder b → b < 16) →
        ∃ t new, exec (.frameDecode d now) s = .next t ∧ (t.cam d).planes = { p with decoded := true } :: rest ∧
          t.eye.verdicts = u.eye.verdicts ++ new ∧
          (∀ v ∈ new, v.spot ≠ .unseen ∧ (∃ x ∈ u.eye.printed, x.use = .ladder v.bar ∧ x.page = v.page) ∧
            ∃ n ∈ u.barNozzles v.bar, n.addr = v.nozzle ∧ u.owns d n.pos = true) ∧
          (u.hlthOn = false → new = [] ∧ SameBut [.clk, .timeBase, .cams] s t ∧ t.live = u.live)))) ∧
  (∀ (c : Nat) (v : SpotView) (num : Int) (scale : Nat) (col : Int) (s : State),
    (v.contrast < 2 * s.rd F.HLTH_THR_MISS_THR → s.judgeSpot c v num scale col = .missing) ∧
    (2 * s.rd F.HLTH_THR_MISS_THR ≤ v.contrast → s.judgeSpot c v num scale col = .pass ∨ s.judgeSpot c v num scale col = .deviated)) ∧
  (∀ (look : Int → Int → Option Nat) (inv : Bool) (line col : Int),
    (∀ dy dx : Int, -1 ≤ dy → dy ≤ 1 → -1 ≤ dx → dx ≤ 1 → (∀ p, look (line + dy) (col + dx) = some p → 4095 ≤ p) → viewSpot look inv line col = none) ∧
    ((∀ p, look line (col - 2) = some p → 4095 ≤ p) ∨ (∀ p, look line (col + 2) = some p → 4095 ≤ p) → viewSpot look inv line col = none) ∧
    (∀ p, p < 4095 → (∀ l c, look l c = some p) → ∃ v, viewSpot look inv line col = some v ∧ v.contrast = 0))

/-- R412, R414, R416, R421, R423. -/
def Obligations.CalibrationRunsAndTransfers : Prop :=
  (∀ (bars cams : Nat) (s : State), s.inService 0xE0000 = true →
    (s.calOn = false ∨ s.matched = true → exec (.calReq bars cams) s = .next s) ∧
    (s.calOn = true → s.matched = false → ∃ t, exec (.calReq bars cams) s = .next t ∧
      (∀ b, b < 2 * s.dies → b < 16 → bit bars b = true → s.rd (F.CAL_BAR_STATE b) = 0 → t.rd (F.CAL_BAR_STATE b) = 1 ∧ t.rd (F.CAL_BAR_RESULT b) = 0 ∧
        t.rd (F.CAL_BAR_CAUSE b) = 0) ∧
      (∀ b, b < 16 → 2 * s.dies ≤ b ∨ bit bars b = false ∨ s.rd (F.CAL_BAR_STATE b) ≠ 0 → t.rd (F.CAL_BAR_STATE b) = s.rd (F.CAL_BAR_STATE b)) ∧
      (∀ c, c < s.dies → bit cams c = true → s.rd (F.CAL_CAM_STATE c) = 0 → t.rd (F.CAL_CAM_STATE c) = 1 ∧ (t.cam c).darkReq = true) ∧
      (∀ c, c < 8 → s.dies ≤ c ∨ bit cams c = false ∨ s.rd (F.CAL_CAM_STATE c) ≠ 0 → t.rd (F.CAL_CAM_STATE c) = s.rd (F.CAL_CAM_STATE c)) ∧
      SameBut [.eye, .cams] s t)) ∧
  (∀ s : State, s.inService 0xE0000 = true →
    let i := s.rd F.CAL_XFER_BUF_BUF
    let st := s.xferStatus
    let stat := among [F.CAL_XFER_STAT_STATUS]
    ((s.on F.CAL_XFER_STAT_BUSY = true → ∃ t, exec .calExport s = .next t ∧ t.rd F.CAL_XFER_STAT_STATUS = 8 ∧ SameBut [] s t ∧ SameRegs stat s t) ∧
     (s.on F.CAL_XFER_STAT_BUSY = true ∨ s.matched = true →
       ∃ t, exec .calImport s = .next t ∧ t.rd F.CAL_XFER_STAT_STATUS = 8 ∧ SameBut [] s t ∧ SameRegs stat s t)) ∧
    (s.on F.CAL_XFER_STAT_BUSY = false → st ≠ 0 →
      (∃ t, exec .calExport s = .next t ∧ t.rd F.CAL_XFER_STAT_STATUS = st ∧ SameBut [] s t ∧ SameRegs stat s t) ∧
      (s.matched = false → ∃ t, exec .calImport s = .next t ∧ t.rd F.CAL_XFER_STAT_STATUS = st ∧ SameBut [] s t ∧ SameRegs stat s t)) ∧
    (s.on F.CAL_XFER_STAT_BUSY = false → st = 0 →
      (∃ t job, exec .calExport s = .next t ∧ t.rd F.CAL_XFER_STAT_BUSY = 1 ∧ t.rd F.CAL_XFER_STAT_STATUS = 0 ∧ t.eye.xfer = some .sending ∧
        t.zip.cwait = s.zip.cwait ++ [(0, job)] ∧ job.owner = .calState ∧ job.chain = [(i, 0)] ∧ job.input = wordBytes s.calBlock ∧
        (t.buf i).uses = (s.buf i).uses + 1 ∧ SameBut [.eye, .zip, .win] s t) ∧
      (s.matched = false → ∃ t u, exec .calImport s = .next t ∧ t.rd F.CAL_XFER_STAT_BUSY = 1 ∧ t.eye.xfer = some .receiving ∧
        t.zip.dwait = s.zip.dwait ++ [(0, u)] ∧ u.work = true ∧ u.inBuf = i ∧ u.st = .header ∧ (t.buf i).uses = (s.buf i).uses + 1 ∧
        SameBut [.eye, .zip, .win] s t))) ∧
  (∀ s : State, (∀ data, s.eye.xfer ≠ some (.validating data)) → exec .calImportValidated s = .next s) ∧
  (∀ (data : List Nat) (s : State), s.eye.xfer = some (.validating data) →
    let i := s.rd F.CAL_XFER_BUF_BUF
    let ws := bytesWords data.length data
    (∀ st off, s.readImport data = .bad st off → ∃ t, exec .calImportValidated s = .next t ∧ t.eye.xfer = none ∧ t.rd F.CAL_XFER_STAT_BUSY = 0 ∧
      t.rd F.CAL_XFER_STAT_STATUS = st % 16 ∧ t.win.postings = s.win.postings ++ [.release i 0 0] ∧ Raises s t 0 0x0B14 [st % 2 ^ 24, off % 2 ^ 24] ∧
      26 ∈ t.irq.causes ∧ t.epoch = s.epoch ∧ t.eye.runs = s.eye.runs ∧ t.cams = s.cams ∧
      SameRegs (among [F.CAL_XFER_STAT_BUSY, F.CAL_XFER_STAT_STATUS]) s t) ∧
    (∀ v, s.readImport data = .good v → (∀ e ∈ s.eye.runs, e.1 < 24) → ∃ t, exec .calImportValidated s = .next t ∧ t.eye.xfer = none ∧
      t.rd F.CAL_XFER_STAT_BUSY = 0 ∧ t.rd F.CAL_XFER_STAT_STATUS = 0 ∧ .release i 0 0 ∈ t.win.postings ∧
      ∀ e ∈ s.eye.runs, s.rd (runState e.1) ≠ 3 → t.rd (runState e.1) = 0 ∧ t.rd (runResult e.1) = 4 ∧ ∀ x ∈ t.eye.runs, x.1 ≠ e.1) ∧
    (ws.getD 0 0 ≠ 0x43414C → s.readImport data = .bad 3 0) ∧
    (∀ v, s.readImport data = .good v → ws.getD 0 0 = 0x43414C ∧ bits (ws.getD 1 0) 0 8 = 1 ∧ bits (ws.getD 1 0) 8 4 = s.dies ∧
      ws.getD 2 0 = s.rd F.STRUCT_CUR_ID_VALUE ∧ crc32 (wordBytes (ws.take (ws.length - 2))) = ws.getD (ws.length - 2) 0 + 2 ^ 24 * ws.getD (ws.length - 1) 0)) ∧
  (∀ cmax k c : Nat, cmax ≤ 15 → k < 64 → c < 16 →
    let e := curveEntry cmax k c
    let lo := e % 16
    let hi := e / 16 % 16
    let thr := e / 256
    (c = 0 ∨ cmax < c ∨ k = 32 → e = c + 16 * c) ∧ lo ≤ c ∧ c ≤ hi ∧ hi ≤ lo + 1 ∧ hi ≤ max c cmax ∧ thr < 64 ∧ (k < 32 → lo = c) ∧ (32 < k → hi = c))

/-- R431, R432, R434, R440 to R442, R444, R445, R447. -/
def Obligations.AxesFollowTheirGenerator : Prop :=
  (∀ (x : Axis) (vt acc dt dwell : Nat) (t : Int) (up : Bool),
    let y := (x.travel vt acc dt dwell (some t) up).1
    (0 ≤ x.v → x.p < t → y.rev = false → x.rev = false → y.p ≤ t) ∧ (x.v ≤ 0 → t < x.p → y.rev = false → x.rev = false → t ≤ y.p) ∧
    (x.v = 0 → x.p = t → y.p = t ∧ y.v = 0) ∧
    (x.v = 0 → 0 < x.dwell → x.p ≠ t → y = { x with dwell := x.dwell - 1, braked := false }) ∧
    (y.v.natAbs ≤ max x.v.natAbs vt) ∧ (y.v.natAbs ≤ x.v.natAbs + acc)) ∧
  (∀ (a now : Nat) (s : State), a < 4 * s.dies →
    let u := s.atTime now
    let d := a / 4
    let n := a % 4
    let x := u.axis a
    let st := u.rd (F.MOT_CTL_STATE d n)
    let due : Prop := u.onTick d = true ∧ u.tickIndex d ≠ x.tick
    let off : Prop := (st ≠ 2 ∧ st ≠ 3) ∨ u.halted = true ∨ u.on (F.MON_STAT_HOT_FENCE d) = true
    (¬ due → exec (.motionTick a now) s = .next u) ∧
    (due → u.clk < x.tickAt + 1000 → ∃ t, exec (.motionTick a now) s = .next t ∧ t.axis a = { x with tick := u.tickIndex d } ∧
      SameBut [.clk, .timeBase, .axes] s t ∧ t.live = u.live) ∧
    (due → x.tickAt + 1000 ≤ u.clk →
    (x.setpos = false → off → ∃ t, exec (.motionTick a now) s = .next t ∧
      t.axis a = { x with tick := u.tickIndex d, tickAt := u.clk, outWas := x.out, pulses := [] } ∧ SameBut [.clk, .timeBase, .axes] s t ∧
      t.live = u.live) ∧
    (x.setpos = true → off →
      let e := signed 48 (u.rdPair (F.MOT_SETPOS_LO_SETPOS d n) (F.MOT_SETPOS_HI_SETPOS d n))
      (x.v = 0 → ∃ t, exec (.motionTick a now) s = .next t ∧ (t.axis a).p = fine * e ∧ (t.axis a).e = e ∧ (t.axis a).out = fine * e ∧
        (t.axis a).pulses = [] ∧ (t.axis a).setpos = false ∧ t.rd (F.MOT_STAT_REFD d n) = 1 ∧ SameBut [.clk, .timeBase, .axes] s t ∧ SameRegs (among [F.MOT_STAT_REFD d n]) u t) ∧
      (x.v ≠ 0 → ∃ t, exec (.motionTick a now) s = .next t ∧ (t.axis a).p = x.p ∧ (t.axis a).e = x.e ∧ (t.axis a).pulses = [] ∧ (t.axis a).setpos = false ∧
        Raises s t d 0x0C07 [n] ∧ 256 * d + 35 ∈ t.irq.causes ∧ t.live = u.live)) ∧
    (x.setpos = false → ¬ off →
      ∃ t, exec (.motionTick a now) s = .next t ∧ (t.axis a).pulses.length ≤ max 50 x.pulses.length ∧
        (u.on (F.MOT_STAT_STALL d n) = true → (t.axis a).p = x.p ∧ (t.axis a).e = x.e ∧ (t.axis a).v = x.v ∧ t.live = u.live) ∧
        (∀ b, b ≠ a → tget? t.axes b = tget? s.axes b)) ∧
    (x.setpos = false → st = 2 → ¬ off → u.on (F.MOT_STAT_STALL d n) = false → u.on (F.MOT_SRC_DEV_EN d n) = false →
      u.on (F.MOT_STAT_FOLLOW_LAG d n) = false → x.mode = u.rd (F.MOT_CTL_MODE d n) → x.held = false →
      let tgt := signed 48 (u.rdPair (F.MOT_TGT_LO_TGT d n) (F.MOT_TGT_HI_TGT d n))
      let vel := signed 24 (u.rd (F.MOT_VEL_VEL d n))
      (x.mode ≤ 1 → u.on (F.MOT_CTL_STOP d n) = false → u.rd (F.MOT_DEC_RATE d n) = x.dec →
        let r := x.travel (u.axisSpeed a (if x.mode = 1 then vel.natAbs else u.rd (F.MOT_VMAX_VMAX d n))) (u.axisRate a (u.rd (F.MOT_ACC_RATE d n))) (u.axisDec a x)
          (u.rd (F.MOT_DWELL_DWELL d n)) (if x.mode = 1 then none else some (fine * tgt)) (if vel = 0 then decide (0 ≤ x.v) else decide (0 < vel))
        ∃ t, exec (.motionTick a now) s = .next t ∧ (t.axis a).p = r.1.p ∧ (t.axis a).v = r.1.v ∧ (t.axis a).rev = r.1.rev ∧ (t.axis a).dwell = r.1.dwell ∧
          (r.2 = true → t.rd (F.MOT_CNT_REVERSALS d n) = min (u.rd (F.MOT_CNT_REVERSALS d n) + 1) 255 ∧
            ∃ e ∈ t.rcd.raised, e.die = d ∧ e.code = 0x0C02 ∧ e.payload.head? = some n)) ∧
      (x.mode = 2 → x.gat = false → x.armed = none →
        let g := { x with ratio := (signed 24 (u.rd (F.MOT_GNUM_NUM d n)), u.rd (F.MOT_GDEN_DEN d n)) }
        let vt : Int := u.axisSpeed a (u.rd (F.MOT_VMAX_VMAX d n))
        let go := g.gearAt (u.axisWeb a) - x.p
        ∃ t, exec (.motionTick a now) s = .next t ∧ (t.axis a).p = x.p + max (-vt) (min vt go) ∧ (t.axis a).lag = go - max (-vt) (min vt go))))) ∧
  (∀ (a now : Nat) (s : State), a < 4 * s.dies →
    let u := s.atTime now
    let d := a / 4
    let n := a % 4
    let x := u.axis a
    let moved := (x.e - x.e0) * (u.rd (F.MOT_EDEN_DEN d n) : Int) - signed 24 (u.rd (F.MOT_ENUM_NUM d n)) * (u.axisInput a (u.rd (F.MOT_SRC_ESRC d n)) - x.c0)
    u.onTick d = true → u.tickIndex d ≠ x.tick → x.tickAt + 1000 ≤ u.clk → u.on (F.MON_STAT_HOT_FENCE d) = false →
    x.setpos = false → u.rd (F.MOT_CTL_STATE d n) = 2 → u.halted = false → u.on (F.MOT_SRC_DEV_EN d n) = true → u.on (F.MOT_STAT_STALL d n) = false →
    u.rd (F.MOT_DEVWIN_DEVWIN d n) * (u.rd (F.MOT_EDEN_DEN d n) : Int) < moved.natAbs → u.rd (F.MOT_DEVWIN_DEVT d n) ≤ x.devTicks + 1 →
      ∃ t, exec (.motionTick a now) s = .next t ∧ t.rd (F.MOT_STAT_STALL d n) = 1 ∧ t.rd (F.MOT_STAT_REFD d n) = 0 ∧ (t.axis a).v = 0 ∧ (t.axis a).pulses = [] ∧
        (t.axis a).e = x.e ∧ 256 * d + 35 ∈ t.irq.causes ∧ ∃ e ∈ t.rcd.raised, e.die = d ∧ e.code = 0x0C03 ∧ e.payload.head? = some n) ∧
  (∀ (a : Nat) (s : State), a < 4 * s.dies → s.inService (dieAt (a / 4) (0x60000 + 0x80 * (a % 4))) = true →
    let d := a / 4
    let n := a % 4
    let x := s.axis a
    (s.on (F.MOT_STAT_STALL d n) = false → exec (.stallClear a) s = .next s) ∧
    (s.on (F.MOT_STAT_STALL d n) = true → ∃ t, exec (.stallClear a) s = .next t ∧ t.rd (F.MOT_STAT_STALL d n) = 0 ∧ (t.axis a).e = x.e ∧
      (t.axis a).p = fine * x.e ∧ (t.axis a).e0 = x.e ∧ (t.axis a).c0 = s.axisInput a (s.rd (F.MOT_SRC_ESRC d n)) ∧ (t.axis a).devTicks = 0 ∧ (t.axis a).v = 0 ∧ SameBut [.axes] s t ∧
      SameRegs (among [F.MOT_STAT_STALL d n]) s t) ∧
    (s.on (F.MOT_STAT_FOLLOW_LAG d n) = false → exec (.followLagClear a) s = .next s) ∧
    (s.on (F.MOT_STAT_FOLLOW_LAG d n) = true → ∃ t, exec (.followLagClear a) s = .next t ∧ t.rd (F.MOT_STAT_FOLLOW_LAG d n) = 0 ∧ (t.axis a).p = x.p ∧
      (t.axis a).pa = x.p ∧ (t.axis a).lag = 0 ∧ (t.axis a).tb = x.p / fine ∧ SameBut [.axes] s t ∧ SameRegs (among [F.MOT_STAT_FOLLOW_LAG d n]) s t))

/-- R456, R457, R461, R462, R464, R465. -/
def Obligations.MemoryKeepsItsRanks : Prop :=
  (∀ (d r b : Nat) (s : State), d < s.dies →
    let k := 16 * d + 4 * r + b
    let n := tget s.sdram.postponed k 0
    (∃ t, exec (.memRefresh d r b false) s = .next t ∧ tget t.sdram.postponed k 0 = 0 ∧
      (∀ e, e / 32 = 4 * d + r → e % 4 = b → tget? t.sdram.rows e = none) ∧ SameBut [.sdram] s t ∧ t.live = s.live) ∧
    (n < 3 → ∃ t, exec (.memRefresh d r b true) s = .next t ∧ tget t.sdram.postponed k 0 = n + 1 ∧ SameBut [.sdram] s t ∧ t.live = s.live) ∧
    (3 ≤ n → ∃ t, exec (.memRefresh d r b true) s = .next t ∧ t.rd (F.MEM_REF_COUNT d) = min (s.rd (F.MEM_REF_COUNT d) + 1) (2 ^ 24 - 1) ∧
      tget t.sdram.postponed k 0 = 0 ∧ (∀ e, e / 32 = 4 * d + r → tget? t.sdram.rows e = none) ∧ SameBut [.sdram] s t ∧ SameRegs (among [F.MEM_REF_COUNT d]) s t)) ∧
  (∀ (d now : Nat) (codes temps : List Nat) (load : MemLoad) (s : State), d < s.dies →
    let u := s.atTime now
    let fitted := (List.range 4).filter (fun r => u.rd (F.MEM_RANK_ROLE d r) != 0)
    let hot := fitted.any (fun r => decide (u.rd (F.MEM_ECC_CTL_TLIM d) < temps.getD r 0))
    let sp := u.rd (F.MEM_STAT_SP d)
    (∃ t, exec (.mr4Poll d codes temps ⟨load, now⟩) s = .next t ∧ (∀ r ∈ fitted, t.rd (F.MEM_RANK_MR4 d r) = codes.getD r 0 % 8) ∧
      (load.rt ≤ u.memRate d → t.rd (F.MEM_BW_RT_RATE d) = load.rt) ∧ (load.zip ≤ u.zipShare d load → t.rd (F.MEM_BW_ZIP_RATE d) = load.zip) ∧
      t.rd (F.MEM_LATE_COUNT d) = (if 60 * u.memRate d < 100 * load.rt then min (u.rd (F.MEM_LATE_COUNT d) + load.late) (2 ^ 24 - 1)
        else u.rd (F.MEM_LATE_COUNT d))) ∧
    (hot = true → u.on (F.MEM_STAT_HOT d) = false → ∃ t, exec (.mr4Poll d codes temps ⟨load, now⟩) s = .next t ∧ t.rd (F.MEM_STAT_HOT d) = 1 ∧
      (∃ e ∈ t.rcd.raised, e.die = d ∧ e.code = 0x0E09) ∧ 256 * d + 36 ∈ t.irq.causes ∧
      (sp < 3 → 5 ≤ u.rd (F.DIE_STAT_STAGE d) → bit (u.rd (F.MEM_FREQ_TRAINED d)) (sp + 1) = true →
        tget? t.sdram.want d = some (sp + 1, t.clk) ∧ t.rd (F.MEM_STAT_FREQ_PEND d) = 1) ∧
      (sp < 3 → 5 ≤ u.rd (F.DIE_STAT_STAGE d) → bit (u.rd (F.MEM_FREQ_TRAINED d)) (sp + 1) = false →
        tget? t.sdram.want d = tget? s.sdram.want d ∧ ∃ e ∈ t.rcd.raised, e.die = d ∧ e.code = 0x0E08))) ∧
  (∀ (d sp t0 now : Nat) (s : State), d < s.dies →
    let u := s.atTime now
    let old := u.rd (F.MEM_STAT_SP d)
    (tget? u.sdram.want d = none → exec (.freqSwitch d now) s = .next u) ∧
    (tget? u.sdram.want d = some (sp, t0) → sp < 4 →
      (5 ≤ u.rd (F.DIE_STAT_STAGE d) → u.memQuiet d = false → exec (.freqSwitch d now) s = .next u) ∧
      (5 ≤ u.rd (F.DIE_STAT_STAGE d) → u.memQuiet d = true → old < 4 → ∃ t, exec (.freqSwitch d now) s = .next t ∧ t.rd (F.MEM_STAT_SP d) = sp ∧
        t.rd (F.MEM_STAT_FREQ_PEND d) = 0 ∧ tget? t.sdram.want d = none ∧ Raises s t d 0x0E06 [old, sp] ∧ SameBut [.clk, .timeBase, .sdram, .rcd] s t ∧
        SameRegs (among [F.MEM_STAT_SP d, F.MEM_STAT_FREQ_PEND d]) u t) ∧
      (u.rd (F.DIE_STAT_STAGE d) < 5 → d ∈ u.sdram.switched → exec (.freqSwitch d now) s = .next u) ∧
      (u.rd (F.DIE_STAT_STAGE d) < 5 → d ∉ u.sdram.switched → ∃ t, exec (.freqSwitch d now) s = .next t ∧ t.rd (F.MEM_STAT_SP d) = sp ∧
        d ∈ t.sdram.switched ∧ Raises s t d 0x0E07 [sp, (u.clk - t0) / 200000 % 2 ^ 24] ∧ 256 * d + 36 ∈ t.irq.causes))) ∧
  (∀ (d r corrected : Nat) (s : State), d < s.dies → r < 4 →
    (corrected < s.rd (F.MEM_ECC_CTL_CE_LIM d) → ∃ t, exec (.scrubHour d r corrected) s = .next t ∧
      t.rd (F.MEM_RANK_CE d r) = min (s.rd (F.MEM_RANK_CE d r) + corrected) 255 ∧ SameBut [.rcd] s t ∧ RaisesNone s t ∧ SameRegs (among [F.MEM_RANK_CE d r]) s t) ∧
    (s.rd (F.MEM_ECC_CTL_CE_LIM d) ≤ corrected → ∃ t, exec (.scrubHour d r corrected) s = .next t ∧
      (∃ e ∈ t.rcd.raised, e.die = d ∧ e.code = 0x0E01 ∧ e.payload = [r / 2, r % 2, corrected % 2 ^ 24]) ∧ 256 * d + 36 ∈ t.irq.causes ∧
      (s.on (F.MEM_ECC_CTL_SPARE_ON_CE d) = false → t.sdram = s.sdram))) ∧
  (∀ (d r a sp : Nat) (comp : Option Nat) (s : State), d < s.dies → r < 4 → s.inService (dieAt d 0x80000) = true →
    (s.rd (F.MEM_RANK_ROLE d r) ≠ 1 → exec (.memCmdRetire d r) s = .next s) ∧
    (s.rd (F.MEM_RANK_ROLE d r) = 1 →
      (s.freeSpare d = none → ∃ t, exec (.memCmdRetire d r) s = .next t ∧ Raises s t d 0x0E05 [] ∧ SameBut [.rcd, .irq] s t ∧ t.live = s.live) ∧
      (s.freeSpare d = some sp →
        (∃ t, exec (.memCmdRetire d r) s = .next t ∧ tget? t.sdram.copies d = some (r, sp) ∧ t.rd (F.MEM_STAT_MIGRATING d) = 1 ∧ t.rd (F.MEM_MIG_DONE d) = 0 ∧
          t.rd (F.MEM_MIG_POISON d) = 0 ∧ Raises s t d 0x0E03 [] ∧ t.rd (F.MEM_RANK_ROLE d r) = 1) ∧
        (s.on (F.MEM_ECC_CTL_SPARE_AUTO d) = true → 4 * d + r ∉ s.sdram.failed → ∃ t, exec (.sdramUncorrectable d r ⟨a, none⟩) s = .next t ∧
          tget? t.sdram.copies d = some (r, sp) ∧ 4 * d + r ∈ t.sdram.failed ∧
          ∃ e ∈ t.rcd.raised, e.die = d ∧ e.code = 0x0E02 ∧ e.payload = [r / 2, r % 2, a % 2 ^ 24]))) ∧
    (∃ t, exec (.sdramUncorrectable d r ⟨a, comp⟩) s = .next t ∧ t.rd (F.MEM_RANK_UE d r) = min (s.rd (F.MEM_RANK_UE d r) + 1) 255 ∧
      t.rd (F.MEM_UE_ADDR_LO_ADDR d) = a % 2 ^ 24 ∧ t.rd (F.MEM_UE_ADDR_HI_ADDR d) = a / 2 ^ 24 % 2 ^ 24 ∧
      (comp = none → s.on (F.MEM_ECC_CTL_SPARE_AUTO d) = false ∨ 4 * d + r ∈ s.sdram.failed → t.sdram = s.sdram ∧ RaisesNone s t) ∧
      (∀ u j i, comp = some u → u < 2 → (s.cunit d u).job = some j → j.inBuf = some i → t.cunit d u = CUnit.none ∧
        ∃ e ∈ t.rcd.raised, e.die = d ∧ e.code = 0x0604 ∧ e.payload = [8 + u, 13, j.tag % 2 ^ 24, 0xFFFFFF]))) ∧
  (∀ (d poison : Nat) (s : State), d < s.dies →
    (tget? s.sdram.copies d = none → exec (.migrateDone d poison) s = .next s) ∧
    (∀ r sp, tget? s.sdram.copies d = some (r, sp) → r < 4 → sp < 4 → r ≠ sp → ∃ t, exec (.migrateDone d poison) s = .next t ∧
      tget? t.sdram.copies d = none ∧ t.rd (F.MEM_STAT_MIGRATING d) = 0 ∧ t.rd (F.MEM_RANK_ROLE d r) = 3 ∧ t.rd (F.MEM_RANK_ROLE d sp) = 1 ∧
      t.rd (F.MEM_MIG_POISON d) = min poison 4095 ∧ (∃ e ∈ t.rcd.raised, e.die = d ∧ e.code = 0x0E04 ∧ e.payload = [r, min poison 4095]) ∧
      (r % 2 = 0 → sp / 2 ≠ r / 2 → t.rd (F.MEM_STAT_SINGLE_CH d) = 1 ∧ ∃ e ∈ t.rcd.raised, e.die = d ∧ e.code = 0x0E0C)))

/-- R469 to R472. -/
def Obligations.EnginesFaultAndAreSpared : Prop :=
  ∀ (d e cause pc now : Nat) (s : State), d < s.dies → e < 12 →
    let u := s.atTime now
    let past := (tget u.eng.faultTimes (12 * d + e) []).filter (fun t => u.clk < t + 12000000000)
    let wd := tget u.eng.runsFrom (12 * d + e) 0 + usTicks (1000 * u.rd (F.ENG_WD_WD_MS d))
    (u.clk < wd → exec (.engineWatchdogExpire d e pc now) s = .next u) ∧
    ∀ ev, (ev = Instr.engineFault d e cause pc now ∧ 2 ≤ cause ∧ cause ≤ 5) ∨ (ev = .engineWatchdogExpire d e pc now ∧ cause = 1 ∧ wd ≤ u.clk) →
      (u.rd (F.ENG_CTL_STATE d e) ≠ 2 → exec ev s = .next u) ∧
      (u.rd (F.ENG_CTL_STATE d e) = 2 → ∃ t, exec ev s = .next t ∧ t.rd (F.ENG_STAT_FAULT d e) = 1 ∧ t.rd (F.ENG_STAT_CAUSE d e) = cause ∧
        t.rd (F.ENG_PC_PC d e) = pc % 2 ^ 24 ∧ t.rd (F.ENG_FLT_COUNT d) = min (u.rd (F.ENG_FLT_COUNT d) + 1) (2 ^ 24 - 1) ∧
        256 * d + 12 ∈ t.irq.causes ∧ (∃ r ∈ t.rcd.raised, r.die = d ∧ r.code = 0x0F01 ∧ r.payload = [e, cause, pc % 2 ^ 24]) ∧
        SameBut [.clk, .timeBase, .rcd, .irq, .eng, .host] s t ∧
        (e = 11 ∨ u.spareFree d = false → t.irq = { s.irq with causes := s.irq.causes ++ [256 * d + 12] } ∧ t.host = s.host) ∧
        (e ≠ 11 → u.spareFree d = true → t.rd (F.ENG_CTL_STATE d e) = 0 ∧ t.rd (F.ENG_CTL_STATE d 11) = 2 ∧ t.rd (F.ENG_SPARE_SPARED_FOR d) = e ∧
          tget? t.eng.sparedBy d = some e ∧ tget t.eng.runsFrom (12 * d + 11) 0 = u.clk ∧ t.targetEnabled d (16 + e) = true ∧ ∃ r ∈ t.rcd.raised, r.die = d ∧ r.code = 0x0F02 ∧ r.payload = [e]) ∧
        (e = 11 ∨ u.spareFree d = false →
          (past.length < 3 → tget t.eng.runsFrom (12 * d + e) 0 = u.clk ∧ t.rd (F.ENG_CTL_STATE d e) = 2 ∧ tget? t.eng.faultTimes (12 * d + e) = some (u.clk :: past) ∧
            t.rd (F.ENG_STAT_RESTARTS d e) = min (u.rd (F.ENG_STAT_RESTARTS d e) + 1) 255) ∧
          (3 ≤ past.length → t.rd (F.ENG_CTL_STATE d e) = 0 ∧ ∃ r ∈ t.rcd.raised, r.die = d ∧ r.code = 0x0F03)))

/-- R473, R474, R476, R477, R479, R487. -/
def Obligations.SourcesAreRaisedAndAssigned : Prop :=
  (∀ (g : Nat) (r : List Nat) (sig : Option Nat) (s : State),
    (sig = none ∧ s.irq.causes = g :: r) ∨ (sig = some g ∧ g / 256 < s.dies ∧ g % 256 < 12 ∧ r = s.irq.causes) →
    let n := tget s.irq.counted g 0 + 1
    let most := s.rd (F.IRQ_COAL_COUNT (g / 256) (g % 256))
    (n < most → ∃ t, exec (.irqCause sig) s = .next t ∧ t.irq.causes = r ∧ tget t.irq.counted g 0 = n ∧ t.irq.raises = s.irq.raises ∧ SameBut [.irq] s t ∧ t.live = s.live) ∧
    (most ≤ n → ∃ t, exec (.irqCause sig) s = .next t ∧ t.irq.causes = r ∧ tget t.irq.counted g 0 = 0 ∧ t.irq.raises = s.irq.raises ++ [g] ∧ SameBut [.irq] s t ∧
      t.live = s.live)) ∧
  (∀ s : State, s.irq.causes = [] → exec (.irqCause none) s = .next s) ∧
  (∀ (g now : Nat) (s : State), g / 256 < s.dies → sourceDefined (g / 256) (g % 256) = true →
    let u := s.atTime now
    let time := u.rd (F.IRQ_COAL_TIME (g / 256) (g % 256))
    let due := tget u.irq.firstAt g 0 + 200 * time
    (tget u.irq.counted g 0 = 0 ∨ time = 0 ∨ u.clk < due → exec (.irqCoalTimeout ⟨g, now⟩) s = .next u) ∧
    (tget u.irq.counted g 0 ≠ 0 → time ≠ 0 → due ≤ u.clk →
      ∃ t, exec (.irqCoalTimeout ⟨g, now⟩) s = .next t ∧ tget t.irq.counted g 0 = 0 ∧ t.irq.raises = s.irq.raises ++ [g] ∧
        SameBut [.clk, .timeBase, .irq] s t ∧ t.live = s.live)) ∧
  (∀ (d src : Nat) (s : State), d < s.dies → s.inService (dieAt d 0x90000) = true →
    (96 ≤ src → src ≤ 127 → ∃ t, exec (.irqSet d src) s = .next t ∧ t.irq = { s.irq with causes := s.irq.causes ++ [256 * d + src] } ∧ SameBut [.irq] s t ∧
      t.live = s.live) ∧
    (src < 96 ∨ 127 < src → exec (.irqSet d src) s = .next s)) ∧
  (∀ (d g : Nat) (pre post : List Nat) (s : State), d < s.dies → s.irq.raises = pre ++ g :: post → g / 256 = d → (∀ x ∈ pre, x / 256 ≠ d) →
    (g ∈ s.irq.pending → ∃ t, exec (.irqRaiseArrival d) s = .next t ∧ t.irq = { s.irq with raises := pre ++ post } ∧ SameBut [.irq] s t ∧ t.live = s.live) ∧
    (g ∉ s.irq.pending → ∃ t, exec (.irqRaiseArrival d) s = .next t ∧ t.irq.raises = pre ++ post ∧ t.irq.pending = s.irq.pending ++ [g] ∧
      t.irq.claims = s.irq.claims ∧
      (s.prio g = 0 → tget? t.irq.assigned g = tget? s.irq.assigned g ∧ t.rd F.IRQH_ERR_NOTARGET = s.rd F.IRQH_ERR_NOTARGET) ∧
      (s.prio g ≠ 0 → tget? s.irq.assigned g = none →
        (∀ k, s.nextTarget g = some k → tget? t.irq.assigned g = some k ∧ tget? t.irq.lastTarget g = some k ∧
          (k < 16 → t.wouldBeEligible k g = true → (s.stackOf k).length < 8 → k ∈ t.irq.outstanding)) ∧
        (s.nextTarget g = none → s.inEpisode 0x0F06 g = false → tget? t.irq.assigned g = none ∧ Raises s t 0 0x0F06 [g % 2 ^ 24] ∧
          t.rd F.IRQH_ERR_NOTARGET = min (s.rd F.IRQH_ERR_NOTARGET + 1) 255)))) ∧
  (∀ (d : Nat) (s : State), d < s.dies → (∀ x ∈ s.irq.raises, x / 256 ≠ d) → exec (.irqRaiseArrival d) s = .next s) ∧
  (∀ (k g : Nat) (s : State), k < 16 → s.inService 0x70000 = true →
    (∃ t, exec (.irqhAccept k false) s = .next t ∧ t.rd (F.IRQH_TCTL_ACCEPT k) = 0 ∧ SameBut [] s t ∧ SameRegs (among [F.IRQH_TCTL_ACCEPT k]) s t) ∧
    (∃ t, exec (.irqhAccept k true) s = .next t ∧ t.rd (F.IRQH_TCTL_ACCEPT k) = 1 ∧ t.irq.pending = s.irq.pending ∧ t.irq.claims = s.irq.claims ∧
      (g ∈ s.irq.pending → s.prio g ≠ 0 → tget? s.irq.assigned g = none → s.targetsOf g = [k] → tget? t.irq.assigned g = some k))) ∧
  (∀ (k : Nat) (s : State), s.eligible k ≠ [] → k ∉ s.irq.outstanding →
    k ∈ (s.deliver k).irq.outstanding ∧
    (s.host.msixHeld k = true → k ∈ (s.deliver k).host.msixPending ∧ (s.deliver k).host.msixSent = s.host.msixSent) ∧
    (s.host.msixHeld k = false → (s.deliver k).host.msixSent = s.host.msixMsg k :: s.host.msixSent)) ∧
  (∀ (k : Nat) (s : State), k ∈ s.irq.outstanding → (s.stackOf k).length < 8 → s.deliver k = s) ∧
  (∀ (k v : Nat) (s : State), k < 16 → v < 2 ^ 32 →
    (∃ t, exec (.msixMaskWrite (16 * k + 12) (.bar4Write v)) s = .next t ∧ SameBut [.host] s t ∧ t.live = s.live ∧
      t.host.msixWord (4 * k + 3) = v % 2 ∧
      (v % 2 = 1 → t.host.msixHeld k = true ∧ (k ∈ s.host.msixPending → k ∈ t.host.msixPending)) ∧
      (v % 2 = 0 → k ∈ s.host.msixPending → s.host.pcie.msixEnable = true → s.host.pcie.funcMask = false → s.host.pcie.d3hot = false →
        s.host.msixMsg k ∈ t.host.msixSent ∧ k ∉ t.host.msixPending)) ∧
    (∀ w < 3, ∃ t, exec (.msixMaskWrite (16 * k + 4 * w) (.bar4Write v)) s = .next t ∧ t.host.msixWord (4 * k + w) = v ∧
      (w = 2 → (t.host.msixMsg k).msgData = v)) ∧
    (∃ t, exec (.msixMaskWrite (16 * k) .bar4Read) s = .next t ∧ t.host.readData = [s.host.msixWord (4 * k)] ∧ SameBut [.host] s t) ∧
    (∃ t p, exec (.msixMaskWrite 0x1000 .bar4Read) s = .next t ∧ t.host.readData = [p] ∧ (p.testBit k = true ↔ k ∈ s.host.msixPending))) ∧
  (∀ (enable mask gen check : Bool) (bar offset : Nat) (s : State),
    (∃ t, exec (.msixMaskWrite offset (.msixControl enable mask)) s = .next t ∧ t.host.pcie.msixEnable = enable ∧ t.host.pcie.funcMask = mask ∧
      (enable = false ∨ mask = true → t.host.msixSent = s.host.msixSent ∧ t.host.msixPending = s.host.msixPending) ∧ SameBut [.host] s t) ∧
    (∀ payload ∈ [128, 256, 512], ∃ t, exec (.msixMaskWrite offset (.device payload gen check)) s = .next t ∧ t.host.pcie.maxPayload = payload ∧
      t.host.pcie.ecrcGen = gen ∧ t.host.pcie.ecrcCheck = check ∧ SameBut [.host] s t) ∧
    (∃ t, exec (.msixMaskWrite offset (.power false)) s = .next t ∧ t.host.pcie.d3hot = false ∧ SameBut [.host] s t) ∧
    (bar = 0 ∨ bar = 2 ∨ bar = 4 → ∃ t, exec (.msixMaskWrite offset (.atomicOp bar)) s = .next t ∧ t.host.unsupported = true ∧
      SameBut [.host] s t ∧ t.live = s.live))

/-- R478, R480 to R483. -/
def Obligations.ClaimsAndCompletions : Prop :=
  (∀ (k : Nat) (s : State), k < 16 → s.inService 0x70000 = true →
    (∃ t, exec (.irqhClaim k) s = .next t ∧ t.rd (F.IRQH_CTIME_TIME k 0) = s.time 0 % 2 ^ 24 ∧ t.rd (F.IRQH_CTIME_TIME k 1) = s.time 0 / 2 ^ 24 % 2 ^ 24 ∧
      t.rd (F.IRQH_CTIME_TIME k 2) = s.time 0 / 2 ^ 48 % 2 ^ 24) ∧
    (s.eligible k = [] → ∃ t, exec (.irqhClaim k) s = .next t ∧ t.host.readData = [0] ∧ t.irq.pending = s.irq.pending ∧ t.irq.claims = s.irq.claims ∧
      k ∉ t.irq.outstanding) ∧
    (∀ g, g ∈ s.eligible k → (∀ h ∈ s.eligible k, s.prio h < s.prio g ∨ (s.prio h = s.prio g ∧ g ≤ h)) →
      ∃ t, exec (.irqhClaim k) s = .next t ∧ t.host.readData = [2 ^ 23 + 2 ^ 12 * s.prio g + g] ∧ t.stackOf k = ⟨g, s.prio g⟩ :: s.stackOf k ∧
        t.runPrio k = s.prio g ∧ t.active g = true ∧ t.irq.pending = s.irq.pending.filter (· != g) ∧ ∀ j, j ≠ k → t.stackOf j = s.stackOf j)) ∧
  (∀ (k src : Nat) (s : State), k < 16 → s.inService 0x70000 = true →
    ((∃ c ∈ s.stackOf k, c.src = src) → ∃ t, exec (.irqhDone k src) s = .next t ∧ t.stackOf k = (s.stackOf k).filter (fun c => c.src != src) ∧
      t.irq.pending = s.irq.pending ∧ t.rd F.IRQH_ERR_IGNORED = s.rd F.IRQH_ERR_IGNORED ∧ ∀ j, j ≠ k → t.stackOf j = s.stackOf j) ∧
    ((∀ c ∈ s.stackOf k, c.src ≠ src) → ∃ t, exec (.irqhDone k src) s = .next t ∧ t.irq.claims = s.irq.claims ∧ t.irq.pending = s.irq.pending ∧
      t.rd F.IRQH_ERR_IGNORED = min (s.rd F.IRQH_ERR_IGNORED + 1) 255 ∧ ∃ w ∈ t.rcd.windows, w.code = 0x0F04)) ∧
  (∀ (src : Nat) (s : State), s.inService 0x70000 = true →
    (src / 256 < s.dies → src % 256 < 192 →
      (∃ t, exec (.irqhMaskSet src) s = .next t ∧ t.irqMasked src = true ∧ (∀ k, src ∉ t.eligible k) ∧ SameBut [] s t ∧
        (∀ g, g % 256 < 192 → g ≠ src → t.irqMasked g = s.irqMasked g)) ∧
      (∃ t, exec (.irqhMaskClr src) s = .next t ∧ t.irqMasked src = false ∧ t.irq.pending = s.irq.pending ∧ t.irq.claims = s.irq.claims ∧
        (∀ g, g % 256 < 192 → g ≠ src → t.irqMasked g = s.irqMasked g))) ∧
    (s.dies ≤ src / 256 ∨ 192 ≤ src % 256 → exec (.irqhMaskSet src) s = .next s ∧ exec (.irqhMaskClr src) s = .next s)) ∧
  (∀ (k g : Nat) (s : State), s.active g = true ∨ s.irqMasked g = true ∨ s.prio g ≤ s.runPrio k ∨ s.prio g ≤ s.rd (F.IRQH_TCTL_THRESH k) ∨
    8 ≤ (s.stackOf k).length ∨ g ∉ s.irq.pending ∨ tget? s.irq.assigned g ≠ some k → g ∉ s.eligible k)

/-- R485. -/
def Obligations.FlushEmptiesAStack : Prop :=
  ∀ (k : Nat) (s : State), k < 16 → s.inService 0x70000 = true → Rising s.irq.claims →
    ∃ t, exec (.irqhFlush k) s = .next t ∧ t.stackOf k = [] ∧ t.runPrio k = 0 ∧ (∀ j, j ≠ k → t.stackOf j = s.stackOf j) ∧
      (∀ g, s.active g = true → (∀ j, j ≠ k → ∀ c ∈ s.stackOf j, c.src ≠ g) → t.active g = false) ∧ t.irq.pending = s.irq.pending ∧
      t.rd F.IRQH_ERR_IGNORED = s.rd F.IRQH_ERR_IGNORED ∧ t.irq.assigned = s.irq.assigned

/-- R491, R492, R494, R497 to R500. -/
def Obligations.TimeIsKeptAndDisciplined : Prop :=
  (∀ (n d : Nat) (s : State), d < s.dies → (s.pass n).clk = s.clk + n ∧
    tget (s.pass n).timeBase d 0 = unsigned 96 (tget s.timeBase d 0 + n * (5 * 2 ^ 32 + s.rate)) ∧ SameBut [.clk, .timeBase] s (s.pass n) ∧
    (s.pass n).live = s.live) ∧
  (∀ (d now : Nat) (off : Int) (s : State), d < s.dies →
    let u := s.atTime now
    (d = 0 ∨ u.clk < tget u.clock.synced d 0 + 200000 → exec (.dieTimeSync d off now) s = .next u) ∧
    (d ≠ 0 → tget u.clock.synced d 0 + 200000 ≤ u.clk → ∃ t, exec (.dieTimeSync d off now) s = .next t ∧ tget t.timeBase d 0 = tget u.timeBase 0 0 ∧ (∀ e, e ≠ d → tget t.timeBase e 0 = tget u.timeBase e 0) ∧
      tget t.clock.synced d 0 = u.clk ∧ SameBut [.clk, .timeBase, .rcd, .clock] s t ∧ t.live = s.live ∧
      (off.natAbs ≤ 50 → RaisesNone s t) ∧ (50 < off.natAbs → ∃ e ∈ t.rcd.raised, e.die = 0 ∧ e.code = 0x1006 ∧ e.payload = [d, unsigned 24 off]))) ∧
  (∀ (domain port origin now : Nat) (s : State),
    let u := s.atTime now
    let st := u.rd F.TIME_STAT_STATE
    let behind : Int := (u.time 0 : Int) - u.rd F.TIME_CTL_STAMP_COMP - origin
    let o := behind - u.clock.delay
    let far := u.rd F.TIME_STEP_STEP * 1000 < o.natAbs
    (u.ptpRuns = false → exec (.ptpSync ⟨domain, port, origin⟩ now) s = .next u) ∧
    (u.ptpRuns = true → u.fromMaster domain port = false → ∃ t, exec (.ptpSync ⟨domain, port, origin⟩ now) s = .next t ∧
      t.irq.causes = s.irq.causes ++ [37] ∧ SameBut [.clk, .timeBase, .irq] s t ∧ t.live = u.live) ∧
    (u.ptpRuns = true → u.fromMaster domain port = true → ∃ t, exec (.ptpSync ⟨domain, port, origin⟩ now) s = .next t ∧ 37 ∈ t.irq.causes ∧
      t.clock.behind = behind ∧ t.clock.syncAt = u.clk ∧ t.rd F.TIME_OFFSET_O = unsigned 24 (max (-8388608) (min 8388607 o)) ∧ t.timeBase = u.timeBase ∧
      (far → t.clock.steps = u.clock.steps ++ [⟨-o * 2 ^ 32, 1, u.clk + 4000⟩] ∧ t.rate = u.rate ∧ t.clock.updates = u.clock.updates) ∧
      (¬ far → t.clock.steps = u.clock.steps ∧ ∃ r : Int, r.natAbs ≤ 6400000 ∧ t.rd F.TIME_ADJ_RATE = unsigned 24 r ∧ t.rate = (5 * 2 ^ 32 * r).tdiv 64000000000 ∧
        t.clock.updates = (r :: u.clock.updates).take 64) ∧
      (st = 0 ∨ st = 3 → t.rd F.TIME_STAT_STATE = 1) ∧
      (st = 1 → (o.natAbs < 2000 ∧ 15 ≤ u.clock.good → t.rd F.TIME_STAT_STATE = 2 ∧ ∃ e ∈ t.rcd.raised, e.code = 0x1004) ∧
        (2000 ≤ o.natAbs ∨ u.clock.good < 15 → t.rd F.TIME_STAT_STATE = 1)) ∧
      (st = 2 → (2000 ≤ o.natAbs ∧ 3 ≤ u.clock.bad → t.rd F.TIME_STAT_STATE = 1) ∧ (o.natAbs < 2000 ∨ u.clock.bad < 3 → t.rd F.TIME_STAT_STATE = 2)))) ∧
  (∀ (now : Nat) (s : State),
    let u := s.atTime now
    let st := u.rd F.TIME_STAT_STATE
    let lost : Prop := ∀ m, u.clock.master = some m → u.clock.syncAt + 3 * usTicks m.interval ≤ u.clk
    ((st ≠ 1 ∧ st ≠ 2) ∨ ¬ lost → exec (.ptpSyncTimeout now) s = .next u) ∧
    (st = 1 ∨ st = 2 → lost → ∃ t, exec (.ptpSyncTimeout now) s = .next t ∧ t.rd F.TIME_STAT_STATE = 3 ∧ Raises s t 0 0x1002 [] ∧
      t.irq.causes = s.irq.causes ++ [37] ∧ (u.clock.updates = [] → t.rate = u.rate) ∧
      (u.clock.updates ≠ [] → t.rd F.TIME_ADJ_RATE = unsigned 24 ((u.clock.updates.foldl (· + ·) 0).tdiv u.clock.updates.length)))) ∧
  (∀ (m : PtpAnnounce) (now : Nat) (s : State),
    let u := s.atTime now
    let st := u.rd F.TIME_STAT_STATE
    (u.ptpRuns = false ∨ m.domain ≠ u.rd F.TIME_CTL_DOMAIN → exec (.ptpAnnounce ⟨m, now⟩) s = .next u) ∧
    (u.ptpRuns = true → m.domain = u.rd F.TIME_CTL_DOMAIN → ∃ t b, exec (.ptpAnnounce ⟨m, now⟩) s = .next t ∧ t.clock.master = some b ∧
      (m, u.clk) ∈ t.clock.heard ∧ (∃ k, (b, k) ∈ t.clock.heard) ∧ (∀ e ∈ t.clock.heard, listBefore (ptpRank e.1) (ptpRank b) = false) ∧
      (∀ e ∈ t.clock.heard, e ≠ (m, u.clk) → e ∈ u.clock.heard ∧ e.1.port ≠ m.port ∧ u.clk ≤ e.2 + 3 * usTicks e.1.interval) ∧
      (u.clock.master.map PtpAnnounce.gm = some b.gm → RaisesNone s t ∧ t.live = u.live) ∧
      (u.clock.master.map PtpAnnounce.gm ≠ some b.gm → t.rd (F.TIME_GM_ID 0) = b.gm % 2 ^ 24 ∧ t.rd (F.TIME_GM_ID 1) = b.gm / 2 ^ 24 % 2 ^ 24 ∧
        (st = 1 ∨ st = 2 → t.rd F.TIME_STAT_STATE = 1 ∧ t.clock.updates = [] ∧ Raises s t 0 0x1003 [b.gm % 2 ^ 24])))) ∧
  (∀ (domain port latched received : Nat) (s : State),
    (s.ptpRuns = true → s.fromMaster domain port = true → ∃ t, exec (.ptpDelayResp ⟨domain, port, latched, received⟩) s = .next t ∧
      t.clock.delay = (s.clock.behind + (received - ((latched : Int) - s.rd F.TIME_CTL_STAMP_COMP))).tdiv 2 ∧ t.irq.causes = s.irq.causes ++ [37] ∧
      SameBut [.clock, .irq] s t ∧ t.live = s.live) ∧
    (s.ptpRuns = false ∨ s.fromMaster domain port = false → exec (.ptpDelayResp ⟨domain, port, latched, received⟩) s = .next s)) ∧
  (∀ (v now : Nat) (s : State), s.inService 0x80000 = true →
    let u := s.atTime now
    let src := u.rd F.TIME_CTL_SRC
    (∀ ev, ev = Instr.timeSet v now ∨ ev = .timeAdj v now → src = 1 → ∃ t, exec ev s = .next t ∧ t.rd F.TIME_STAT_SET_REFUSED = 1 ∧
      SameBut [.clk, .timeBase] s t ∧ SameRegs (among [F.TIME_STAT_SET_REFUSED]) s t) ∧
    (src ≠ 1 →
      (u.clock.steps = [] → ∃ t, exec (.timeSet v now) s = .next t ∧
        t.clock.steps = [⟨((v % 2 ^ 64 * 2 ^ 32 : Nat) : Int) - (tget u.timeBase 0 0 : Nat), 2, u.clk + 4000⟩] ∧ t.timeBase = u.timeBase ∧
        SameBut [.clk, .timeBase, .clock] s t ∧ t.live = s.live) ∧
      (∃ t, exec (.timeAdj v now) s = .next t ∧ t.rd F.TIME_ADJ_RATE = v % 2 ^ 24 ∧ t.rate = (5 * 2 ^ 32 * signed 24 v).tdiv 64000000000 ∧
        t.clock.adj = signed 24 v ∧ SameBut [.clk, .timeBase, .rate, .clock] s t ∧ SameRegs (among [F.TIME_ADJ_RATE]) s t)) ∧
    (v = src → v ≠ 3 → exec (.timeSrcWrite v now) s = .next u) ∧
    exec (.timeSrcWrite 3 now) s = exec (.timeSrcWrite 0 now) s ∧
    (v ≠ src → v < 3 → ∃ t, exec (.timeSrcWrite v now) s = .next t ∧ t.rd F.TIME_CTL_SRC = v ∧
      (v ≠ 1 → t.rd F.TIME_STAT_STATE = 0 ∧ t.rate = (5 * 2 ^ 32 * u.clock.adj).tdiv 64000000000) ∧
      (src = 1 → u.rd F.TIME_STAT_STATE = 1 ∨ u.rd F.TIME_STAT_STATE = 2 → ∃ e ∈ t.rcd.raised, e.die = 0 ∧ e.code = 0x1002))) ∧
  (∀ (now : Nat) (x : TimeStep) (r : List TimeStep) (s : State),
    let u := s.atTime now
    let ns := x.diff.tdiv (2 ^ 32)
    (u.clock.steps = [] → exec (.timeStepApply now) s = .next u) ∧
    (u.clock.steps = x :: r →
      (u.clk < x.due → exec (.timeStepApply now) s = .next u) ∧
      (x.due ≤ u.clk → ∃ t, exec (.timeStepApply now) s = .next t ∧ t.clock.steps = r ∧
        (∀ d, d < s.dies → tget t.timeBase d 0 = unsigned 96 (tget u.timeBase d 0 + x.diff)) ∧
        (u.rd F.TIME_STEP_STEP * 1000 < ns.natAbs → t.rd F.TIME_STEPS_COUNT = min (u.rd F.TIME_STEPS_COUNT + 1) (2 ^ 24 - 1) ∧
          ∃ e ∈ t.rcd.raised, e.die = 0 ∧ e.code = 0x1001 ∧ e.payload = [unsigned 48 ns % 2 ^ 24, unsigned 48 ns / 2 ^ 24, x.why % 2 ^ 24]) ∧
        (ns.natAbs ≤ u.rd F.TIME_STEP_STEP * 1000 → t.rd F.TIME_STEPS_COUNT = u.rd F.TIME_STEPS_COUNT))))

/-- R501, R502, R504. -/
def Obligations.TriggersFire : Prop :=
  (∀ (c : Nat) (s : State), s.reached c = true ↔ 0 ≤ signed 32 (s.time 0 + 2 ^ 32 - c % 2 ^ 32)) ∧
  (∀ (k t : Nat) (s : State), 0 < s.rd (F.TRG_PER_PER k) → (s.trgInstants k t < s.trgInstants k (t + 1) ↔ (((t + 1 : Nat) : Int) - s.trgCmp k) % (1000 * s.rd (F.TRG_PER_PER k) : Nat) = 0)) ∧
  (∀ (k now : Nat) (s : State), k < 16 →
    let u := s.atTime now
    let n := (u.trgInstants k (u.time 0) - u.trgInstants k (tget u.clock.judged k 0)).toNat
    let fired (t : State) : Prop :=
      t.rd (F.TRG_PER_FIRES k) = min (u.rd (F.TRG_PER_FIRES k) + 1) 15 ∧ (u.on (F.TRG_CTL_IRQ_EN k) = true → 37 ∈ t.irq.causes) ∧
      (u.on (F.TRG_CTL_IRQ_EN k) = false → t.irq = s.irq) ∧
      (u.rd (F.TRG_CTL_TARGET k) = 0 → t.axes = s.axes ∧ t.meter = s.meter ∧ t.clock.convert = u.clock.convert) ∧
      (u.rd (F.TRG_CTL_TARGET k) = 1 → t.clock.convert = u.clock.convert ||| u.rd (F.TRG_CTL_DIES k)) ∧
      (u.rd (F.TRG_CTL_TARGET k) = 2 → ∀ a, a < 4 * s.dies → (bit (u.rd (F.TRG_CTL_DIES k)) (a / 4) = true → (t.axis a).held = false) ∧
        (bit (u.rd (F.TRG_CTL_DIES k)) (a / 4) = false → t.axis a = u.axis a))
    (u.blockState (.trg k) ≠ 2 → exec (.trgFire k now) s = .next u) ∧
    (u.blockState (.trg k) = 2 →
      (u.on (F.TRG_CTL_MODE k) = false → u.reached (u.trgCmp k) = false → exec (.trgFire k now) s = .next u) ∧
      (u.on (F.TRG_CTL_MODE k) = false → u.reached (u.trgCmp k) = true → ∃ t, exec (.trgFire k now) s = .next t ∧ fired t ∧ t.blockState (.trg k) = 0) ∧
      (u.on (F.TRG_CTL_MODE k) = true → n = 0 → ∃ t, exec (.trgFire k now) s = .next t ∧ t.live = u.live ∧ t.irq = s.irq ∧ tget t.clock.judged k 0 = u.time 0) ∧
      (u.on (F.TRG_CTL_MODE k) = true → 0 < n → ∃ t, exec (.trgFire k now) s = .next t ∧ fired t ∧ t.blockState (.trg k) = 2 ∧ tget t.clock.judged k 0 = u.time 0)))

/-- R509, R510, R513, R520, R531, R532, R534. -/
def Obligations.PairCommandsAndLink : Prop :=
  (∀ s : State, s.authCmd 3 = none → ∀ w, exec (.pairConfig w) s = .next s) ∧
  (∀ (c : AuthCmd) (s : State), s.authCmd 3 = some c →
    let w := c.payload
    let p := w.getD 1 0
    let f := s.pairConfigFault w
    (f = 0 → p ≠ 0 ∧ p ≠ s.rd F.AUTH_UNIT_UNIT ∧ (w.getD 2 0 = 0 ∨ (256 ≤ w.getD 2 0 ∧ w.getD 2 0 ≤ 1048575)) ∧ 100 ≤ w.getD 3 0 ∧ w.getD 3 0 ≤ 60000 ∧
      (s.role = 4 → bit (w.getD 0 0) 0 = true ∧ bit (w.getD 0 0) 3 = false)) ∧
    (∀ written, f ≠ 0 ∨ written = false ∨ s.flash.ok = false → ∃ t, exec (.pairConfig written) s = .next t ∧ t.rd F.AUTH_STAT_STATUS = 13 ∧ t.flash = s.flash ∧
      t.role = s.role ∧ RaisesNone s t) ∧
    (f = 0 → s.flash.ok = true → NoneWaits s → ∃ t, exec (.pairConfig true) s = .next t ∧ t.flash.pairCfg = s.flash.pairCfg.write w ∧ t.rd F.AUTH_STAT_STATUS = 0 ∧
      t.rd F.PAIR_CFG_ENABLE = w.getD 0 0 % 2 ∧ t.rd F.PAIR_PARTNER_UNIT = p % 2 ^ 24 ∧
      (∃ r ∈ t.rcd.raised, r.die = 0 ∧ r.code = 0x110E ∧ r.payload = [w.getD 0 0 % 2 ^ 24, p % 2 ^ 24]) ∧
      (s.role = 0 → bit (w.getD 0 0) 0 = true → t.role = 3 ∧ t.rd F.PAIR_EPOCH_EPOCH = 1) ∧
      (s.role = 3 → bit (w.getD 0 0) 0 = false → t.role = 0 ∧ t.rd F.PAIR_EPOCH_EPOCH = 0) ∧
      (s.role = 1 ∨ s.role = 2 → bit (w.getD 0 0) 0 = true → bit (w.getD 0 0) 3 = true → t.role = 5 ∧
        ∃ r ∈ t.rcd.raised, r.die = 0 ∧ r.code = 0x1105 ∧ r.payload = [6]))) ∧
  (∀ (now : Nat) (s : State),
    (s.authCmd 4 = none → exec .pairTakeoverHandover s = .next s ∧ exec (.pairTakeoverForce now) s = .next (s.atTime now)) ∧
    (∀ c, s.authCmd 4 = some c →
      let h := c.payload.getD 1 0 + 2 ^ 24 * c.payload.getD 2 0
      let u := s.atTime now
      (c.takeMode = 1 → exec .pairTakeoverHandover s = .next s) ∧ (c.takeMode ≠ 1 → exec (.pairTakeoverForce now) s = .next u) ∧
      (c.takeMode ≠ 1 → s.role ≠ 4 ∨ s.pair.handover ≠ none ∨ c.takeMode ≠ 0 ∨ h < s.pkgLine + s.pairLead ∨ s.on F.PAIR_STAT_READY = false →
        ∃ t, exec .pairTakeoverHandover s = .next t ∧ t.rd F.AUTH_STAT_STATUS = 13 ∧ t.pair = s.pair ∧ t.role = s.role) ∧
      (c.takeMode = 0 → s.role = 4 → s.pair.handover = none → s.pkgLine + s.pairLead ≤ h → s.on F.PAIR_STAT_READY = true →
        ∃ t, exec .pairTakeoverHandover s = .next t ∧ t.rd F.AUTH_STAT_STATUS = 0 ∧ t.rd F.PAIR_STAT_HANDOVER = 1 ∧ t.role = 4 ∧
          (bit (c.payload.getD 0 0) 8 = false → s.shadow = false → t.pair.handover = some h ∧
            (s.on F.PAIR_STAT_LINK = true → ⟨5, s.pkgLine, [6, h % 2 ^ 24, h / 2 ^ 24 % 2 ^ 24]⟩ ∈ t.pair.sent))) ∧
      (c.takeMode = 1 → u.role ≠ 2 → u.role ≠ 5 ∨ u.on F.PAIR_CFG_ENABLE = false ∨ u.on F.PAIR_CFG_DETACH = true → ∃ t, exec (.pairTakeoverForce now) s = .next t ∧ t.rd F.AUTH_STAT_STATUS = 13 ∧
        t.role = u.role ∧ t.pair = s.pair) ∧
      (c.takeMode = 1 → u.role = 2 ∨ (u.role = 5 ∧ u.on F.PAIR_CFG_ENABLE = true ∧ u.on F.PAIR_CFG_DETACH = false) → NoneWaits u →
        ∃ t, exec (.pairTakeoverForce now) s = .next t ∧ t.rd F.AUTH_STAT_STATUS = 0 ∧ t.role = 3 ∧ t.rd F.PAIR_EPOCH_EPOCH = (u.pair.seen + 1) % 2 ^ 24 ∧
          ∃ r ∈ t.rcd.raised, r.die = 0 ∧ r.code = 0x1104 ∧ r.payload = [(u.pair.seen + 1) % 2 ^ 24, (u.pkgLine + 1) % 2 ^ 24, 3]))) ∧
  (∀ (latency aligned replays lane now : Nat) (lanes : Bool) (s : State),
    let u := s.atTime now
    let up := u.on F.PAIR_STAT_LINK
    let out := (List.range 8).filter (fun n => !bit aligned n)
    let trains := out = [] ∨ (out.length = 1 ∧ bit aligned 8 = true)
    (latency < 65536 → aligned < 512 →
      (up = true ∨ u.rd F.BOOT_STAT_STAGE < 2 ∨ ¬ trains → exec (.pairLinkUp latency aligned now) s = .next u) ∧
      (up = false → 2 ≤ u.rd F.BOOT_STAT_STAGE → trains → ∃ t, exec (.pairLinkUp latency aligned now) s = .next t ∧ t.rd F.PAIR_STAT_LINK = 1 ∧
        t.rd F.PAIR_LAT_NS = latency ∧ t.rd F.PAIR_LINK_ALIGNED = aligned ∧ t.rd F.PAIR_LINK_SPARE_ACT = out.length ∧
        t.rd F.PAIR_LINK_TAKES = out.headD 0 ∧ Raises s t 0 0x1103 [latency] ∧
        41 ∈ t.irq.causes)) ∧
    (up = false → ∃ t, exec (.pairLinkDown lanes replays now) s = .next t ∧ t.rd F.PAIR_RETRY_COUNT = min (u.rd F.PAIR_RETRY_COUNT + replays) (2 ^ 24 - 1) ∧
      SameBut [.clk, .timeBase] s t ∧ SameRegs (among [F.PAIR_RETRY_COUNT]) s t) ∧
    (up = true → NoneWaits u → ∃ t, exec (.pairLinkDown lanes replays now) s = .next t ∧ t.rd F.PAIR_STAT_LINK = 0 ∧
      (∃ r ∈ t.rcd.raised, r.die = 0 ∧ r.code = 0x1102 ∧ r.payload = [if lanes then 2 else 1]) ∧
      t.role = u.role ∧ (u.role = 3 → t.pair.joinLine = none ∧ t.pair.handover = none ∧ t.rd F.PAIR_STAT_READY = 0)) ∧
    (up = true ∨ u.clk < u.pair.triedAt + 20000000 → exec (.pairLinkRetry now) s = .next u) ∧
    (up = false → u.pair.triedAt + 20000000 ≤ u.clk → ∃ t, exec (.pairLinkRetry now) s = .next t ∧ t.pair = { u.pair with triedAt := u.clk } ∧
      SameBut [.clk, .timeBase, .pair] s t ∧ t.live = u.live) ∧
    (lane < 9 →
      (up = false ∨ bit (u.rd F.PAIR_LINK_ALIGNED) lane = false → exec (.pairLaneFail lane now) s = .next u) ∧
      (up = true → bit (u.rd F.PAIR_LINK_ALIGNED) lane = true → lane ≠ 8 → bit (u.rd F.PAIR_LINK_ALIGNED) 8 = true → u.on F.PAIR_LINK_SPARE_ACT = false →
        ∃ t, exec (.pairLaneFail lane now) s = .next t ∧ t.rd F.PAIR_LINK_SPARE_ACT = 1 ∧ t.rd F.PAIR_LINK_TAKES = lane ∧ t.rd F.PAIR_STAT_LINK = 1 ∧
          Raises s t 0 0x110C [lane]) ∧
      (up = true → bit (u.rd F.PAIR_LINK_ALIGNED) 8 = true → lane = 8 → u.on F.PAIR_LINK_SPARE_ACT = false →
        ∃ t, exec (.pairLaneFail lane now) s = .next t ∧ t.rd F.PAIR_LINK_ALIGNED = u.rd F.PAIR_LINK_ALIGNED - 256 ∧ t.rd F.PAIR_STAT_LINK = 1 ∧
          SameBut [.clk, .timeBase] s t ∧ SameRegs (among [F.PAIR_LINK_ALIGNED]) s t) ∧
      (up = true → bit (u.rd F.PAIR_LINK_ALIGNED) lane = true → u.on F.PAIR_LINK_SPARE_ACT = true ∨ bit (u.rd F.PAIR_LINK_ALIGNED) 8 = false →
        NoneWaits u → ∃ t, exec (.pairLaneFail lane now) s = .next t ∧ t.rd F.PAIR_STAT_LINK = 0 ∧ ∃ r ∈ t.rcd.raised, r.die = 0 ∧ r.code = 0x1102 ∧ r.payload = [2])))

/-- R509, R514, R515, R518 to R520, R532. -/
def Obligations.LeasesAndRoles : Prop :=
  (∀ (line epoch number h now : Nat) (s : State),
    let u := s.atTime now
    let n := (u.pair.renewal + 1) % 2 ^ 24
    let still (c : Instr) : Prop := exec c s = .next u
    let epoch' := (u.pair.seen + 1) % 2 ^ 24
    let leads (c : Instr) : Prop := ∃ t, exec c s = .next t ∧ t.role = 3 ∧ t.rd F.PAIR_EPOCH_EPOCH = epoch' ∧
      (∀ d, d < s.dies → t.rd (F.LAN_ACT_FLAGS_HOLD d) = 1 ∧ t.rd (F.LAN_ACT_EPOCH_EPOCH d) = epoch') ∧
      (∀ a, a < 4 * s.dies → t.rd (F.MOT_STAT_REFD (a / 4) (a % 4)) = 0) ∧
      ∃ r ∈ t.rcd.raised, r.die = 0 ∧ r.code = 0x1101 ∧ r.payload = [u.role, 3, epoch']
    let takes (c : Instr) (cause : Nat) : Prop := leads c ∧ ∃ t, exec c s = .next t ∧
      t.rd F.PAIR_LAST_LO_LINE = (u.pkgLine + 1) % 2 ^ 24 ∧ t.rd F.PAIR_TAKEOVERS_COUNT = min (u.rd F.PAIR_TAKEOVERS_COUNT + 1) (2 ^ 24 - 1) ∧
      ∃ r ∈ t.rcd.raised, r.die = 0 ∧ r.code = 0x1104 ∧ r.payload = [epoch', (u.pkgLine + 1) % 2 ^ 24, cause]
    let fences (c : Instr) (cause : Nat) : Prop := ∃ t, exec c s = .next t ∧ t.role = 5 ∧ t.pair.fencedAt = u.clk ∧
      t.rd F.PAIR_FENCES_COUNT = min (u.rd F.PAIR_FENCES_COUNT + 1) (2 ^ 24 - 1) ∧ (∀ d, d < s.dies → t.rd (F.LAN_ACT_FLAGS_HOLD d) = 0) ∧
      (∀ g, g < 8 * s.dies → (t.group g).pend = none) ∧ ∃ r ∈ t.rcd.raised, r.die = 0 ∧ r.code = 0x1105 ∧ r.payload = [cause]
    (u.role ≠ 4 ∨ u.clk < u.pair.renewAt + 100000 → still (.renewSend now)) ∧
    (u.role = 4 → u.pair.renewAt + 100000 ≤ u.clk → ∃ t, exec (.renewSend now) s = .next t ∧ t.pair.renewal = n ∧ t.pair.renewAt = u.clk ∧
      t.pair.unacked = (n, u.clk) :: u.pair.unacked ∧ SameBut [.clk, .timeBase, .pair] s t ∧ t.live = u.live ∧
      (u.on F.PAIR_STAT_LINK = true → t.pair.sent = ⟨1, u.pkgLine, [u.rd F.PAIR_EPOCH_EPOCH % 2 ^ 24, n]⟩ :: u.pair.sent)) ∧
    (epoch < 2 ^ 24 → number < 2 ^ 24 →
      (line < 2 ^ 48 → u.role = 2 → ∃ t, exec (.renewReceived line epoch number now) s = .next t ∧ t.pair.heardAt = u.clk ∧ t.pair.heardLine = u.pkgLine ∧
        t.rd F.PAIR_EPOCH_EPOCH = (if u.rd F.PAIR_EPOCH_EPOCH = epoch then u.rd F.PAIR_EPOCH_EPOCH else epoch) ∧
        (u.on F.PAIR_STAT_LINK = true → t.pair.sent.head? = some ⟨2, u.pkgLine, [epoch, number]⟩)) ∧
      (line < 2 ^ 48 → u.role ≠ 2 → ∃ t, exec (.renewReceived line epoch number now) s = .next t ∧ t.pair = { u.pair with seen := max u.pair.seen epoch } ∧
        SameBut [.clk, .timeBase, .pair] s t ∧ t.live = u.live) ∧
      (u.pair.unacked.find? (fun r => r.1 = number) = none → still (.ackReceived epoch number now)) ∧
      (∀ m sent, u.pair.unacked.find? (fun r => r.1 = number) = some (m, sent) →
        (u.role ≠ 4 ∨ epoch ≠ u.rd F.PAIR_EPOCH_EPOCH → still (.ackReceived epoch number now)) ∧
        (u.role = 4 → epoch = u.rd F.PAIR_EPOCH_EPOCH → ∃ t, exec (.ackReceived epoch number now) s = .next t ∧ t.pair.ackAt = max u.pair.ackAt sent ∧
          t.pair.unacked = u.pair.unacked.filter (fun r => sent < r.2)))) ∧
    (u.role ≠ 4 ∨ u.clk < u.pair.ackAt + 200000 → still (.leaseFence now)) ∧
    (u.role = 4 → u.pair.ackAt + 200000 ≤ u.clk → fences (.leaseFence now) (if u.on F.PAIR_STAT_LINK then 1 else 2)) ∧
    (u.role ≠ 2 ∨ u.clk < u.pair.heardAt + 300000 → still (.leaseExpiry now)) ∧
    (u.role = 2 → NoneWaits u → u.pair.heardAt + 300000 ≤ u.clk → takes (.leaseExpiry now) 1) ∧
    (u.role = 2 → NoneWaits u → takes (.controlDrop now) 2 ∧ takes (.controlFence now) 3) ∧
    (u.role ≠ 2 → still (.controlDrop now)) ∧ (u.role = 4 → fences (.controlFence now) 5) ∧ (u.role ≠ 2 → u.role ≠ 4 → still (.controlFence now)) ∧
    (u.role ≠ 3 → still (.controlReady now)) ∧
    (u.role = 3 → ∃ t, exec (.controlReady now) s = .next t ∧ t.role = 4 ∧ t.rd F.PAIR_STAT_READY = 1 ∧ t.pair.ackAt = u.clk ∧ t.pair.renewal = n ∧
      ∃ r ∈ t.rcd.raised, r.code = 0x1101 ∧ r.payload.take 2 = [3, 4]) ∧
    (∀ c, c = Instr.controlUnready now ∨ c = .controlLeave now → (u.role ≠ 3 → u.role ≠ 4 → still c) ∧
      (u.role = 3 ∨ u.role = 4 → ∃ t, exec c s = .next t ∧ t.role = 3 ∧ t.rd F.PAIR_STAT_READY = 0 ∧ t.pair.joinLine = none ∧ t.pair.unacked = [])) ∧
    (h < 2 ^ 48 → (u.role ≠ 2 → still (.controlHandover h now)) ∧
      (u.role = 2 → ∃ t, exec (.controlHandover h now) s = .next t ∧ t.pair.handover = some h ∧ t.rd F.PAIR_STAT_HANDOVER = 1)) ∧
    (u.pair.handover = none ∨ (u.role ≠ 2 ∧ u.role ≠ 4) → still (.handoverComplete now)) ∧
    (u.pair.handover = some h → u.role = 2 ∨ u.role = 4 →
      (u.pkgLine < h + u.ld.current.maxDelay → still (.handoverComplete now)) ∧
      (h + u.ld.current.maxDelay ≤ u.pkgLine → ∃ t, exec (.handoverComplete now) s = .next t ∧ t.role = (if u.role = 4 then 2 else 4) ∧ t.pair.handover = none ∧
        t.rd F.PAIR_STAT_HANDOVER = 0 ∧ t.rd F.PAIR_EPOCH_EPOCH = (u.rd F.PAIR_EPOCH_EPOCH + 1) % 2 ^ 24 ∧ t.rd F.PAIR_LAST_LO_LINE = h % 2 ^ 24 ∧
        ∃ r ∈ t.rcd.raised, r.die = 0 ∧ r.code = 0x1107 ∧ r.payload = [(u.rd F.PAIR_EPOCH_EPOCH + 1) % 2 ^ 24, h % 2 ^ 24])) ∧
    (let waited := u.boot.releasedAt + 200000 * u.rd F.PAIR_WAIT_MS ≤ u.clk
     (u.role ≠ 1 ∨ u.pair.partner ≠ none ∨ ¬ waited → still (.joinWaitExpire now)) ∧
     (u.role = 1 → u.pair.partner = none → waited → NoneWaits u → leads (.joinWaitExpire now))) ∧
    (let other := u.upGroups.filter (fun g => !bit (u.adapterFlags g) 5 && bit (u.adapterFlags g) 4 != u.on F.PAIR_CFG_INPUT)
     let held := ∃ since, u.pair.followAt = some since ∧ since + 200000 ≤ u.clk
     (u.role ≠ 3 ∧ u.role ≠ 4 ∨ u.upGroups = [] ∨ 2 * other.length < u.upGroups.length ∨ ¬ held → still (.followFenceTimer now)) ∧
     (u.role = 3 ∨ u.role = 4 → u.upGroups ≠ [] → u.upGroups.length ≤ 2 * other.length → held → fences (.followFenceTimer now) 3)) ∧
    (let quiet := ∀ g ∈ u.upGroups, bit (u.adapterFlags g) 5 = true
     (u.role ≠ 5 ∨ u.on F.PAIR_CFG_DETACH = true ∨ u.on F.PAIR_STAT_LINK = true ∨ u.clk < u.pair.fencedAt + 400000 ∨ ¬ quiet → still (.retakeTimer now)) ∧
     (u.role = 5 → u.on F.PAIR_CFG_ENABLE = true → u.on F.PAIR_CFG_DETACH = false → u.on F.PAIR_STAT_LINK = false → quiet → u.pair.fencedAt + 400000 ≤ u.clk →
       leads (.retakeTimer now) ∧ ∃ t, exec (.retakeTimer now) s = .next t ∧ ∃ r ∈ t.rcd.raised, r.code = 0x110A ∧ r.payload = [epoch']))) ∧
  (∀ (dclass image role seen now : Nat) (ready detached prefer : Bool) (s : State), dclass < 2 ^ 24 → image < 2 ^ 24 → role < 6 → seen < 2 ^ 24 →
    let u := s.atTime now
    NoneWaits u →
    ∃ t, exec (.pairStatusReceived dclass image role ready detached prefer seen now) s = .next t ∧ t.rd F.PAIR_P_DCLASS_VALUE = dclass ∧
      t.rd F.PAIR_P_IMAGE_VALUE = image ∧ t.pair.partner = some (role, ready, detached) ∧ max u.pair.seen seen ≤ t.pair.seen ∧
      (u.role = 2 → u.pair.partner ≠ none → u.rd F.PAIR_P_DCLASS_VALUE ≠ dclass → t.role = 1) ∧
      (u.role = 1 → role = 1 ∨ role = 5 → u.winsTie prefer = true → t.role = 3 ∧ t.rd F.PAIR_EPOCH_EPOCH = (max u.pair.seen seen + 1) % 2 ^ 24) ∧
      (u.role = 5 → u.on F.PAIR_STAT_LINK = true → role = 3 ∨ role = 4 → u.on F.PAIR_CFG_ENABLE = true → u.on F.PAIR_CFG_DETACH = false → t.role = 1) ∧
      (u.role = 0 ∨ u.role = 3 ∨ u.role = 4 → t.role = u.role ∧ t.rd F.PAIR_STAT_READY = nat ready))

/-- R229, R230, R512, R523 to R526, R528, R529, R533. -/
def Obligations.StandbyStaysInStep : Prop :=
  (∀ (line count id status crc n ctx now : Nat) (self stop : Bool) (words : List Word) (s : State),
    let u := s.atTime now
    let diff := u.scaleCount - signed 40 count
    let leavesStep (t : State) : Prop := u.role = 2 → NoneWaits u → t.role = 1 ∧ t.pair.due = []
    let m : PairDue := ⟨id, status, line, crc, n, none⟩
    (∀ c, (c = Instr.catchUpSend now ∧ u.pair.joinLine = none) ∨
        (c = .catchUpRetry now ∧ u.pair.joinLine ≠ none ∧ u.pair.joinAt + 200000000 ≤ u.clk) → u.partnerJoins = true →
      ∃ t, exec c s = .next t ∧ t.pair.joinLine = some (u.pkgLine + u.pairLead) ∧ t.pair.joinAt = u.clk ∧
        t.rd F.PAIR_STAT_MODE = (if u.rd F.STRUCT_DCLASS_VALUE = u.rd F.PAIR_P_DCLASS_VALUE then 0 else 1) ∧
        (∃ r ∈ t.rcd.raised, r.die = 0 ∧ r.code = 0x1106) ∧ ∃ x ∈ t.pair.sent, x.type = 4 ∧ x.line = u.pkgLine) ∧
    (u.partnerJoins = false → exec (.catchUpSend now) s = .next u ∧ exec (.catchUpRetry now) s = .next u) ∧
    (line < 2 ^ 48 → count < 2 ^ 40 →
      (u.matched = true → diff.natAbs < 2 → exec (.lineSyncReceived line count now) s = .next u) ∧
      (u.matched = true → 2 ≤ diff.natAbs → diff.natAbs ≤ u.rd F.ENC_CTL_DIV_LIMIT → ∃ t, exec (.lineSyncReceived line count now) s = .next t ∧
        t.rd F.PAIR_DIVERGE_COUNT = min (u.rd F.PAIR_DIVERGE_COUNT + 1) (2 ^ 24 - 1) ∧ (∀ d, d < s.dies → (t.web d).zero = (u.web d).zero + diff) ∧
        Raises s t 0 0x1109 [unsigned 24 diff]) ∧
      (u.matched = true → 2 ≤ diff.natAbs → u.rd F.ENC_CTL_DIV_LIMIT < diff.natAbs → ∃ t, exec (.lineSyncReceived line count now) s = .next t ∧ leavesStep t) ∧
      (u.matched = false → u.role = 1 → ∃ t, exec (.lineSyncReceived line count now) s = .next t ∧ t.pair.joinLine = some (line + u.pairLead) ∧
        t.pair.catching = true ∧ t.rd F.EPOCH_CTL_LINE_VALID = 1 ∧
        ∀ d, d < s.dies → t.rd (F.DIE_LINE_LO_LINE d) = line % 2 ^ 24 ∧ t.rd (F.DIE_LINE_HI_LINE d) = line / 2 ^ 24) ∧
      (u.matched = false → u.role ≠ 1 → exec (.lineSyncReceived line count now) s = .next u)) ∧
    (line < 2 ^ 48 → id < 2 ^ 24 → status < 16 → crc < 2 ^ 32 →
      (u.matched = false → exec (.pairCommitReceived 0 line id status self crc n now) s = .next u) ∧
      (u.matched = true → NoneWaits u → ∃ t, exec (.pairCommitReceived 0 line id status false crc n now) s = .next t ∧ t.pair.due = u.pair.due ++ [m] ∧
        SameBut [.clk, .timeBase, .pair] s t ∧ t.live = u.live) ∧
      (u.matched = true → u.pair.captures = [] → u.pair.due = [] → status ≤ 1 → ∃ t x, exec (.pairCommitReceived 0 line id status true crc n now) s = .next t ∧
        t.epoch.commits = u.epoch.commits ++ [x] ∧ x.id = id ∧ x.line = line ∧ x.origin = .partner ∧ t.pair.bulk = [] ∧ t.pair.due = []) ∧
      (∀ c, u.matched = true → u.pair.captures = [c] → u.pair.due = [] → c.origin = .host → c.snap = false →
        (c.fields.length = n → c.crc = crc → status ≤ 1 → ∃ t x, exec (.pairCommitReceived 0 line id status false crc n now) s = .next t ∧
          t.epoch.commits = u.epoch.commits ++ [x] ∧ x.id = id ∧ x.line = line ∧ x.fields = c.fields ∧ t.pair.captures = [] ∧ t.pair.due = [] ∧
          t.rd F.EPOCH_NEXT_ID_ID = nextId id % 2 ^ 24) ∧
        (c.fields.length ≠ n ∨ c.crc ≠ crc → ∃ t, exec (.pairCommitReceived 0 line id status false crc n now) s = .next t ∧ (u.role = 2 → t.role = 1) ∧
          t.rd F.PAIR_MISMATCH_COUNT = min (u.rd F.PAIR_MISMATCH_COUNT + 1) (2 ^ 24 - 1) ∧
          ∃ r ∈ t.rcd.raised, r.die = 0 ∧ r.code = 0x1108 ∧ r.payload = [id, if c.fields.length = n then 1 else 2])) ∧
      (u.role ≠ 1 → exec (.pairCommitReceived 1 line id status self crc n now) s = .next u)) ∧
    (id < 2 ^ 24 →
      (s.matched = false ∨ s.commit? id = none → exec (.pairCancelReceived id) s = .next s) ∧
      (s.matched = true → s.commit? id ≠ none → ∃ t, exec (.pairCancelReceived id) s = .next t ∧ ∀ x ∈ t.epoch.commits, x.id ≠ id)) ∧
    (line < 2 ^ 48 → id < 2 ^ 24 → ctx < 128 → crc < 2 ^ 32 →
      let c := u.ctx ctx
      let same := c.block.any (fun b => b.crc = crc)
      let fits := if stop then c.live = true else c.st = .ready ∨ (c.live = true ∧ c.commit = id)
      (u.matched = false ∨ (same = true ∧ fits) → exec (.pairCtxReceived 0 line id ctx stop crc now) s = .next u) ∧
      (u.matched = true → same = false ∨ ¬ fits → ∃ t, exec (.pairCtxReceived 0 line id ctx stop crc now) s = .next t ∧ leavesStep t ∧
        ∃ r ∈ t.rcd.raised, r.die = 0 ∧ r.code = 0x0520) ∧
      (u.role = 1 → same = true → c.st = .ready → ∃ t, exec (.pairCtxReceived 1 line id ctx false crc now) s = .next t ∧ (t.ctx ctx).start = line ∧
        (t.ctx ctx).commit = id ∧ (t.ctx ctx).st = (if line ≤ u.pkgLine then .running else .armed)) ∧
      (u.role = 1 → same = false → ∃ t, exec (.pairCtxReceived 1 line id ctx stop crc now) s = .next t ∧ ctx ∈ t.pair.unmatched ∧ Raises s t 0 0x0520 [])) ∧
    (∀ part, part < 3 → words.length = 5 → u.role ≠ 1 → u.role ≠ 2 → exec (.pairBulkReceived part words now) s = .next u) ∧
    (words.length = 5 → u.role = 1 ∨ u.role = 2 → ∃ t, exec (.pairBulkReceived 0 words now) s = .next t ∧
      t.bulkWords = u.bulkWords ++ words.map BitVec.toNat ∧ SameBut [.clk, .timeBase, .pair] s t ∧ t.live = u.live)) ∧
  (∀ (line bar page nozzle along across : Nat) (fail out : Bool) (s : State),
    (line < 2 ^ 48 → bar < 2 * s.dies → page < 2 ^ 24 →
      (s.leads = true ∨ s.jobAt line = none → exec (.pairUnderReceived line bar page) s = .next s) ∧
      (∀ j c, s.leads = false → s.jobAt line = some (j, c) → ∃ t, exec (.pairUnderReceived line bar page) s = .next t ∧
        tget? (t.stream j bar).partnerUnder page = some (c.pageOf line).2 ∧ SameBut [.jobs] s t ∧ t.live = s.live)) ∧
    (nozzle < 131072 * s.dies → bar < 2 * s.dies → page < 2 ^ 24 →
      (s.matched = false ∨ s.shadow = true ∨ s.isNozzle nozzle = false → exec (.pairVerdictReceived nozzle bar fail page) s = .next s) ∧
      (s.matched = true → s.shadow = false → s.isNozzle nozzle = true → ∃ t, exec (.pairVerdictReceived nozzle bar fail page) s = .next t ∧
        (tget t.eye.hists nozzle ⟨[], none, 0⟩).hist = (fail :: (tget s.eye.hists nozzle ⟨[], none, 0⟩).hist).take (s.rd F.HLTH_KM_M))) ∧
    (line < 2 ^ 48 → nozzle < 131072 * s.dies →
      (s.matched = false ∨ s.isNozzle nozzle = false → exec (.pairDecisionReceived line nozzle out) s = .next s) ∧
      (s.matched = true → s.isNozzle nozzle = true → s.on (nozzleEbOut nozzle) = out → ∃ t, exec (.pairDecisionReceived line nozzle out) s = .next t ∧ SameBut [.pair] s t ∧ t.live = s.live) ∧
      (s.matched = true → s.isNozzle nozzle = true → s.on (nozzleEbOut nozzle) ≠ out → ∃ t, exec (.pairDecisionReceived line nozzle out) s = .next t ∧
        t.rd (nozzleEbOut nozzle) = nat out ∧ (s.shadow = false → ∃ r ∈ t.rcd.raised, r.die = 0 ∧ r.code = 0x110D ∧ r.payload = [nozzle]))) ∧
    (bar < 2 * s.dies → along < 4096 → across < 4096 →
      (s.matched = false → exec (.pairRegReceived bar along across) s = .next s) ∧
      (s.matched = true → ∃ t, exec (.pairRegReceived bar along across) s = .next t ∧ t.rd (F.HLTH_REG_ALONG bar) = along ∧ t.rd (F.HLTH_REG_ACROSS bar) = across ∧
        SameBut [] s t)))

/-- R541 to R543, R545, R548, R549, R562 to R566. -/
def Obligations.MeterCountsAndKeeps : Prop :=
  (∀ (now : Nat) (s : State),
    let u := s.atTime now
    let m := u.meter
    (m.powered = true → exec (.meterPowerUp now) s = .next u) ∧
    (m.powered = false → ∃ t, exec (.meterPowerUp now) s = .next t ∧ t.meter = { m with powered := true, st := 0 } ∧ SameBut [.meter] u t ∧ t.live = s.live) ∧
    (∀ (selfTest patch : Bool) (bad totals : List Nat),
      let fails (n : Nat) : Bool := bad.contains n
      let params := m.savedParams.fail (fails 0) (fails 1)
      let marks := m.marks.fail (fails 2) (fails 3)
      let saved := (m.saved.zipIdx.filter (fun e => !totals.contains e.2)).map Prod.fst
      (m.powered = false ∨ m.st ≠ 0 → exec (.meterBootDone selfTest bad totals patch now) s = .next u) ∧
      (m.powered = true → m.st = 0 → selfTest = false → ∃ t, exec (.meterBootDone selfTest bad totals patch now) s = .next t ∧ t.meter = { m with st := 2 } ∧
        SameBut [.meter] u t ∧ t.live = s.live) ∧
      (m.powered = true → m.st = 0 → selfTest = true → ∃ t, exec (.meterBootDone selfTest bad totals patch now) s = .next t ∧ t.meter.st = 1 ∧
        t.meter.savedParams = params ∧ t.meter.marks = marks ∧ t.meter.saved = saved ∧ t.meter.hwm = marks.newer.map Copy.val ∧
        (∀ p, params.newer = some p → t.meter.params = p.val) ∧ (params.newer = none → t.meter.params = .default ∧ ∃ e ∈ t.rcd.raised, e.die = 0 ∧ e.code = 0x120C) ∧
        (∀ x rest, saved = x :: rest → t.meter.totals = x.val.totals ∧ t.meter.ops = x.val.ops ∧ t.meter.totalsLost = m.totalsLost ∧
          (x.val.brown = false → ∃ e ∈ t.rcd.raised, e.die = 0 ∧ e.code = 0x1209 ∧ e.payload = [(m.ops - x.val.ops) % 2 ^ 24])) ∧
        (saved = [] → t.meter.totals = .zero ∧ t.meter.ops = 0 ∧ t.meter.totalsLost = true) ∧
        (patch = false → t.meter.running = none) ∧ (patch = true → t.meter.running = m.patch) ∧ t.meter.sealed = m.sealed ∧ t.meter.sealCount = m.sealCount ∧
        t.meter.trail = m.trail ∧ t.meter.snaps = m.snaps ∧ (∃ e ∈ t.rcd.raised, e.die = 0 ∧ e.code = 0x1208) ∧ 42 ∈ t.irq.causes ∧ t.live = s.live)) ∧
    (let copy (brown : Bool) : Copy MtrSaved := ⟨((m.saved.head?.map Copy.seq).getD 0 + 1) % 2 ^ 24, ⟨u.mtrOps, brown, m.totals⟩⟩
     (∀ written,
      (m.powered = false → exec (.meterSupplyFall written now) s = .next u) ∧
      (m.powered = true → ∃ t, exec (.meterSupplyFall written now) s = .next t ∧ t.meter.powered = false ∧ t.meter.st = 0 ∧ t.meter.ops = u.mtrOps ∧
        t.meter.saved = (if m.runs && written then copy true :: m.saved else m.saved) ∧ t.meter.totals = m.totals ∧ SameBut [.meter] u t ∧ t.live = s.live)) ∧
     (m.runs = false ∨ u.clk < m.totalsAt + 2000000000 → exec (.meterTotalsWrite now) s = .next u) ∧
     (m.runs = true → m.totalsAt + 2000000000 ≤ u.clk →
       exec (.meterTotalsWrite now) s = .next { u with meter := { m with saved := copy false :: m.saved, totalsAt := u.clk } })) ∧
    (m.runs = false ∨ u.mtrOps / 3600 ≤ m.hours → exec (.meterHourlySnapshot now) s = .next u) ∧
    (m.runs = true → m.hours < u.mtrOps / 3600 →
      ∃ t r, exec (.meterHourlySnapshot now) s = .next t ∧ t.meter.hours = u.mtrOps / 3600 ∧ t.meter.snapSeq = (m.snapSeq + 1) % 2 ^ 24 ∧ t.meter.snaps = (r :: m.snaps).take 8192 ∧
        (r.drop 1).take 9 = [t.meter.snapSeq] ++ timeWords u.mtrTime ++ twoWords (lenMm m.totals.len) ++ twoWords (lenMm m.totals.web) ++ [m.sealCount] ∧
        r.getD 106 0 = u.mtrStat ∧ t.meter.totals = m.totals ∧ SameBut [.meter] u t ∧ t.live = s.live)) ∧
  (∀ (a b : Bool) (now : Nat) (s : State),
    let u := s.atTime now
    let m := u.meter
    let one := (a != m.a) != (b != m.b)
    let fwd := if m.params.inv = 0 then decide (m.a = b) else decide (m.b = a)
    let w := m.count + (if fwd then 1 else -1)
    let filtered := (a = m.a ∨ m.changedAt.1 + 16 ≤ u.clk) ∧ (b = m.b ∨ m.changedAt.2 + 16 ≤ u.clk)
    (¬ filtered → exec (.meterEdge a b now) s = .next u) ∧
    (filtered → ∃ t, exec (.meterEdge a b now) s = .next t ∧ t.meter.a = a ∧ t.meter.b = b ∧ SameBut [.meter, .rcd] u t ∧ t.live = s.live ∧
      t.meter.changedAt = (if a = m.a then m.changedAt.1 else u.clk, if b = m.b then m.changedAt.2 else u.clk) ∧
      (m.runs = false ∨ (a = m.a ∧ b = m.b) → t = { u with meter := { m with a := a, b := b, changedAt := t.meter.changedAt } }) ∧
      (m.runs = true → one = true → t.meter.count = w ∧ t.meter.mark = max m.mark w ∧ t.meter.qerr = m.qerr ∧ t.rcd = s.rcd ∧
        t.meter.totals = { m.totals with web := m.totals.web + (if m.mark < w then m.params.lscale else 0) }) ∧
      (m.runs = true → a ≠ m.a → b ≠ m.b → t.meter.count = m.count ∧ t.meter.mark = m.mark ∧ t.meter.totals = m.totals ∧
        t.meter.qerr = min (m.qerr + 1) 255 ∧ ∃ w ∈ t.rcd.windows, w.code = 0x1207))) ∧
  (∀ (d now : Nat) (s : State), d < s.dies →
    let u := s.atTime now
    let busy (i : Nat) : Bool := (u.group (8 * d + i)).tally.any (fun n => n != 0)
    let soon := ∃ n, tget? u.meter.sentAt d = some n ∧ u.clk < n + 5000
    (u.rd (F.DIE_STAT_STAGE d) = 0 ∨ soon → exec (.tapSend d now) s = .next u) ∧
    (u.rd (F.DIE_STAT_STAGE d) ≠ 0 → ¬ soon → ∃ t l, exec (.tapSend d now) s = .next t ∧ tget t.meter.wire d [] = tget u.meter.wire d [] ++ l ∧
      t.meter.totals = u.meter.totals ∧ t.meter.sentAt = tset u.meter.sentAt d u.clk ∧ t.live = s.live ∧ t.rcd = s.rcd ∧
      (∀ i, i < 8 → busy i = true → (t.group (8 * d + i)).tally = [] ∧ (t.group (8 * d + i)).tickled = 0 ∧
        ∃ r ∈ l, r.body = .count (u.rd (F.LNP_GRP_PACER d i)) i (u.rd (F.LNP_HRANK_RANK d i)) (u.group (8 * d + i)).tally (u.group (8 * d + i)).tickled) ∧
      (∀ g, g / 8 ≠ d ∨ busy (g % 8) = false → t.group g = u.group g) ∧
      ((∀ i, i < 8 → busy i = false) → ∃ r r', l = r :: r' ∧ r.body = .idle ∧ r.seq = tget u.meter.seqs d 0) ∧
      ((∃ r ∈ l, r.body = .idle) → ∀ i, i < 8 → busy i = false) ∧
      (d = 0 → u.meter.timeAt + 200000000 ≤ u.clk → ∃ r ∈ l, r.body = .time (u.time 0)))) ∧
  (∀ (d now : Nat) (r : TapRec) (rest : List TapRec) (s : State), d < s.dies →
    let u := s.atTime now
    let m := u.meter
    tget m.wire d [] = r :: rest →
      (∃ t, exec (.tapBadRecord d now) s = .next t ∧ t.meter = { m with wire := tset m.wire d rest } ∧ SameBut [.meter] u t ∧ t.live = s.live) ∧
      (∀ p g rank n k, r.body = .count p g rank n k → m.runs = true →
        let src := 2 * d + p
        let sum := n.foldl (· + ·) 0
        let x : Int := m.mark * m.params.lscale - ((tget m.params.offs src 0 * 1000000 * 2 ^ 16 : Nat) : Int)
        ∃ t, exec (.tapCountRecord d now) s = .next t ∧ tget t.meter.wire d [] = rest ∧ (tget t.meter.taps d ⟨false, 0, 0, 0⟩).up = true ∧ t.live = s.live ∧
          t.meter.totals.web = m.totals.web ∧ t.meter.params = m.params ∧
          (n.any (fun v => v != 0) = false → t.meter.totals.len = m.totals.len ∧ t.meter.m = m.m) ∧
          (n.any (fun v => v != 0) = true →
            (m.started = false → t.meter.started = true ∧ t.meter.m = x ∧ t.meter.totals.len = m.totals.len) ∧
            (m.started = true → t.meter.m = max m.m x ∧ (m.params.lscale ≠ 0 → t.meter.totals.len = m.totals.len +
              (if m.m < x ∧ x - m.m ≤ (m.params.gap : Int) * 1000000 * 2 ^ 16 then (x - m.m).toNat else 0)))) ∧
          ((∀ c, c < 16 → bit (m.params.chan c).sources src = false) → t.meter.totals.unmapped = m.totals.unmapped + sum ∧ t.meter.totals.drops = m.totals.drops) ∧
          (∀ c, c < 16 → bit (m.params.chan c).sources src = true → (∀ e, e < 16 → bit (m.params.chan e).sources src = true → e = c) →
            t.meter.totals.unmapped = m.totals.unmapped ∧ (∀ e, tget t.meter.totals.drops e 0 = tget m.totals.drops e 0 + (if e = c then sum else 0)) ∧
            tget t.meter.totals.area c 0 = tget m.totals.area c 0 + sum * (m.params.chan c).cell ∧
            (m.params.entryOf rank = none → tget t.meter.totals.unrated c 0 = tget m.totals.unrated c 0 + sum ∧ t.meter.totals.mass = m.totals.mass ∧
              ((src, g, rank) ∉ m.unknown → ∃ e ∈ t.rcd.raised, e.die = 0 ∧ e.code = 0x120A ∧ e.payload = [src / 2, g, rank])) ∧
            (∀ e, m.params.entryOf rank = some e → t.meter.totals.unrated = m.totals.unrated ∧
              tget t.meter.totals.mass c 0 = tget m.totals.mass c 0 + (m.params.chan c).mfact * ((n.zip e.mass).map (fun y => y.1 * y.2)).foldl (· + ·) 0))) ∧
      (r.body = .idle → m.runs = true → ∃ t, exec (.tapIdleRecord d now) s = .next t ∧ tget t.meter.wire d [] = rest ∧ t.meter.totals = m.totals ∧
        ∃ x, tget? t.meter.taps d = some x ∧ x.up = true ∧ x.seq = r.seq ∧ x.goodAt = u.clk ∧
          (∀ y, tget? m.taps d = some y → y.up = true → (y.seq + 1) % 32768 = r.seq → r.seq < 32768 → x.gaps = min y.gaps 65535 ∧ RaisesNone s t) ∧
          (∀ y, tget? m.taps d = some y → y.up = true → y.seq + 2 = r.seq → r.seq < 32768 → x.gaps = min (y.gaps + 1) 65535 ∧ Raises s t 0 0x1204 [d, 1])) ∧
      (d = 0 → m.runs = true →
        (∀ v, r.body = .snap v → ∃ t x, exec (.tapSnapRecord now) s = .next t ∧ t.meter.snapSeq = (m.snapSeq + 1) % 2 ^ 24 ∧ t.meter.snaps = (x :: m.snaps).take 8192 ∧
          (x.drop 1).take 4 = [t.meter.snapSeq] ++ timeWords v ∧ t.meter.totals = m.totals) ∧
        (∀ v, r.body = .time v → ∃ t, exec (.tapTimeRecord now) s = .next t ∧ t.meter.net = (v, u.clk) ∧ t.meter.totals = m.totals ∧ t.mtrTime = v))) ∧
  (∀ (d now : Nat) (x : MtrTap) (s : State), d < s.dies →
    let u := s.atTime now
    tget? u.meter.taps d = some x →
      (u.meter.runs = false ∨ x.up = false ∨ u.clk < x.goodAt + usTicks 1000 → exec (.tapDown d now) s = .next u) ∧
      (u.meter.runs = true → x.up = true → x.goodAt + usTicks 1000 ≤ u.clk → ∃ t, exec (.tapDown d now) s = .next t ∧
        tget? t.meter.taps d = some { x with up := false } ∧ Raises s t 0 0x1205 [d] ∧ 42 ∈ t.irq.causes ∧ t.mtrOk = false)) ∧
  (∀ (now : Nat) (s : State),
    let u := s.atTime now
    let m := u.meter
    (m.runs = false ∨ m.shown = u.indContent ∨ (m.iseq ≠ 0 ∧ u.clk < m.drawnAt + usTicks 100000) → exec (.indRedraw now) s = .next u) ∧
    (m.runs = true → m.shown ≠ u.indContent → m.iseq = 0 ∨ m.drawnAt + usTicks 100000 ≤ u.clk → ∃ t crc, exec (.indRedraw now) s = .next t ∧
      t.meter.iseq = (m.iseq + 1) % 2 ^ 24 ∧ t.meter.shown = u.indContent ∧ t.meter.crcs = ((t.meter.iseq, crc) :: m.crcs).take 4 ∧ t.meter.totals = m.totals) ∧
    (m.reports = [] → exec (.indReport now) s = .next u) ∧
    (∀ r rest, m.reports = r :: rest → m.runs = false → exec (.indReport now) s = .next { u with meter := { m with reports := rest } }) ∧
    (∀ iseq crc rest, m.reports = (iseq, crc) :: rest → m.runs = true → ∃ t, exec (.indReport now) s = .next t ∧ t.meter.reports = rest ∧ t.meter.indStale = false ∧
      t.meter.reportAt = u.clk ∧ ((iseq, crc) ∈ m.crcs → t.meter.indFault = false ∧ t.meter.indErr = m.indErr ∧ RaisesNone s t) ∧
      ((iseq, crc) ∉ m.crcs → t.meter.indErr = min (m.indErr + 1) 255 ∧ t.meter.misses = m.misses + 1 ∧
        (m.misses = 2 → t.meter.indFault = true ∧ t.mtrOk = false ∧ Raises s t 0 0x1206 [iseq, 3]) ∧ (m.misses ≠ 2 → t.meter.indFault = m.indFault ∧ RaisesNone s t))) ∧
    (m.runs = false ∨ m.psr = some m.iseq ∨ u.clk < m.reportAt + 200000000 → exec (.indStaleTimeout now) s = .next u) ∧
    (m.runs = true → m.psr ≠ some m.iseq → m.reportAt + 200000000 ≤ u.clk → ∃ t, exec (.indStaleTimeout now) s = .next t ∧ t.meter = { m with indStale := true } ∧
      t.mtrOk = false ∧ SameBut [.meter] u t ∧ t.live = s.live))

/-- R550 to R554, R556 to R560. -/
def Obligations.MeterCommandsAndSeal : Prop :=
  (∀ (now : Nat) (s : State), s.inService 0xA0000 = true →
    let u := s.atTime now
    let env := (List.range 64).map (fun i => tget u.meter.env i 0)
    let op := envOpcode env
    (u.meter.runs = false → exec (.mtrSubmit now) s = .next u) ∧
    (u.meter.runs = true → u.mtrEnvStatus env = 0 → op ≠ 0x1C → ∃ t, exec (.mtrSubmit now) s = .next t ∧
      t.meter.act = some ⟨op, envSlot env, envCounter env, envPayload env, none⟩ ∧ t.meter.cnt = envCounter env ∧ SameBut [.meter] u t ∧ t.live = s.live) ∧
    (u.meter.runs = true → u.mtrEnvStatus env ≠ 0 → ∃ t, exec (.mtrSubmit now) s = .next t ∧ t.meter.act = u.meter.act ∧ t.meter.cnt = u.meter.cnt ∧
      t.meter.params = u.meter.params ∧ t.meter.res.getD 0 0 = op + 2 ^ 8 * envSlot env + 2 ^ 11 * u.mtrEnvStatus env + 2 ^ 18 * nat u.mtrKey.isNone ∧
      ∃ e ∈ t.rcd.raised, e.die = 0 ∧ e.code = 0x1202) ∧
    (u.meter.runs = true → u.mtrEnvStatus env = 0 → op = 0x1C → ∃ t, exec (.mtrSubmit now) s = .next t ∧
      t.meter.act = some ⟨op, envSlot env, envCounter env, envPayload env, none⟩ ∧ t.meter.cnt = u.meter.cnt ∧ t.meter.hwm = u.meter.hwm ∧ t.live = s.live)) ∧
  (∀ s : State,
    (s.clk < s.meter.lockedAt + 200000000 → exec .mtrLockEnd s = .next s) ∧
    (s.meter.lockedAt + 200000000 ≤ s.clk → exec .mtrLockEnd s = .next { s with meter := { s.meter with locked := false } })) ∧
  (∀ (w : Bool) (i : Instr) (op : Nat) (needs : Bool) (s : State),
    (i, op, needs) ∈ [(Instr.sealBreak w, 0x10, true), (.sealMeter w, 0x11, false), (.setChannel w, 0x12, false), (.setMass w, 0x13, false),
      (.setParam w, 0x14, false), (.patchBegin, 0x17, false), (.patchData, 0x18, false), (.patchEnd w, 0x19, false), (.patchRemove w, 0x1A, false),
      (.mtrKeyRotate w, 0x1B, false), (.trailClear w, 0x1D, false)] →
    (s.mtrCmd op = none → exec i s = .next s) ∧
    (∀ c, s.mtrCmd op = some c → s.meter.sealed ≠ needs → ∃ t, exec i s = .next t ∧ t.meter.act = none ∧
      t.meter.res.getD 3 0 = 1 ∧ t.meter.sealed = s.meter.sealed ∧ t.meter.sealCount = s.meter.sealCount ∧ t.meter.params = s.meter.params ∧ t.meter.trail = s.meter.trail ∧
      t.meter.patch = s.meter.patch ∧ t.auth = s.auth ∧ t.live = s.live ∧ ∃ e ∈ t.rcd.raised, e.die = 0 ∧ e.code = 0x1202 ∧ e.payload.drop 1 = [13, 1])) ∧
  (∀ (c : AuthCmd) (s : State), s.meter.runs = true → s.meter.act = some c →
    let m := s.meter
    let room := m.trail.length < 1024
    let next := min (m.sealCount + 1) 0xFFFFFF
    let logged (t : State) (type : Nat) : Prop := t.meter.sealCount = next ∧ t.meter.trail.length = m.trail.length + 1 ∧ t.meter.trail.take m.trail.length = m.trail ∧
      ((t.meter.trail.getD m.trail.length []).getD 0 0) % 2 ^ 8 = type ∧ (t.meter.trail.getD m.trail.length []).getD 1 0 = next ∧
      t.meter.snapSeq = (m.snapSeq + 1) % 2 ^ 24 ∧ t.meter.act = none ∧ t.meter.totals = m.totals ∧ ∃ e ∈ t.rcd.raised, e.die = 0 ∧ e.code = 0x1201
    let refused (t : State) (detail : Nat) : Prop := t.meter.act = none ∧ t.meter.params = m.params ∧ t.meter.trail = m.trail ∧ t.meter.sealCount = m.sealCount ∧
      t.meter.res.getD 3 0 = detail ∧ ∃ e ∈ t.rcd.raised, e.die = 0 ∧ e.code = 0x1202 ∧ e.payload.drop 1 = [13, detail]
    let v := c.w48 1
    (c.opcode = 0x10 → m.sealed = true → c.w 0 = 0x4F504E → room → ∃ t, exec (.sealBreak true) s = .next t ∧ logged t 1 ∧ t.meter.sealed = false ∧
      t.meter.params = m.params ∧ ∃ e ∈ t.rcd.raised, e.die = 0 ∧ e.code = 0x1203 ∧ e.payload.head? = some 1) ∧
    (c.opcode = 0x10 → m.sealed = true → c.w 0 = 0x4F504E → ¬ room → ∃ t, exec (.sealBreak true) s = .next t ∧ refused t 5 ∧ t.meter.sealed = true) ∧
    (c.opcode = 0x11 → m.sealed = false → c.w 0 = 0x534C44 → ∃ t, exec (.sealMeter true) s = .next t ∧ t.meter.sealed = true ∧ t.meter.lenWin = none ∧
      t.meter.massWin = none ∧ t.meter.sealCount = next ∧ (room → logged t 2)) ∧
    (m.sealed = false →
      (c.opcode = 0x12 → c.w 0 < 32 → (leBytes (c.w 1) 3 ++ leBytes (c.w 2) 3).all (fun b => b < 128) = true → 1 ≤ c.w 3 → 5000 ≤ c.w 4 → c.w 4 ≤ 30000 →
        c.w 5 < 65536 → (∀ k, k < 16 → k ≠ c.w 0 % 16 → (m.params.chan k).sources &&& c.w 5 = 0) → room →
        ∃ t, exec (.setChannel true) s = .next t ∧ logged t 3 ∧ t.meter.savedParams = m.savedParams.writeBoth t.meter.params ∧
          t.meter.params.chan (c.w 0 % 16) = ⟨bit (c.w 0) 4, c.w 1, c.w 2, c.w 3, c.w 4, c.w 5, (m.params.chan (c.w 0 % 16)).mfact⟩ ∧
          (∀ k, k ≠ c.w 0 % 16 → t.meter.params.chan k = m.params.chan k) ∧ t.meter.params.lscale = m.params.lscale) ∧
      (c.opcode = 0x12 → c.w 0 < 32 → (∃ k, k < 16 ∧ k ≠ c.w 0 % 16 ∧ (m.params.chan k).sources &&& c.w 5 ≠ 0) → ∃ t, exec (.setChannel true) s = .next t ∧ refused t 2) ∧
      (c.opcode = 0x13 → c.w 0 < 32 → c.w 1 < 65536 → room → ∃ t, exec (.setMass true) s = .next t ∧ logged t 3 ∧
        t.meter.params.entry (c.w 0 % 16) = ⟨c.w 1, bit (c.w 0) 4, (List.range 15).map (fun i => c.w (i + 2))⟩ ∧ t.meter.params.chans = m.params.chans) ∧
      (c.opcode = 0x13 → c.w 0 < 32 → c.w 1 < 65536 → room → ∃ t, exec (.setMass false) s = .next t ∧ refused t 4) ∧
      (c.opcode = 0x14 → (c.w 0 = 1 ∧ 1 ≤ v ∧ v ≤ 100000) ∨ ((c.w 0 = 2 ∨ c.w 0 = 3) ∧ v < 2 ^ 24) ∨ (c.w 0 = 4 ∧ v ≤ 1) ∨ (16 ≤ c.w 0 ∧ c.w 0 < 32 ∧ v ≤ 100000) → room →
        ∃ t, exec (.setParam true) s = .next t ∧ logged t 3 ∧ t.meter.params.byId (c.w 0) = v ∧ (∀ i, i ≠ c.w 0 → i < 64 → t.meter.params.byId i = m.params.byId i)) ∧
      (c.opcode = 0x14 → (c.w 0 = 1 ∧ (v = 0 ∨ 100000 < v)) ∨ (c.w 0 = 4 ∧ 1 < v) ∨ 32 ≤ c.w 0 ∨ (16 ≤ c.w 0 ∧ 100000 < v) →
        ∃ t, exec (.setParam true) s = .next t ∧ refused t 2) ∧
      (c.opcode = 0x17 → (c.w 0 ≤ 87381 ∧ c.w 1 < 4096 → ∃ t, exec .patchBegin s = .next t ∧ t.meter.patchIn = some ⟨c.w 1, c.w 0, []⟩ ∧ t.meter.act = none) ∧
        (87381 < c.w 0 → ∃ t, exec .patchBegin s = .next t ∧ refused t 2)) ∧
      (c.opcode = 0x18 → (m.patchIn = none → ∃ t, exec .patchData s = .next t ∧ refused t 7) ∧
        (∀ p, m.patchIn = some p →
          (c.w 0 = p.code.length → ∃ t, exec .patchData s = .next t ∧
            t.meter.patchIn = some { p with code := (p.code ++ (c.payload.drop 1).take 47).take p.len } ∧ t.meter.act = none) ∧
          (c.w 0 ≠ p.code.length → ∃ t, exec .patchData s = .next t ∧ refused t 7 ∧ t.meter.patchIn = none))) ∧
      (∀ p, c.opcode = 0x19 → m.patchIn = some p → p.code.length = p.len → room →
        (Config.signatureValid ([p.len, p.id] ++ p.code) c.payload = true → ∃ t, exec (.patchEnd true) s = .next t ∧ logged t 6 ∧ t.meter.patch = some p ∧
          t.meter.running = m.running) ∧
        (Config.signatureValid ([p.len, p.id] ++ p.code) c.payload = false → ∃ t, exec (.patchEnd true) s = .next t ∧ refused t 6 ∧ t.meter.patch = m.patch)) ∧
      (c.opcode = 0x1A → room → ∃ t, exec (.patchRemove true) s = .next t ∧ logged t 6 ∧ t.meter.patch = none ∧ t.meter.running = m.running) ∧
      (∀ key, c.opcode = 0x1B → keyUnwrap (hmac (s.mtrKey.getD []) [0x77, 0x72, 0x61, 0x70]) ((wordBytes c.payload).take 40) = some key →
        ((wordBytes c.payload).drop 40).all (fun b => b = 0) = true → s.on (F.AUTH_SLOT_EXHAUSTED 2) = false → room →
        ∃ t, exec (.mtrKeyRotate true) s = .next t ∧ logged t 7 ∧ t.mtrKey = some key) ∧
      (c.opcode = 0x1B → ((wordBytes c.payload).drop 40).any (fun b => b != 0) = true → ∃ t, exec (.mtrKeyRotate true) s = .next t ∧ refused t 2) ∧
      (c.opcode = 0x1D → ∃ t, exec (.trailClear true) s = .next t ∧ t.meter.trail.length = 1 ∧ t.meter.sealCount = next ∧ t.meter.act = none ∧
        ((t.meter.trail.getD 0 []).getD 0 0) % 2 ^ 8 = 8 ∧ t.meter.params = m.params) ∧
      (c.opcode = 0x15 → (c.w 0 = 1 → exec .lenCalOpen s = .next s) ∧ (c.w 0 ≠ 1 → exec .lenCalAbort s = .next s) ∧
        (c.w 0 = 0 → m.lenWin = none → room → ∃ t, exec .lenCalOpen s = .next t ∧ t.meter.lenWin = some ⟨c, c.w48 1, c.w48 3, s.clk, none⟩ ∧ t.meter.params = m.params) ∧
        (c.w 0 = 0 → m.lenWin ≠ none → ∃ t, exec .lenCalOpen s = .next t ∧ refused t 7) ∧
        (c.w 0 = 1 → m.lenWin ≠ none → ∃ t, exec .lenCalAbort s = .next t ∧ t.meter.lenWin = none ∧ t.meter.params = m.params ∧ t.meter.act = none)) ∧
      (c.opcode = 0x16 →
        let k := c.w 0 % 16
        let a := c.w 0 / 16
        (a = 1 → exec .massCalOpen s = .next s) ∧ (a = 0 → exec (.massCalClose true) s = .next s ∧ exec .massCalAbort s = .next s) ∧
        (a = 0 → m.massWin = none → ∃ t, exec .massCalOpen s = .next t ∧ t.meter.massWin = some (k, 0) ∧ t.meter.params = m.params) ∧
        (a = 2 → ∀ w, m.massWin = some (k, w) → ∃ t, exec .massCalAbort s = .next t ∧ t.meter.massWin = none ∧ t.meter.params = m.params) ∧
        (a = 1 → ∀ w f, m.massWin = some (k, w) → 0 < w →
          2 * f * w ≤ 2 * (65536 * v * 100000) + w → 2 * (65536 * v * 100000) + w < 2 * (f + 1) * w →
          (52429 ≤ f → f ≤ 81920 → room → ∃ t, exec (.massCalClose true) s = .next t ∧ logged t 5 ∧ (t.meter.params.chan k).mfact = f ∧ t.meter.massWin = none) ∧
          (f < 52429 ∨ 81920 < f → ∃ t, exec (.massCalClose true) s = .next t ∧ refused t 3)))) ∧
    (c.opcode = 0x1C → c.w 1 < 256 → (∃ t, exec (.mtrMarkSet true) s = .next t ∧ t.meter.marks = m.marks.writeBoth (c.w 0 + 2 ^ 24 * c.w 1) ∧ t.meter.hwm = some (c.w 0 + 2 ^ 24 * c.w 1) ∧ t.meter.cnt = c.w 0 + 2 ^ 24 * c.w 1 ∧
        t.meter.sealCount = m.sealCount ∧ t.meter.act = none) ∧
      (∃ t, exec (.mtrMarkSet false) s = .next t ∧ refused t 4 ∧ t.meter.hwm = m.hwm))) ∧
  (∀ (written : Bool) (now : Nat) (w : LenWin) (s : State), s.meter.runs = true → s.meter.lenWin = some w →
    let u := s.atTime now
    let m := u.meter
    let old := m.params.lscale
    (u.clk < w.opened + 3600 * 200000000 → exec (.lenCalTimeout now) s = .next u) ∧
    (w.opened + 3600 * 200000000 ≤ u.clk → ∃ t, exec (.lenCalTimeout now) s = .next t ∧ t.meter.lenWin = none ∧ t.meter.params = m.params ∧ t.meter.res.getD 3 0 = 7) ∧
    (w.first = none → ∃ t, exec (.mtrMarkEdge written now) s = .next t ∧ t.meter.lenWin = some { w with first := some m.count } ∧ t.meter.params = m.params) ∧
    (∀ n k x : Nat, w.first = some (m.count - k) → 0 < k → x * k ≤ w.dist * 65536000 → w.dist * 65536000 < (x + 1) * k → x < 2 ^ 48 → n = (if old = 0 then w.nominal else old) →
      (n * 98 ≤ 100 * x → 100 * x ≤ n * 102 → m.trail.length < 1024 → written = true → ∃ t, exec (.mtrMarkEdge written now) s = .next t ∧ t.meter.lenWin = none ∧
        t.meter.params.lscale = x ∧ t.meter.sealCount = min (m.sealCount + 1) 0xFFFFFF ∧ t.meter.trail.length = m.trail.length + 1 ∧ t.meter.totals = m.totals) ∧
      (100 * x < n * 98 ∨ n * 102 < 100 * x → ∃ t, exec (.mtrMarkEdge written now) s = .next t ∧ t.meter.lenWin = none ∧ t.meter.params = m.params ∧
        t.meter.trail = m.trail ∧ t.meter.res.getD 3 0 = 3))) ∧
  (∀ (written : Bool) (now : Nat) (s : State), s.meter.runs = false ∨ s.meter.lenWin = none → exec (.mtrMarkEdge written now) s = .next (s.atTime now) ∧
    exec (.lenCalTimeout now) s = .next (s.atTime now))

/-- R573, R575 to R578, R580, R581, R583, R586, R588 to R590. -/
def Obligations.EventsBecomeRecords : Prop :=
  let fifo (s : State) : Prop := s.on F.EVT_STAT_FLASH_OK = true ∨ s.rd F.BOOT_STAT_STAGE < 2
  let room (s : State) : Prop := (fifo s → s.rcd.fifo.length < 64) ∧ (¬ fifo s → s.rcd.held.length + s.rcd.fifo.length < 1024)
  let closes (s t : State) (r : Rec) : Prop :=
    (room s → t.rcd.lost = s.rcd.lost ∧ (fifo s → t.rcd.fifo = s.rcd.fifo ++ [r] ∧ t.rcd.held = s.rcd.held) ∧
      (¬ fifo s → t.rcd.held = s.rcd.held ++ s.rcd.fifo ++ [r] ∧ t.rcd.fifo = []) ∧
      t.win.postings = s.win.postings ++ (if s.on F.EVT_CTL_RING_EN = true ∧ s.rd F.EVT_CTL_RING_SEV ≤ r.sev then
        [.post (s.rd F.EVT_CTL_RING) 5 (r.words.map (· % 2 ^ 24))] else [])) ∧
    (¬ room s → t.rcd.fifo = s.rcd.fifo ∧ t.rcd.held = s.rcd.held ∧ t.win = s.win ∧
      t.rd F.EVT_LOST_EVENTS = min (s.rd F.EVT_LOST_EVENTS + r.repeats) (2 ^ 24 - 1) ∧
      (s.rcd.lost = none → t.rcd.lost = some (r.repeats, 1, r.code)) ∧
      (∀ e n c, s.rcd.lost = some (e, n, c) → t.rcd.lost = some (e + r.repeats, n + 1, c)))
  (∀ (d now : Nat) (e : Raised) (rest : List Raised) (s : State), d < s.dies →
    let u := s.atTime now
    ((∀ x ∈ u.rcd.raised, x.die ≠ d) → exec (.eventArrival d now) s = .next u) ∧
    (u.rcd.raised = e :: rest → e.die = d →
      (u.rcd.opened = none → ∃ t r, exec (.eventArrival d now) s = .next t ∧ t.rcd.raised = rest ∧ t.rcd.opened = some r ∧ t.rcd.openedAt = u.clk ∧
        r.code = e.code ∧ r.sev = severity e.code ∧ r.die = d ∧ r.ntime = e.ntime ∧ r.payload = e.payload ∧ r.repeats = 1 ∧ r.opsec = u.opsec % 2 ^ 32 ∧
        r.pcc = u.rd F.BOOT_CYCLES_VALUE ∧ SameBut [.rcd] u t ∧ t.live = s.live) ∧
      (∀ r, u.rcd.opened = some r → r.code = e.code → r.die = d → r.payload.getD 0 0 = e.payload.getD 0 0 →
        (r.repeats + 1 < 65535 → ∃ t, exec (.eventArrival d now) s = .next t ∧ t.rcd.opened = some { r with repeats := r.repeats + 1 } ∧ t.rcd.raised = rest ∧
          SameBut [.rcd] u t ∧ t.live = s.live) ∧
        (65535 ≤ r.repeats + 1 → ∃ t, exec (.eventArrival d now) s = .next t ∧ t.rcd.opened = none ∧ closes u t { r with repeats := r.repeats + 1 })) ∧
      (∀ r, u.rcd.opened = some r → r.code ≠ e.code ∨ r.die ≠ d ∨ r.payload.getD 0 0 ≠ e.payload.getD 0 0 →
        ∃ t r', exec (.eventArrival d now) s = .next t ∧ t.rcd.opened = some r' ∧ r'.code = e.code ∧ r'.repeats = 1 ∧ r'.payload = e.payload ∧ closes u t r))) ∧
  (∀ (now : Nat) (s : State),
    let u := s.atTime now
    (u.clk < u.rcd.openedAt + 2000000000 ∨ u.rcd.opened = none → exec (.recordAgeClose now) s = .next u) ∧
    (∀ r, u.rcd.opened = some r → u.rcd.openedAt + 2000000000 ≤ u.clk → ∃ t, exec (.recordAgeClose now) s = .next t ∧ t.rcd.opened = none ∧ closes u t r) ∧
    (s.inService 0xB0000 = true → (s.rcd.opened = none → exec .evtFlush s = .next s) ∧
      (∀ r, s.rcd.opened = some r → ∃ t, exec .evtFlush s = .next t ∧ t.rcd.opened = none ∧ closes s t r))) ∧
  (∀ (v : Bool) (s : State),
    let h := s.rd F.EVT_HEAD_SLOT
    let writes := s.on F.EVT_STAT_FLASH_OK = true ∧ 2 ≤ s.rd F.BOOT_STAT_STAGE ∧ s.rcd.erasing ≠ some (h / 1024)
    (s.rcd.held = [] ∧ s.rcd.fifo = [] ∨ ¬ writes → exec (.recordWritten v) s = .next s) ∧
    (∀ r rest, writes → s.rcd.held = r :: rest → s.rcd.lost = none → ∃ t, exec (.recordWritten true) s = .next t ∧ t.rcd.held = rest ∧ t.rcd.fifo = s.rcd.fifo ∧
      tget? t.flash.slots h = some r.words ∧ t.rd F.EVT_HEAD_SLOT = (h + 1) % 65536) ∧
    (∀ r rest, writes → s.rcd.held = [] → s.rcd.fifo = r :: rest →
      ∃ t, exec (.recordWritten v) s = .next t ∧ t.rd F.EVT_HEAD_SLOT = (h + 1) % 65536 ∧ (∀ i, i ≠ h → tget? t.flash.slots i = tget? s.flash.slots i) ∧
        (h % 1024 = 0 → t.rcd.erasing = some ((h / 1024 + 1) % 64)) ∧ (h % 1024 ≠ 0 → t.rcd.erasing = s.rcd.erasing) ∧
        (v = true → tget? t.flash.slots h = some r.words ∧ t.rd F.EVT_COUNT_RECORDS = (s.rd F.EVT_COUNT_RECORDS + 1) % 2 ^ 24 ∧
          (s.rcd.lost = none → t.rcd.fifo = rest ∧ RaisesNone s t) ∧
          (∀ x, s.rcd.lost = some x → rest.length < 64 → t.rcd.lost = none ∧ 43 ∈ t.irq.causes ∧ ∃ l, t.rcd.fifo = rest ++ [l] ∧ l.code = 0x1301 ∧
            l.payload = [x.1 % 2 ^ 24, x.2.1 % 2 ^ 24, x.2.2])) ∧
        (v = false → t.rcd.fifo = s.rcd.fifo ∧ (∃ ws, tget? t.flash.slots h = some (r.words14 ++ [ws]) ∧ ws / 2 ^ 16 = 0xFF) ∧ Raises s t 0 0x1306 [h] ∧
          t.irq.causes = s.irq.causes ++ [43] ∧ t.rd F.EVT_COUNT_RECORDS = s.rd F.EVT_COUNT_RECORDS))) ∧
  (∀ s : State, (s.rcd.erasing = none → exec .sectorEraseDone s = .next s) ∧
    (∀ k, s.rcd.erasing = some k → ∃ t, exec .sectorEraseDone s = .next t ∧ t.rcd.erasing = none ∧ (∀ e, e ∈ t.flash.slots ↔ e ∈ s.flash.slots ∧ e.1 / 1024 ≠ k) ∧
      SameBut [.rcd, .flash] s t ∧ t.live = s.live)) ∧
  (∀ s : State,
    (s.on F.EVT_STAT_FLASH_OK = true → exec .eventFlashReturn s = .next s) ∧
    (s.on F.EVT_STAT_FLASH_OK = false → ∃ t base, exec .eventFlashReturn s = .next t ∧
      let n := (s.flash.count + 1) % 2 ^ 24
      let rekeyed (r : Rec) : Rec := { r with pcc := n, opsec := (r.opsec + base) % 2 ^ 32 }
      t.on F.EVT_STAT_FLASH_OK = true ∧ t.flash.ok = true ∧ t.flash.cycles = s.flash.cycles.write n ∧ t.rd F.BOOT_CYCLES_VALUE = n ∧
      t.opsec = min (s.opsec + base) (2 ^ 48 - 1) ∧ (∀ c, s.flash.life.newer = some c → base = tget c.val.1 39 0) ∧ (s.flash.life.newer = none → base = 0) ∧
      t.rcd.held = (s.rcd.held ++ s.rcd.fifo).map rekeyed ∧ t.rcd.fifo = [] ∧ t.rcd.opened = s.rcd.opened.map rekeyed ∧
      ∃ e ∈ t.rcd.raised, e.die = 0 ∧ e.code = 0x1302 ∧ e.payload = [(s.rcd.held.length + s.rcd.fifo.length) % 2 ^ 24])) ∧
  (∀ (now : Nat) (s : State),
    let u := s.atTime now
    (u.clk < s.rcd.secondAt + 200000000 → exec (.opsecTick now) s = .next u) ∧
    (s.rcd.secondAt + 200000000 ≤ u.clk → ∃ t, exec (.opsecTick now) s = .next t ∧ t.opsec = min (s.opsec + 1) (2 ^ 48 - 1) ∧ t.rcd.secondAt = u.clk ∧
      t.rcd.ageSec = s.rcd.ageSec + 1 ∧ t.rcd.lifeSec = s.rcd.lifeSec + 1 ∧ t.rcd.fireSec = s.rcd.fireSec + 1 ∧
      t.rd F.EVT_PERSIST_AGE = min ((s.rcd.ageSec + 1) / 60) 65535 ∧ SameRegs (among [F.EVT_PERSIST_AGE]) s t ∧ SameBut [.clk, .timeBase, .rcd] s t ∧
      (∀ d, d < s.dies → (s.rd (F.DIE_STAT_STAGE d) = 7 → tget t.rcd.life (64 * d + 15) 0 = min (tget s.rcd.life (64 * d + 15) 0 + 1) (2 ^ 48 - 1)) ∧
        (s.rd (F.DIE_STAT_STAGE d) ≠ 7 → tget t.rcd.life (64 * d + 15) 0 = tget s.rcd.life (64 * d + 15) 0)))) ∧
  (∀ s : State,
    let ok := s.on F.EVT_STAT_FLASH_OK = true
    (s.rcd.lifeSec < 3600 → exec .lifetimeSave s = .next s) ∧ (s.rcd.fireSec < 3600 → exec .fireCountSave s = .next s) ∧
    (3600 ≤ s.rcd.lifeSec → ¬ ok ∨ s.rcd.savingLife ≠ none → exec .lifetimeSave s = .next { s with rcd := { s.rcd with lifeSec := 0 } }) ∧
    (3600 ≤ s.rcd.fireSec → ¬ ok ∨ s.rcd.savingFires ≠ none → exec .fireCountSave s = .next { s with rcd := { s.rcd with fireSec := 0 } }) ∧
    (3600 ≤ s.rcd.lifeSec → ok → s.rcd.savingLife = none → ∃ t, exec .lifetimeSave s = .next t ∧ t.rcd.savingLife = some (s.rcd.life, s.rcd.hist) ∧
      t.rd F.EVT_PERSIST_BUSY = 1 ∧ t.flash.life = s.flash.life.begin ∧ t.rcd.life = s.rcd.life ∧ t.rcd.lifeSec = 0) ∧
    (3600 ≤ s.rcd.fireSec → ok → s.rcd.savingFires = none → ∃ t, exec .fireCountSave s = .next t ∧ t.rcd.savingFires = some s.rcd.fires ∧
      t.rd F.EVT_PERSIST_BUSY = 1 ∧ t.flash.fires = s.flash.fires.begin ∧ t.rcd.fires = s.rcd.fires ∧ t.rcd.fireSec = 0) ∧
    (s.inService 0xB0000 = true → ok → s.rcd.savingLife = none → s.rcd.savingFires = none → ∃ t, exec .evtPersistSave s = .next t ∧
      t.rcd.savingLife = some (s.rcd.life, s.rcd.hist) ∧ t.rcd.savingFires = some s.rcd.fires ∧ t.rd F.EVT_PERSIST_BUSY = 1) ∧
    (∀ v, s.rcd.savingFires = some v → ∃ t, exec (.persistDone true) s = .next t ∧ t.rcd.savingFires = none ∧ t.rcd.ageSec = 0 ∧ t.rd F.EVT_PERSIST_AGE = 0 ∧
      t.rd F.EVT_PERSIST_BUSY = nat s.rcd.savingLife.isSome ∧ t.flash.fires = s.flash.fires.write v) ∧
    (∀ v, s.rcd.savingLife = some v → ∃ t, exec (.persistDone false) s = .next t ∧ t.rcd.savingLife = none ∧
      t.rd F.EVT_PERSIST_BUSY = nat s.rcd.savingFires.isSome ∧ t.flash.life = s.flash.life.write v ∧ t.rcd.ageSec = s.rcd.ageSec) ∧
    (s.rcd.savingFires = none → exec (.persistDone true) s = .next s) ∧ (s.rcd.savingLife = none → exec (.persistDone false) s = .next s)) ∧
  (∀ (x : Area (Tab Nat)) (v : Tab Nat),
    (x.begin.a = none ∨ x.begin.b = none) ∧ ((x.begin.write v).newer.map Copy.val) = some v ∧
    (∀ c e, x.a = some c → x.b = some e → seqAhead c.seq e.seq = true → seqAhead e.seq c.seq = false → x.newer = some c ∧ x.begin = ⟨some c, none, true⟩) ∧
    (∀ c e, x.a = some c → x.b = some e → seqAhead e.seq c.seq = true → seqAhead c.seq e.seq = false → x.newer = some e ∧ x.begin = ⟨none, some e, true⟩)) ∧
  (∀ (ev : Instr) (content : List Nat) (s : State),
    (ev, content) ∈ [(Instr.dumpRecords, s.recordDump), (.dumpLifetime, s.lifeDump), (.dumpFireCounts, s.fireDump)] → s.inService 0xB0000 = true →
    let i := s.rd F.EVT_DUMP_BUF_BUF
    let g := s.rd F.EVT_DUMP_BUF_GEN
    (s.on F.EVT_DUMP_STAT_BUSY = true → exec ev s = .next s) ∧
    (s.on F.EVT_DUMP_STAT_BUSY = false →
      ((s.buf i).gen ≠ g ∨ g = 0 → ∃ t, exec ev s = .next t ∧ t.rd F.EVT_DUMP_STAT_STATUS = 2 ∧ t.rd F.EVT_DUMP_STAT_BUSY = 0 ∧ t.irq.causes = s.irq.causes ++ [43] ∧ t.zip = s.zip) ∧
      ((s.buf i).gen = g → g ≠ 0 → (s.buf i).st ≠ .device ∨ s.home (s.buf i) ≠ 0 → ∃ t, exec ev s = .next t ∧ t.rd F.EVT_DUMP_STAT_STATUS = 1 ∧ 43 ∈ t.irq.causes ∧ t.zip = s.zip) ∧
      ((s.buf i).gen = g → g ≠ 0 → (s.buf i).st = .device → s.home (s.buf i) = 0 → ∃ t, exec ev s = .next t ∧ t.rd F.EVT_DUMP_STAT_BUSY = 1 ∧
        t.zip.cwait = s.zip.cwait ++ [(0, ⟨.dump, 0, 0, content, none, [(i, 0)], false⟩)] ∧ t.irq = s.irq))) ∧
  (∀ (slot : Nat) (s : State), slot < 65536 → s.inService 0xB0000 = true →
    ∃ t, exec (.evtRdSelWrite slot) s = .next t ∧ t.rd F.EVT_RD_SEL_SLOT = slot ∧ t.rd F.EVT_RD_STAT_BUSY = 0 ∧
      (tget? s.flash.slots slot = none → t.rd F.EVT_RD_STAT_STATE = 0) ∧
      (∀ ws, tget? s.flash.slots slot = some ws → ∀ w, w < 15 → w < ws.length → t.rd (F.EVT_RD_DATA_WORD w) = ws.getD w 0 % 2 ^ 24) ∧
      (∀ r : Rec, tget? s.flash.slots slot = some r.words → t.rd F.EVT_RD_STAT_STATE = 1) ∧ t.flash = s.flash ∧ t.rcd = s.rcd)

/-- R595 to R601, R614. -/
def Obligations.ChainsSendAndDerate : Prop :=
  (∀ (c now : Nat) (s : State), c < 2 * s.dies →
    let u := s.atTime now
    let x := u.chain c
    let m := u.rd (F.LED_CTL_MODE (c / 2) (c % 2))
    let n := u.rd (F.LED_CTL_DEVS (c / 2) (c % 2)) + 1
    let eff (i : Nat) : Nat := min 65535 (u.rd (ledLevel c (i / 3) (i % 3)) * x.factor (i / 3) * (if m = 1 then x.scale else 1024) / 1048576)
    let phase (i : Nat) : Nat := u.rd (ledPhase c (i / 3) (i % 3))
    let acc (i : Nat) : Nat := (((List.range i).filter (fun j => 253 < phase j && phase j != 255)).map eff).foldl (· + ·) 0
    let free := x.out = none ∧ x.freeAt ≤ u.clk ∧ x.gate = false ∧ x.gateAt = none
    (¬ free ∨ (x.dark = false ∧ (u.ledOn c = false ∨ u.ledFenced c = true ∨ u.ledFits c = false)) → exec (.ledFrameSend c now) s = .next u) ∧
    (free → x.dark = true → ∃ t, exec (.ledFrameSend c now) s = .next t ∧ (t.chain c).sentAt = u.clk ∧ (t.chain c).out = some (u.clk + usTicks (72 * n)) ∧
      (t.chain c).dark = false ∧ (∀ e, e ≠ c → t.chain e = u.chain e) ∧ SameBut [.chains] u t ∧ t.live = s.live ∧
      ∀ i, i < 3 * n → (tget? (t.chain c).sent (4 * (i / 3) + i % 3)).map Prod.fst = some 0) ∧
    (x.dark = false → x.again = false → m ≠ 1 → u.ledFrame c false = x.sent → u.clk < x.sentAt + usTicks 100000 → exec (.ledFrameSend c now) s = .next u) ∧
    (free → x.dark = false → u.ledOn c = true → u.ledFenced c = false → u.ledFits c = true →
      x.again = true ∨ m = 1 ∨ u.ledFrame c false ≠ x.sent ∨ x.sentAt + usTicks 100000 ≤ u.clk →
      ∃ t, exec (.ledFrameSend c now) s = .next t ∧ (t.chain c).sentAt = u.clk ∧ (t.chain c).out = some (u.clk + usTicks (72 * n)) ∧ (t.chain c).again = false ∧
        (t.chain c).factors = x.factors ∧ (∀ e, e ≠ c → t.chain e = u.chain e) ∧ SameBut [.chains] u t ∧ t.live = s.live ∧
        ∀ i, i < 3 * n → tget? (t.chain c).sent (4 * (i / 3) + i % 3) = some (eff i, if phase i = 255 then 255 else if phase i ≤ 253 then phase i else
          acc i * 254 / 65536 % 254))) ∧
  (∀ (c now : Nat) (words : List Word) (s : State), c < 2 * s.dies →
    let u := s.atTime now
    let x := u.chain c
    let n := u.rd (F.LED_CTL_DEVS (c / 2) (c % 2)) + 1
    let w (i : Nat) : Nat := (words.getD i 0).toNat
    let good (i : Nat) : Prop := crc8 [bits (w i) 0 8, bits (w i) 8 8] = bits (w i) 16 8
    let kneeAt : Nat := u.policy (c / 2) 0xA 0x400
    let zeroAt : Nat := u.policy (c / 2) 0xA 0x401
    (x.out = none → exec (.ledReturnFrame c words now) s = .next u) ∧
    (x.out ≠ none → words.length < 128 → ∃ t, exec (.ledReturnFrame c words now) s = .next t ∧ (t.chain c).out = none ∧
      (t.chain c).freeAt = u.clk + usTicks 55 ∧ t.rd (F.LED_STAT_SEEN (c / 2) (c % 2)) = words.length ∧ (∀ e, e ≠ c → t.chain e = u.chain e) ∧
      (words.length < n → t.rd (F.LED_STAT_BREAK (c / 2) (c % 2)) = 1 ∧ (u.inEpisode 0x1402 c = false → ∃ e ∈ t.rcd.raised, e.die = c / 2 ∧ e.code = 0x1402)) ∧
      (n ≤ words.length → t.rd (F.LED_STAT_BREAK (c / 2) (c % 2)) = u.rd (F.LED_STAT_BREAK (c / 2) (c % 2)) ∧ t.inEpisode 0x1402 c = false) ∧
      ((∀ i, i < words.length → good i) → t.rd (F.LED_CNT_RERR (c / 2) (c % 2)) = u.rd (F.LED_CNT_RERR (c / 2) (c % 2))) ∧
      (words.length = 1 → ¬ good 0 → t.rd (F.LED_CNT_RERR (c / 2) (c % 2)) = min (u.rd (F.LED_CNT_RERR (c / 2) (c % 2)) + 1) 255) ∧
      (∀ i, i < n → i < words.length →
        (¬ good i → tget? (t.chain c).status i = tget? x.status i ∧ tget? (t.chain c).factors i = tget? x.factors i) ∧
        (good i → tget? (t.chain c).status i = some (w i % 2 ^ 16, u.clk) ∧ i ∉ (t.chain c).stale ∧
          (bit (w i) 14 = true ∨ (kneeAt + 40 < w i % 256 ∧ zeroAt + 40 ≤ w i % 256) → tget? (t.chain c).factors i = some 0) ∧
          (bit (w i) 14 = false → w i % 256 ≤ kneeAt + 40 → tget? (t.chain c).factors i = some 1024) ∧
          (bit (w i) 14 = false → kneeAt + 40 < w i % 256 → w i % 256 < zeroAt + 40 →
            tget? (t.chain c).factors i = some ((zeroAt + 40 - w i % 256) * 1024 / (zeroAt - kneeAt))))))) ∧
  (∀ (c dev now : Nat) (s : State), c < 2 * s.dies →
    let u := s.atTime now
    let x := u.chain c
    let since := max x.since (((tget? x.status dev).map Prod.snd).getD 0)
    (∀ a, x.out = some a → a + usTicks 100 ≤ u.clk → ∃ t, exec (.ledReturnTimeout c now) s = .next t ∧ (t.chain c).out = none ∧
      t.rd (F.LED_STAT_SEEN (c / 2) (c % 2)) = 0 ∧ t.rd (F.LED_STAT_BREAK (c / 2) (c % 2)) = 1 ∧
      (u.inEpisode 0x1402 c = false → (∃ e ∈ t.rcd.raised, e.die = c / 2 ∧ e.code = 0x1402) ∧ 256 * (c / 2) + 39 ∈ t.irq.causes ∧
        t.rd (F.LED_CNT_BREAKS (c / 2) (c % 2)) = min (u.rd (F.LED_CNT_BREAKS (c / 2) (c % 2)) + 1) 255)) ∧
    (x.out = none ∨ (∃ a, x.out = some a ∧ u.clk < a + usTicks 100) → exec (.ledReturnTimeout c now) s = .next u) ∧
    ((u.ledOn c = false ∨ u.ledDevs c ≤ dev ∨ dev ∈ x.stale ∨ u.clk < since + 200000000 → exec (.ledStatusStale c dev now) s = .next u) ∧
      (u.ledOn c = true → dev < u.ledDevs c → dev ∉ x.stale → since + 200000000 ≤ u.clk → ∃ t, exec (.ledStatusStale c dev now) s = .next t ∧
        (t.chain c).stale = x.stale ++ [dev] ∧ (t.chain c).factor dev = min (tget x.factors dev 1024) 512 ∧ SameBut [.chains] u t ∧ t.live = s.live)) ∧
    (u.ledOn c = false ∨ u.ledMode c ≠ 1 ∨ u.clk < x.scaledAt + usTicks 1000 → exec (.ledUvUpdate c now) s = .next u) ∧
    (u.ledOn c = true → u.ledMode c = 1 → x.scaledAt + usTicks 1000 ≤ u.clk →
      let speed := ((u.input (5 * (c / 2) + 4)).speed u.clk (u.stillTo (5 * (c / 2) + 4))).natAbs
      let scale := if u.pitch = 0 then 0 else min 4095 (speed * 2 ^ 24 * 1024 / (256 * u.pitch * u.rd (F.LED_UV_REF_RATE (c / 2) (c % 2))))
      ∃ t, exec (.ledUvUpdate c now) s = .next t ∧ t.chain c = { x with scale := scale, scaledAt := u.clk } ∧ SameBut [.chains] u t ∧ t.live = s.live ∧
        (speed = 0 → (t.chain c).scale = 0)) ∧
    (let near (n : Nat) : Prop := n ≤ u.clk + 1 ∧ u.clk ≤ n + 1
     (x.gate = true ∨ (∀ g, x.gateAt = some g → ¬ near g.1) → exec (.ledGateRise c now) s = .next u) ∧
     (x.gate = false ∨ (∀ g, x.gateAt = some g → ¬ near g.2) → exec (.ledGateFall c now) s = .next u) ∧
     (∀ g, x.gateAt = some g →
       (x.gate = false → near g.1 → ∃ t, exec (.ledGateRise c now) s = .next t ∧ t.chain c = { x with gate := true } ∧ SameBut [.chains] u t ∧ t.live = s.live) ∧
       (x.gate = true → near g.2 → ∃ t, exec (.ledGateFall c now) s = .next t ∧
         t.chain c = { x with gate := false, gateAt := none, freeAt := max x.freeAt (u.clk + usTicks 55) } ∧ SameBut [.chains] u t ∧ t.live = s.live)))) ∧
  (∀ (c : Nat) (s : State),
    let x := s.chain c
    let lit := s.clk + max (20 * s.rd (F.CAM_FLASH_FLASH_DLY (c / 2))) 240
    let due := some (lit - usTicks 1, lit + 20 * s.rd (F.CAM_FLASH_FLASH_W (c / 2)))
    (s.ledOn c = false ∨ s.ledFenced c = true ∨ s.ledMode c ≠ 2 → s.followGate c = s) ∧
    (s.ledOn c = true → s.ledFenced c = false → s.ledMode c = 2 →
      ((∀ a, x.out = some a → a ≤ s.clk) → (s.followGate c).chain c = { x with gateAt := due } ∧ (s.followGate c).live = s.live) ∧
      (∀ a, x.out = some a → s.clk < a → (s.followGate c).chain c = { x with gateAt := due, out := none, again := true } ∧
        (s.followGate c).rd (F.LED_CNT_CUTS (c / 2) (c % 2)) = min (s.rd (F.LED_CNT_CUTS (c / 2) (c % 2)) + 1) 255))) ∧
  (∀ (d : Nat) (w : Word) (s : State), d < s.dies → s.inService (dieAt d 0xA0000) = true →
    let ch := s.rd (F.LED_SEL_CH d)
    let dev := s.rd (F.LED_SEL_DEV d)
    let c := 2 * d + s.rd (F.LED_SEL_CHAIN d)
    let moved (t : State) : Prop := (ch < 2 → t.rd (F.LED_SEL_CH d) = ch + 1 ∧ t.rd (F.LED_SEL_DEV d) = dev) ∧
      (2 ≤ ch → t.rd (F.LED_SEL_CH d) = 0 ∧ t.rd (F.LED_SEL_DEV d) = (dev + 1) % 64)
    (ch < 3 → s.stagedCount d < 1023 → (∀ e ∈ s.epoch.stage, e.key = (ledLevel c dev ch).key ∨ e.key = (ledPhase c dev ch).key → e.die = d) → ∃ t, exec (.ledDataAccess d (some w)) s = .next t ∧ moved t ∧ t.chains = s.chains ∧
      t.stagedValue (ledLevel c dev ch) = w.toNat % 2 ^ 16 ∧ t.stagedValue (ledPhase c dev ch) = w.toNat / 2 ^ 16 % 256) ∧
    (ch < 3 → s.rd F.EPOCH_CTL_VIEW = 1 → ∃ t, exec (.ledDataAccess d none) s = .next t ∧ moved t ∧
      t.host.readData = [s.rd (ledLevel c dev ch) + 2 ^ 16 * s.rd (ledPhase c dev ch)] ∧ SameBut [.host] s t))

/-- R607 to R613. -/
def Obligations.DisplayScansAndRests : Prop :=
  (∀ (now : Nat) (crc : Option Nat) (late : List Nat) (s : State),
    let u := s.atTime now
    (u.scanning = false ∨ u.disp.scanned = false → exec (.dispVblank now) s = .next u) ∧
    (u.scanning = false ∨ u.disp.scanned = true ∨ u.clk < u.disp.frameAt + dispActive u.disp.mode → exec (.dispFrameEnd crc late now) s = .next u)) ∧
  (∀ (now id at' : Nat) (print late : Bool) (s : State),
    let u := s.atTime now
    let next := { u.disp with scanned := false, frameAt := u.clk + dispBlank u.disp.mode }
    u.scanning = true → u.disp.scanned = true →
      (u.disp.arrived = [] → exec (.dispVblank now) s = .next { u with disp := next }) ∧
      (u.disp.arrived = [(id, print, at', late)] →
        (u.clk < at' + usTicks 50 → ∃ t, exec (.dispVblank now) s = .next t ∧ t.disp = { next with arrived := [(id, print, at', true)] } ∧ SameBut [.disp] u t ∧ t.live = s.live) ∧
        (at' + usTicks 50 ≤ u.clk → u.commit? id = none → late = true → ∃ t, exec (.dispVblank now) s = .next t ∧ t.disp.arrived = [] ∧
          t.rd F.DISP_STAT_COMMIT_LATE = 1 ∧ t.rd F.DISP_ERR_LATE = min (u.rd F.DISP_ERR_LATE + 1) 255 ∧ Raises s t 0 0x1502 [id] ∧ t.irq.causes = s.irq.causes ++ [40]) ∧
        (∀ c, at' + usTicks 50 ≤ u.clk → u.commit? id = some c → c.remaining.length < c.parts.length → ∃ t c', exec (.dispVblank now) s = .next t ∧ t.disp.arrived = [] ∧
          t.commit? id = some c' ∧ c'.remaining = c.remaining.filter (fun p => p != (.block 0 0x1C, print)) ∧ (late = false → RaisesNone s t)))) ∧
  (∀ (now : Nat) (crc : Option Nat) (late : List Nat) (s : State),
    let u := s.atTime now
    let m := u.meter
    let fits := m.params.indX + 960 ≤ (dispTiming u.disp.mode).1 ∧ m.params.indY + 240 ≤ (dispTiming u.disp.mode).2.1
    let still := if u.disp.changed = true ∨ u.disp.iseq ≠ m.iseq then 0 else u.disp.still + 1
    let ind := crc.getD (((m.crcs.find? (fun e => e.1 = m.iseq)).map Prod.snd).getD 0)
    u.scanning = true → u.disp.scanned = false → u.disp.frameAt + dispActive u.disp.mode ≤ u.clk →
    ∃ t, exec (.dispFrameEnd crc late now) s = .next t ∧ t.rd F.DISP_FRAME_FRAME = (u.rd F.DISP_FRAME_FRAME + 1) % 2 ^ 24 ∧ t.disp.scanned = true ∧
      (late = [] → t.rd F.DISP_ERR_UNDERFLOW = u.rd F.DISP_ERR_UNDERFLOW) ∧
      (late ≠ [] → t.rd F.DISP_STAT_UNDERFLOW = 1 ∧ t.rd F.DISP_ERR_UNDERFLOW = min (u.rd F.DISP_ERR_UNDERFLOW + late.length) 255 ∧
        ∃ w ∈ t.rcd.windows, w.code = 0x1504) ∧
      (fits → t.rd F.DISP_STAT_IND_SHOWN = 1 ∧ t.meter = { m with reports := m.reports ++ [(m.iseq, ind)] }) ∧
      (¬ fits → t.rd F.DISP_STAT_IND_SHOWN = 0 ∧ t.meter = m ∧ (u.inEpisode 0x1506 0 = false → ∃ e ∈ t.rcd.raised, e.die = 0 ∧ e.code = 0x1506)) ∧
      (∀ r v, r < 8 →
        let x := u.rd (F.DISP_RPOS_X r)
        let y := u.rd (F.DISP_RPOS_Y r)
        let w := u.rd (F.DISP_RSIZE_W r)
        let h := u.rd (F.DISP_RSIZE_H r)
        let inside := x + w ≤ (dispTiming u.disp.mode).1 ∧ y + h ≤ (dispTiming u.disp.mode).2.1
        (u.rd (F.DISP_RCTL_EN r) = 0 ∨ ¬ inside → t.rd (F.DISP_RCRC_LO_CRC r) = u.rd (F.DISP_RCRC_LO_CRC r) ∧ t.rd (F.DISP_RCNT_COUNT r) = u.rd (F.DISP_RCNT_COUNT r)) ∧
        (u.rd (F.DISP_RCTL_EN r) = 1 → inside → u.rectCrc late x y w h = some v → t.rd (F.DISP_RCRC_LO_CRC r) = v % 2 ^ 24 ∧
          t.rd (F.DISP_RCRC_HI_CRC r) = v / 2 ^ 24 % 2 ^ 24 ∧
          (v = u.rd (F.DISP_REXP_LO_EXP r) + 2 ^ 24 * (u.rd (F.DISP_REXP_HI_EXP r) % 256) → t.rd (F.DISP_RCNT_COUNT r) = u.rd (F.DISP_RCNT_COUNT r) ∧
            t.inEpisode 0x1505 r = false) ∧
          (v ≠ u.rd (F.DISP_REXP_LO_EXP r) + 2 ^ 24 * (u.rd (F.DISP_REXP_HI_EXP r) % 256) → t.rd (F.DISP_RCTL_MISMATCH r) = 1 ∧
            t.rd (F.DISP_RCNT_COUNT r) = min (u.rd (F.DISP_RCNT_COUNT r) + 1) (2 ^ 24 - 1) ∧
            (u.inEpisode 0x1505 r = false → ∃ e ∈ t.rcd.raised, e.die = 0 ∧ e.code = 0x1505 ∧ e.payload = [r, t.rd F.DISP_FRAME_FRAME])))) ∧
      (∀ k b, k < 4 → tget? u.disp.held k = some b →
        ((u.buf b).st ≠ .reclaiming → tget? t.disp.held k = some b ∧ t.rd (F.DISP_LSTAT_LOST k) = u.rd (F.DISP_LSTAT_LOST k)) ∧
        ((u.buf b).st = .reclaiming → tget? t.disp.held k = none ∧ t.rd (F.DISP_LSTAT_LOST k) = 1 ∧ (∃ e ∈ t.rcd.raised, e.die = 0 ∧ e.code = 0x1503 ∧ e.payload = [k, b % 2 ^ 24]) ∧
          40 ∈ t.irq.causes)) ∧
      (∀ b id seen, u.disp.replaced = [(b, id, seen)] →
        ((∀ c, u.commit? id = some c → c.remaining = []) → t.disp.replaced = [] ∧ ((∀ e ∈ u.disp.held, e.2 ≠ b) → .release b 0 0 ∈ t.win.postings)) ∧
        (∀ c, u.commit? id = some c → c.remaining ≠ [] → t.disp.replaced = [(b, id, true)])) ∧
      t.disp.still = still ∧
      (u.disp.psr = true → u.rd F.DISP_CTL_PSR_FRAMES ≤ still → t.rd F.DISP_STAT_LINK = 3) ∧
      (u.disp.psr = false ∨ still < u.rd F.DISP_CTL_PSR_FRAMES → t.rd F.DISP_STAT_LINK = 2)) ∧
  (∀ (now : Nat) (found : List Nat) (s : State),
    let u := s.atTime now
    (u.dispOn = false → exec (.dispPsrExit now) s = .next u ∧ exec (.dispPsrReport now) s = .next u ∧ exec (.dispLinkLost found now) s = .next u) ∧
    (u.dispOn = true →
      (u.rd F.DISP_STAT_LINK ≠ 3 → exec (.dispPsrExit now) s = .next u ∧ exec (.dispPsrReport now) s = .next u) ∧
      (u.disp.arrived = [] → u.disp.changed = false → u.disp.iseq = u.meter.iseq → exec (.dispPsrExit now) s = .next u) ∧
      (u.rd F.DISP_STAT_LINK = 3 → u.disp.arrived = [] → u.disp.changed = true ∨ u.disp.iseq ≠ u.meter.iseq → ∃ t, exec (.dispPsrExit now) s = .next t ∧
        t.rd F.DISP_STAT_LINK = 2 ∧ t.disp = { u.disp with still := 0, scanned := false, frameAt := u.clk } ∧ SameBut [.disp] u t ∧ SameRegs (among [F.DISP_STAT_LINK]) s t) ∧
      (u.rd F.DISP_STAT_LINK = 3 →
        (u.clk < u.disp.heldAt + usTicks 100000 → exec (.dispPsrReport now) s = .next u) ∧
        (u.disp.heldAt + usTicks 100000 ≤ u.clk → ∃ t, exec (.dispPsrReport now) s = .next t ∧ t.meter = { u.meter with psr := some u.disp.iseq } ∧
          t.disp = { u.disp with heldAt := u.clk } ∧ SameBut [.meter, .disp] u t ∧ t.live = s.live)) ∧
      (∃ t, exec (.dispLinkLost found now) s = .next t ∧ Raises s t 0 0x1501 [] ∧ t.irq.causes = s.irq.causes ++ [40] ∧
        (∀ l r, found = [l, r] → l < 3 → r < 3 → l ≤ u.disp.lanesMax → r ≤ u.disp.rateMax →
          (dispTiming u.disp.mode).2.2 * 24 ≤ 2 ^ l * [1620, 2700, 5400].getD r 0 * 8 → t.rd F.DISP_STAT_LINK = 2 ∧ t.rd F.DISP_STAT_LANES = l ∧ t.rd F.DISP_STAT_RATE = r) ∧
        (found = [] → t.rd F.DISP_STAT_LINK = 0 ∧ t.rd F.DISP_STAT_LANES = 0 ∧ t.rd F.DISP_STAT_IND_SHOWN = 0))))

/-- R637 to R641. -/
def Obligations.MonitorsWarnAndFence : Prop :=
  (∀ (d now : Nat) (temps : List Int) (mv : List Nat) (s : State), d < s.dies →
    let u := s.atTime now
    let temp (k : Nat) : Int := temps.getD k 0
    let warn : Int := u.rd (F.MON_TLIM_TWARN d)
    let crit : Int := u.rd (F.MON_TLIM_TCRIT d)
    let top := max (max (temp 0) (temp 1)) (max (temp 2) (temp 3))
    let stage := u.rd (F.DIE_STAT_STAGE d)
    let periodic := ∀ n, tget? u.mon.ranAt d = some n → n + usTicks (1000 * u.rd (F.MON_CTL_PERIOD d)) ≤ u.clk
    let due := periodic ∨ bit u.clock.convert d = true
    (stage = 0 ∨ (stage = 1 ∧ u.boot.censused = false) ∨ ¬ due → exec (.monConversion d temps mv now) s = .next u) ∧
    (stage ≠ 0 → stage ≠ 1 ∨ u.boot.censused = true → due → temps.length = 4 → ∃ t, exec (.monConversion d temps mv now) s = .next t ∧
      t.rd (F.MON_SEQ_SEQ d) = (u.rd (F.MON_SEQ_SEQ d) + 1) % 2 ^ 24 ∧ (∀ k, k < 4 → t.rd (F.MON_T_TEMP d k) = unsigned 12 (temp k)) ∧
      (∀ k, k < 7 → t.rd (F.MON_V_MV d k) = mv.getD k 0 % 2 ^ 12) ∧ bit t.clock.convert d = false ∧
      (periodic → tget? t.mon.ranAt d = some u.clk) ∧ (¬ periodic → t.mon.ranAt = u.mon.ranAt) ∧
      (tget? u.mon.hottest d = none →
        (top < 10 * warn → t.rd (F.MON_STAT_WARN d) = u.rd (F.MON_STAT_WARN d) ∧ tget? t.mon.hottest d = none) ∧
        (10 * warn ≤ top → t.rd (F.MON_STAT_WARN d) = 1 ∧ tget? t.mon.hottest d = some top ∧ t.rd (F.MON_CNT_WARNS d) = min (u.rd (F.MON_CNT_WARNS d) + 1) 255 ∧
          (∃ e ∈ t.rcd.raised, e.die = d ∧ e.code = 0x1601 ∧ ∃ k, k < 4 ∧ 10 * warn ≤ temp k ∧ e.payload = [d, k, unsigned 24 (temp k)]) ∧ 256 * d + 38 ∈ t.irq.causes)) ∧
      (∀ h, tget? u.mon.hottest d = some h →
        (top < 10 * (warn - 5) → t.rd (F.MON_STAT_WARN d) = 0 ∧ tget? t.mon.hottest d = none ∧
          ∃ e ∈ t.rcd.raised, e.die = d ∧ e.code = 0x1603 ∧ e.payload = [d, unsigned 24 (max h top)]) ∧
        (10 * (warn - 5) ≤ top → t.rd (F.MON_STAT_WARN d) = u.rd (F.MON_STAT_WARN d) ∧ tget? t.mon.hottest d = some (max h top))) ∧
      (top < 10 * crit → t.rd (F.MON_STAT_HOT_FENCE d) = u.rd (F.MON_STAT_HOT_FENCE d) ∧ (∀ g, t.grpState g = u.grpState g)) ∧
      (10 * crit ≤ top → u.rd (F.MON_CTL_AUTO_FENCE d) = 0 → t.rd (F.MON_STAT_HOT_FENCE d) = u.rd (F.MON_STAT_HOT_FENCE d) ∧
        (∀ g, t.grpState g = u.grpState g) ∧ (u.inEpisode 0x1602 d = false → ∃ e ∈ t.rcd.raised, e.die = d ∧ e.code = 0x1602)) ∧
      (10 * crit ≤ top → u.rd (F.MON_CTL_AUTO_FENCE d) = 1 → u.rd (F.MON_STAT_HOT_FENCE d) = 0 → t.rd (F.MON_STAT_HOT_FENCE d) = 1 ∧
        (∀ i, i < 8 → u.grpState (8 * d + i) = 1 → t.grpState (8 * d + i) = 2 ∧ (t.group (8 * d + i)).pend = none ∧ 8 * d + i ∈ t.mon.fenced) ∧
        (∀ i, i < 8 → u.grpState (8 * d + i) ≠ 1 → t.grpState (8 * d + i) = u.grpState (8 * d + i)) ∧
        (∀ n, n < 4 → t.rd (F.MOT_STAT_REFD d n) = 0 ∧ (t.axis (4 * d + n)).v = 0 ∧ (t.axis (4 * d + n)).pulses = []) ∧
        (∀ m, m < 2 → u.rd (F.LED_CTL_STATE d m) = 2 →
          let x := u.chain (2 * d + m)
          let y := t.chain (2 * d + m)
          y.gate = false ∧ y.gateAt = none ∧ (x.out = none → x.freeAt ≤ u.clk → ∀ e ∈ y.sent, e.2.1 = 0) ∧
            (x.out ≠ none ∨ u.clk < x.freeAt → y.dark = true)) ∧
        (∃ e ∈ t.rcd.raised, e.die = d ∧ e.code = 0x1602 ∧ ∃ k, k < 4 ∧ 10 * crit ≤ temp k ∧ e.payload = [d, k, unsigned 24 (temp k)])) ∧
      (∀ k, k < 7 →
        let nom := [750, 750, 1100, 900, 1200, 1800, 3300].getD k 0
        let v := mv.getD k 0
        let out := nom * u.rd (F.MON_VTOL_TOL d) < 200 * ((v : Int) - nom).natAbs
        (out → bit (t.rd (F.MON_STAT_VDEV d)) k = true ∧ t.inEpisode 0x1604 (8 * d + k) = true ∧
          (u.inEpisode 0x1604 (8 * d + k) = false → ∃ e ∈ t.rcd.raised, e.die = d ∧ e.code = 0x1604 ∧ e.payload = [d, k, v % 2 ^ 24])) ∧
        (¬ out → bit (t.rd (F.MON_STAT_VDEV d)) k = bit (u.rd (F.MON_STAT_VDEV d)) k ∧
          (u.inEpisode 0x1604 (8 * d + k) = true → (t.inEpisode 0x1604 (8 * d + k) = true ↔ tget u.mon.calm (8 * d + k) 0 < 99)))))) ∧
  (∀ (d : Nat) (stuck : List Nat) (s : State), d < s.dies → s.inService (dieAt d 0xD0000) = true →
    let lim : Int := s.rd (F.MON_TLIM_TWARN d)
    (s.rd (F.MON_STAT_HOT_FENCE d) = 0 ∨ 10 * lim ≤ s.dieTemp d → exec (.hotFenceClear d stuck) s = .next s) ∧
    (s.rd (F.MON_STAT_HOT_FENCE d) = 1 → s.dieTemp d < 10 * lim → ∃ t, exec (.hotFenceClear d stuck) s = .next t ∧ t.rd (F.MON_STAT_HOT_FENCE d) = 0 ∧
      (∀ g, g ∈ t.mon.fenced ↔ g ∈ s.mon.fenced ∧ g / 8 ≠ d) ∧ (∃ e ∈ t.rcd.raised, e.die = d ∧ e.code = 0x1605) ∧ t.axes = s.axes ∧ t.chains = s.chains ∧
      (∀ i, i < 8 → (8 * d + i ∉ s.mon.fenced → t.grpState (8 * d + i) = s.grpState (8 * d + i)) ∧
        (8 * d + i ∈ s.mon.fenced → s.grpState (8 * d + i) = 2 → s.rd (F.LAN_GSTAT_IDV d i) = 1 → i ∉ stuck → t.grpState (8 * d + i) = 1) ∧
        (8 * d + i ∈ s.mon.fenced → s.grpState (8 * d + i) = 2 → i ∈ stuck → t.grpState (8 * d + i) = 2 ∧ ∃ e ∈ t.rcd.raised, e.die = d ∧ e.code = 0x0808))))

/-- The queue of commands; what an empty queue does is the model's choice (DESIGN CHOICE, notes/assumptions/1). -/
def Obligations.StepRunsTheFrontCommand : Prop :=
  (∀ (c : Instr) (rest : List Instr) (s : State), s.pending = c :: rest → step s = exec c { s with pending := rest }) ∧
  (∀ s : State, s.pending = [] → ∃ t, step s = .next t ∧ t.clk = s.clk + 1 ∧ t.live = s.live ∧ SameBut [.clk, .timeBase] s t)

/-- The queue is first in, first out; R1 fixes the variant of a unit. -/
def Obligations.QueueAndVariantStay : Prop :=
  ∀ (c : Instr) (s t : State), exec c s = .next t → t.pending = s.pending ∧ t.variant = s.variant ∧ s.clk ≤ t.clk

/-- The invariant of `Safety`, at reset. -/
def Obligations.ResetMeetsTheInvariant : Prop :=
  Inv State.reset ∧ State.reset.mem = [] ∧ State.reset.pending = [] ∧ (∀ f : Fld, State.reset.rd f = f.reset)

/-- R51, R553, R554, R556, R577, over every command. -/
def Obligations.StepKeepsTheInvariant : Prop :=
  ∀ s t : State, Inv s → step s = .next t → Inv t

/-- R537, R538, R550, R554: the boundary of the meter, over every command. -/
def Obligations.MeterIsApart : Prop :=
  ∀ (c : Instr) (s t : State), exec c s = .next t →
    (match c with
      | .meterBootDone .. | .meterEdge .. | .tapCountRecord .. => True
      | _ => t.meter.totals = s.meter.totals) ∧
    (match c with
      | .meterBootDone .. | .setChannel _ | .setMass _ | .setParam _ | .mtrMarkEdge .. | .massCalClose _ => True
      | _ => t.meter.params = s.meter.params) ∧
    (match c with
      | .sealBreak _ | .sealMeter _ => True
      | _ => t.meter.sealed = s.meter.sealed) ∧
    (match c with
      | .sealBreak _ | .sealMeter _ | .setChannel _ | .setMass _ | .setParam _ | .mtrMarkEdge .. | .massCalClose _ | .patchEnd _ | .patchRemove _
      | .mtrKeyRotate _ | .trailClear _ => True
      | _ => t.meter.trail = s.meter.trail ∧ t.meter.sealCount = s.meter.sealCount) ∧
    (s.meter.sealCount ≤ 0xFFFFFF → s.meter.sealCount ≤ t.meter.sealCount) ∧
    (s.meter.sealed = true → s.meter.lenWin = none → (∀ a b d e n, c ≠ .meterBootDone a b d e n) → t.meter.params = s.meter.params)
end

