-- ==== Sys2Proof/Laws/State.lean ====
section
/-! SUPPORT. One lemma for each field of the state and each update of one component: what it changes, and that it leaves the other
components as they are. -/

namespace Sys2Proof.Machine

open Sys2Proof

@[simp] theorem State.onRcd_pending (s : State) (f : Recorder → Recorder) : (s.onRcd f).pending = s.pending := rfl
@[simp] theorem State.onRcd_variant (s : State) (f : Recorder → Recorder) : (s.onRcd f).variant = s.variant := rfl
@[simp] theorem State.onRcd_clk (s : State) (f : Recorder → Recorder) : (s.onRcd f).clk = s.clk := rfl
@[simp] theorem State.onRcd_drawn (s : State) (f : Recorder → Recorder) : (s.onRcd f).drawn = s.drawn := rfl
@[simp] theorem State.onRcd_live (s : State) (f : Recorder → Recorder) : (s.onRcd f).live = s.live := rfl
@[simp] theorem State.onRcd_staged (s : State) (f : Recorder → Recorder) : (s.onRcd f).staged = s.staged := rfl
@[simp] theorem State.onRcd_snap (s : State) (f : Recorder → Recorder) : (s.onRcd f).snap = s.snap := rfl
@[simp] theorem State.onRcd_snapImages (s : State) (f : Recorder → Recorder) : (s.onRcd f).snapImages = s.snapImages := rfl
@[simp] theorem State.onRcd_mem (s : State) (f : Recorder → Recorder) : (s.onRcd f).mem = s.mem := rfl
@[simp] theorem State.onRcd_timeBase (s : State) (f : Recorder → Recorder) : (s.onRcd f).timeBase = s.timeBase := rfl
@[simp] theorem State.onRcd_rate (s : State) (f : Recorder → Recorder) : (s.onRcd f).rate = s.rate := rfl
@[simp] theorem State.onRcd_clock (s : State) (f : Recorder → Recorder) : (s.onRcd f).clock = s.clock := rfl
@[simp] theorem State.onRcd_epoch (s : State) (f : Recorder → Recorder) : (s.onRcd f).epoch = s.epoch := rfl
@[simp] theorem State.onRcd_ld (s : State) (f : Recorder → Recorder) : (s.onRcd f).ld = s.ld := rfl
@[simp] theorem State.onRcd_rcd (s : State) (f : Recorder → Recorder) : (s.onRcd f).rcd = f s.rcd := rfl
@[simp] theorem State.onRcd_flash (s : State) (f : Recorder → Recorder) : (s.onRcd f).flash = s.flash := rfl
@[simp] theorem State.onRcd_win (s : State) (f : Recorder → Recorder) : (s.onRcd f).win = s.win := rfl
@[simp] theorem State.onRcd_jobs (s : State) (f : Recorder → Recorder) : (s.onRcd f).jobs = s.jobs := rfl
@[simp] theorem State.onRcd_zip (s : State) (f : Recorder → Recorder) : (s.onRcd f).zip = s.zip := rfl
@[simp] theorem State.onRcd_press (s : State) (f : Recorder → Recorder) : (s.onRcd f).press = s.press := rfl
@[simp] theorem State.onRcd_axes (s : State) (f : Recorder → Recorder) : (s.onRcd f).axes = s.axes := rfl
@[simp] theorem State.onRcd_sdram (s : State) (f : Recorder → Recorder) : (s.onRcd f).sdram = s.sdram := rfl
@[simp] theorem State.onRcd_meter (s : State) (f : Recorder → Recorder) : (s.onRcd f).meter = s.meter := rfl
@[simp] theorem State.onRcd_chains (s : State) (f : Recorder → Recorder) : (s.onRcd f).chains = s.chains := rfl
@[simp] theorem State.onRcd_disp (s : State) (f : Recorder → Recorder) : (s.onRcd f).disp = s.disp := rfl
@[simp] theorem State.onRcd_boot (s : State) (f : Recorder → Recorder) : (s.onRcd f).boot = s.boot := rfl
@[simp] theorem State.onRcd_mon (s : State) (f : Recorder → Recorder) : (s.onRcd f).mon = s.mon := rfl
@[simp] theorem State.onRcd_pair (s : State) (f : Recorder → Recorder) : (s.onRcd f).pair = s.pair := rfl
@[simp] theorem State.onRcd_cams (s : State) (f : Recorder → Recorder) : (s.onRcd f).cams = s.cams := rfl
@[simp] theorem State.onRcd_eye (s : State) (f : Recorder → Recorder) : (s.onRcd f).eye = s.eye := rfl
@[simp] theorem State.onRcd_auth (s : State) (f : Recorder → Recorder) : (s.onRcd f).auth = s.auth := rfl
@[simp] theorem State.onRcd_eth (s : State) (f : Recorder → Recorder) : (s.onRcd f).eth = s.eth := rfl
@[simp] theorem State.onRcd_irq (s : State) (f : Recorder → Recorder) : (s.onRcd f).irq = s.irq := rfl
@[simp] theorem State.onRcd_eng (s : State) (f : Recorder → Recorder) : (s.onRcd f).eng = s.eng := rfl
@[simp] theorem State.onRcd_host (s : State) (f : Recorder → Recorder) : (s.onRcd f).host = s.host := rfl

@[simp] theorem State.onIrq_pending (s : State) (f : Irq → Irq) : (s.onIrq f).pending = s.pending := rfl
@[simp] theorem State.onIrq_variant (s : State) (f : Irq → Irq) : (s.onIrq f).variant = s.variant := rfl
@[simp] theorem State.onIrq_clk (s : State) (f : Irq → Irq) : (s.onIrq f).clk = s.clk := rfl
@[simp] theorem State.onIrq_drawn (s : State) (f : Irq → Irq) : (s.onIrq f).drawn = s.drawn := rfl
@[simp] theorem State.onIrq_live (s : State) (f : Irq → Irq) : (s.onIrq f).live = s.live := rfl
@[simp] theorem State.onIrq_staged (s : State) (f : Irq → Irq) : (s.onIrq f).staged = s.staged := rfl
@[simp] theorem State.onIrq_snap (s : State) (f : Irq → Irq) : (s.onIrq f).snap = s.snap := rfl
@[simp] theorem State.onIrq_snapImages (s : State) (f : Irq → Irq) : (s.onIrq f).snapImages = s.snapImages := rfl
@[simp] theorem State.onIrq_mem (s : State) (f : Irq → Irq) : (s.onIrq f).mem = s.mem := rfl
@[simp] theorem State.onIrq_timeBase (s : State) (f : Irq → Irq) : (s.onIrq f).timeBase = s.timeBase := rfl
@[simp] theorem State.onIrq_rate (s : State) (f : Irq → Irq) : (s.onIrq f).rate = s.rate := rfl
@[simp] theorem State.onIrq_clock (s : State) (f : Irq → Irq) : (s.onIrq f).clock = s.clock := rfl
@[simp] theorem State.onIrq_epoch (s : State) (f : Irq → Irq) : (s.onIrq f).epoch = s.epoch := rfl
@[simp] theorem State.onIrq_ld (s : State) (f : Irq → Irq) : (s.onIrq f).ld = s.ld := rfl
@[simp] theorem State.onIrq_rcd (s : State) (f : Irq → Irq) : (s.onIrq f).rcd = s.rcd := rfl
@[simp] theorem State.onIrq_flash (s : State) (f : Irq → Irq) : (s.onIrq f).flash = s.flash := rfl
@[simp] theorem State.onIrq_win (s : State) (f : Irq → Irq) : (s.onIrq f).win = s.win := rfl
@[simp] theorem State.onIrq_jobs (s : State) (f : Irq → Irq) : (s.onIrq f).jobs = s.jobs := rfl
@[simp] theorem State.onIrq_zip (s : State) (f : Irq → Irq) : (s.onIrq f).zip = s.zip := rfl
@[simp] theorem State.onIrq_press (s : State) (f : Irq → Irq) : (s.onIrq f).press = s.press := rfl
@[simp] theorem State.onIrq_axes (s : State) (f : Irq → Irq) : (s.onIrq f).axes = s.axes := rfl
@[simp] theorem State.onIrq_sdram (s : State) (f : Irq → Irq) : (s.onIrq f).sdram = s.sdram := rfl
@[simp] theorem State.onIrq_meter (s : State) (f : Irq → Irq) : (s.onIrq f).meter = s.meter := rfl
@[simp] theorem State.onIrq_chains (s : State) (f : Irq → Irq) : (s.onIrq f).chains = s.chains := rfl
@[simp] theorem State.onIrq_disp (s : State) (f : Irq → Irq) : (s.onIrq f).disp = s.disp := rfl
@[simp] theorem State.onIrq_boot (s : State) (f : Irq → Irq) : (s.onIrq f).boot = s.boot := rfl
@[simp] theorem State.onIrq_mon (s : State) (f : Irq → Irq) : (s.onIrq f).mon = s.mon := rfl
@[simp] theorem State.onIrq_pair (s : State) (f : Irq → Irq) : (s.onIrq f).pair = s.pair := rfl
@[simp] theorem State.onIrq_cams (s : State) (f : Irq → Irq) : (s.onIrq f).cams = s.cams := rfl
@[simp] theorem State.onIrq_eye (s : State) (f : Irq → Irq) : (s.onIrq f).eye = s.eye := rfl
@[simp] theorem State.onIrq_auth (s : State) (f : Irq → Irq) : (s.onIrq f).auth = s.auth := rfl
@[simp] theorem State.onIrq_eth (s : State) (f : Irq → Irq) : (s.onIrq f).eth = s.eth := rfl
@[simp] theorem State.onIrq_irq (s : State) (f : Irq → Irq) : (s.onIrq f).irq = f s.irq := rfl
@[simp] theorem State.onIrq_eng (s : State) (f : Irq → Irq) : (s.onIrq f).eng = s.eng := rfl
@[simp] theorem State.onIrq_host (s : State) (f : Irq → Irq) : (s.onIrq f).host = s.host := rfl

@[simp] theorem State.onHost_pending (s : State) (f : HostPort → HostPort) : (s.onHost f).pending = s.pending := rfl
@[simp] theorem State.onHost_variant (s : State) (f : HostPort → HostPort) : (s.onHost f).variant = s.variant := rfl
@[simp] theorem State.onHost_clk (s : State) (f : HostPort → HostPort) : (s.onHost f).clk = s.clk := rfl
@[simp] theorem State.onHost_drawn (s : State) (f : HostPort → HostPort) : (s.onHost f).drawn = s.drawn := rfl
@[simp] theorem State.onHost_live (s : State) (f : HostPort → HostPort) : (s.onHost f).live = s.live := rfl
@[simp] theorem State.onHost_staged (s : State) (f : HostPort → HostPort) : (s.onHost f).staged = s.staged := rfl
@[simp] theorem State.onHost_snap (s : State) (f : HostPort → HostPort) : (s.onHost f).snap = s.snap := rfl
@[simp] theorem State.onHost_snapImages (s : State) (f : HostPort → HostPort) : (s.onHost f).snapImages = s.snapImages := rfl
@[simp] theorem State.onHost_mem (s : State) (f : HostPort → HostPort) : (s.onHost f).mem = s.mem := rfl
@[simp] theorem State.onHost_timeBase (s : State) (f : HostPort → HostPort) : (s.onHost f).timeBase = s.timeBase := rfl
@[simp] theorem State.onHost_rate (s : State) (f : HostPort → HostPort) : (s.onHost f).rate = s.rate := rfl
@[simp] theorem State.onHost_clock (s : State) (f : HostPort → HostPort) : (s.onHost f).clock = s.clock := rfl
@[simp] theorem State.onHost_epoch (s : State) (f : HostPort → HostPort) : (s.onHost f).epoch = s.epoch := rfl
@[simp] theorem State.onHost_ld (s : State) (f : HostPort → HostPort) : (s.onHost f).ld = s.ld := rfl
@[simp] theorem State.onHost_rcd (s : State) (f : HostPort → HostPort) : (s.onHost f).rcd = s.rcd := rfl
@[simp] theorem State.onHost_flash (s : State) (f : HostPort → HostPort) : (s.onHost f).flash = s.flash := rfl
@[simp] theorem State.onHost_win (s : State) (f : HostPort → HostPort) : (s.onHost f).win = s.win := rfl
@[simp] theorem State.onHost_jobs (s : State) (f : HostPort → HostPort) : (s.onHost f).jobs = s.jobs := rfl
@[simp] theorem State.onHost_zip (s : State) (f : HostPort → HostPort) : (s.onHost f).zip = s.zip := rfl
@[simp] theorem State.onHost_press (s : State) (f : HostPort → HostPort) : (s.onHost f).press = s.press := rfl
@[simp] theorem State.onHost_axes (s : State) (f : HostPort → HostPort) : (s.onHost f).axes = s.axes := rfl
@[simp] theorem State.onHost_sdram (s : State) (f : HostPort → HostPort) : (s.onHost f).sdram = s.sdram := rfl
@[simp] theorem State.onHost_meter (s : State) (f : HostPort → HostPort) : (s.onHost f).meter = s.meter := rfl
@[simp] theorem State.onHost_chains (s : State) (f : HostPort → HostPort) : (s.onHost f).chains = s.chains := rfl
@[simp] theorem State.onHost_disp (s : State) (f : HostPort → HostPort) : (s.onHost f).disp = s.disp := rfl
@[simp] theorem State.onHost_boot (s : State) (f : HostPort → HostPort) : (s.onHost f).boot = s.boot := rfl
@[simp] theorem State.onHost_mon (s : State) (f : HostPort → HostPort) : (s.onHost f).mon = s.mon := rfl
@[simp] theorem State.onHost_pair (s : State) (f : HostPort → HostPort) : (s.onHost f).pair = s.pair := rfl
@[simp] theorem State.onHost_cams (s : State) (f : HostPort → HostPort) : (s.onHost f).cams = s.cams := rfl
@[simp] theorem State.onHost_eye (s : State) (f : HostPort → HostPort) : (s.onHost f).eye = s.eye := rfl
@[simp] theorem State.onHost_auth (s : State) (f : HostPort → HostPort) : (s.onHost f).auth = s.auth := rfl
@[simp] theorem State.onHost_eth (s : State) (f : HostPort → HostPort) : (s.onHost f).eth = s.eth := rfl
@[simp] theorem State.onHost_irq (s : State) (f : HostPort → HostPort) : (s.onHost f).irq = s.irq := rfl
@[simp] theorem State.onHost_eng (s : State) (f : HostPort → HostPort) : (s.onHost f).eng = s.eng := rfl
@[simp] theorem State.onHost_host (s : State) (f : HostPort → HostPort) : (s.onHost f).host = f s.host := rfl

@[simp] theorem State.onWin_pending (s : State) (f : Win → Win) : (s.onWin f).pending = s.pending := rfl
@[simp] theorem State.onWin_variant (s : State) (f : Win → Win) : (s.onWin f).variant = s.variant := rfl
@[simp] theorem State.onWin_clk (s : State) (f : Win → Win) : (s.onWin f).clk = s.clk := rfl
@[simp] theorem State.onWin_drawn (s : State) (f : Win → Win) : (s.onWin f).drawn = s.drawn := rfl
@[simp] theorem State.onWin_live (s : State) (f : Win → Win) : (s.onWin f).live = s.live := rfl
@[simp] theorem State.onWin_staged (s : State) (f : Win → Win) : (s.onWin f).staged = s.staged := rfl
@[simp] theorem State.onWin_snap (s : State) (f : Win → Win) : (s.onWin f).snap = s.snap := rfl
@[simp] theorem State.onWin_snapImages (s : State) (f : Win → Win) : (s.onWin f).snapImages = s.snapImages := rfl
@[simp] theorem State.onWin_mem (s : State) (f : Win → Win) : (s.onWin f).mem = s.mem := rfl
@[simp] theorem State.onWin_timeBase (s : State) (f : Win → Win) : (s.onWin f).timeBase = s.timeBase := rfl
@[simp] theorem State.onWin_rate (s : State) (f : Win → Win) : (s.onWin f).rate = s.rate := rfl
@[simp] theorem State.onWin_clock (s : State) (f : Win → Win) : (s.onWin f).clock = s.clock := rfl
@[simp] theorem State.onWin_epoch (s : State) (f : Win → Win) : (s.onWin f).epoch = s.epoch := rfl
@[simp] theorem State.onWin_ld (s : State) (f : Win → Win) : (s.onWin f).ld = s.ld := rfl
@[simp] theorem State.onWin_rcd (s : State) (f : Win → Win) : (s.onWin f).rcd = s.rcd := rfl
@[simp] theorem State.onWin_flash (s : State) (f : Win → Win) : (s.onWin f).flash = s.flash := rfl
@[simp] theorem State.onWin_win (s : State) (f : Win → Win) : (s.onWin f).win = f s.win := rfl
@[simp] theorem State.onWin_jobs (s : State) (f : Win → Win) : (s.onWin f).jobs = s.jobs := rfl
@[simp] theorem State.onWin_zip (s : State) (f : Win → Win) : (s.onWin f).zip = s.zip := rfl
@[simp] theorem State.onWin_press (s : State) (f : Win → Win) : (s.onWin f).press = s.press := rfl
@[simp] theorem State.onWin_axes (s : State) (f : Win → Win) : (s.onWin f).axes = s.axes := rfl
@[simp] theorem State.onWin_sdram (s : State) (f : Win → Win) : (s.onWin f).sdram = s.sdram := rfl
@[simp] theorem State.onWin_meter (s : State) (f : Win → Win) : (s.onWin f).meter = s.meter := rfl
@[simp] theorem State.onWin_chains (s : State) (f : Win → Win) : (s.onWin f).chains = s.chains := rfl
@[simp] theorem State.onWin_disp (s : State) (f : Win → Win) : (s.onWin f).disp = s.disp := rfl
@[simp] theorem State.onWin_boot (s : State) (f : Win → Win) : (s.onWin f).boot = s.boot := rfl
@[simp] theorem State.onWin_mon (s : State) (f : Win → Win) : (s.onWin f).mon = s.mon := rfl
@[simp] theorem State.onWin_pair (s : State) (f : Win → Win) : (s.onWin f).pair = s.pair := rfl
@[simp] theorem State.onWin_cams (s : State) (f : Win → Win) : (s.onWin f).cams = s.cams := rfl
@[simp] theorem State.onWin_eye (s : State) (f : Win → Win) : (s.onWin f).eye = s.eye := rfl
@[simp] theorem State.onWin_auth (s : State) (f : Win → Win) : (s.onWin f).auth = s.auth := rfl
@[simp] theorem State.onWin_eth (s : State) (f : Win → Win) : (s.onWin f).eth = s.eth := rfl
@[simp] theorem State.onWin_irq (s : State) (f : Win → Win) : (s.onWin f).irq = s.irq := rfl
@[simp] theorem State.onWin_eng (s : State) (f : Win → Win) : (s.onWin f).eng = s.eng := rfl
@[simp] theorem State.onWin_host (s : State) (f : Win → Win) : (s.onWin f).host = s.host := rfl

@[simp] theorem State.onFlash_pending (s : State) (f : Flash → Flash) : (s.onFlash f).pending = s.pending := rfl
@[simp] theorem State.onFlash_variant (s : State) (f : Flash → Flash) : (s.onFlash f).variant = s.variant := rfl
@[simp] theorem State.onFlash_clk (s : State) (f : Flash → Flash) : (s.onFlash f).clk = s.clk := rfl
@[simp] theorem State.onFlash_drawn (s : State) (f : Flash → Flash) : (s.onFlash f).drawn = s.drawn := rfl
@[simp] theorem State.onFlash_live (s : State) (f : Flash → Flash) : (s.onFlash f).live = s.live := rfl
@[simp] theorem State.onFlash_staged (s : State) (f : Flash → Flash) : (s.onFlash f).staged = s.staged := rfl
@[simp] theorem State.onFlash_snap (s : State) (f : Flash → Flash) : (s.onFlash f).snap = s.snap := rfl
@[simp] theorem State.onFlash_snapImages (s : State) (f : Flash → Flash) : (s.onFlash f).snapImages = s.snapImages := rfl
@[simp] theorem State.onFlash_mem (s : State) (f : Flash → Flash) : (s.onFlash f).mem = s.mem := rfl
@[simp] theorem State.onFlash_timeBase (s : State) (f : Flash → Flash) : (s.onFlash f).timeBase = s.timeBase := rfl
@[simp] theorem State.onFlash_rate (s : State) (f : Flash → Flash) : (s.onFlash f).rate = s.rate := rfl
@[simp] theorem State.onFlash_clock (s : State) (f : Flash → Flash) : (s.onFlash f).clock = s.clock := rfl
@[simp] theorem State.onFlash_epoch (s : State) (f : Flash → Flash) : (s.onFlash f).epoch = s.epoch := rfl
@[simp] theorem State.onFlash_ld (s : State) (f : Flash → Flash) : (s.onFlash f).ld = s.ld := rfl
@[simp] theorem State.onFlash_rcd (s : State) (f : Flash → Flash) : (s.onFlash f).rcd = s.rcd := rfl
@[simp] theorem State.onFlash_flash (s : State) (f : Flash → Flash) : (s.onFlash f).flash = f s.flash := rfl
@[simp] theorem State.onFlash_win (s : State) (f : Flash → Flash) : (s.onFlash f).win = s.win := rfl
@[simp] theorem State.onFlash_jobs (s : State) (f : Flash → Flash) : (s.onFlash f).jobs = s.jobs := rfl
@[simp] theorem State.onFlash_zip (s : State) (f : Flash → Flash) : (s.onFlash f).zip = s.zip := rfl
@[simp] theorem State.onFlash_press (s : State) (f : Flash → Flash) : (s.onFlash f).press = s.press := rfl
@[simp] theorem State.onFlash_axes (s : State) (f : Flash → Flash) : (s.onFlash f).axes = s.axes := rfl
@[simp] theorem State.onFlash_sdram (s : State) (f : Flash → Flash) : (s.onFlash f).sdram = s.sdram := rfl
@[simp] theorem State.onFlash_meter (s : State) (f : Flash → Flash) : (s.onFlash f).meter = s.meter := rfl
@[simp] theorem State.onFlash_chains (s : State) (f : Flash → Flash) : (s.onFlash f).chains = s.chains := rfl
@[simp] theorem State.onFlash_disp (s : State) (f : Flash → Flash) : (s.onFlash f).disp = s.disp := rfl
@[simp] theorem State.onFlash_boot (s : State) (f : Flash → Flash) : (s.onFlash f).boot = s.boot := rfl
@[simp] theorem State.onFlash_mon (s : State) (f : Flash → Flash) : (s.onFlash f).mon = s.mon := rfl
@[simp] theorem State.onFlash_pair (s : State) (f : Flash → Flash) : (s.onFlash f).pair = s.pair := rfl
@[simp] theorem State.onFlash_cams (s : State) (f : Flash → Flash) : (s.onFlash f).cams = s.cams := rfl
@[simp] theorem State.onFlash_eye (s : State) (f : Flash → Flash) : (s.onFlash f).eye = s.eye := rfl
@[simp] theorem State.onFlash_auth (s : State) (f : Flash → Flash) : (s.onFlash f).auth = s.auth := rfl
@[simp] theorem State.onFlash_eth (s : State) (f : Flash → Flash) : (s.onFlash f).eth = s.eth := rfl
@[simp] theorem State.onFlash_irq (s : State) (f : Flash → Flash) : (s.onFlash f).irq = s.irq := rfl
@[simp] theorem State.onFlash_eng (s : State) (f : Flash → Flash) : (s.onFlash f).eng = s.eng := rfl
@[simp] theorem State.onFlash_host (s : State) (f : Flash → Flash) : (s.onFlash f).host = s.host := rfl

@[simp] theorem State.onMem_pending (s : State) (f : List Host.Cell → List Host.Cell) : (s.onMem f).pending = s.pending := rfl
@[simp] theorem State.onMem_variant (s : State) (f : List Host.Cell → List Host.Cell) : (s.onMem f).variant = s.variant := rfl
@[simp] theorem State.onMem_clk (s : State) (f : List Host.Cell → List Host.Cell) : (s.onMem f).clk = s.clk := rfl
@[simp] theorem State.onMem_drawn (s : State) (f : List Host.Cell → List Host.Cell) : (s.onMem f).drawn = s.drawn := rfl
@[simp] theorem State.onMem_live (s : State) (f : List Host.Cell → List Host.Cell) : (s.onMem f).live = s.live := rfl
@[simp] theorem State.onMem_staged (s : State) (f : List Host.Cell → List Host.Cell) : (s.onMem f).staged = s.staged := rfl
@[simp] theorem State.onMem_snap (s : State) (f : List Host.Cell → List Host.Cell) : (s.onMem f).snap = s.snap := rfl
@[simp] theorem State.onMem_snapImages (s : State) (f : List Host.Cell → List Host.Cell) : (s.onMem f).snapImages = s.snapImages := rfl
@[simp] theorem State.onMem_mem (s : State) (f : List Host.Cell → List Host.Cell) : (s.onMem f).mem = f s.mem := rfl
@[simp] theorem State.onMem_timeBase (s : State) (f : List Host.Cell → List Host.Cell) : (s.onMem f).timeBase = s.timeBase := rfl
@[simp] theorem State.onMem_rate (s : State) (f : List Host.Cell → List Host.Cell) : (s.onMem f).rate = s.rate := rfl
@[simp] theorem State.onMem_clock (s : State) (f : List Host.Cell → List Host.Cell) : (s.onMem f).clock = s.clock := rfl
@[simp] theorem State.onMem_epoch (s : State) (f : List Host.Cell → List Host.Cell) : (s.onMem f).epoch = s.epoch := rfl
@[simp] theorem State.onMem_ld (s : State) (f : List Host.Cell → List Host.Cell) : (s.onMem f).ld = s.ld := rfl
@[simp] theorem State.onMem_rcd (s : State) (f : List Host.Cell → List Host.Cell) : (s.onMem f).rcd = s.rcd := rfl
@[simp] theorem State.onMem_flash (s : State) (f : List Host.Cell → List Host.Cell) : (s.onMem f).flash = s.flash := rfl
@[simp] theorem State.onMem_win (s : State) (f : List Host.Cell → List Host.Cell) : (s.onMem f).win = s.win := rfl
@[simp] theorem State.onMem_jobs (s : State) (f : List Host.Cell → List Host.Cell) : (s.onMem f).jobs = s.jobs := rfl
@[simp] theorem State.onMem_zip (s : State) (f : List Host.Cell → List Host.Cell) : (s.onMem f).zip = s.zip := rfl
@[simp] theorem State.onMem_press (s : State) (f : List Host.Cell → List Host.Cell) : (s.onMem f).press = s.press := rfl
@[simp] theorem State.onMem_axes (s : State) (f : List Host.Cell → List Host.Cell) : (s.onMem f).axes = s.axes := rfl
@[simp] theorem State.onMem_sdram (s : State) (f : List Host.Cell → List Host.Cell) : (s.onMem f).sdram = s.sdram := rfl
@[simp] theorem State.onMem_meter (s : State) (f : List Host.Cell → List Host.Cell) : (s.onMem f).meter = s.meter := rfl
@[simp] theorem State.onMem_chains (s : State) (f : List Host.Cell → List Host.Cell) : (s.onMem f).chains = s.chains := rfl
@[simp] theorem State.onMem_disp (s : State) (f : List Host.Cell → List Host.Cell) : (s.onMem f).disp = s.disp := rfl
@[simp] theorem State.onMem_boot (s : State) (f : List Host.Cell → List Host.Cell) : (s.onMem f).boot = s.boot := rfl
@[simp] theorem State.onMem_mon (s : State) (f : List Host.Cell → List Host.Cell) : (s.onMem f).mon = s.mon := rfl
@[simp] theorem State.onMem_pair (s : State) (f : List Host.Cell → List Host.Cell) : (s.onMem f).pair = s.pair := rfl
@[simp] theorem State.onMem_cams (s : State) (f : List Host.Cell → List Host.Cell) : (s.onMem f).cams = s.cams := rfl
@[simp] theorem State.onMem_eye (s : State) (f : List Host.Cell → List Host.Cell) : (s.onMem f).eye = s.eye := rfl
@[simp] theorem State.onMem_auth (s : State) (f : List Host.Cell → List Host.Cell) : (s.onMem f).auth = s.auth := rfl
@[simp] theorem State.onMem_eth (s : State) (f : List Host.Cell → List Host.Cell) : (s.onMem f).eth = s.eth := rfl
@[simp] theorem State.onMem_irq (s : State) (f : List Host.Cell → List Host.Cell) : (s.onMem f).irq = s.irq := rfl
@[simp] theorem State.onMem_eng (s : State) (f : List Host.Cell → List Host.Cell) : (s.onMem f).eng = s.eng := rfl
@[simp] theorem State.onMem_host (s : State) (f : List Host.Cell → List Host.Cell) : (s.onMem f).host = s.host := rfl

@[simp] theorem State.onEpoch_pending (s : State) (f : Epoch → Epoch) : (s.onEpoch f).pending = s.pending := rfl
@[simp] theorem State.onEpoch_variant (s : State) (f : Epoch → Epoch) : (s.onEpoch f).variant = s.variant := rfl
@[simp] theorem State.onEpoch_clk (s : State) (f : Epoch → Epoch) : (s.onEpoch f).clk = s.clk := rfl
@[simp] theorem State.onEpoch_drawn (s : State) (f : Epoch → Epoch) : (s.onEpoch f).drawn = s.drawn := rfl
@[simp] theorem State.onEpoch_live (s : State) (f : Epoch → Epoch) : (s.onEpoch f).live = s.live := rfl
@[simp] theorem State.onEpoch_staged (s : State) (f : Epoch → Epoch) : (s.onEpoch f).staged = s.staged := rfl
@[simp] theorem State.onEpoch_snap (s : State) (f : Epoch → Epoch) : (s.onEpoch f).snap = s.snap := rfl
@[simp] theorem State.onEpoch_snapImages (s : State) (f : Epoch → Epoch) : (s.onEpoch f).snapImages = s.snapImages := rfl
@[simp] theorem State.onEpoch_mem (s : State) (f : Epoch → Epoch) : (s.onEpoch f).mem = s.mem := rfl
@[simp] theorem State.onEpoch_timeBase (s : State) (f : Epoch → Epoch) : (s.onEpoch f).timeBase = s.timeBase := rfl
@[simp] theorem State.onEpoch_rate (s : State) (f : Epoch → Epoch) : (s.onEpoch f).rate = s.rate := rfl
@[simp] theorem State.onEpoch_clock (s : State) (f : Epoch → Epoch) : (s.onEpoch f).clock = s.clock := rfl
@[simp] theorem State.onEpoch_epoch (s : State) (f : Epoch → Epoch) : (s.onEpoch f).epoch = f s.epoch := rfl
@[simp] theorem State.onEpoch_ld (s : State) (f : Epoch → Epoch) : (s.onEpoch f).ld = s.ld := rfl
@[simp] theorem State.onEpoch_rcd (s : State) (f : Epoch → Epoch) : (s.onEpoch f).rcd = s.rcd := rfl
@[simp] theorem State.onEpoch_flash (s : State) (f : Epoch → Epoch) : (s.onEpoch f).flash = s.flash := rfl
@[simp] theorem State.onEpoch_win (s : State) (f : Epoch → Epoch) : (s.onEpoch f).win = s.win := rfl
@[simp] theorem State.onEpoch_jobs (s : State) (f : Epoch → Epoch) : (s.onEpoch f).jobs = s.jobs := rfl
@[simp] theorem State.onEpoch_zip (s : State) (f : Epoch → Epoch) : (s.onEpoch f).zip = s.zip := rfl
@[simp] theorem State.onEpoch_press (s : State) (f : Epoch → Epoch) : (s.onEpoch f).press = s.press := rfl
@[simp] theorem State.onEpoch_axes (s : State) (f : Epoch → Epoch) : (s.onEpoch f).axes = s.axes := rfl
@[simp] theorem State.onEpoch_sdram (s : State) (f : Epoch → Epoch) : (s.onEpoch f).sdram = s.sdram := rfl
@[simp] theorem State.onEpoch_meter (s : State) (f : Epoch → Epoch) : (s.onEpoch f).meter = s.meter := rfl
@[simp] theorem State.onEpoch_chains (s : State) (f : Epoch → Epoch) : (s.onEpoch f).chains = s.chains := rfl
@[simp] theorem State.onEpoch_disp (s : State) (f : Epoch → Epoch) : (s.onEpoch f).disp = s.disp := rfl
@[simp] theorem State.onEpoch_boot (s : State) (f : Epoch → Epoch) : (s.onEpoch f).boot = s.boot := rfl
@[simp] theorem State.onEpoch_mon (s : State) (f : Epoch → Epoch) : (s.onEpoch f).mon = s.mon := rfl
@[simp] theorem State.onEpoch_pair (s : State) (f : Epoch → Epoch) : (s.onEpoch f).pair = s.pair := rfl
@[simp] theorem State.onEpoch_cams (s : State) (f : Epoch → Epoch) : (s.onEpoch f).cams = s.cams := rfl
@[simp] theorem State.onEpoch_eye (s : State) (f : Epoch → Epoch) : (s.onEpoch f).eye = s.eye := rfl
@[simp] theorem State.onEpoch_auth (s : State) (f : Epoch → Epoch) : (s.onEpoch f).auth = s.auth := rfl
@[simp] theorem State.onEpoch_eth (s : State) (f : Epoch → Epoch) : (s.onEpoch f).eth = s.eth := rfl
@[simp] theorem State.onEpoch_irq (s : State) (f : Epoch → Epoch) : (s.onEpoch f).irq = s.irq := rfl
@[simp] theorem State.onEpoch_eng (s : State) (f : Epoch → Epoch) : (s.onEpoch f).eng = s.eng := rfl
@[simp] theorem State.onEpoch_host (s : State) (f : Epoch → Epoch) : (s.onEpoch f).host = s.host := rfl

@[simp] theorem State.onAuth_pending (s : State) (f : Auth → Auth) : (s.onAuth f).pending = s.pending := rfl
@[simp] theorem State.onAuth_variant (s : State) (f : Auth → Auth) : (s.onAuth f).variant = s.variant := rfl
@[simp] theorem State.onAuth_clk (s : State) (f : Auth → Auth) : (s.onAuth f).clk = s.clk := rfl
@[simp] theorem State.onAuth_drawn (s : State) (f : Auth → Auth) : (s.onAuth f).drawn = s.drawn := rfl
@[simp] theorem State.onAuth_live (s : State) (f : Auth → Auth) : (s.onAuth f).live = s.live := rfl
@[simp] theorem State.onAuth_staged (s : State) (f : Auth → Auth) : (s.onAuth f).staged = s.staged := rfl
@[simp] theorem State.onAuth_snap (s : State) (f : Auth → Auth) : (s.onAuth f).snap = s.snap := rfl
@[simp] theorem State.onAuth_snapImages (s : State) (f : Auth → Auth) : (s.onAuth f).snapImages = s.snapImages := rfl
@[simp] theorem State.onAuth_mem (s : State) (f : Auth → Auth) : (s.onAuth f).mem = s.mem := rfl
@[simp] theorem State.onAuth_timeBase (s : State) (f : Auth → Auth) : (s.onAuth f).timeBase = s.timeBase := rfl
@[simp] theorem State.onAuth_rate (s : State) (f : Auth → Auth) : (s.onAuth f).rate = s.rate := rfl
@[simp] theorem State.onAuth_clock (s : State) (f : Auth → Auth) : (s.onAuth f).clock = s.clock := rfl
@[simp] theorem State.onAuth_epoch (s : State) (f : Auth → Auth) : (s.onAuth f).epoch = s.epoch := rfl
@[simp] theorem State.onAuth_ld (s : State) (f : Auth → Auth) : (s.onAuth f).ld = s.ld := rfl
@[simp] theorem State.onAuth_rcd (s : State) (f : Auth → Auth) : (s.onAuth f).rcd = s.rcd := rfl
@[simp] theorem State.onAuth_flash (s : State) (f : Auth → Auth) : (s.onAuth f).flash = s.flash := rfl
@[simp] theorem State.onAuth_win (s : State) (f : Auth → Auth) : (s.onAuth f).win = s.win := rfl
@[simp] theorem State.onAuth_jobs (s : State) (f : Auth → Auth) : (s.onAuth f).jobs = s.jobs := rfl
@[simp] theorem State.onAuth_zip (s : State) (f : Auth → Auth) : (s.onAuth f).zip = s.zip := rfl
@[simp] theorem State.onAuth_press (s : State) (f : Auth → Auth) : (s.onAuth f).press = s.press := rfl
@[simp] theorem State.onAuth_axes (s : State) (f : Auth → Auth) : (s.onAuth f).axes = s.axes := rfl
@[simp] theorem State.onAuth_sdram (s : State) (f : Auth → Auth) : (s.onAuth f).sdram = s.sdram := rfl
@[simp] theorem State.onAuth_meter (s : State) (f : Auth → Auth) : (s.onAuth f).meter = s.meter := rfl
@[simp] theorem State.onAuth_chains (s : State) (f : Auth → Auth) : (s.onAuth f).chains = s.chains := rfl
@[simp] theorem State.onAuth_disp (s : State) (f : Auth → Auth) : (s.onAuth f).disp = s.disp := rfl
@[simp] theorem State.onAuth_boot (s : State) (f : Auth → Auth) : (s.onAuth f).boot = s.boot := rfl
@[simp] theorem State.onAuth_mon (s : State) (f : Auth → Auth) : (s.onAuth f).mon = s.mon := rfl
@[simp] theorem State.onAuth_pair (s : State) (f : Auth → Auth) : (s.onAuth f).pair = s.pair := rfl
@[simp] theorem State.onAuth_cams (s : State) (f : Auth → Auth) : (s.onAuth f).cams = s.cams := rfl
@[simp] theorem State.onAuth_eye (s : State) (f : Auth → Auth) : (s.onAuth f).eye = s.eye := rfl
@[simp] theorem State.onAuth_auth (s : State) (f : Auth → Auth) : (s.onAuth f).auth = f s.auth := rfl
@[simp] theorem State.onAuth_eth (s : State) (f : Auth → Auth) : (s.onAuth f).eth = s.eth := rfl
@[simp] theorem State.onAuth_irq (s : State) (f : Auth → Auth) : (s.onAuth f).irq = s.irq := rfl
@[simp] theorem State.onAuth_eng (s : State) (f : Auth → Auth) : (s.onAuth f).eng = s.eng := rfl
@[simp] theorem State.onAuth_host (s : State) (f : Auth → Auth) : (s.onAuth f).host = s.host := rfl

@[simp] theorem State.onEth_pending (s : State) (f : Eth → Eth) : (s.onEth f).pending = s.pending := rfl
@[simp] theorem State.onEth_variant (s : State) (f : Eth → Eth) : (s.onEth f).variant = s.variant := rfl
@[simp] theorem State.onEth_clk (s : State) (f : Eth → Eth) : (s.onEth f).clk = s.clk := rfl
@[simp] theorem State.onEth_drawn (s : State) (f : Eth → Eth) : (s.onEth f).drawn = s.drawn := rfl
@[simp] theorem State.onEth_live (s : State) (f : Eth → Eth) : (s.onEth f).live = s.live := rfl
@[simp] theorem State.onEth_staged (s : State) (f : Eth → Eth) : (s.onEth f).staged = s.staged := rfl
@[simp] theorem State.onEth_snap (s : State) (f : Eth → Eth) : (s.onEth f).snap = s.snap := rfl
@[simp] theorem State.onEth_snapImages (s : State) (f : Eth → Eth) : (s.onEth f).snapImages = s.snapImages := rfl
@[simp] theorem State.onEth_mem (s : State) (f : Eth → Eth) : (s.onEth f).mem = s.mem := rfl
@[simp] theorem State.onEth_timeBase (s : State) (f : Eth → Eth) : (s.onEth f).timeBase = s.timeBase := rfl
@[simp] theorem State.onEth_rate (s : State) (f : Eth → Eth) : (s.onEth f).rate = s.rate := rfl
@[simp] theorem State.onEth_clock (s : State) (f : Eth → Eth) : (s.onEth f).clock = s.clock := rfl
@[simp] theorem State.onEth_epoch (s : State) (f : Eth → Eth) : (s.onEth f).epoch = s.epoch := rfl
@[simp] theorem State.onEth_ld (s : State) (f : Eth → Eth) : (s.onEth f).ld = s.ld := rfl
@[simp] theorem State.onEth_rcd (s : State) (f : Eth → Eth) : (s.onEth f).rcd = s.rcd := rfl
@[simp] theorem State.onEth_flash (s : State) (f : Eth → Eth) : (s.onEth f).flash = s.flash := rfl
@[simp] theorem State.onEth_win (s : State) (f : Eth → Eth) : (s.onEth f).win = s.win := rfl
@[simp] theorem State.onEth_jobs (s : State) (f : Eth → Eth) : (s.onEth f).jobs = s.jobs := rfl
@[simp] theorem State.onEth_zip (s : State) (f : Eth → Eth) : (s.onEth f).zip = s.zip := rfl
@[simp] theorem State.onEth_press (s : State) (f : Eth → Eth) : (s.onEth f).press = s.press := rfl
@[simp] theorem State.onEth_axes (s : State) (f : Eth → Eth) : (s.onEth f).axes = s.axes := rfl
@[simp] theorem State.onEth_sdram (s : State) (f : Eth → Eth) : (s.onEth f).sdram = s.sdram := rfl
@[simp] theorem State.onEth_meter (s : State) (f : Eth → Eth) : (s.onEth f).meter = s.meter := rfl
@[simp] theorem State.onEth_chains (s : State) (f : Eth → Eth) : (s.onEth f).chains = s.chains := rfl
@[simp] theorem State.onEth_disp (s : State) (f : Eth → Eth) : (s.onEth f).disp = s.disp := rfl
@[simp] theorem State.onEth_boot (s : State) (f : Eth → Eth) : (s.onEth f).boot = s.boot := rfl
@[simp] theorem State.onEth_mon (s : State) (f : Eth → Eth) : (s.onEth f).mon = s.mon := rfl
@[simp] theorem State.onEth_pair (s : State) (f : Eth → Eth) : (s.onEth f).pair = s.pair := rfl
@[simp] theorem State.onEth_cams (s : State) (f : Eth → Eth) : (s.onEth f).cams = s.cams := rfl
@[simp] theorem State.onEth_eye (s : State) (f : Eth → Eth) : (s.onEth f).eye = s.eye := rfl
@[simp] theorem State.onEth_auth (s : State) (f : Eth → Eth) : (s.onEth f).auth = s.auth := rfl
@[simp] theorem State.onEth_eth (s : State) (f : Eth → Eth) : (s.onEth f).eth = f s.eth := rfl
@[simp] theorem State.onEth_irq (s : State) (f : Eth → Eth) : (s.onEth f).irq = s.irq := rfl
@[simp] theorem State.onEth_eng (s : State) (f : Eth → Eth) : (s.onEth f).eng = s.eng := rfl
@[simp] theorem State.onEth_host (s : State) (f : Eth → Eth) : (s.onEth f).host = s.host := rfl

@[simp] theorem State.onJobs_pending (s : State) (f : Jobs → Jobs) : (s.onJobs f).pending = s.pending := rfl
@[simp] theorem State.onJobs_variant (s : State) (f : Jobs → Jobs) : (s.onJobs f).variant = s.variant := rfl
@[simp] theorem State.onJobs_clk (s : State) (f : Jobs → Jobs) : (s.onJobs f).clk = s.clk := rfl
@[simp] theorem State.onJobs_drawn (s : State) (f : Jobs → Jobs) : (s.onJobs f).drawn = s.drawn := rfl
@[simp] theorem State.onJobs_live (s : State) (f : Jobs → Jobs) : (s.onJobs f).live = s.live := rfl
@[simp] theorem State.onJobs_staged (s : State) (f : Jobs → Jobs) : (s.onJobs f).staged = s.staged := rfl
@[simp] theorem State.onJobs_snap (s : State) (f : Jobs → Jobs) : (s.onJobs f).snap = s.snap := rfl
@[simp] theorem State.onJobs_snapImages (s : State) (f : Jobs → Jobs) : (s.onJobs f).snapImages = s.snapImages := rfl
@[simp] theorem State.onJobs_mem (s : State) (f : Jobs → Jobs) : (s.onJobs f).mem = s.mem := rfl
@[simp] theorem State.onJobs_timeBase (s : State) (f : Jobs → Jobs) : (s.onJobs f).timeBase = s.timeBase := rfl
@[simp] theorem State.onJobs_rate (s : State) (f : Jobs → Jobs) : (s.onJobs f).rate = s.rate := rfl
@[simp] theorem State.onJobs_clock (s : State) (f : Jobs → Jobs) : (s.onJobs f).clock = s.clock := rfl
@[simp] theorem State.onJobs_epoch (s : State) (f : Jobs → Jobs) : (s.onJobs f).epoch = s.epoch := rfl
@[simp] theorem State.onJobs_ld (s : State) (f : Jobs → Jobs) : (s.onJobs f).ld = s.ld := rfl
@[simp] theorem State.onJobs_rcd (s : State) (f : Jobs → Jobs) : (s.onJobs f).rcd = s.rcd := rfl
@[simp] theorem State.onJobs_flash (s : State) (f : Jobs → Jobs) : (s.onJobs f).flash = s.flash := rfl
@[simp] theorem State.onJobs_win (s : State) (f : Jobs → Jobs) : (s.onJobs f).win = s.win := rfl
@[simp] theorem State.onJobs_jobs (s : State) (f : Jobs → Jobs) : (s.onJobs f).jobs = f s.jobs := rfl
@[simp] theorem State.onJobs_zip (s : State) (f : Jobs → Jobs) : (s.onJobs f).zip = s.zip := rfl
@[simp] theorem State.onJobs_press (s : State) (f : Jobs → Jobs) : (s.onJobs f).press = s.press := rfl
@[simp] theorem State.onJobs_axes (s : State) (f : Jobs → Jobs) : (s.onJobs f).axes = s.axes := rfl
@[simp] theorem State.onJobs_sdram (s : State) (f : Jobs → Jobs) : (s.onJobs f).sdram = s.sdram := rfl
@[simp] theorem State.onJobs_meter (s : State) (f : Jobs → Jobs) : (s.onJobs f).meter = s.meter := rfl
@[simp] theorem State.onJobs_chains (s : State) (f : Jobs → Jobs) : (s.onJobs f).chains = s.chains := rfl
@[simp] theorem State.onJobs_disp (s : State) (f : Jobs → Jobs) : (s.onJobs f).disp = s.disp := rfl
@[simp] theorem State.onJobs_boot (s : State) (f : Jobs → Jobs) : (s.onJobs f).boot = s.boot := rfl
@[simp] theorem State.onJobs_mon (s : State) (f : Jobs → Jobs) : (s.onJobs f).mon = s.mon := rfl
@[simp] theorem State.onJobs_pair (s : State) (f : Jobs → Jobs) : (s.onJobs f).pair = s.pair := rfl
@[simp] theorem State.onJobs_cams (s : State) (f : Jobs → Jobs) : (s.onJobs f).cams = s.cams := rfl
@[simp] theorem State.onJobs_eye (s : State) (f : Jobs → Jobs) : (s.onJobs f).eye = s.eye := rfl
@[simp] theorem State.onJobs_auth (s : State) (f : Jobs → Jobs) : (s.onJobs f).auth = s.auth := rfl
@[simp] theorem State.onJobs_eth (s : State) (f : Jobs → Jobs) : (s.onJobs f).eth = s.eth := rfl
@[simp] theorem State.onJobs_irq (s : State) (f : Jobs → Jobs) : (s.onJobs f).irq = s.irq := rfl
@[simp] theorem State.onJobs_eng (s : State) (f : Jobs → Jobs) : (s.onJobs f).eng = s.eng := rfl
@[simp] theorem State.onJobs_host (s : State) (f : Jobs → Jobs) : (s.onJobs f).host = s.host := rfl

@[simp] theorem State.onLd_pending (s : State) (f : Loader → Loader) : (s.onLd f).pending = s.pending := rfl
@[simp] theorem State.onLd_variant (s : State) (f : Loader → Loader) : (s.onLd f).variant = s.variant := rfl
@[simp] theorem State.onLd_clk (s : State) (f : Loader → Loader) : (s.onLd f).clk = s.clk := rfl
@[simp] theorem State.onLd_drawn (s : State) (f : Loader → Loader) : (s.onLd f).drawn = s.drawn := rfl
@[simp] theorem State.onLd_live (s : State) (f : Loader → Loader) : (s.onLd f).live = s.live := rfl
@[simp] theorem State.onLd_staged (s : State) (f : Loader → Loader) : (s.onLd f).staged = s.staged := rfl
@[simp] theorem State.onLd_snap (s : State) (f : Loader → Loader) : (s.onLd f).snap = s.snap := rfl
@[simp] theorem State.onLd_snapImages (s : State) (f : Loader → Loader) : (s.onLd f).snapImages = s.snapImages := rfl
@[simp] theorem State.onLd_mem (s : State) (f : Loader → Loader) : (s.onLd f).mem = s.mem := rfl
@[simp] theorem State.onLd_timeBase (s : State) (f : Loader → Loader) : (s.onLd f).timeBase = s.timeBase := rfl
@[simp] theorem State.onLd_rate (s : State) (f : Loader → Loader) : (s.onLd f).rate = s.rate := rfl
@[simp] theorem State.onLd_clock (s : State) (f : Loader → Loader) : (s.onLd f).clock = s.clock := rfl
@[simp] theorem State.onLd_epoch (s : State) (f : Loader → Loader) : (s.onLd f).epoch = s.epoch := rfl
@[simp] theorem State.onLd_ld (s : State) (f : Loader → Loader) : (s.onLd f).ld = f s.ld := rfl
@[simp] theorem State.onLd_rcd (s : State) (f : Loader → Loader) : (s.onLd f).rcd = s.rcd := rfl
@[simp] theorem State.onLd_flash (s : State) (f : Loader → Loader) : (s.onLd f).flash = s.flash := rfl
@[simp] theorem State.onLd_win (s : State) (f : Loader → Loader) : (s.onLd f).win = s.win := rfl
@[simp] theorem State.onLd_jobs (s : State) (f : Loader → Loader) : (s.onLd f).jobs = s.jobs := rfl
@[simp] theorem State.onLd_zip (s : State) (f : Loader → Loader) : (s.onLd f).zip = s.zip := rfl
@[simp] theorem State.onLd_press (s : State) (f : Loader → Loader) : (s.onLd f).press = s.press := rfl
@[simp] theorem State.onLd_axes (s : State) (f : Loader → Loader) : (s.onLd f).axes = s.axes := rfl
@[simp] theorem State.onLd_sdram (s : State) (f : Loader → Loader) : (s.onLd f).sdram = s.sdram := rfl
@[simp] theorem State.onLd_meter (s : State) (f : Loader → Loader) : (s.onLd f).meter = s.meter := rfl
@[simp] theorem State.onLd_chains (s : State) (f : Loader → Loader) : (s.onLd f).chains = s.chains := rfl
@[simp] theorem State.onLd_disp (s : State) (f : Loader → Loader) : (s.onLd f).disp = s.disp := rfl
@[simp] theorem State.onLd_boot (s : State) (f : Loader → Loader) : (s.onLd f).boot = s.boot := rfl
@[simp] theorem State.onLd_mon (s : State) (f : Loader → Loader) : (s.onLd f).mon = s.mon := rfl
@[simp] theorem State.onLd_pair (s : State) (f : Loader → Loader) : (s.onLd f).pair = s.pair := rfl
@[simp] theorem State.onLd_cams (s : State) (f : Loader → Loader) : (s.onLd f).cams = s.cams := rfl
@[simp] theorem State.onLd_eye (s : State) (f : Loader → Loader) : (s.onLd f).eye = s.eye := rfl
@[simp] theorem State.onLd_auth (s : State) (f : Loader → Loader) : (s.onLd f).auth = s.auth := rfl
@[simp] theorem State.onLd_eth (s : State) (f : Loader → Loader) : (s.onLd f).eth = s.eth := rfl
@[simp] theorem State.onLd_irq (s : State) (f : Loader → Loader) : (s.onLd f).irq = s.irq := rfl
@[simp] theorem State.onLd_eng (s : State) (f : Loader → Loader) : (s.onLd f).eng = s.eng := rfl
@[simp] theorem State.onLd_host (s : State) (f : Loader → Loader) : (s.onLd f).host = s.host := rfl

@[simp] theorem State.onBoot_pending (s : State) (f : Boot → Boot) : (s.onBoot f).pending = s.pending := rfl
@[simp] theorem State.onBoot_variant (s : State) (f : Boot → Boot) : (s.onBoot f).variant = s.variant := rfl
@[simp] theorem State.onBoot_clk (s : State) (f : Boot → Boot) : (s.onBoot f).clk = s.clk := rfl
@[simp] theorem State.onBoot_drawn (s : State) (f : Boot → Boot) : (s.onBoot f).drawn = s.drawn := rfl
@[simp] theorem State.onBoot_live (s : State) (f : Boot → Boot) : (s.onBoot f).live = s.live := rfl
@[simp] theorem State.onBoot_staged (s : State) (f : Boot → Boot) : (s.onBoot f).staged = s.staged := rfl
@[simp] theorem State.onBoot_snap (s : State) (f : Boot → Boot) : (s.onBoot f).snap = s.snap := rfl
@[simp] theorem State.onBoot_snapImages (s : State) (f : Boot → Boot) : (s.onBoot f).snapImages = s.snapImages := rfl
@[simp] theorem State.onBoot_mem (s : State) (f : Boot → Boot) : (s.onBoot f).mem = s.mem := rfl
@[simp] theorem State.onBoot_timeBase (s : State) (f : Boot → Boot) : (s.onBoot f).timeBase = s.timeBase := rfl
@[simp] theorem State.onBoot_rate (s : State) (f : Boot → Boot) : (s.onBoot f).rate = s.rate := rfl
@[simp] theorem State.onBoot_clock (s : State) (f : Boot → Boot) : (s.onBoot f).clock = s.clock := rfl
@[simp] theorem State.onBoot_epoch (s : State) (f : Boot → Boot) : (s.onBoot f).epoch = s.epoch := rfl
@[simp] theorem State.onBoot_ld (s : State) (f : Boot → Boot) : (s.onBoot f).ld = s.ld := rfl
@[simp] theorem State.onBoot_rcd (s : State) (f : Boot → Boot) : (s.onBoot f).rcd = s.rcd := rfl
@[simp] theorem State.onBoot_flash (s : State) (f : Boot → Boot) : (s.onBoot f).flash = s.flash := rfl
@[simp] theorem State.onBoot_win (s : State) (f : Boot → Boot) : (s.onBoot f).win = s.win := rfl
@[simp] theorem State.onBoot_jobs (s : State) (f : Boot → Boot) : (s.onBoot f).jobs = s.jobs := rfl
@[simp] theorem State.onBoot_zip (s : State) (f : Boot → Boot) : (s.onBoot f).zip = s.zip := rfl
@[simp] theorem State.onBoot_press (s : State) (f : Boot → Boot) : (s.onBoot f).press = s.press := rfl
@[simp] theorem State.onBoot_axes (s : State) (f : Boot → Boot) : (s.onBoot f).axes = s.axes := rfl
@[simp] theorem State.onBoot_sdram (s : State) (f : Boot → Boot) : (s.onBoot f).sdram = s.sdram := rfl
@[simp] theorem State.onBoot_meter (s : State) (f : Boot → Boot) : (s.onBoot f).meter = s.meter := rfl
@[simp] theorem State.onBoot_chains (s : State) (f : Boot → Boot) : (s.onBoot f).chains = s.chains := rfl
@[simp] theorem State.onBoot_disp (s : State) (f : Boot → Boot) : (s.onBoot f).disp = s.disp := rfl
@[simp] theorem State.onBoot_boot (s : State) (f : Boot → Boot) : (s.onBoot f).boot = f s.boot := rfl
@[simp] theorem State.onBoot_mon (s : State) (f : Boot → Boot) : (s.onBoot f).mon = s.mon := rfl
@[simp] theorem State.onBoot_pair (s : State) (f : Boot → Boot) : (s.onBoot f).pair = s.pair := rfl
@[simp] theorem State.onBoot_cams (s : State) (f : Boot → Boot) : (s.onBoot f).cams = s.cams := rfl
@[simp] theorem State.onBoot_eye (s : State) (f : Boot → Boot) : (s.onBoot f).eye = s.eye := rfl
@[simp] theorem State.onBoot_auth (s : State) (f : Boot → Boot) : (s.onBoot f).auth = s.auth := rfl
@[simp] theorem State.onBoot_eth (s : State) (f : Boot → Boot) : (s.onBoot f).eth = s.eth := rfl
@[simp] theorem State.onBoot_irq (s : State) (f : Boot → Boot) : (s.onBoot f).irq = s.irq := rfl
@[simp] theorem State.onBoot_eng (s : State) (f : Boot → Boot) : (s.onBoot f).eng = s.eng := rfl
@[simp] theorem State.onBoot_host (s : State) (f : Boot → Boot) : (s.onBoot f).host = s.host := rfl

@[simp] theorem State.onPress_pending (s : State) (f : Press → Press) : (s.onPress f).pending = s.pending := rfl
@[simp] theorem State.onPress_variant (s : State) (f : Press → Press) : (s.onPress f).variant = s.variant := rfl
@[simp] theorem State.onPress_clk (s : State) (f : Press → Press) : (s.onPress f).clk = s.clk := rfl
@[simp] theorem State.onPress_drawn (s : State) (f : Press → Press) : (s.onPress f).drawn = s.drawn := rfl
@[simp] theorem State.onPress_live (s : State) (f : Press → Press) : (s.onPress f).live = s.live := rfl
@[simp] theorem State.onPress_staged (s : State) (f : Press → Press) : (s.onPress f).staged = s.staged := rfl
@[simp] theorem State.onPress_snap (s : State) (f : Press → Press) : (s.onPress f).snap = s.snap := rfl
@[simp] theorem State.onPress_snapImages (s : State) (f : Press → Press) : (s.onPress f).snapImages = s.snapImages := rfl
@[simp] theorem State.onPress_mem (s : State) (f : Press → Press) : (s.onPress f).mem = s.mem := rfl
@[simp] theorem State.onPress_timeBase (s : State) (f : Press → Press) : (s.onPress f).timeBase = s.timeBase := rfl
@[simp] theorem State.onPress_rate (s : State) (f : Press → Press) : (s.onPress f).rate = s.rate := rfl
@[simp] theorem State.onPress_clock (s : State) (f : Press → Press) : (s.onPress f).clock = s.clock := rfl
@[simp] theorem State.onPress_epoch (s : State) (f : Press → Press) : (s.onPress f).epoch = s.epoch := rfl
@[simp] theorem State.onPress_ld (s : State) (f : Press → Press) : (s.onPress f).ld = s.ld := rfl
@[simp] theorem State.onPress_rcd (s : State) (f : Press → Press) : (s.onPress f).rcd = s.rcd := rfl
@[simp] theorem State.onPress_flash (s : State) (f : Press → Press) : (s.onPress f).flash = s.flash := rfl
@[simp] theorem State.onPress_win (s : State) (f : Press → Press) : (s.onPress f).win = s.win := rfl
@[simp] theorem State.onPress_jobs (s : State) (f : Press → Press) : (s.onPress f).jobs = s.jobs := rfl
@[simp] theorem State.onPress_zip (s : State) (f : Press → Press) : (s.onPress f).zip = s.zip := rfl
@[simp] theorem State.onPress_press (s : State) (f : Press → Press) : (s.onPress f).press = f s.press := rfl
@[simp] theorem State.onPress_axes (s : State) (f : Press → Press) : (s.onPress f).axes = s.axes := rfl
@[simp] theorem State.onPress_sdram (s : State) (f : Press → Press) : (s.onPress f).sdram = s.sdram := rfl
@[simp] theorem State.onPress_meter (s : State) (f : Press → Press) : (s.onPress f).meter = s.meter := rfl
@[simp] theorem State.onPress_chains (s : State) (f : Press → Press) : (s.onPress f).chains = s.chains := rfl
@[simp] theorem State.onPress_disp (s : State) (f : Press → Press) : (s.onPress f).disp = s.disp := rfl
@[simp] theorem State.onPress_boot (s : State) (f : Press → Press) : (s.onPress f).boot = s.boot := rfl
@[simp] theorem State.onPress_mon (s : State) (f : Press → Press) : (s.onPress f).mon = s.mon := rfl
@[simp] theorem State.onPress_pair (s : State) (f : Press → Press) : (s.onPress f).pair = s.pair := rfl
@[simp] theorem State.onPress_cams (s : State) (f : Press → Press) : (s.onPress f).cams = s.cams := rfl
@[simp] theorem State.onPress_eye (s : State) (f : Press → Press) : (s.onPress f).eye = s.eye := rfl
@[simp] theorem State.onPress_auth (s : State) (f : Press → Press) : (s.onPress f).auth = s.auth := rfl
@[simp] theorem State.onPress_eth (s : State) (f : Press → Press) : (s.onPress f).eth = s.eth := rfl
@[simp] theorem State.onPress_irq (s : State) (f : Press → Press) : (s.onPress f).irq = s.irq := rfl
@[simp] theorem State.onPress_eng (s : State) (f : Press → Press) : (s.onPress f).eng = s.eng := rfl
@[simp] theorem State.onPress_host (s : State) (f : Press → Press) : (s.onPress f).host = s.host := rfl

@[simp] theorem State.onMeter_pending (s : State) (f : Meter → Meter) : (s.onMeter f).pending = s.pending := rfl
@[simp] theorem State.onMeter_variant (s : State) (f : Meter → Meter) : (s.onMeter f).variant = s.variant := rfl
@[simp] theorem State.onMeter_clk (s : State) (f : Meter → Meter) : (s.onMeter f).clk = s.clk := rfl
@[simp] theorem State.onMeter_drawn (s : State) (f : Meter → Meter) : (s.onMeter f).drawn = s.drawn := rfl
@[simp] theorem State.onMeter_live (s : State) (f : Meter → Meter) : (s.onMeter f).live = s.live := rfl
@[simp] theorem State.onMeter_staged (s : State) (f : Meter → Meter) : (s.onMeter f).staged = s.staged := rfl
@[simp] theorem State.onMeter_snap (s : State) (f : Meter → Meter) : (s.onMeter f).snap = s.snap := rfl
@[simp] theorem State.onMeter_snapImages (s : State) (f : Meter → Meter) : (s.onMeter f).snapImages = s.snapImages := rfl
@[simp] theorem State.onMeter_mem (s : State) (f : Meter → Meter) : (s.onMeter f).mem = s.mem := rfl
@[simp] theorem State.onMeter_timeBase (s : State) (f : Meter → Meter) : (s.onMeter f).timeBase = s.timeBase := rfl
@[simp] theorem State.onMeter_rate (s : State) (f : Meter → Meter) : (s.onMeter f).rate = s.rate := rfl
@[simp] theorem State.onMeter_clock (s : State) (f : Meter → Meter) : (s.onMeter f).clock = s.clock := rfl
@[simp] theorem State.onMeter_epoch (s : State) (f : Meter → Meter) : (s.onMeter f).epoch = s.epoch := rfl
@[simp] theorem State.onMeter_ld (s : State) (f : Meter → Meter) : (s.onMeter f).ld = s.ld := rfl
@[simp] theorem State.onMeter_rcd (s : State) (f : Meter → Meter) : (s.onMeter f).rcd = s.rcd := rfl
@[simp] theorem State.onMeter_flash (s : State) (f : Meter → Meter) : (s.onMeter f).flash = s.flash := rfl
@[simp] theorem State.onMeter_win (s : State) (f : Meter → Meter) : (s.onMeter f).win = s.win := rfl
@[simp] theorem State.onMeter_jobs (s : State) (f : Meter → Meter) : (s.onMeter f).jobs = s.jobs := rfl
@[simp] theorem State.onMeter_zip (s : State) (f : Meter → Meter) : (s.onMeter f).zip = s.zip := rfl
@[simp] theorem State.onMeter_press (s : State) (f : Meter → Meter) : (s.onMeter f).press = s.press := rfl
@[simp] theorem State.onMeter_axes (s : State) (f : Meter → Meter) : (s.onMeter f).axes = s.axes := rfl
@[simp] theorem State.onMeter_sdram (s : State) (f : Meter → Meter) : (s.onMeter f).sdram = s.sdram := rfl
@[simp] theorem State.onMeter_meter (s : State) (f : Meter → Meter) : (s.onMeter f).meter = f s.meter := rfl
@[simp] theorem State.onMeter_chains (s : State) (f : Meter → Meter) : (s.onMeter f).chains = s.chains := rfl
@[simp] theorem State.onMeter_disp (s : State) (f : Meter → Meter) : (s.onMeter f).disp = s.disp := rfl
@[simp] theorem State.onMeter_boot (s : State) (f : Meter → Meter) : (s.onMeter f).boot = s.boot := rfl
@[simp] theorem State.onMeter_mon (s : State) (f : Meter → Meter) : (s.onMeter f).mon = s.mon := rfl
@[simp] theorem State.onMeter_pair (s : State) (f : Meter → Meter) : (s.onMeter f).pair = s.pair := rfl
@[simp] theorem State.onMeter_cams (s : State) (f : Meter → Meter) : (s.onMeter f).cams = s.cams := rfl
@[simp] theorem State.onMeter_eye (s : State) (f : Meter → Meter) : (s.onMeter f).eye = s.eye := rfl
@[simp] theorem State.onMeter_auth (s : State) (f : Meter → Meter) : (s.onMeter f).auth = s.auth := rfl
@[simp] theorem State.onMeter_eth (s : State) (f : Meter → Meter) : (s.onMeter f).eth = s.eth := rfl
@[simp] theorem State.onMeter_irq (s : State) (f : Meter → Meter) : (s.onMeter f).irq = s.irq := rfl
@[simp] theorem State.onMeter_eng (s : State) (f : Meter → Meter) : (s.onMeter f).eng = s.eng := rfl
@[simp] theorem State.onMeter_host (s : State) (f : Meter → Meter) : (s.onMeter f).host = s.host := rfl

@[simp] theorem State.onMon_pending (s : State) (f : Mon → Mon) : (s.onMon f).pending = s.pending := rfl
@[simp] theorem State.onMon_variant (s : State) (f : Mon → Mon) : (s.onMon f).variant = s.variant := rfl
@[simp] theorem State.onMon_clk (s : State) (f : Mon → Mon) : (s.onMon f).clk = s.clk := rfl
@[simp] theorem State.onMon_drawn (s : State) (f : Mon → Mon) : (s.onMon f).drawn = s.drawn := rfl
@[simp] theorem State.onMon_live (s : State) (f : Mon → Mon) : (s.onMon f).live = s.live := rfl
@[simp] theorem State.onMon_staged (s : State) (f : Mon → Mon) : (s.onMon f).staged = s.staged := rfl
@[simp] theorem State.onMon_snap (s : State) (f : Mon → Mon) : (s.onMon f).snap = s.snap := rfl
@[simp] theorem State.onMon_snapImages (s : State) (f : Mon → Mon) : (s.onMon f).snapImages = s.snapImages := rfl
@[simp] theorem State.onMon_mem (s : State) (f : Mon → Mon) : (s.onMon f).mem = s.mem := rfl
@[simp] theorem State.onMon_timeBase (s : State) (f : Mon → Mon) : (s.onMon f).timeBase = s.timeBase := rfl
@[simp] theorem State.onMon_rate (s : State) (f : Mon → Mon) : (s.onMon f).rate = s.rate := rfl
@[simp] theorem State.onMon_clock (s : State) (f : Mon → Mon) : (s.onMon f).clock = s.clock := rfl
@[simp] theorem State.onMon_epoch (s : State) (f : Mon → Mon) : (s.onMon f).epoch = s.epoch := rfl
@[simp] theorem State.onMon_ld (s : State) (f : Mon → Mon) : (s.onMon f).ld = s.ld := rfl
@[simp] theorem State.onMon_rcd (s : State) (f : Mon → Mon) : (s.onMon f).rcd = s.rcd := rfl
@[simp] theorem State.onMon_flash (s : State) (f : Mon → Mon) : (s.onMon f).flash = s.flash := rfl
@[simp] theorem State.onMon_win (s : State) (f : Mon → Mon) : (s.onMon f).win = s.win := rfl
@[simp] theorem State.onMon_jobs (s : State) (f : Mon → Mon) : (s.onMon f).jobs = s.jobs := rfl
@[simp] theorem State.onMon_zip (s : State) (f : Mon → Mon) : (s.onMon f).zip = s.zip := rfl
@[simp] theorem State.onMon_press (s : State) (f : Mon → Mon) : (s.onMon f).press = s.press := rfl
@[simp] theorem State.onMon_axes (s : State) (f : Mon → Mon) : (s.onMon f).axes = s.axes := rfl
@[simp] theorem State.onMon_sdram (s : State) (f : Mon → Mon) : (s.onMon f).sdram = s.sdram := rfl
@[simp] theorem State.onMon_meter (s : State) (f : Mon → Mon) : (s.onMon f).meter = s.meter := rfl
@[simp] theorem State.onMon_chains (s : State) (f : Mon → Mon) : (s.onMon f).chains = s.chains := rfl
@[simp] theorem State.onMon_disp (s : State) (f : Mon → Mon) : (s.onMon f).disp = s.disp := rfl
@[simp] theorem State.onMon_boot (s : State) (f : Mon → Mon) : (s.onMon f).boot = s.boot := rfl
@[simp] theorem State.onMon_mon (s : State) (f : Mon → Mon) : (s.onMon f).mon = f s.mon := rfl
@[simp] theorem State.onMon_pair (s : State) (f : Mon → Mon) : (s.onMon f).pair = s.pair := rfl
@[simp] theorem State.onMon_cams (s : State) (f : Mon → Mon) : (s.onMon f).cams = s.cams := rfl
@[simp] theorem State.onMon_eye (s : State) (f : Mon → Mon) : (s.onMon f).eye = s.eye := rfl
@[simp] theorem State.onMon_auth (s : State) (f : Mon → Mon) : (s.onMon f).auth = s.auth := rfl
@[simp] theorem State.onMon_eth (s : State) (f : Mon → Mon) : (s.onMon f).eth = s.eth := rfl
@[simp] theorem State.onMon_irq (s : State) (f : Mon → Mon) : (s.onMon f).irq = s.irq := rfl
@[simp] theorem State.onMon_eng (s : State) (f : Mon → Mon) : (s.onMon f).eng = s.eng := rfl
@[simp] theorem State.onMon_host (s : State) (f : Mon → Mon) : (s.onMon f).host = s.host := rfl

@[simp] theorem State.onDisp_pending (s : State) (f : Disp → Disp) : (s.onDisp f).pending = s.pending := rfl
@[simp] theorem State.onDisp_variant (s : State) (f : Disp → Disp) : (s.onDisp f).variant = s.variant := rfl
@[simp] theorem State.onDisp_clk (s : State) (f : Disp → Disp) : (s.onDisp f).clk = s.clk := rfl
@[simp] theorem State.onDisp_drawn (s : State) (f : Disp → Disp) : (s.onDisp f).drawn = s.drawn := rfl
@[simp] theorem State.onDisp_live (s : State) (f : Disp → Disp) : (s.onDisp f).live = s.live := rfl
@[simp] theorem State.onDisp_staged (s : State) (f : Disp → Disp) : (s.onDisp f).staged = s.staged := rfl
@[simp] theorem State.onDisp_snap (s : State) (f : Disp → Disp) : (s.onDisp f).snap = s.snap := rfl
@[simp] theorem State.onDisp_snapImages (s : State) (f : Disp → Disp) : (s.onDisp f).snapImages = s.snapImages := rfl
@[simp] theorem State.onDisp_mem (s : State) (f : Disp → Disp) : (s.onDisp f).mem = s.mem := rfl
@[simp] theorem State.onDisp_timeBase (s : State) (f : Disp → Disp) : (s.onDisp f).timeBase = s.timeBase := rfl
@[simp] theorem State.onDisp_rate (s : State) (f : Disp → Disp) : (s.onDisp f).rate = s.rate := rfl
@[simp] theorem State.onDisp_clock (s : State) (f : Disp → Disp) : (s.onDisp f).clock = s.clock := rfl
@[simp] theorem State.onDisp_epoch (s : State) (f : Disp → Disp) : (s.onDisp f).epoch = s.epoch := rfl
@[simp] theorem State.onDisp_ld (s : State) (f : Disp → Disp) : (s.onDisp f).ld = s.ld := rfl
@[simp] theorem State.onDisp_rcd (s : State) (f : Disp → Disp) : (s.onDisp f).rcd = s.rcd := rfl
@[simp] theorem State.onDisp_flash (s : State) (f : Disp → Disp) : (s.onDisp f).flash = s.flash := rfl
@[simp] theorem State.onDisp_win (s : State) (f : Disp → Disp) : (s.onDisp f).win = s.win := rfl
@[simp] theorem State.onDisp_jobs (s : State) (f : Disp → Disp) : (s.onDisp f).jobs = s.jobs := rfl
@[simp] theorem State.onDisp_zip (s : State) (f : Disp → Disp) : (s.onDisp f).zip = s.zip := rfl
@[simp] theorem State.onDisp_press (s : State) (f : Disp → Disp) : (s.onDisp f).press = s.press := rfl
@[simp] theorem State.onDisp_axes (s : State) (f : Disp → Disp) : (s.onDisp f).axes = s.axes := rfl
@[simp] theorem State.onDisp_sdram (s : State) (f : Disp → Disp) : (s.onDisp f).sdram = s.sdram := rfl
@[simp] theorem State.onDisp_meter (s : State) (f : Disp → Disp) : (s.onDisp f).meter = s.meter := rfl
@[simp] theorem State.onDisp_chains (s : State) (f : Disp → Disp) : (s.onDisp f).chains = s.chains := rfl
@[simp] theorem State.onDisp_disp (s : State) (f : Disp → Disp) : (s.onDisp f).disp = f s.disp := rfl
@[simp] theorem State.onDisp_boot (s : State) (f : Disp → Disp) : (s.onDisp f).boot = s.boot := rfl
@[simp] theorem State.onDisp_mon (s : State) (f : Disp → Disp) : (s.onDisp f).mon = s.mon := rfl
@[simp] theorem State.onDisp_pair (s : State) (f : Disp → Disp) : (s.onDisp f).pair = s.pair := rfl
@[simp] theorem State.onDisp_cams (s : State) (f : Disp → Disp) : (s.onDisp f).cams = s.cams := rfl
@[simp] theorem State.onDisp_eye (s : State) (f : Disp → Disp) : (s.onDisp f).eye = s.eye := rfl
@[simp] theorem State.onDisp_auth (s : State) (f : Disp → Disp) : (s.onDisp f).auth = s.auth := rfl
@[simp] theorem State.onDisp_eth (s : State) (f : Disp → Disp) : (s.onDisp f).eth = s.eth := rfl
@[simp] theorem State.onDisp_irq (s : State) (f : Disp → Disp) : (s.onDisp f).irq = s.irq := rfl
@[simp] theorem State.onDisp_eng (s : State) (f : Disp → Disp) : (s.onDisp f).eng = s.eng := rfl
@[simp] theorem State.onDisp_host (s : State) (f : Disp → Disp) : (s.onDisp f).host = s.host := rfl

@[simp] theorem State.onEye_pending (s : State) (f : Eye → Eye) : (s.onEye f).pending = s.pending := rfl
@[simp] theorem State.onEye_variant (s : State) (f : Eye → Eye) : (s.onEye f).variant = s.variant := rfl
@[simp] theorem State.onEye_clk (s : State) (f : Eye → Eye) : (s.onEye f).clk = s.clk := rfl
@[simp] theorem State.onEye_drawn (s : State) (f : Eye → Eye) : (s.onEye f).drawn = s.drawn := rfl
@[simp] theorem State.onEye_live (s : State) (f : Eye → Eye) : (s.onEye f).live = s.live := rfl
@[simp] theorem State.onEye_staged (s : State) (f : Eye → Eye) : (s.onEye f).staged = s.staged := rfl
@[simp] theorem State.onEye_snap (s : State) (f : Eye → Eye) : (s.onEye f).snap = s.snap := rfl
@[simp] theorem State.onEye_snapImages (s : State) (f : Eye → Eye) : (s.onEye f).snapImages = s.snapImages := rfl
@[simp] theorem State.onEye_mem (s : State) (f : Eye → Eye) : (s.onEye f).mem = s.mem := rfl
@[simp] theorem State.onEye_timeBase (s : State) (f : Eye → Eye) : (s.onEye f).timeBase = s.timeBase := rfl
@[simp] theorem State.onEye_rate (s : State) (f : Eye → Eye) : (s.onEye f).rate = s.rate := rfl
@[simp] theorem State.onEye_clock (s : State) (f : Eye → Eye) : (s.onEye f).clock = s.clock := rfl
@[simp] theorem State.onEye_epoch (s : State) (f : Eye → Eye) : (s.onEye f).epoch = s.epoch := rfl
@[simp] theorem State.onEye_ld (s : State) (f : Eye → Eye) : (s.onEye f).ld = s.ld := rfl
@[simp] theorem State.onEye_rcd (s : State) (f : Eye → Eye) : (s.onEye f).rcd = s.rcd := rfl
@[simp] theorem State.onEye_flash (s : State) (f : Eye → Eye) : (s.onEye f).flash = s.flash := rfl
@[simp] theorem State.onEye_win (s : State) (f : Eye → Eye) : (s.onEye f).win = s.win := rfl
@[simp] theorem State.onEye_jobs (s : State) (f : Eye → Eye) : (s.onEye f).jobs = s.jobs := rfl
@[simp] theorem State.onEye_zip (s : State) (f : Eye → Eye) : (s.onEye f).zip = s.zip := rfl
@[simp] theorem State.onEye_press (s : State) (f : Eye → Eye) : (s.onEye f).press = s.press := rfl
@[simp] theorem State.onEye_axes (s : State) (f : Eye → Eye) : (s.onEye f).axes = s.axes := rfl
@[simp] theorem State.onEye_sdram (s : State) (f : Eye → Eye) : (s.onEye f).sdram = s.sdram := rfl
@[simp] theorem State.onEye_meter (s : State) (f : Eye → Eye) : (s.onEye f).meter = s.meter := rfl
@[simp] theorem State.onEye_chains (s : State) (f : Eye → Eye) : (s.onEye f).chains = s.chains := rfl
@[simp] theorem State.onEye_disp (s : State) (f : Eye → Eye) : (s.onEye f).disp = s.disp := rfl
@[simp] theorem State.onEye_boot (s : State) (f : Eye → Eye) : (s.onEye f).boot = s.boot := rfl
@[simp] theorem State.onEye_mon (s : State) (f : Eye → Eye) : (s.onEye f).mon = s.mon := rfl
@[simp] theorem State.onEye_pair (s : State) (f : Eye → Eye) : (s.onEye f).pair = s.pair := rfl
@[simp] theorem State.onEye_cams (s : State) (f : Eye → Eye) : (s.onEye f).cams = s.cams := rfl
@[simp] theorem State.onEye_eye (s : State) (f : Eye → Eye) : (s.onEye f).eye = f s.eye := rfl
@[simp] theorem State.onEye_auth (s : State) (f : Eye → Eye) : (s.onEye f).auth = s.auth := rfl
@[simp] theorem State.onEye_eth (s : State) (f : Eye → Eye) : (s.onEye f).eth = s.eth := rfl
@[simp] theorem State.onEye_irq (s : State) (f : Eye → Eye) : (s.onEye f).irq = s.irq := rfl
@[simp] theorem State.onEye_eng (s : State) (f : Eye → Eye) : (s.onEye f).eng = s.eng := rfl
@[simp] theorem State.onEye_host (s : State) (f : Eye → Eye) : (s.onEye f).host = s.host := rfl

@[simp] theorem State.onSdram_pending (s : State) (f : Sdram → Sdram) : (s.onSdram f).pending = s.pending := rfl
@[simp] theorem State.onSdram_variant (s : State) (f : Sdram → Sdram) : (s.onSdram f).variant = s.variant := rfl
@[simp] theorem State.onSdram_clk (s : State) (f : Sdram → Sdram) : (s.onSdram f).clk = s.clk := rfl
@[simp] theorem State.onSdram_drawn (s : State) (f : Sdram → Sdram) : (s.onSdram f).drawn = s.drawn := rfl
@[simp] theorem State.onSdram_live (s : State) (f : Sdram → Sdram) : (s.onSdram f).live = s.live := rfl
@[simp] theorem State.onSdram_staged (s : State) (f : Sdram → Sdram) : (s.onSdram f).staged = s.staged := rfl
@[simp] theorem State.onSdram_snap (s : State) (f : Sdram → Sdram) : (s.onSdram f).snap = s.snap := rfl
@[simp] theorem State.onSdram_snapImages (s : State) (f : Sdram → Sdram) : (s.onSdram f).snapImages = s.snapImages := rfl
@[simp] theorem State.onSdram_mem (s : State) (f : Sdram → Sdram) : (s.onSdram f).mem = s.mem := rfl
@[simp] theorem State.onSdram_timeBase (s : State) (f : Sdram → Sdram) : (s.onSdram f).timeBase = s.timeBase := rfl
@[simp] theorem State.onSdram_rate (s : State) (f : Sdram → Sdram) : (s.onSdram f).rate = s.rate := rfl
@[simp] theorem State.onSdram_clock (s : State) (f : Sdram → Sdram) : (s.onSdram f).clock = s.clock := rfl
@[simp] theorem State.onSdram_epoch (s : State) (f : Sdram → Sdram) : (s.onSdram f).epoch = s.epoch := rfl
@[simp] theorem State.onSdram_ld (s : State) (f : Sdram → Sdram) : (s.onSdram f).ld = s.ld := rfl
@[simp] theorem State.onSdram_rcd (s : State) (f : Sdram → Sdram) : (s.onSdram f).rcd = s.rcd := rfl
@[simp] theorem State.onSdram_flash (s : State) (f : Sdram → Sdram) : (s.onSdram f).flash = s.flash := rfl
@[simp] theorem State.onSdram_win (s : State) (f : Sdram → Sdram) : (s.onSdram f).win = s.win := rfl
@[simp] theorem State.onSdram_jobs (s : State) (f : Sdram → Sdram) : (s.onSdram f).jobs = s.jobs := rfl
@[simp] theorem State.onSdram_zip (s : State) (f : Sdram → Sdram) : (s.onSdram f).zip = s.zip := rfl
@[simp] theorem State.onSdram_press (s : State) (f : Sdram → Sdram) : (s.onSdram f).press = s.press := rfl
@[simp] theorem State.onSdram_axes (s : State) (f : Sdram → Sdram) : (s.onSdram f).axes = s.axes := rfl
@[simp] theorem State.onSdram_sdram (s : State) (f : Sdram → Sdram) : (s.onSdram f).sdram = f s.sdram := rfl
@[simp] theorem State.onSdram_meter (s : State) (f : Sdram → Sdram) : (s.onSdram f).meter = s.meter := rfl
@[simp] theorem State.onSdram_chains (s : State) (f : Sdram → Sdram) : (s.onSdram f).chains = s.chains := rfl
@[simp] theorem State.onSdram_disp (s : State) (f : Sdram → Sdram) : (s.onSdram f).disp = s.disp := rfl
@[simp] theorem State.onSdram_boot (s : State) (f : Sdram → Sdram) : (s.onSdram f).boot = s.boot := rfl
@[simp] theorem State.onSdram_mon (s : State) (f : Sdram → Sdram) : (s.onSdram f).mon = s.mon := rfl
@[simp] theorem State.onSdram_pair (s : State) (f : Sdram → Sdram) : (s.onSdram f).pair = s.pair := rfl
@[simp] theorem State.onSdram_cams (s : State) (f : Sdram → Sdram) : (s.onSdram f).cams = s.cams := rfl
@[simp] theorem State.onSdram_eye (s : State) (f : Sdram → Sdram) : (s.onSdram f).eye = s.eye := rfl
@[simp] theorem State.onSdram_auth (s : State) (f : Sdram → Sdram) : (s.onSdram f).auth = s.auth := rfl
@[simp] theorem State.onSdram_eth (s : State) (f : Sdram → Sdram) : (s.onSdram f).eth = s.eth := rfl
@[simp] theorem State.onSdram_irq (s : State) (f : Sdram → Sdram) : (s.onSdram f).irq = s.irq := rfl
@[simp] theorem State.onSdram_eng (s : State) (f : Sdram → Sdram) : (s.onSdram f).eng = s.eng := rfl
@[simp] theorem State.onSdram_host (s : State) (f : Sdram → Sdram) : (s.onSdram f).host = s.host := rfl

@[simp] theorem State.onClock_pending (s : State) (f : Clock → Clock) : (s.onClock f).pending = s.pending := rfl
@[simp] theorem State.onClock_variant (s : State) (f : Clock → Clock) : (s.onClock f).variant = s.variant := rfl
@[simp] theorem State.onClock_clk (s : State) (f : Clock → Clock) : (s.onClock f).clk = s.clk := rfl
@[simp] theorem State.onClock_drawn (s : State) (f : Clock → Clock) : (s.onClock f).drawn = s.drawn := rfl
@[simp] theorem State.onClock_live (s : State) (f : Clock → Clock) : (s.onClock f).live = s.live := rfl
@[simp] theorem State.onClock_staged (s : State) (f : Clock → Clock) : (s.onClock f).staged = s.staged := rfl
@[simp] theorem State.onClock_snap (s : State) (f : Clock → Clock) : (s.onClock f).snap = s.snap := rfl
@[simp] theorem State.onClock_snapImages (s : State) (f : Clock → Clock) : (s.onClock f).snapImages = s.snapImages := rfl
@[simp] theorem State.onClock_mem (s : State) (f : Clock → Clock) : (s.onClock f).mem = s.mem := rfl
@[simp] theorem State.onClock_timeBase (s : State) (f : Clock → Clock) : (s.onClock f).timeBase = s.timeBase := rfl
@[simp] theorem State.onClock_rate (s : State) (f : Clock → Clock) : (s.onClock f).rate = s.rate := rfl
@[simp] theorem State.onClock_clock (s : State) (f : Clock → Clock) : (s.onClock f).clock = f s.clock := rfl
@[simp] theorem State.onClock_epoch (s : State) (f : Clock → Clock) : (s.onClock f).epoch = s.epoch := rfl
@[simp] theorem State.onClock_ld (s : State) (f : Clock → Clock) : (s.onClock f).ld = s.ld := rfl
@[simp] theorem State.onClock_rcd (s : State) (f : Clock → Clock) : (s.onClock f).rcd = s.rcd := rfl
@[simp] theorem State.onClock_flash (s : State) (f : Clock → Clock) : (s.onClock f).flash = s.flash := rfl
@[simp] theorem State.onClock_win (s : State) (f : Clock → Clock) : (s.onClock f).win = s.win := rfl
@[simp] theorem State.onClock_jobs (s : State) (f : Clock → Clock) : (s.onClock f).jobs = s.jobs := rfl
@[simp] theorem State.onClock_zip (s : State) (f : Clock → Clock) : (s.onClock f).zip = s.zip := rfl
@[simp] theorem State.onClock_press (s : State) (f : Clock → Clock) : (s.onClock f).press = s.press := rfl
@[simp] theorem State.onClock_axes (s : State) (f : Clock → Clock) : (s.onClock f).axes = s.axes := rfl
@[simp] theorem State.onClock_sdram (s : State) (f : Clock → Clock) : (s.onClock f).sdram = s.sdram := rfl
@[simp] theorem State.onClock_meter (s : State) (f : Clock → Clock) : (s.onClock f).meter = s.meter := rfl
@[simp] theorem State.onClock_chains (s : State) (f : Clock → Clock) : (s.onClock f).chains = s.chains := rfl
@[simp] theorem State.onClock_disp (s : State) (f : Clock → Clock) : (s.onClock f).disp = s.disp := rfl
@[simp] theorem State.onClock_boot (s : State) (f : Clock → Clock) : (s.onClock f).boot = s.boot := rfl
@[simp] theorem State.onClock_mon (s : State) (f : Clock → Clock) : (s.onClock f).mon = s.mon := rfl
@[simp] theorem State.onClock_pair (s : State) (f : Clock → Clock) : (s.onClock f).pair = s.pair := rfl
@[simp] theorem State.onClock_cams (s : State) (f : Clock → Clock) : (s.onClock f).cams = s.cams := rfl
@[simp] theorem State.onClock_eye (s : State) (f : Clock → Clock) : (s.onClock f).eye = s.eye := rfl
@[simp] theorem State.onClock_auth (s : State) (f : Clock → Clock) : (s.onClock f).auth = s.auth := rfl
@[simp] theorem State.onClock_eth (s : State) (f : Clock → Clock) : (s.onClock f).eth = s.eth := rfl
@[simp] theorem State.onClock_irq (s : State) (f : Clock → Clock) : (s.onClock f).irq = s.irq := rfl
@[simp] theorem State.onClock_eng (s : State) (f : Clock → Clock) : (s.onClock f).eng = s.eng := rfl
@[simp] theorem State.onClock_host (s : State) (f : Clock → Clock) : (s.onClock f).host = s.host := rfl

@[simp] theorem State.onZip_pending (s : State) (f : Zip → Zip) : (s.onZip f).pending = s.pending := rfl
@[simp] theorem State.onZip_variant (s : State) (f : Zip → Zip) : (s.onZip f).variant = s.variant := rfl
@[simp] theorem State.onZip_clk (s : State) (f : Zip → Zip) : (s.onZip f).clk = s.clk := rfl
@[simp] theorem State.onZip_drawn (s : State) (f : Zip → Zip) : (s.onZip f).drawn = s.drawn := rfl
@[simp] theorem State.onZip_live (s : State) (f : Zip → Zip) : (s.onZip f).live = s.live := rfl
@[simp] theorem State.onZip_staged (s : State) (f : Zip → Zip) : (s.onZip f).staged = s.staged := rfl
@[simp] theorem State.onZip_snap (s : State) (f : Zip → Zip) : (s.onZip f).snap = s.snap := rfl
@[simp] theorem State.onZip_snapImages (s : State) (f : Zip → Zip) : (s.onZip f).snapImages = s.snapImages := rfl
@[simp] theorem State.onZip_mem (s : State) (f : Zip → Zip) : (s.onZip f).mem = s.mem := rfl
@[simp] theorem State.onZip_timeBase (s : State) (f : Zip → Zip) : (s.onZip f).timeBase = s.timeBase := rfl
@[simp] theorem State.onZip_rate (s : State) (f : Zip → Zip) : (s.onZip f).rate = s.rate := rfl
@[simp] theorem State.onZip_clock (s : State) (f : Zip → Zip) : (s.onZip f).clock = s.clock := rfl
@[simp] theorem State.onZip_epoch (s : State) (f : Zip → Zip) : (s.onZip f).epoch = s.epoch := rfl
@[simp] theorem State.onZip_ld (s : State) (f : Zip → Zip) : (s.onZip f).ld = s.ld := rfl
@[simp] theorem State.onZip_rcd (s : State) (f : Zip → Zip) : (s.onZip f).rcd = s.rcd := rfl
@[simp] theorem State.onZip_flash (s : State) (f : Zip → Zip) : (s.onZip f).flash = s.flash := rfl
@[simp] theorem State.onZip_win (s : State) (f : Zip → Zip) : (s.onZip f).win = s.win := rfl
@[simp] theorem State.onZip_jobs (s : State) (f : Zip → Zip) : (s.onZip f).jobs = s.jobs := rfl
@[simp] theorem State.onZip_zip (s : State) (f : Zip → Zip) : (s.onZip f).zip = f s.zip := rfl
@[simp] theorem State.onZip_press (s : State) (f : Zip → Zip) : (s.onZip f).press = s.press := rfl
@[simp] theorem State.onZip_axes (s : State) (f : Zip → Zip) : (s.onZip f).axes = s.axes := rfl
@[simp] theorem State.onZip_sdram (s : State) (f : Zip → Zip) : (s.onZip f).sdram = s.sdram := rfl
@[simp] theorem State.onZip_meter (s : State) (f : Zip → Zip) : (s.onZip f).meter = s.meter := rfl
@[simp] theorem State.onZip_chains (s : State) (f : Zip → Zip) : (s.onZip f).chains = s.chains := rfl
@[simp] theorem State.onZip_disp (s : State) (f : Zip → Zip) : (s.onZip f).disp = s.disp := rfl
@[simp] theorem State.onZip_boot (s : State) (f : Zip → Zip) : (s.onZip f).boot = s.boot := rfl
@[simp] theorem State.onZip_mon (s : State) (f : Zip → Zip) : (s.onZip f).mon = s.mon := rfl
@[simp] theorem State.onZip_pair (s : State) (f : Zip → Zip) : (s.onZip f).pair = s.pair := rfl
@[simp] theorem State.onZip_cams (s : State) (f : Zip → Zip) : (s.onZip f).cams = s.cams := rfl
@[simp] theorem State.onZip_eye (s : State) (f : Zip → Zip) : (s.onZip f).eye = s.eye := rfl
@[simp] theorem State.onZip_auth (s : State) (f : Zip → Zip) : (s.onZip f).auth = s.auth := rfl
@[simp] theorem State.onZip_eth (s : State) (f : Zip → Zip) : (s.onZip f).eth = s.eth := rfl
@[simp] theorem State.onZip_irq (s : State) (f : Zip → Zip) : (s.onZip f).irq = s.irq := rfl
@[simp] theorem State.onZip_eng (s : State) (f : Zip → Zip) : (s.onZip f).eng = s.eng := rfl
@[simp] theorem State.onZip_host (s : State) (f : Zip → Zip) : (s.onZip f).host = s.host := rfl

@[simp] theorem State.onPair_pending (s : State) (f : Pair → Pair) : (s.onPair f).pending = s.pending := rfl
@[simp] theorem State.onPair_variant (s : State) (f : Pair → Pair) : (s.onPair f).variant = s.variant := rfl
@[simp] theorem State.onPair_clk (s : State) (f : Pair → Pair) : (s.onPair f).clk = s.clk := rfl
@[simp] theorem State.onPair_drawn (s : State) (f : Pair → Pair) : (s.onPair f).drawn = s.drawn := rfl
@[simp] theorem State.onPair_live (s : State) (f : Pair → Pair) : (s.onPair f).live = s.live := rfl
@[simp] theorem State.onPair_staged (s : State) (f : Pair → Pair) : (s.onPair f).staged = s.staged := rfl
@[simp] theorem State.onPair_snap (s : State) (f : Pair → Pair) : (s.onPair f).snap = s.snap := rfl
@[simp] theorem State.onPair_snapImages (s : State) (f : Pair → Pair) : (s.onPair f).snapImages = s.snapImages := rfl
@[simp] theorem State.onPair_mem (s : State) (f : Pair → Pair) : (s.onPair f).mem = s.mem := rfl
@[simp] theorem State.onPair_timeBase (s : State) (f : Pair → Pair) : (s.onPair f).timeBase = s.timeBase := rfl
@[simp] theorem State.onPair_rate (s : State) (f : Pair → Pair) : (s.onPair f).rate = s.rate := rfl
@[simp] theorem State.onPair_clock (s : State) (f : Pair → Pair) : (s.onPair f).clock = s.clock := rfl
@[simp] theorem State.onPair_epoch (s : State) (f : Pair → Pair) : (s.onPair f).epoch = s.epoch := rfl
@[simp] theorem State.onPair_ld (s : State) (f : Pair → Pair) : (s.onPair f).ld = s.ld := rfl
@[simp] theorem State.onPair_rcd (s : State) (f : Pair → Pair) : (s.onPair f).rcd = s.rcd := rfl
@[simp] theorem State.onPair_flash (s : State) (f : Pair → Pair) : (s.onPair f).flash = s.flash := rfl
@[simp] theorem State.onPair_win (s : State) (f : Pair → Pair) : (s.onPair f).win = s.win := rfl
@[simp] theorem State.onPair_jobs (s : State) (f : Pair → Pair) : (s.onPair f).jobs = s.jobs := rfl
@[simp] theorem State.onPair_zip (s : State) (f : Pair → Pair) : (s.onPair f).zip = s.zip := rfl
@[simp] theorem State.onPair_press (s : State) (f : Pair → Pair) : (s.onPair f).press = s.press := rfl
@[simp] theorem State.onPair_axes (s : State) (f : Pair → Pair) : (s.onPair f).axes = s.axes := rfl
@[simp] theorem State.onPair_sdram (s : State) (f : Pair → Pair) : (s.onPair f).sdram = s.sdram := rfl
@[simp] theorem State.onPair_meter (s : State) (f : Pair → Pair) : (s.onPair f).meter = s.meter := rfl
@[simp] theorem State.onPair_chains (s : State) (f : Pair → Pair) : (s.onPair f).chains = s.chains := rfl
@[simp] theorem State.onPair_disp (s : State) (f : Pair → Pair) : (s.onPair f).disp = s.disp := rfl
@[simp] theorem State.onPair_boot (s : State) (f : Pair → Pair) : (s.onPair f).boot = s.boot := rfl
@[simp] theorem State.onPair_mon (s : State) (f : Pair → Pair) : (s.onPair f).mon = s.mon := rfl
@[simp] theorem State.onPair_pair (s : State) (f : Pair → Pair) : (s.onPair f).pair = f s.pair := rfl
@[simp] theorem State.onPair_cams (s : State) (f : Pair → Pair) : (s.onPair f).cams = s.cams := rfl
@[simp] theorem State.onPair_eye (s : State) (f : Pair → Pair) : (s.onPair f).eye = s.eye := rfl
@[simp] theorem State.onPair_auth (s : State) (f : Pair → Pair) : (s.onPair f).auth = s.auth := rfl
@[simp] theorem State.onPair_eth (s : State) (f : Pair → Pair) : (s.onPair f).eth = s.eth := rfl
@[simp] theorem State.onPair_irq (s : State) (f : Pair → Pair) : (s.onPair f).irq = s.irq := rfl
@[simp] theorem State.onPair_eng (s : State) (f : Pair → Pair) : (s.onPair f).eng = s.eng := rfl
@[simp] theorem State.onPair_host (s : State) (f : Pair → Pair) : (s.onPair f).host = s.host := rfl

@[simp] theorem State.setCam_pending (s : State) (d : Nat) (c : Camera) : (s.setCam d c).pending = s.pending := rfl
@[simp] theorem State.setCam_variant (s : State) (d : Nat) (c : Camera) : (s.setCam d c).variant = s.variant := rfl
@[simp] theorem State.setCam_clk (s : State) (d : Nat) (c : Camera) : (s.setCam d c).clk = s.clk := rfl
@[simp] theorem State.setCam_drawn (s : State) (d : Nat) (c : Camera) : (s.setCam d c).drawn = s.drawn := rfl
@[simp] theorem State.setCam_live (s : State) (d : Nat) (c : Camera) : (s.setCam d c).live = s.live := rfl
@[simp] theorem State.setCam_staged (s : State) (d : Nat) (c : Camera) : (s.setCam d c).staged = s.staged := rfl
@[simp] theorem State.setCam_snap (s : State) (d : Nat) (c : Camera) : (s.setCam d c).snap = s.snap := rfl
@[simp] theorem State.setCam_snapImages (s : State) (d : Nat) (c : Camera) : (s.setCam d c).snapImages = s.snapImages := rfl
@[simp] theorem State.setCam_mem (s : State) (d : Nat) (c : Camera) : (s.setCam d c).mem = s.mem := rfl
@[simp] theorem State.setCam_timeBase (s : State) (d : Nat) (c : Camera) : (s.setCam d c).timeBase = s.timeBase := rfl
@[simp] theorem State.setCam_rate (s : State) (d : Nat) (c : Camera) : (s.setCam d c).rate = s.rate := rfl
@[simp] theorem State.setCam_clock (s : State) (d : Nat) (c : Camera) : (s.setCam d c).clock = s.clock := rfl
@[simp] theorem State.setCam_epoch (s : State) (d : Nat) (c : Camera) : (s.setCam d c).epoch = s.epoch := rfl
@[simp] theorem State.setCam_ld (s : State) (d : Nat) (c : Camera) : (s.setCam d c).ld = s.ld := rfl
@[simp] theorem State.setCam_rcd (s : State) (d : Nat) (c : Camera) : (s.setCam d c).rcd = s.rcd := rfl
@[simp] theorem State.setCam_flash (s : State) (d : Nat) (c : Camera) : (s.setCam d c).flash = s.flash := rfl
@[simp] theorem State.setCam_win (s : State) (d : Nat) (c : Camera) : (s.setCam d c).win = s.win := rfl
@[simp] theorem State.setCam_jobs (s : State) (d : Nat) (c : Camera) : (s.setCam d c).jobs = s.jobs := rfl
@[simp] theorem State.setCam_zip (s : State) (d : Nat) (c : Camera) : (s.setCam d c).zip = s.zip := rfl
@[simp] theorem State.setCam_press (s : State) (d : Nat) (c : Camera) : (s.setCam d c).press = s.press := rfl
@[simp] theorem State.setCam_axes (s : State) (d : Nat) (c : Camera) : (s.setCam d c).axes = s.axes := rfl
@[simp] theorem State.setCam_sdram (s : State) (d : Nat) (c : Camera) : (s.setCam d c).sdram = s.sdram := rfl
@[simp] theorem State.setCam_meter (s : State) (d : Nat) (c : Camera) : (s.setCam d c).meter = s.meter := rfl
@[simp] theorem State.setCam_chains (s : State) (d : Nat) (c : Camera) : (s.setCam d c).chains = s.chains := rfl
@[simp] theorem State.setCam_disp (s : State) (d : Nat) (c : Camera) : (s.setCam d c).disp = s.disp := rfl
@[simp] theorem State.setCam_boot (s : State) (d : Nat) (c : Camera) : (s.setCam d c).boot = s.boot := rfl
@[simp] theorem State.setCam_mon (s : State) (d : Nat) (c : Camera) : (s.setCam d c).mon = s.mon := rfl
@[simp] theorem State.setCam_pair (s : State) (d : Nat) (c : Camera) : (s.setCam d c).pair = s.pair := rfl
@[simp] theorem State.setCam_cams (s : State) (d : Nat) (c : Camera) : (s.setCam d c).cams = tset s.cams d c := rfl
@[simp] theorem State.setCam_eye (s : State) (d : Nat) (c : Camera) : (s.setCam d c).eye = s.eye := rfl
@[simp] theorem State.setCam_auth (s : State) (d : Nat) (c : Camera) : (s.setCam d c).auth = s.auth := rfl
@[simp] theorem State.setCam_eth (s : State) (d : Nat) (c : Camera) : (s.setCam d c).eth = s.eth := rfl
@[simp] theorem State.setCam_irq (s : State) (d : Nat) (c : Camera) : (s.setCam d c).irq = s.irq := rfl
@[simp] theorem State.setCam_eng (s : State) (d : Nat) (c : Camera) : (s.setCam d c).eng = s.eng := rfl
@[simp] theorem State.setCam_host (s : State) (d : Nat) (c : Camera) : (s.setCam d c).host = s.host := rfl

@[simp] theorem State.setChain_pending (s : State) (c : Nat) (x : Chain) : (s.setChain c x).pending = s.pending := rfl
@[simp] theorem State.setChain_variant (s : State) (c : Nat) (x : Chain) : (s.setChain c x).variant = s.variant := rfl
@[simp] theorem State.setChain_clk (s : State) (c : Nat) (x : Chain) : (s.setChain c x).clk = s.clk := rfl
@[simp] theorem State.setChain_drawn (s : State) (c : Nat) (x : Chain) : (s.setChain c x).drawn = s.drawn := rfl
@[simp] theorem State.setChain_live (s : State) (c : Nat) (x : Chain) : (s.setChain c x).live = s.live := rfl
@[simp] theorem State.setChain_staged (s : State) (c : Nat) (x : Chain) : (s.setChain c x).staged = s.staged := rfl
@[simp] theorem State.setChain_snap (s : State) (c : Nat) (x : Chain) : (s.setChain c x).snap = s.snap := rfl
@[simp] theorem State.setChain_snapImages (s : State) (c : Nat) (x : Chain) : (s.setChain c x).snapImages = s.snapImages := rfl
@[simp] theorem State.setChain_mem (s : State) (c : Nat) (x : Chain) : (s.setChain c x).mem = s.mem := rfl
@[simp] theorem State.setChain_timeBase (s : State) (c : Nat) (x : Chain) : (s.setChain c x).timeBase = s.timeBase := rfl
@[simp] theorem State.setChain_rate (s : State) (c : Nat) (x : Chain) : (s.setChain c x).rate = s.rate := rfl
@[simp] theorem State.setChain_clock (s : State) (c : Nat) (x : Chain) : (s.setChain c x).clock = s.clock := rfl
@[simp] theorem State.setChain_epoch (s : State) (c : Nat) (x : Chain) : (s.setChain c x).epoch = s.epoch := rfl
@[simp] theorem State.setChain_ld (s : State) (c : Nat) (x : Chain) : (s.setChain c x).ld = s.ld := rfl
@[simp] theorem State.setChain_rcd (s : State) (c : Nat) (x : Chain) : (s.setChain c x).rcd = s.rcd := rfl
@[simp] theorem State.setChain_flash (s : State) (c : Nat) (x : Chain) : (s.setChain c x).flash = s.flash := rfl
@[simp] theorem State.setChain_win (s : State) (c : Nat) (x : Chain) : (s.setChain c x).win = s.win := rfl
@[simp] theorem State.setChain_jobs (s : State) (c : Nat) (x : Chain) : (s.setChain c x).jobs = s.jobs := rfl
@[simp] theorem State.setChain_zip (s : State) (c : Nat) (x : Chain) : (s.setChain c x).zip = s.zip := rfl
@[simp] theorem State.setChain_press (s : State) (c : Nat) (x : Chain) : (s.setChain c x).press = s.press := rfl
@[simp] theorem State.setChain_axes (s : State) (c : Nat) (x : Chain) : (s.setChain c x).axes = s.axes := rfl
@[simp] theorem State.setChain_sdram (s : State) (c : Nat) (x : Chain) : (s.setChain c x).sdram = s.sdram := rfl
@[simp] theorem State.setChain_meter (s : State) (c : Nat) (x : Chain) : (s.setChain c x).meter = s.meter := rfl
@[simp] theorem State.setChain_chains (s : State) (c : Nat) (x : Chain) : (s.setChain c x).chains = tset s.chains c x := rfl
@[simp] theorem State.setChain_disp (s : State) (c : Nat) (x : Chain) : (s.setChain c x).disp = s.disp := rfl
@[simp] theorem State.setChain_boot (s : State) (c : Nat) (x : Chain) : (s.setChain c x).boot = s.boot := rfl
@[simp] theorem State.setChain_mon (s : State) (c : Nat) (x : Chain) : (s.setChain c x).mon = s.mon := rfl
@[simp] theorem State.setChain_pair (s : State) (c : Nat) (x : Chain) : (s.setChain c x).pair = s.pair := rfl
@[simp] theorem State.setChain_cams (s : State) (c : Nat) (x : Chain) : (s.setChain c x).cams = s.cams := rfl
@[simp] theorem State.setChain_eye (s : State) (c : Nat) (x : Chain) : (s.setChain c x).eye = s.eye := rfl
@[simp] theorem State.setChain_auth (s : State) (c : Nat) (x : Chain) : (s.setChain c x).auth = s.auth := rfl
@[simp] theorem State.setChain_eth (s : State) (c : Nat) (x : Chain) : (s.setChain c x).eth = s.eth := rfl
@[simp] theorem State.setChain_irq (s : State) (c : Nat) (x : Chain) : (s.setChain c x).irq = s.irq := rfl
@[simp] theorem State.setChain_eng (s : State) (c : Nat) (x : Chain) : (s.setChain c x).eng = s.eng := rfl
@[simp] theorem State.setChain_host (s : State) (c : Nat) (x : Chain) : (s.setChain c x).host = s.host := rfl

@[simp] theorem State.setAxis_pending (s : State) (a : Nat) (x : Axis) : (s.setAxis a x).pending = s.pending := rfl
@[simp] theorem State.setAxis_variant (s : State) (a : Nat) (x : Axis) : (s.setAxis a x).variant = s.variant := rfl
@[simp] theorem State.setAxis_clk (s : State) (a : Nat) (x : Axis) : (s.setAxis a x).clk = s.clk := rfl
@[simp] theorem State.setAxis_drawn (s : State) (a : Nat) (x : Axis) : (s.setAxis a x).drawn = s.drawn := rfl
@[simp] theorem State.setAxis_live (s : State) (a : Nat) (x : Axis) : (s.setAxis a x).live = s.live := rfl
@[simp] theorem State.setAxis_staged (s : State) (a : Nat) (x : Axis) : (s.setAxis a x).staged = s.staged := rfl
@[simp] theorem State.setAxis_snap (s : State) (a : Nat) (x : Axis) : (s.setAxis a x).snap = s.snap := rfl
@[simp] theorem State.setAxis_snapImages (s : State) (a : Nat) (x : Axis) : (s.setAxis a x).snapImages = s.snapImages := rfl
@[simp] theorem State.setAxis_mem (s : State) (a : Nat) (x : Axis) : (s.setAxis a x).mem = s.mem := rfl
@[simp] theorem State.setAxis_timeBase (s : State) (a : Nat) (x : Axis) : (s.setAxis a x).timeBase = s.timeBase := rfl
@[simp] theorem State.setAxis_rate (s : State) (a : Nat) (x : Axis) : (s.setAxis a x).rate = s.rate := rfl
@[simp] theorem State.setAxis_clock (s : State) (a : Nat) (x : Axis) : (s.setAxis a x).clock = s.clock := rfl
@[simp] theorem State.setAxis_epoch (s : State) (a : Nat) (x : Axis) : (s.setAxis a x).epoch = s.epoch := rfl
@[simp] theorem State.setAxis_ld (s : State) (a : Nat) (x : Axis) : (s.setAxis a x).ld = s.ld := rfl
@[simp] theorem State.setAxis_rcd (s : State) (a : Nat) (x : Axis) : (s.setAxis a x).rcd = s.rcd := rfl
@[simp] theorem State.setAxis_flash (s : State) (a : Nat) (x : Axis) : (s.setAxis a x).flash = s.flash := rfl
@[simp] theorem State.setAxis_win (s : State) (a : Nat) (x : Axis) : (s.setAxis a x).win = s.win := rfl
@[simp] theorem State.setAxis_jobs (s : State) (a : Nat) (x : Axis) : (s.setAxis a x).jobs = s.jobs := rfl
@[simp] theorem State.setAxis_zip (s : State) (a : Nat) (x : Axis) : (s.setAxis a x).zip = s.zip := rfl
@[simp] theorem State.setAxis_press (s : State) (a : Nat) (x : Axis) : (s.setAxis a x).press = s.press := rfl
@[simp] theorem State.setAxis_axes (s : State) (a : Nat) (x : Axis) : (s.setAxis a x).axes = tset s.axes a x := rfl
@[simp] theorem State.setAxis_sdram (s : State) (a : Nat) (x : Axis) : (s.setAxis a x).sdram = s.sdram := rfl
@[simp] theorem State.setAxis_meter (s : State) (a : Nat) (x : Axis) : (s.setAxis a x).meter = s.meter := rfl
@[simp] theorem State.setAxis_chains (s : State) (a : Nat) (x : Axis) : (s.setAxis a x).chains = s.chains := rfl
@[simp] theorem State.setAxis_disp (s : State) (a : Nat) (x : Axis) : (s.setAxis a x).disp = s.disp := rfl
@[simp] theorem State.setAxis_boot (s : State) (a : Nat) (x : Axis) : (s.setAxis a x).boot = s.boot := rfl
@[simp] theorem State.setAxis_mon (s : State) (a : Nat) (x : Axis) : (s.setAxis a x).mon = s.mon := rfl
@[simp] theorem State.setAxis_pair (s : State) (a : Nat) (x : Axis) : (s.setAxis a x).pair = s.pair := rfl
@[simp] theorem State.setAxis_cams (s : State) (a : Nat) (x : Axis) : (s.setAxis a x).cams = s.cams := rfl
@[simp] theorem State.setAxis_eye (s : State) (a : Nat) (x : Axis) : (s.setAxis a x).eye = s.eye := rfl
@[simp] theorem State.setAxis_auth (s : State) (a : Nat) (x : Axis) : (s.setAxis a x).auth = s.auth := rfl
@[simp] theorem State.setAxis_eth (s : State) (a : Nat) (x : Axis) : (s.setAxis a x).eth = s.eth := rfl
@[simp] theorem State.setAxis_irq (s : State) (a : Nat) (x : Axis) : (s.setAxis a x).irq = s.irq := rfl
@[simp] theorem State.setAxis_eng (s : State) (a : Nat) (x : Axis) : (s.setAxis a x).eng = s.eng := rfl
@[simp] theorem State.setAxis_host (s : State) (a : Nat) (x : Axis) : (s.setAxis a x).host = s.host := rfl

@[simp] theorem State.wr_pending (s : State) (f : Fld) (v : Nat) : (s.wr f v).pending = s.pending := rfl
@[simp] theorem State.wr_variant (s : State) (f : Fld) (v : Nat) : (s.wr f v).variant = s.variant := rfl
@[simp] theorem State.wr_clk (s : State) (f : Fld) (v : Nat) : (s.wr f v).clk = s.clk := rfl
@[simp] theorem State.wr_drawn (s : State) (f : Fld) (v : Nat) : (s.wr f v).drawn = s.drawn := rfl
@[simp] theorem State.wr_live (s : State) (f : Fld) (v : Nat) : (s.wr f v).live = tset s.live f.key (v % 2 ^ f.width) := rfl
@[simp] theorem State.wr_staged (s : State) (f : Fld) (v : Nat) : (s.wr f v).staged = s.staged := rfl
@[simp] theorem State.wr_snap (s : State) (f : Fld) (v : Nat) : (s.wr f v).snap = s.snap := rfl
@[simp] theorem State.wr_snapImages (s : State) (f : Fld) (v : Nat) : (s.wr f v).snapImages = s.snapImages := rfl
@[simp] theorem State.wr_mem (s : State) (f : Fld) (v : Nat) : (s.wr f v).mem = s.mem := rfl
@[simp] theorem State.wr_timeBase (s : State) (f : Fld) (v : Nat) : (s.wr f v).timeBase = s.timeBase := rfl
@[simp] theorem State.wr_rate (s : State) (f : Fld) (v : Nat) : (s.wr f v).rate = s.rate := rfl
@[simp] theorem State.wr_clock (s : State) (f : Fld) (v : Nat) : (s.wr f v).clock = s.clock := rfl
@[simp] theorem State.wr_epoch (s : State) (f : Fld) (v : Nat) : (s.wr f v).epoch = s.epoch := rfl
@[simp] theorem State.wr_ld (s : State) (f : Fld) (v : Nat) : (s.wr f v).ld = s.ld := rfl
@[simp] theorem State.wr_rcd (s : State) (f : Fld) (v : Nat) : (s.wr f v).rcd = s.rcd := rfl
@[simp] theorem State.wr_flash (s : State) (f : Fld) (v : Nat) : (s.wr f v).flash = s.flash := rfl
@[simp] theorem State.wr_win (s : State) (f : Fld) (v : Nat) : (s.wr f v).win = s.win := rfl
@[simp] theorem State.wr_jobs (s : State) (f : Fld) (v : Nat) : (s.wr f v).jobs = s.jobs := rfl
@[simp] theorem State.wr_zip (s : State) (f : Fld) (v : Nat) : (s.wr f v).zip = s.zip := rfl
@[simp] theorem State.wr_press (s : State) (f : Fld) (v : Nat) : (s.wr f v).press = s.press := rfl
@[simp] theorem State.wr_axes (s : State) (f : Fld) (v : Nat) : (s.wr f v).axes = s.axes := rfl
@[simp] theorem State.wr_sdram (s : State) (f : Fld) (v : Nat) : (s.wr f v).sdram = s.sdram := rfl
@[simp] theorem State.wr_meter (s : State) (f : Fld) (v : Nat) : (s.wr f v).meter = s.meter := rfl
@[simp] theorem State.wr_chains (s : State) (f : Fld) (v : Nat) : (s.wr f v).chains = s.chains := rfl
@[simp] theorem State.wr_disp (s : State) (f : Fld) (v : Nat) : (s.wr f v).disp = s.disp := rfl
@[simp] theorem State.wr_boot (s : State) (f : Fld) (v : Nat) : (s.wr f v).boot = s.boot := rfl
@[simp] theorem State.wr_mon (s : State) (f : Fld) (v : Nat) : (s.wr f v).mon = s.mon := rfl
@[simp] theorem State.wr_pair (s : State) (f : Fld) (v : Nat) : (s.wr f v).pair = s.pair := rfl
@[simp] theorem State.wr_cams (s : State) (f : Fld) (v : Nat) : (s.wr f v).cams = s.cams := rfl
@[simp] theorem State.wr_eye (s : State) (f : Fld) (v : Nat) : (s.wr f v).eye = s.eye := rfl
@[simp] theorem State.wr_auth (s : State) (f : Fld) (v : Nat) : (s.wr f v).auth = s.auth := rfl
@[simp] theorem State.wr_eth (s : State) (f : Fld) (v : Nat) : (s.wr f v).eth = s.eth := rfl
@[simp] theorem State.wr_irq (s : State) (f : Fld) (v : Nat) : (s.wr f v).irq = s.irq := rfl
@[simp] theorem State.wr_eng (s : State) (f : Fld) (v : Nat) : (s.wr f v).eng = s.eng := rfl
@[simp] theorem State.wr_host (s : State) (f : Fld) (v : Nat) : (s.wr f v).host = s.host := rfl

end Sys2Proof.Machine
end

