-- ==== Sys2Proof/Laws/Table.lean ====
section
/-! SUPPORT. The laws of tables, of register fields and of the window's bytes: a read after a write, and the forms that a write
keeps. -/

namespace Sys2Proof.Machine

open Sys2Proof Sys2Proof.Safety

/-! Tables. -/

@[simp] theorem tget?_tset_same {α : Type} (t : Tab α) (k : Nat) (v : α) : tget? (tset t k v) k = some v := by
  induction t with
  | nil => simp [tset, tget?]
  | cons e r ih =>
    obtain ⟨k', v'⟩ := e
    simp only [tset]
    split
    · simp [tget?]
    · split
      · simp [tget?]
      · rename_i h1 h2
        simp [tget?, h2, ih]

theorem tget?_tset_other {α : Type} (t : Tab α) (k j : Nat) (v : α) (h : j ≠ k) : tget? (tset t k v) j = tget? t j := by
  induction t with
  | nil => simp [tset, tget?, h]
  | cons e r ih =>
    obtain ⟨k', v'⟩ := e
    simp only [tset]
    split
    · simp [tget?, h]
    · split
      · rename_i h1 h2
        subst h2
        simp [tget?, h]
      · by_cases hj : j = k' <;> simp [tget?, hj, ih]

@[simp] theorem tget_tset_same {α : Type} (t : Tab α) (k : Nat) (v d : α) : tget (tset t k v) k d = v := by
  simp [tget]

theorem tget_tset_other {α : Type} (t : Tab α) (k j : Nat) (v d : α) (h : j ≠ k) : tget (tset t k v) j d = tget t j d := by
  simp [tget, tget?_tset_other t k j v h]

theorem mem_tset {α : Type} {t : Tab α} {k : Nat} {v : α} {e : Nat × α} (h : e ∈ tset t k v) : e = (k, v) ∨ e ∈ t := by
  induction t with
  | nil => simpa [tset] using h
  | cons x r ih =>
    simp only [tset] at h
    split at h
    · simpa using h
    · split at h
      · rcases List.mem_cons.1 h with h | h
        · exact .inl h
        · exact .inr (List.mem_cons_of_mem _ h)
      · rcases List.mem_cons.1 h with h | h
        · exact .inr (by simp [h])
        · rcases ih h with h | h
          · exact .inl h
          · exact .inr (List.mem_cons_of_mem _ h)

/-- A write to a table keeps its numbers rising. -/
theorem Rising.tset {α : Type} {t : Tab α} (h : Rising t) (k : Nat) (v : α) : Rising (tset t k v) := by
  induction t with
  | nil => simp [Machine.tset, Rising]
  | cons e r ih =>
    obtain ⟨k', v'⟩ := e
    obtain ⟨h1, h2⟩ := List.pairwise_cons.1 h
    simp only [Machine.tset]
    split
    · rename_i hk
      refine List.pairwise_cons.2 ⟨fun e he => ?_, h⟩
      rcases List.mem_cons.1 he with rfl | he
      · exact hk
      · exact Nat.lt_trans hk (h1 e he)
    · split
      · rename_i hk
        subst hk
        exact List.pairwise_cons.2 ⟨h1, h2⟩
      · refine List.pairwise_cons.2 ⟨fun e he => ?_, ih h2⟩
        rcases mem_tset he with rfl | he
        · show k' < k
          omega
        · exact h1 e he

/-- What is left of a table by a test keeps its numbers rising. -/
theorem Rising.filter {α : Type} {t : Tab α} (h : Rising t) (p : Nat × α → Bool) : Rising (t.filter p) := List.Pairwise.filter p h

/-- Taking a number off a table keeps its numbers rising. -/
theorem Rising.tdel {α : Type} {t : Tab α} (h : Rising t) (k : Nat) : Rising (tdel t k) := h.filter _

/-! Register fields. -/

@[simp] theorem State.rd_wr_same (s : State) (f : Fld) (v : Nat) : (s.wr f v).rd f = v % 2 ^ f.width := by
  simp [State.rd]

theorem State.rd_wr_other (s : State) (f g : Fld) (v : Nat) (h : g.key ≠ f.key) : (s.wr f v).rd g = s.rd g := by
  simp [State.rd, tget_tset_other _ _ _ _ _ h]

/-- What a state reads in a field depends on the register file alone. -/
theorem State.rd_congr {s t : State} (h : t.live = s.live) (f : Fld) : t.rd f = s.rd f := by simp [State.rd, h]

/-! The window's bytes. -/

theorem memory_wf_iff (m : List Host.Cell) :
    Memory.wf m = true ↔ (∀ e ∈ m, e.2 ≠ memDefault) ∧ m.Pairwise (fun x y => x.1 < y.1) := by
  induction m with
  | nil => simp [Memory.wf]
  | cons e r ih =>
    obtain ⟨k, v⟩ := e
    cases r with
    | nil => simp [Memory.wf]
    | cons e' r' =>
      obtain ⟨k', v'⟩ := e'
      have two : Memory.wf ((k, v) :: (k', v') :: r') = ((v != memDefault && decide (k < k')) && Memory.wf ((k', v') :: r')) := rfl
      rw [two, Bool.and_eq_true, Bool.and_eq_true, bne_iff_ne, decide_eq_true_eq]
      constructor
      · rintro ⟨⟨h1, h2⟩, h3⟩
        obtain ⟨h4, h5⟩ := ih.1 h3
        refine ⟨fun e he => ?_, List.pairwise_cons.2 ⟨fun e he => ?_, h5⟩⟩
        · rcases List.mem_cons.1 he with rfl | he
          · exact h1
          · exact h4 e he
        · rcases List.mem_cons.1 he with rfl | he
          · exact h2
          · exact Nat.lt_trans h2 ((List.pairwise_cons.1 h5).1 e he)
      · rintro ⟨h1, h2⟩
        obtain ⟨h3, h4⟩ := List.pairwise_cons.1 h2
        exact ⟨⟨h1 _ List.mem_cons_self, h3 _ List.mem_cons_self⟩, ih.2 ⟨fun e he => h1 e (List.mem_cons_of_mem _ he), h4⟩⟩

theorem memDrop_eq_filter (m : List Host.Cell) (a : Nat) (h : m.Pairwise (fun x y => x.1 < y.1)) :
    memDrop m a = m.filter (fun e => e.1 != a) := by
  induction m with
  | nil => rfl
  | cons e r ih =>
    obtain ⟨k, v⟩ := e
    obtain ⟨h1, h2⟩ := List.pairwise_cons.1 h
    have above : ∀ b, (∀ e ∈ r, b < e.1) → r.filter (fun e => e.1 != b) = r := fun b hb =>
      List.filter_eq_self.2 fun e he => by have := hb e he; simp; omega
    simp only [memDrop]
    split
    · rename_i hk
      subst hk
      simp [above a h1]
    · split
      · rename_i hne hlt
        have : ∀ e ∈ r, a < e.1 := fun e he => Nat.lt_trans hlt (h1 e he)
        have hka : (k != a) = true := by simp; omega
        simp [hka, above a this]
      · rename_i hne _
        have : (k != a) = true := by simp; omega
        simp [this, ih h2]

/-- Writing a byte keeps the canonical form. -/
theorem memSet_wf {m : List Host.Cell} (h : Memory.wf m = true) (a : Nat) (b : Byte) : Memory.wf (memSet m a b) = true := by
  rw [memory_wf_iff] at h ⊢
  obtain ⟨h1, h2⟩ := h
  unfold memSet
  split
  · rw [memDrop_eq_filter m a h2]
    exact ⟨fun e he => h1 e (List.mem_filter.1 he).1, h2.filter _⟩
  · rename_i hb
    refine ⟨fun e he => ?_, Rising.tset h2 a b⟩
    rcases mem_tset he with rfl | he
    · exact hb
    · exact h1 e he

/-- Writing bytes keeps the canonical form. -/
theorem memWrite_wf {m : List Host.Cell} (h : Memory.wf m = true) (a : Nat) (bs : List Byte) : Memory.wf (memWrite m a bs) = true := by
  induction bs generalizing m a with
  | nil => exact h
  | cons b r ih => exact ih (memSet_wf h a b) (a + 1)

/-- Clearing bytes keeps the canonical form. -/
theorem memClear_wf {m : List Host.Cell} (h : Memory.wf m = true) (a n : Nat) : Memory.wf (memClear m a n) = true := by
  rw [memory_wf_iff] at h ⊢
  exact ⟨fun e he => h.1 e (List.mem_filter.1 he).1, h.2.filter _⟩

theorem tget?_memDrop (m : List Host.Cell) (a c : Nat) (h : m.Pairwise (fun x y => x.1 < y.1)) :
    tget? (memDrop m a) c = if c = a then none else tget? m c := by
  rw [memDrop_eq_filter m a h]
  induction m with
  | nil => simp [tget?]
  | cons e r ih =>
    obtain ⟨k, v⟩ := e
    have ih := ih (List.pairwise_cons.1 h).2
    by_cases hk : k = a
    · subst hk
      by_cases hc : c = k <;> simp_all [tget?]
    · by_cases hc : c = k <;> simp_all [tget?]

/-- The byte read after a byte is written: the byte written at its address, and what was read before at every other. -/
theorem memGet_memSet {m : List Host.Cell} (h : Memory.wf m = true) (a c : Nat) (b : Byte) :
    memGet (memSet m a b) c = if c = a then b else memGet m c := by
  have hp := ((memory_wf_iff m).1 h).2
  unfold memSet memGet tget
  split
  · rename_i hb
    rw [tget?_memDrop m a c hp]
    split <;> simp [hb]
  · by_cases hc : c = a
    · subst hc
      simp
    · simp [hc, tget?_tset_other m a c b hc]

/-- Bytes outside those written read as before. -/
theorem memGet_memWrite_other {m : List Host.Cell} (h : Memory.wf m = true) (a c : Nat) (bs : List Byte)
    (hc : c < a ∨ a + bs.length ≤ c) : memGet (memWrite m a bs) c = memGet m c := by
  induction bs generalizing m a with
  | nil => rfl
  | cons b r ih =>
    have : c ≠ a := by simp only [List.length_cons] at hc; omega
    rw [memWrite, ih (memSet_wf h a b) (a + 1) (by simp only [List.length_cons] at hc; omega), memGet_memSet h]
    simp [this]

end Sys2Proof.Machine
end

