-- ==== Sys2Proof/Laws/Ops.lean ====
section
/-! SUPPORT. What each shared operation can do, said once: the register operations, time, free values, events, interrupt causes,
lifetime counters, histograms, records for rings, areas of event flash, sets of the head link, messages, and commands on resources that
may not be fitted. -/

namespace Sys2Proof.Machine

open Sys2Proof Sys2Proof.Safety

/-! A guarded command. -/

@[simp] theorem guarded_true (t : State) : guarded true t = .next t := rfl
@[simp] theorem guarded_false (t : State) : guarded false t = .refused .notFitted := rfl

theorem guarded_next {b : Bool} {t u : State} : guarded b t = .next u ↔ b = true ∧ u = t := by
  cases b <;> simp [guarded, eq_comm]

theorem guarded_no_fault (b : Bool) (t : State) (f : Fault) : guarded b t ≠ .fault f := by
  cases b <;> simp [guarded]

/-! Registers. -/

theorem State.wr_sameBut (s : State) (f : Fld) (v : Nat) : SameBut [] s (s.wr f v) := by
  intro p _; cases p <;> first | rfl | exact ⟨rfl, rfl⟩

theorem State.wr_sameRegs (s : State) (f : Fld) (v : Nat) : SameRegs (fun k => k == f.key) s (s.wr f v) := by
  intro k h
  have hk : k ≠ f.key := by simpa using h
  exact tget?_tset_other s.live f.key k _ hk

theorem State.wr_rising {s : State} (h : Rising s.live) (f : Fld) (v : Nat) : Rising (s.wr f v).live := Rising.tset h _ _

theorem State.wr_tget?_other (s : State) (f : Fld) (v k : Nat) (h : k ≠ f.key) : tget? (s.wr f v).live k = tget? s.live k :=
  tget?_tset_other s.live f.key k _ h

theorem State.incBy_rd (s : State) (f : Fld) (n : Nat) : (s.incBy f n).rd f = min (s.rd f + n) (2 ^ f.width - 1) := by
  have h : min (s.rd f + n) (2 ^ f.width - 1) < 2 ^ f.width := by
    have : 0 < 2 ^ f.width := Nat.two_pow_pos _
    omega
  simp [State.incBy, Nat.mod_eq_of_lt h]

theorem State.incBy_rd_other (s : State) (f g : Fld) (n : Nat) (h : g.key ≠ f.key) : (s.incBy f n).rd g = s.rd g :=
  State.rd_wr_other s f g _ h

theorem State.inc_rd (s : State) (f : Fld) : (s.inc f).rd f = min (s.rd f + 1) (2 ^ f.width - 1) := State.incBy_rd s f 1

/-! Time and free values. -/

theorem State.pass_sameBut (s : State) (n : Nat) : SameBut [.clk, .timeBase] s (s.pass n) := by
  intro p h; cases p <;> first | rfl | exact ⟨rfl, rfl⟩ | (simp at h)

@[simp] theorem State.pass_live (s : State) (n : Nat) : (s.pass n).live = s.live := rfl
@[simp] theorem State.pass_clk (s : State) (n : Nat) : (s.pass n).clk = s.clk + n := rfl
@[simp] theorem State.atTime_live (s : State) (t : Nat) : (s.atTime t).live = s.live := rfl

theorem State.atTime_clk (s : State) (t : Nat) : (s.atTime t).clk = max s.clk t := by
  simp only [State.atTime, State.pass_clk]; omega

theorem State.atTime_sameBut (s : State) (t : Nat) : SameBut [.clk, .timeBase] s (s.atTime t) := s.pass_sameBut _

theorem State.draw_lt (s : State) (w : Nat) : (s.draw w).1 < 2 ^ w := Nat.mod_lt _ (Nat.two_pow_pos w)

theorem State.draw_sameBut (s : State) (w : Nat) : SameBut [.drawn] s (s.draw w).2 := by
  intro p h; cases p <;> first | rfl | exact ⟨rfl, rfl⟩ | (simp at h)

@[simp] theorem State.draw_live (s : State) (w : Nat) : (s.draw w).2.live = s.live := rfl

/-! Events, causes, counters. -/

@[simp] theorem State.event_live (s : State) (d c : Nat) (p : List Nat) : (s.event d c p).live = s.live := rfl
@[simp] theorem State.cause_live (s : State) (n : Nat) : (s.cause n).live = s.live := rfl
@[simp] theorem State.causeAt_live (s : State) (d n : Nat) : (s.causeAt d n).live = s.live := rfl
@[simp] theorem State.life_live (s : State) (d n a : Nat) : (s.life d n a).live = s.live := rfl
@[simp] theorem State.histo_live (s : State) (d n b : Nat) : (s.histo d n b).live = s.live := rfl
@[simp] theorem State.post_live (s : State) (r k : Nat) (b : List Nat) : (s.post r k b).live = s.live := rfl
@[simp] theorem State.release_live (s : State) (i b t : Nat) : (s.release i b t).live = s.live := rfl

theorem State.event_raises (s : State) (d c : Nat) (p : List Nat) (h : ∀ w ∈ p, w < 2 ^ 24) : Raises s (s.event d c p) d c p := by
  have hp : p.map (· % 2 ^ 24) = p := by
    have : p.map (· % 2 ^ 24) = p.map id := List.map_congr_left fun w hw => Nat.mod_eq_of_lt (h w hw)
    simpa using this
  unfold Raises State.event
  rw [hp]
  rfl

theorem State.event_sameBut (s : State) (d c : Nat) (p : List Nat) : SameBut [.rcd] s (s.event d c p) := by
  intro q h; cases q <;> first | rfl | exact ⟨rfl, rfl⟩ | (simp at h)

theorem State.cause_causes (s : State) (n : Nat) : (s.cause n).irq.causes = s.irq.causes ++ [n] := rfl

theorem State.cause_sameBut (s : State) (n : Nat) : SameBut [.irq] s (s.cause n) := by
  intro q h; cases q <;> first | rfl | exact ⟨rfl, rfl⟩ | (simp at h)

theorem State.life_value (s : State) (d n a : Nat) :
    tget (s.life d n a).rcd.life (64 * d + n) 0 = min (tget s.rcd.life (64 * d + n) 0 + a) (2 ^ 48 - 1) := tget_tset_same ..

theorem State.life_sameBut (s : State) (d n a : Nat) : SameBut [.rcd] s (s.life d n a) := by
  intro q h; cases q <;> first | rfl | exact ⟨rfl, rfl⟩ | (simp at h)

theorem State.histo_sameBut (s : State) (d n b : Nat) : SameBut [.rcd] s (s.histo d n b) := by
  intro q h; cases q <;> first | rfl | exact ⟨rfl, rfl⟩ | (simp at h)

theorem State.windowed_sameBut (s : State) (d c k : Nat) (p : List Nat) (b : Bool) (o : Option Nat) :
    SameBut [.rcd] s (s.windowed d c k p b o) := by
  intro q h; cases q <;> first | rfl | exact ⟨rfl, rfl⟩ | (simp at h)

theorem State.openEpisode_sameBut (s : State) (c k : Nat) : SameBut [.rcd] s (s.openEpisode c k) := by
  intro q h
  unfold State.openEpisode
  split
  · cases q <;> first | rfl | exact ⟨rfl, rfl⟩
  · cases q <;> first | rfl | exact ⟨rfl, rfl⟩ | (simp at h)

theorem State.eventOnce_sameBut (s : State) (d c k : Nat) (p : List Nat) : SameBut [.rcd] s (s.eventOnce d c k p) := by
  intro q h
  unfold State.eventOnce State.openEpisode
  split
  · cases q <;> first | rfl | exact ⟨rfl, rfl⟩
  · cases q <;> first | rfl | exact ⟨rfl, rfl⟩ | (simp at h)

theorem State.eventOnce_quiet (s : State) (d c k : Nat) (p : List Nat) (h : s.inEpisode c k = true) : s.eventOnce d c k p = s := by
  simp [State.eventOnce, h]

/-! Records for rings. -/

theorem State.post_sameBut (s : State) (r k : Nat) (b : List Nat) : SameBut [.win] s (s.post r k b) := by
  intro q h; cases q <;> first | rfl | exact ⟨rfl, rfl⟩ | (simp at h)

theorem State.release_sameBut (s : State) (i b t : Nat) : SameBut [.win] s (s.release i b t) := by
  intro q h; cases q <;> first | rfl | exact ⟨rfl, rfl⟩ | (simp at h)

theorem State.release_postings (s : State) (i b t : Nat) :
    (s.release i b t).win.postings = s.win.postings ++ [.release i b t] := rfl

/-! Areas of event flash in two copies. -/

@[simp] theorem Area.fail_none {α : Type} (x : Area α) : x.fail false false = x := by simp [Area.fail]

theorem Area.fail_both {α : Type} (x : Area α) : (x.fail true true).newer = none := rfl

theorem Area.write_written {α : Type} (x : Area α) (v : α) : (x.write v).written = true := by
  unfold Area.write; split <;> rfl

theorem Area.write_not_lost {α : Type} (x : Area α) (v : α) : (x.write v).lost = false := by
  unfold Area.write
  split <;> simp only [Area.lost, Area.newer, Bool.true_and]
  · cases x.b <;> simp only [] <;> (try split) <;> rfl
  · cases x.a <;> simp only [] <;> (try split) <;> rfl

/-! Sets of the head link. -/

theorem setData_crcSet (k : Nat) (data : List Nat) (h : ∀ c ∈ data, c < 256) : setData k data.length (crcSet k data) = some data := by
  simp [setData, crcSet]
  exact h

/-! MSI-X messages. -/

theorem State.sendMsix_sameBut (s : State) (v : Nat) : SameBut [.host] s (s.sendMsix v) := by
  intro q h; cases q <;> first | rfl | exact ⟨rfl, rfl⟩ | (simp at h)

/-! Service. -/

theorem State.served_in {s : State} {a : Nat} (h : s.inService a = true) (t : State) : s.served a t = t := by simp [State.served, h]
theorem State.served_early {s : State} {a : Nat} (h : s.inService a = false) (t : State) : s.served a t = s.tooEarly a := by
  simp [State.served, h]

end Sys2Proof.Machine

namespace Sys2Proof.Safety

open Sys2Proof Sys2Proof.Machine

/-! Chains of updates. -/

theorem SameBut.trans {ps qs : List Part} {s t u : State} (h : SameBut ps s t) (k : SameBut qs t u) : SameBut (ps ++ qs) s u := by
  intro p hp
  have h1 := h p (by simp at hp; exact hp.1)
  have h2 := k p (by simp at hp; exact hp.2)
  cases p <;> simp_all [Part.same]

theorem SameBut.refl (s : State) : SameBut [] s s := by
  intro p _; cases p <;> first | rfl | exact ⟨rfl, rfl⟩

theorem SameRegs.trans {p q : Nat → Bool} {s t u : State} (h : SameRegs p s t) (k : SameRegs q t u) :
    SameRegs (fun n => p n || q n) s u := by
  intro n hn
  have hn' : p n = false ∧ q n = false := by simpa using hn
  exact (k n hn'.2).trans (h n hn'.1)

end Sys2Proof.Safety
end

