-- ==== Sys2Proof/Machine/Pins.lean ====
section
/-! DEFINITION. The levels of the output balls that the block drives (R24, R126, R299, R318, R327, R328, R378, R439, R509, R540, R593,
R600), at the present SENSE time. -/

namespace Sys2Proof.Machine

open Sys2Proof

/-- The outputs of R126 that a unit holds low or deasserted while reset is asserted or it does not lead (R509). -/
def State.outputsHeld (s : State) : Bool := s.boot.inReset || !s.leads

/-- The strobe ball of a group: high for the width of its last strobe, and low on a fenced group or without the FIRE clock (R24, R318,
R334). -/
def State.strobeOut (s : State) (g : Nat) : Bool :=
  let x := s.group g
  !s.boot.inReset && s.grpState g != 2 && !s.press.fireLost.contains (g / 8) &&
    x.last.any (fun f => f ≤ 2 * s.clk && 2 * s.clk < f + x.width)

/-- The STEP ball of an axis: high for the width of each pulse of the present tick (R432, R437). -/
def State.stepOut (s : State) (a : Nat) : Bool :=
  let x := s.axis a
  !s.outputsHeld && x.pulses.any (fun p => p ≤ s.clk && s.clk < p + x.stepWidth)

/-- The DIR ball of an axis. -/
def State.dirOut (s : State) (a : Nat) : Bool := !s.outputsHeld && (s.axis a).dirPin

/-- An MS ball of an axis (R439). -/
def State.msOut (s : State) (a i : Nat) : Bool := !s.outputsHeld && bit (s.axis a).msPins i

/-- The balls A, B and Z of an emulation output, as 0, 1 and 2; A carries a pulse in step/direction mode (R299, R301). -/
def State.emuOut (s : State) (x line : Nat) : Bool :=
  let e := s.emu x
  !s.outputsHeld && match line with
    | 0 => e.lineA (s.on (F.FBK_EMU_CTL_MODE (x / 2) (x % 2))) (2 * s.clk)
    | 1 => e.b
    | _ => e.z

/-- The bits of a frame of a chain (R593): device 0 first, three channels to a share, level and phase, most significant bit first. -/
def ledBits (devs : Nat) (frame : Tab (Nat × Nat)) : List Bool :=
  let msb (n w : Nat) : List Bool := (List.range w).map (fun i => bit n (w - 1 - i))
  (List.range devs).flatMap (fun dev => [0, 1, 2].flatMap (fun ch =>
    let e := tget frame (4 * dev + ch) (0, 0)
    msb e.1 16 ++ msb e.2 8))

/-- DATA of a chain (R593, R600): high in a gate; in a frame each bit of 200 clocks is high for 125 clocks for a 1 and for 50 for a 0. -/
def State.ledDataOut (s : State) (c : Nat) : Bool :=
  let x := s.chain c
  let n := s.clk - x.sentAt
  !s.outputsHeld && (x.gate || (x.out.isSome &&
    match (ledBits (s.ledDevs c) x.sent)[n / 200]? with
    | some b => decide (n % 200 < if b then 125 else 50)
    | none => false))

/-- CAM_TRIG of a die: high for 10 microseconds from a trigger (R378). -/
def State.camTrigOut (s : State) (d : Nat) : Bool := s.clk < (s.cam d).trigTo

/-- CAM_FLASH of a die (R378). -/
def State.camFlashOut (s : State) (d : Nat) : Bool := (s.cam d).flash.1 ≤ s.clk && s.clk < (s.cam d).flash.2

/-- REJECT (R328). -/
def State.rejectBall (s : State) : Bool := !s.outputsHeld && s.on (F.LNP_REJ_STAT_REJECT 0)

/-- SPEED_LIM: a pacer is in the OMIT or NOFIRE band (R327). -/
def State.speedLimBall (s : State) : Bool := !s.outputsHeld && (List.range (2 * s.dies)).any (fun p => s.band p != 0)

/-- LEADING (R509). -/
def State.leadingBall (s : State) : Bool := !s.boot.inReset && s.leads

/-- PWR_SAFE: asserted in reset and once the steps of a power warning have ended (R126, R147). -/
def State.pwrSafeBall (s : State) : Bool := s.boot.inReset || s.boot.safe

/-- The level of an output ball of a die's strip; none for inputs, lanes and supplies. The N ball of a pair is the complement. -/
def State.stripLevel (s : State) (d : Nat) (x : StripSignal) : Option Bool :=
  match x with
  | .strobe n neg => some (s.strobeOut (8 * d + n) != neg)
  | .camTrig => some (s.camTrigOut d)
  | .camFlash => some (s.camFlashOut d)
  | .step n => some (s.stepOut (4 * d + n))
  | .dir n => some (s.dirOut (4 * d + n))
  | .ms n i => some (s.msOut (4 * d + n) i)
  | .emu x line => some (s.emuOut (2 * d + x) line)
  | .ledData m => some (s.ledDataOut (2 * d + m))
  | _ => none

/-- The level of an output ball of the gateway. -/
def State.gatewayLevel (s : State) (x : GatewaySignal) : Option Bool :=
  match x with
  | .pwrSafe => some s.pwrSafeBall
  | .leading => some s.leadingBall
  | .reject => some s.rejectBall
  | .speedLim => some s.speedLimBall
  | .mtrOk => some s.mtrOk
  | _ => none

end Sys2Proof.Machine
end

