-- ==== Sys2Proof/Tests/Slice0.lean ====
section
/-! SUPPORT. Tests: ill-formed commands that the check refuses, and for each clause of the statements a state and operands that meet its
conditions, with what the command then does. -/

namespace Sys2Proof.Tests

open Sys2Proof Sys2Proof.Machine

set_option Elab.async false

/-- A state with fields at given values, and all else as after reset. -/
def having (l : List (Fld × Nat)) : State := l.foldl (fun s e => s.wr e.1 e.2) State.reset

/-- Every die and the package in full service. -/
def full : List (Fld × Nat) := (F.BOOT_STAT_STAGE, 7) :: (List.range 8).map (fun d => (F.DIE_STAT_STAGE d, 7))

/-- A state in full service with fields at given values. -/
def up (l : List (Fld × Nat)) : State := having (full ++ l)

/-- A command ends in a next state that passes a test. -/
def gives (o : Host.Outcome State Fault Refusal) (p : State → Bool) : Bool :=
  match o with
  | .next t => p t
  | _ => false

/-- An event of a die is on its way to the recorder. -/
def raised (t : State) (die code : Nat) : Bool := t.rcd.raised.any (fun r => r.die = die ∧ r.code = code)


/-! Ill-formed commands: one for each check of an operand, at the first value out of its range; the check refuses each. -/

theorem test_illFormed_1 : ([
    .registerWrite 16777216 false 0, .pairLowRead 16777216, .rcRead 16777216 0, .rateWindowEnd 65536 ⟨0, 0⟩, .episodeQuietEnd 65536 ⟨0, 0⟩,
    .enWrite (.trg 16) false, .startComplete (.trg 16) [] 0, .startBoundExceeded (.trg 16) 0, .shutdownComplete (.trg 16) 0,
    .stopBoundExceeded (.trg 16) 0, .fireClockLost 8 0, .iareodLaneFail 8 0 0 0 0, .iareodLaneFail 0 4 0 0 0, .iareodLaneFail 0 0 34 0 0,
    .stagedWrite 16777216 0, .commitApply 16777216 (.cam 0) false 0, .commitApply 0 (.bar 16) false 0, .commitComplete 16777216 0,
    .epochCancel 16777216, .snapshotLatch 8 0, .encRoundLatch [8] 0, .dieCensusDone [32] 0, .bootFlashReadDone [10] 0,
    .sdramTrainingDone 8 0 [] [] 0, .sdramTrainingDone 0 0 [8] [] 0, .sdramTrainingDone 0 0 [] [8] 0, .eccInitDone 8 [] 0,
    .eccInitDone 0 [8] 0, .tickleBurst 8 0, .speedwellLine 8 0, .winDefine 65536, .winGive 65536 0, .winGive 0 256, .winReclaim 65536 0,
    .winReclaim 0 256, .winUndefine 65536 0, .winUndefine 0 256, .winBadOp 65536 0, .winBadOp 0 16, .giveEffective 65536, .doorbell 256 0,
    .doorbell 0 65536, .ringEntryRead 256, .nop 256, .mgmtRead 4294967296 0 0, .mgmtRead 0 4294967296 0, .mgmtRead 0 0 256,
    .mgmtEnvelope 4294967296 []
    ] : List Instr).all (fun c => !c.wf) = true := by decide +kernel

theorem test_illFormed_2 : ([
    .mgmtEnvelope 0 [4294967296], .ctxLoad 256, .ctxValidated 128 none, .ctxValidated 0 (some 16), .ctxArm 256, .ctxStop 256,
    .ctxUnload 256, .jobRetired 128, .pageDescriptor 256, .pageDone 256, .pageStreamStart 256, .workStreamStart 8, .stagingSpace 8 0,
    .stagingSpace 0 8, .stagingWritten 8 0 0 0, .stagingWritten 0 8 0 0, .decompStreamError 8 0 false, .decompStreamError 0 8 false,
    .decompStreamEnd 8 0, .decompStreamEnd 0 8, .workDecomp 256, .workComp 256, .workCompMore 256, .producerCompressStart 8 0,
    .producerCompressStart 0 2, .compOutputSpace 8 0, .compOutputSpace 0 2, .compStallTimeout 8 ⟨0, false, 0⟩,
    .compStallTimeout 0 ⟨2, false, 0⟩, .compClose 8 0, .compClose 0 2, .rasLineBegin 16 0, .rasNzDataAccess 8 none,
    .fbkEdge 40 false false 0 0, .zEdge 40 ⟨0, 0⟩, .standstillTimeout 40 0, .losSet 40 0, .losClear 40 0, .emuEmit 16 0,
    .lineTrigger 64 0 0 [], .strobeFire 64 0, .strobeWithdraw 64 0, .strobeCut 64 0, .strobeStuck 64, .periodGuard 64 0,
    .groupFaultClear 64 false, .pacerTickle 64 0, .linkRetryTimer 64 0
    ] : List Instr).all (fun c => !c.wf) = true := by decide +kernel

theorem test_illFormed_3 : ([
    .clockSettled 64 0, .trainedReceived 64 0 0 0, .trainedReceived 0 512 0 0, .trainedReceived 0 0 3 0, .trainTimeout 64 0,
    .memdataReceived 64 0 [] 0, .memdataReceived 0 65536 [] 0, .identTimeout 64 0, .identReread 64 0, .statusReceived 64 0 0 0 0 0 [] 0,
    .statusReceived 0 3 0 0 0 0 [] 0, .statusReceived 0 0 64 0 0 0 [] 0, .statusTimeout 64 0, .returnCodeViolations 64 ⟨0, 0⟩,
    .returnPacketBad 64, .activeSend 64 0, .memRead 8 0, .memRead 0 128, .memReadRetry 8 0, .adapterLineFrame 64 false 0 false [],
    .adapterLineFrame 0 false 9 false [], .adapterLineFrame 0 false 0 false [512], .adapterNofireFrame 64 false ⟨0, []⟩,
    .adapterNofireFrame 0 false ⟨9, []⟩, .adapterNofireFrame 0 false ⟨0, [512]⟩, .adapterStrobe 64 false, .adapterActive 64 false 0 [] 0,
    .adapterActive 0 false 512 [] 0, .adapterActive 0 false 0 [512] 0, .adapterInputLapse 64 false 0, .adapterRead 64 0 [],
    .adapterRead 0 512 [], .adapterRead 0 0 [512], .adapterTrain 64 0, .adapterTrain 0 512, .adapterFaultEntry 64 0,
    .adapterFaultEntry 0 16, .camTrigger 8 0, .camFlashPulse 8 0, .frameStart 8 0 0, .frameStart 0 4 0, .csiPacket 8 0 0 false false [],
    .csiPacket 0 4 0 false false [], .csiPacket 0 0 64 false false [], .frameEnd 8 0 0, .frameEnd 0 4 0, .cciTransferDone 8 none 0 0,
    .cciTransferDone 0 (some 65536) 0 0
    ] : List Instr).all (fun c => !c.wf) = true := by decide +kernel

theorem test_illFormed_4 : ([
    .camRawGo 8 false, .camArchReq 8, .camArchQWrite 8 0 0, .camArchQWrite 0 65536 0, .camArchQWrite 0 0 256, .camTblDataRead 8,
    .camInitDataAccess 8 none, .camStopFrameTimeout 8 0, .frameDecode 8 0, .calReq 65536 0, .calReq 0 256, .motionTick 32 0, .stallClear 32,
    .followLagClear 32, .memRefresh 8 0 0 false, .memRefresh 0 4 0 false, .memRefresh 0 0 4 false, .mr4Poll 8 [] [] ⟨⟨0, 0, 0, 0, 0⟩, 0⟩,
    .mr4Poll 0 [8] [] ⟨⟨0, 0, 0, 0, 0⟩, 0⟩, .mr4Poll 0 [] [256] ⟨⟨0, 0, 0, 0, 0⟩, 0⟩, .freqSwitch 8 0, .scrubHour 8 0 0, .scrubHour 0 4 0,
    .sdramUncorrectable 8 0 ⟨0, none⟩, .sdramUncorrectable 0 4 ⟨0, none⟩, .sdramUncorrectable 0 0 ⟨68719476736, none⟩,
    .sdramUncorrectable 0 0 ⟨0, some 2⟩, .memCmdRetire 8 0, .memCmdRetire 0 4, .migrateDone 8 0, .engineWatchdogExpire 8 0 0 0,
    .engineWatchdogExpire 0 12 0 0, .engineFault 8 0 0 0 0, .engineFault 0 12 0 0 0, .irqCoalTimeout ⟨2048, 0⟩, .irqRaiseArrival 8,
    .irqhClaim 16, .irqhDone 16 0, .irqhDone 0 2048, .irqhMaskSet 2048, .irqhMaskClr 2048, .irqhFlush 16, .irqhAccept 16 false, .irqSet 8 0,
    .irqSet 0 256, .dieTimeSync 8 0 0, .ptpSync ⟨128, 0, 0⟩ 0, .ptpSync ⟨0, (2 ^ 80), 0⟩ 0
    ] : List Instr).all (fun c => !c.wf) = true := by decide +kernel

theorem test_illFormed_5 : ([
    .ptpSync ⟨0, 0, (2 ^ 64)⟩ 0, .timeSet 18446744073709551616 0, .timeAdj 16777216 0, .timeSrcWrite 4 0, .trgFire 16 0,
    .pairLinkUp 65536 0 0, .pairLinkUp 0 512 0, .pairLaneFail 9 0, .renewReceived 281474976710656 0 0 0, .renewReceived 0 16777216 0 0,
    .renewReceived 0 0 16777216 0, .ackReceived 16777216 0 0, .ackReceived 0 16777216 0,
    .pairStatusReceived 16777216 0 0 false false false 0 0, .pairStatusReceived 0 16777216 0 false false false 0 0,
    .pairStatusReceived 0 0 6 false false false 0 0, .pairStatusReceived 0 0 0 false false false 16777216 0,
    .lineSyncReceived 281474976710656 0 0, .lineSyncReceived 0 1099511627776 0, .controlHandover 281474976710656 0,
    .pairCommitReceived 3 0 0 0 false 0 0 0, .pairCommitReceived 0 281474976710656 0 0 false 0 0 0,
    .pairCommitReceived 0 0 16777216 0 false 0 0 0, .pairCommitReceived 0 0 0 16 false 0 0 0,
    .pairCommitReceived 0 0 0 0 false 4294967296 0 0, .pairCancelReceived 16777216, .pairCtxReceived 3 0 0 0 false 0 0,
    .pairCtxReceived 0 281474976710656 0 0 false 0 0, .pairCtxReceived 0 0 16777216 0 false 0 0, .pairCtxReceived 0 0 0 128 false 0 0,
    .pairCtxReceived 0 0 0 0 false 4294967296 0, .pairUnderReceived 281474976710656 0 0, .pairUnderReceived 0 16 0,
    .pairUnderReceived 0 0 16777216, .pairVerdictReceived 1048576 0 false 0, .pairVerdictReceived 0 16 false 0,
    .pairVerdictReceived 0 0 false 16777216, .pairDecisionReceived 281474976710656 0 false, .pairDecisionReceived 0 1048576 false,
    .pairRegReceived 16 0 0, .pairRegReceived 0 4096 0, .pairRegReceived 0 0 4096, .pairBulkReceived 3 [] 0, .tapSend 8 0,
    .tapCountRecord 8 0, .tapIdleRecord 8 0, .tapBadRecord 8 0, .tapDown 8 0
    ] : List Instr).all (fun c => !c.wf) = true := by decide +kernel

theorem test_illFormed_6 : ([
    .eventArrival 8 0, .evtRdSelWrite 65536, .ledFrameSend 16 0, .ledReturnFrame 16 [] 0, .ledReturnTimeout 16 0, .ledStatusStale 16 0 0,
    .ledStatusStale 0 64 0, .ledUvUpdate 16 0, .ledGateRise 16 0, .ledGateFall 16 0, .ledDataAccess 8 none, .monConversion 8 [] [] 0,
    .monConversion 0 [] [4096] 0, .hotFenceClear 8 [], .hotFenceClear 0 [8], .adapterFaultCleared 64, .adapterKAbsent 64,
    .ptpAnnounce ⟨⟨128, 0, 0, 0, 0, 0, 0, 0, 0, 1⟩, 0⟩, .ptpAnnounce ⟨⟨0, (2 ^ 80), 0, 0, 0, 0, 0, 0, 0, 1⟩, 0⟩,
    .ptpAnnounce ⟨⟨0, 0, (2 ^ 64), 0, 0, 0, 0, 0, 0, 1⟩, 0⟩, .ptpAnnounce ⟨⟨0, 0, 0, 256, 0, 0, 0, 0, 0, 1⟩, 0⟩,
    .ptpAnnounce ⟨⟨0, 0, 0, 0, 256, 0, 0, 0, 0, 1⟩, 0⟩, .ptpAnnounce ⟨⟨0, 0, 0, 0, 0, 256, 0, 0, 0, 1⟩, 0⟩,
    .ptpAnnounce ⟨⟨0, 0, 0, 0, 0, 0, 65536, 0, 0, 1⟩, 0⟩, .ptpAnnounce ⟨⟨0, 0, 0, 0, 0, 0, 0, 256, 0, 1⟩, 0⟩,
    .ptpAnnounce ⟨⟨0, 0, 0, 0, 0, 0, 0, 0, 65536, 1⟩, 0⟩, .ptpAnnounce ⟨⟨0, 0, 0, 0, 0, 0, 0, 0, 0, 0⟩, 0⟩, .ptpDelayResp ⟨128, 0, 0, 0⟩,
    .ptpDelayResp ⟨0, (2 ^ 80), 0, 0⟩, .ptpDelayResp ⟨0, 0, (2 ^ 64), 0⟩, .ptpDelayResp ⟨0, 0, 0, (2 ^ 64)⟩,
    .msixMaskWrite 0x2000 .bar4Read, .msixMaskWrite 2 .bar4Read, .msixMaskWrite 0x2000 (.bar4Write 0),
    .msixMaskWrite 0 (.bar4Write (2 ^ 32)), .msixMaskWrite 0 (.device 100 false false), .msixMaskWrite 0 (.atomicOp 1)
    ] : List Instr).all (fun c => !c.wf) = true := by decide +kernel

theorem test_illFormed_numbers : ([.spw 8, .tkl 8, .ring 256, .zip 8, .ras 16, .lnp 16, .lan 64, .cam 8, .mot 32, .fbk 40, .emu 16, .led 16, .eng 96, .trg 16] : List Block).all
    (fun b => !b.wf) && ([.bar 16, .cam 8, .block 8 0, .block 0 33] : List Consumer).all (fun k => !k.wf) = true := by decide +kernel

/-! Enable and registers (chapter 01). -/

theorem test_enWrite_off : (let s := up []
    s.blockFitted (.ring 3) && s.inService (blockCtl (.ring 3)) && !alwaysOn (.ring 3) && s.blockState (.ring 3) = 0 &&
      gives (exec (.enWrite (.ring 3) false) s) (· = s.wr (blockFld (.ring 3) 0 1) 0)) = true := by decide +kernel

theorem test_enWrite_starts : (let s := up []
    s.blockFitted (.zip 3) && s.inService (blockCtl (.zip 3)) && !(s.wr (blockFld (.zip 3) 0 1) 1).startFails (.zip 3) &&
      gives (exec (.enWrite (.zip 3) true) s) (fun t => t.blockState (.zip 3) = 1 && t.on (blockFld (.zip 3) 0 1))) = true := by decide +kernel

theorem test_enWrite_fails : (let s := up []
    s.blockFitted (.ring 3) && (s.wr (blockFld (.ring 3) 0 1) 1).startFails (.ring 3) &&
      gives (exec (.enWrite (.ring 3) true) s) (fun t => t.blockState (.ring 3) = 0 && t.on (blockFld (.ring 3) 6 1) &&
        raised t 0 0x04F0)) = true := by decide +kernel

theorem test_enWrite_starting : (let s := up [(blockFld (.zip 3) 4 2, 1)]
    s.blockState (.zip 3) = 1 && gives (exec (.enWrite (.zip 3) false) s) (fun t => t.on (blockFld (.zip 3) 2 1)) &&
      gives (exec (.enWrite (.zip 3) true) s) (fun t => !t.on (blockFld (.zip 3) 2 1))) = true := by decide +kernel

theorem test_enWrite_on : (let s := up [(blockFld (.zip 3) 4 2, 2)]
    s.blockState (.zip 3) = 2 && gives (exec (.enWrite (.zip 3) false) s) (fun t => t.blockState (.zip 3) = 3) &&
      gives (exec (.enWrite (.zip 3) true) s) (fun t => t.blockState (.zip 3) = 2)) = true := by decide +kernel

theorem test_enWrite_stopping : (let s := up [(blockFld (.cam 0) 4 2, 3)]
    s.blockState (.cam 0) = 3 && gives (exec (.enWrite (.cam 0) true) s) (fun t => t.on (blockFld (.cam 0) 1 1))) = true := by decide +kernel

theorem test_enWrite_web : (let s := up []
    s.blockFitted (.fbk 4) && alwaysOn (.fbk 4) && gives (exec (.enWrite (.fbk 4) false) s) (· = s)) = true := by decide +kernel

/-- Two states of a block of which starts and stops can end. -/
def zipIn (v pend : Nat) : State := up [(blockFld (.zip 3) 4 2, v), (blockFld (.zip 3) pend 1, 1)]

theorem test_startComplete : (let s := zipIn 1 0
    (s.atTime 9).startReady (.zip 3) && !(s.atTime 9).startFails (.zip 3) && !(s.atTime 9).foundFails (.zip 3) [] &&
      !s.on (blockFld (.zip 3) 2 1) && gives (exec (.startComplete (.zip 3) [] 9) s) (fun t => t.blockState (.zip 3) = 2)) = true := by
  decide +kernel

theorem test_startComplete_pend : gives (exec (.startComplete (.zip 3) [] 9) (zipIn 1 2))
    (fun t => t.blockState (.zip 3) = 3 && !t.on (blockFld (.zip 3) 2 1)) = true := by decide +kernel

theorem test_startBoundExceeded : gives (exec (.startBoundExceeded (.zip 3) 9) (zipIn 1 2))
    (fun t => t.blockState (.zip 3) = 0 && t.on (blockFld (.zip 3) 6 1) && raised t 3 0x06F0) = true := by decide +kernel

theorem test_shutdownComplete : (((zipIn 3 0).atTime 9).stopReady (.zip 3) && gives (exec (.shutdownComplete (.zip 3) 9) (zipIn 3 0))
    (fun t => t.blockState (.zip 3) = 0)) = true := by decide +kernel

theorem test_shutdownComplete_pend : (let s := zipIn 3 1
    !((((s.atTime 9).setBlockState (.zip 3) 0).stopDone (.zip 3)).wr (blockFld (.zip 3) 1 1) 0).startFails (.zip 3) &&
      gives (exec (.shutdownComplete (.zip 3) 9) s) (fun t => t.blockState (.zip 3) = 1 && !t.on (blockFld (.zip 3) 1 1))) = true := by
  decide +kernel

theorem test_stopBoundExceeded : gives (exec (.stopBoundExceeded (.zip 3) 9) (zipIn 3 0))
    (fun t => t.blockState (.zip 3) = 0 && t.on (blockFld (.zip 3) 7 1) && raised t 3 0x06F1) = true := by decide +kernel

theorem test_registerWrite_scratch : (let s := up []
    s.inService 0x10 && gives (exec (.registerWrite 0x10 true 0xFF123456) s) (· = s.wr F.PKG_SCRATCH_VALUE 0x123456)) = true := by
  decide +kernel

set_option maxRecDepth 4000 in
theorem test_registerWrite_w1c : (let s := up [(F.QUE_CTL_START_FAIL 5, 1)]
    s.inService 0x50000 && s.blockState (.ring 5) = 0 &&
      gives (exec (.registerWrite 0x50014 true 0x14040) s) (fun t => !t.on (F.QUE_CTL_START_FAIL 5) && t.rd (F.QUE_CTL_DEPTH 5) = 16)) = true := by decide +kernel

theorem test_registerWrite_discard : (let s := up []
    s.absent 0xF0000 && gives (exec (.registerWrite 0xF0000 true 1) s) (fun t => t.rd F.WIN_BAR0_DISCARD_COUNT = 1) &&
      gives (exec (.registerWrite 0x10 false 1) s) (fun t => t.rd F.WIN_BAR0_DISCARD_COUNT = 1 && !t.on F.PKG_SCRATCH_VALUE)) = true := by
  decide +kernel

theorem test_registerWrite_early : (let s := having []
    !s.absent (dieAt 2 0x30000) && !s.inService (dieAt 2 0x30000) && addrDie (dieAt 2 0x30000) == some 2 &&
      gives (exec (.registerWrite (dieAt 2 0x30000) true 1) s) (fun t => t.rd F.BOOT_EARLY_VALUE = 1 && t.rd (F.DIE_ERR_EARLY 2) = 1))
    = true := by decide +kernel

theorem test_rcRead : (let s := up [(F.DIE_ERR_STAGE_DROP 1, 3), (F.DIE_ERR_EARLY 1, 2)]
    s.inService (dieAt 1 0x10) && s.host.pairLatch.isEmpty && s.rd F.EPOCH_CTL_VIEW = 0 &&
      gives (exec (.rcRead (dieAt 1 0x10) 4) s) (fun t => t.host.readData = [0x2003] && t.rd (F.DIE_ERR_EARLY 1) = 0)) = true := by decide +kernel

theorem test_pairLowRead : (let s := up [(F.DIE_LINE_LO_LINE 1, 0x312D00), (F.DIE_LINE_HI_LINE 1, 1)]
    s.inService (dieAt 1 8) && gives (exec (.pairLowRead (dieAt 1 8)) s) (fun t => t.host.readData = [0x312D00] &&
      gives (exec (.rcRead (dieAt 1 0xC) 4) (t.wr (F.DIE_LINE_HI_LINE 1) 2)) (fun u => u.host.readData = [1]))) = true := by decide +kernel

theorem test_fireClockLost : (let s := up []
    !s.press.fireLost.contains 2 && gives (exec (.fireClockLost 2 9) s) (fun t => t.press.fireLost = [2] && raised t 2 0x0803)) = true := by
  decide +kernel

theorem test_iareodLaneFail_spare : gives (exec (.iareodLaneFail 2 1 7 0 9) (up [(F.LNK_STAT_STATE 2 1, 2)]))
    (fun t => t.rd (F.LNK_STAT_SPARES 2 1) = 1 && raised t 2 0x0F21 && t.irq.causes = [556]) = true := by decide +kernel

theorem test_iareodLaneFail_third : gives (exec (.iareodLaneFail 2 1 7 0 9) (up [(F.LNK_STAT_STATE 2 1, 2), (F.LNK_STAT_SPARES 2 1, 2)]))
    (fun t => t.rd (F.LNK_STAT_STATE 2 1) = 3 && t.rd (F.LNK_STAT_LANES 2 1) = 16 && raised t 2 0x0F20) = true := by decide +kernel

/-- A window of two discarded accesses, and an episode of trigger skips. -/
def windowed : State := ((up []).windowed 0 0x0402 0 [0xF0000] true).windowed 0 0x0402 0 [0xF0004] true

theorem test_rateWindowEnd : (windowed.rcd.windows.length = 1 && windowed.rcd.windows.all (fun w => w.counted && w.src.isNone) &&
    gives (exec (.rateWindowEnd 0x0402 ⟨0, 200000000⟩) windowed) (fun t => t.rcd.windows.isEmpty && t.rcd.raised.map Raised.payload = [[0xF0000, 2]]) &&
    gives (exec (.rateWindowEnd 0x0402 ⟨0, 199999999⟩) windowed) (· = windowed.atTime 199999999)) = true := by decide +kernel

/-- An emulation output that has dropped steps and is empty since time 0. -/
def dropped : State := (up []).openEpisode 0x0D04 3

theorem test_episodeQuietEnd : (dropped.inEpisode 0x0D04 3 && (dropped.atTime 200000).quiet 0x0D04 3 && !(dropped.atTime 199999).quiet 0x0D04 3 &&
    gives (exec (.episodeQuietEnd 0x0D04 ⟨3, 200000⟩) dropped) (fun t => !t.inEpisode 0x0D04 3 && t.rcd.raised.isEmpty) &&
    gives (exec (.episodeQuietEnd 0x0D04 ⟨3, 199999⟩) dropped) (· = dropped.atTime 199999)) = true := by decide +kernel

theorem test_episodeQuietEnd_skips : (let s := ((up []).openEpisode 0x0A04 3).onCam 3 fun c => { c with skips := 6 }
    (s.cam 3).skipAt = 0 && gives (exec (.episodeQuietEnd 0x0A04 ⟨3, 200000000⟩) s) (fun t => (t.cam 3).skips = 0 &&
      t.rcd.raised.map Raised.payload = [[3, 6]])) = true := by decide +kernel

theorem test_startBoundExceeded_waits : (let s := up [(blockFld (.lnp 1) 4 2, 1), (blockFld (.ras 1) 4 2, 1)]
    s.blockState (.ras 1) = 1 && gives (exec (.startBoundExceeded (.lnp 1) 9) s) (· = s.atTime 9)) = true := by decide +kernel

theorem test_startComplete_late : (let s := up [(blockFld (.trg 2) 4 2, 1)]
    (s.atTime 9).reached ((s.atTime 9).trgCmp 2) && gives (exec (.startComplete (.trg 2) [] 9) s)
      (fun t => t.blockState (.trg 2) = 0 && t.on (F.TRG_CTL_LATE 2))) = true := by decide +kernel

theorem test_enWrite_camera : (let s := up [(F.DIE_STAT_TRAINED 2, 1)]
    !(s.wr (blockFld (.cam 2) 0 1) 1).startFails (.cam 2) &&
      gives (exec (.enWrite (.cam 2) true) s) (fun t => t.blockState (.cam 2) = 1)) = true := by decide +kernel

/-! Commits, snapshots and encoder rounds (chapter 02). -/

theorem test_stagedWrite : (let s := up []
    s.inService (dieAt 2 0x80008) && gives (exec (.stagedWrite (dieAt 2 0x80008) 0x13) s)
      (fun t => t.epoch.stage = [⟨2, (F.MEM_FREQ_OP 2).key, 3⟩] && t.stagedValue (F.MEM_FREQ_OP 2) = 3 && t.rd (F.MEM_FREQ_OP 2) = 0))
    = true := by decide +kernel

/-- One value staged for the refresh set-point of D2. -/
def staged1 : State := (up []).stageOn 2 (F.MEM_FREQ_OP 2).key 1

theorem test_stagedWrite_replaces : (staged1.epoch.stage = [⟨2, (F.MEM_FREQ_OP 2).key, 1⟩] &&
    gives (exec (.stagedWrite (dieAt 2 0x80008) 2) staged1) (fun t => t.epoch.stage = [⟨2, (F.MEM_FREQ_OP 2).key, 2⟩])) = true := by decide +kernel

/-- A staging buffer of D2 that is full. -/
def stagedFull : State := (up []).onEpoch fun e => { e with stage := (List.range 1024).map fun i => ⟨2, i, 0⟩ }

set_option maxRecDepth 20000 in
theorem test_stagedWrite_full : (1024 ≤ stagedFull.stagedCount 2 && stagedFull.epoch.stage.all (fun e => e.key != (F.MEM_FREQ_OP 2).key) &&
    stagedFull.rd F.EPOCH_QSTAT_STAGE_OVF = 0 && gives (exec (.stagedWrite (dieAt 2 0x80008) 2) stagedFull)
      (fun t => t.rd F.EPOCH_QSTAT_STAGE_OVF = 4 && t.rd (F.DIE_ERR_STAGE_DROP 2) = 1 && raised t 2 0x0242)) = true := by decide +kernel

theorem test_epochCommit_safe : (staged1.role = 0 && staged1.captureStatus true [((F.MEM_FREQ_OP 2).key, 1)] 0 false false = 0 &&
    gives (exec (.epochCommit true false) staged1) (fun t => t.epoch.stage.isEmpty && t.rd F.EPOCH_NEXT_ID_ID = 2 &&
      t.epoch.commits.map (fun c => (c.id, c.safe, c.parts)) = [(1, true, [(.block 2 8, false)])])) = true := by decide +kernel

/-- The line number is valid, and D0 stands at line 1,000. -/
def lined (l : List (Fld × Nat)) : State := up ([(F.EPOCH_CTL_LINE_VALID, 1), (F.DIE_LINE_LO_LINE 0, 1000)] ++ l)

theorem test_epochCommit_late : (let s := lined [(F.EPOCH_APPLY_LO_APPLY, 2000)]
    gives (exec (.epochCommit false false) s) (fun t => t.epoch.commits.map (fun c => (c.line, c.advanced)) = [(3048, true)] &&
      raised t 0 0x0241)) = true := by decide +kernel

theorem test_epochCommit_rejected : (let s := up []
    s.captureStatus false [] 0 false false = 8 && gives (exec (.epochCommit false false) s) (fun t => t.epoch.commits.isEmpty &&
      t.rd F.EPOCH_LAST_STATUS_WORD % 16 = 8 && t.irq.causes = [17] && raised t 0 0x0240)) = true := by decide +kernel

/-- A commit of the watchdog time of D3's engines. -/
def wdCommit : Commit :=
  ⟨5, 4, true, false, .host, [((F.ENG_WD_WD_MS 3).key, 20)], 0, 1000, false, false, [(.block 3 0xC, false)], [(.block 3 0xC, false)], 0, false, false, 0⟩

/-- The commit is pending. -/
def pending (c : Commit) : State := (lined []).onEpoch fun e => { e with commits := [c] }

theorem test_commitApply : (let s := pending wdCommit
    fldOf (F.ENG_WD_WD_MS 3).key = F.ENG_WD_WD_MS 3 && !isEn (F.ENG_WD_WD_MS 3).key &&
      s.consumerOf (F.ENG_WD_WD_MS 3).key = .block 3 0xC && !s.printField (F.ENG_WD_WD_MS 3).key && (s.atTime 9).mayApply wdCommit (.block 3 0xC) false &&
      gives (exec (.commitApply 5 (.block 3 0xC) false 9) s) (fun t => t.rd (F.ENG_WD_WD_MS 3) = 20 &&
        t.epoch.commits.map (fun c => (c.remaining, c.lastLine)) = [([], 1000)])) = true := by decide +kernel

theorem test_commitApply_waits : (let s := pending { wdCommit with safe := false, hasLine := true, line := 1001 }
    (s.commit? 5).isSome && !((s.atTime 9).mayApply { wdCommit with safe := false, hasLine := true, line := 1001 } (.block 3 0xC) false) &&
      gives (exec (.commitApply 5 (.block 3 0xC) false 9) s) (fun t => t.rd (F.ENG_WD_WD_MS 3) = 10)) = true := by decide +kernel

theorem test_commitApply_order : (let c := { wdCommit with id := 6, parts := [(.block 3 0xC, true)], remaining := [(.block 3 0xC, true)] }
    let s := (lined []).onEpoch fun e => { e with commits := [wdCommit, c] }
    !s.mayApply c (.block 3 0xC) true) = true := by decide +kernel

theorem test_commitComplete : (let s := pending { wdCommit with safe := false, remaining := [] }
    gives (exec (.commitComplete 5 9) s) (fun t => t.epoch.commits.isEmpty && t.rd F.EPOCH_LAST_ID_WORD = 5 &&
      t.rd F.EPOCH_LAST_STATUS_WORD = 0x800 && t.irq.causes = [16])) = true := by decide +kernel

theorem test_epochCancel : (let s := pending wdCommit
    s.role = 0 && gives (exec (.epochCancel 5) s) (fun t => t.epoch.commits.isEmpty && t.rd F.EPOCH_LAST_STATUS_WORD = 0x817 &&
      t.irq.causes = [16] && raised t 0 0x0243) && gives (exec (.epochCancel 6) s) (· = s)) = true := by decide +kernel

theorem test_epochCancel_applied : (let s := pending { wdCommit with remaining := [] }
    gives (exec (.epochCancel 5) s) (· = s)) = true := by decide +kernel

/-- The web stands still on every die. -/
def still (s : State) : State := (List.range 8).foldl (fun s d => s.setInput (5 * d + 4) { s.input (5 * d + 4) with still := true }) s

theorem test_epochZero : (let s := still (lined [])
    s.mayZero && gives (exec (.epochZero 0xA55A) s) (fun t => t.pkgLine = 0 && t.lineValid && t.rcd.raised.map (fun r => (r.code, r.payload)) = [(0x0246, [1000, 0])]) &&
      gives (exec (.epochZero 1) s) (· = s)) = true := by decide +kernel

theorem test_epochZero_refused : (let s := (still (lined [])).onEpoch fun e => { e with commits := [{ wdCommit with hasLine := true }] }
    !s.mayZero && gives (exec (.epochZero 0xA55A) s) (fun t => t.pkgLine = 1000 && raised t 0 0x0245)) = true := by decide +kernel

/-- WEB runs on D0. -/
def moving (l : List (Fld × Nat)) : State := (lined l).setInput 4 { (lined l).input 4 with still := false }

theorem test_snapReq : gives (exec (.snapReq true) (moving [])) (fun t => t.epoch.armed = some ⟨1002, false, [], [], [], [], 0⟩ &&
    t.rd F.SNAP_STAT_STATE = 1) = true := by decide +kernel

/-- A snapshot at line 900 that dies have latched. -/
def latched (l : List Nat) (timed : Bool) : State := (moving []).onEpoch fun e => { e with armed := some ⟨900, timed, l, [], [], [], 0⟩ }

theorem test_snapshotLatch : gives (exec (.snapshotLatch 0 9) (latched [1] false))
    (fun t => (t.epoch.armed.map Armed.latched) = some [0, 1] && t.rd F.SNAP_STAT_SEQ = 0) = true := by decide +kernel

theorem test_snapshotLatch_last : gives (exec (.snapshotLatch 0 9) (latched [1, 2, 3, 4, 5, 6, 7] false))
    (fun t => t.epoch.armed.isNone && t.rd F.SNAP_STAT_STATE = 2 && t.rd F.SNAP_STAT_SEQ = 1 &&
      t.rdPair F.SNAP_AT_LO_SNAP_AT F.SNAP_AT_HI_SNAP_AT = 900) = true := by decide +kernel

theorem test_encRoundOpen : (let s := (up []).onEpoch fun e => { e with crossed := true }
    s.epoch.round.isNone && !s.bootRoundDue && gives (exec (.encRoundOpen 9) (up [])) (· = (up []).atTime 9) && gives (exec (.encRoundOpen 9) s) (fun t => t.epoch.round = some ⟨[], []⟩))
    = true := by decide +kernel

/-- A round is open, or has latched counts that are 100 but for those of `off`. -/
def round (off : Nat → Int) : State :=
  (up []).onEpoch fun e => { e with round := some ⟨(List.range 8).map (fun d => (d, 100 + off d)), List.range 8⟩ }

theorem test_encRoundLatch : (!(round fun _ => 0).sequences && gives (exec (.encRoundLatch [3] 9) (round fun _ => 0))
    (fun t => t.epoch.round = some ⟨(List.range 8).map (fun d => (d, 0)), [0, 1, 2, 4, 5, 6, 7]⟩)) = true := by decide +kernel

theorem test_encRoundJudge_agree : (let s := round fun d => if d = 2 then 1 else 0
    !s.bootRound && gives (exec (.encRoundJudge 9) s) (fun t => t.rd F.ENC_STAT_ROUNDS = 1 && t.rcd.raised.isEmpty && t.epoch.round.isNone)) = true := by
  decide +kernel

theorem test_encRoundJudge_minority : gives (exec (.encRoundJudge 9) (round fun d => if d = 2 then 7 else 0))
    (fun t => (t.input 14).count = -7 && t.rd (F.ENC_DIV_COUNT 2) = 1 &&
      t.rcd.raised.map (fun r => (r.code, r.payload)) = [(0x0D10, [2, 0xFFFFF9]), (0x0805, [7])]) = true := by decide +kernel

theorem test_encRoundDeadline : (let s := (up []).onEpoch fun e => { e with round := some ⟨[(0, 5)], [0]⟩ }
    gives (exec (.encRoundDeadline 9) s) (fun t => t.epoch.round.isNone && raised t 0 0x0D13)) = true := by decide +kernel

/-! The structure loader (chapter 03). -/

/-- A STRUCT_LOAD that AUTH acts on next. -/
def loadActs (w : List Nat) (s : State) : State := s.onAuth fun a => { a with acts := [⟨1, 1, 7, w, none⟩] }

theorem test_structLoad : (let s := loadActs [0, 0, 0, 0] (up [])
    s.loadStatus (loadCmdOf [0, 0, 0, 0]) = 0 && gives (exec .structLoad s) (fun t => t.loaderState = 1 && t.auth.acts.isEmpty)) = true := by
  decide +kernel

theorem test_structLoad_busy : (let s := loadActs [0, 0, 0, 0] (up [(F.STRUCT_STAT_STATE, 1)])
    s.loadStatus (loadCmdOf [0, 0, 0, 0]) = 15 && gives (exec .structLoad s) (fun t => t.loaderState = 1 && t.rd F.STRUCT_STAT_ERR = 15 &&
      t.rcd.raised.map (fun r => (r.code, r.payload)) = [(0x0210, [15, 0, 0])])) = true := by decide +kernel

/-- A load is in a state of the loader. -/
def loadIn (st : Nat) (f : Loader → Loader) : State := (up [(F.STRUCT_STAT_STATE, st)]).onLd f

theorem test_structFifoWrite : gives (exec (.structFifoWrite 0x524E47) (loadIn 1 id)) (fun t => t.ld.inbox = [0x524E47]) = true := by decide +kernel

theorem test_structFifoWrite_discard : gives (exec (.structFifoWrite 1) (up [])) (fun t => t.rd F.STRUCT_DISCARD_COUNT = 1) = true := by decide +kernel

theorem test_imageWord : (let s := loadIn 1 fun l => { l with inbox := [0x524E47] }
    (s.atTime 9).nextWord = some 0x524E47 && gives (exec (.imageWordReceived 9) s) (fun t => t.ld.words = [0x524E47] && t.loaderState = 1)) = true := by
  decide +kernel

theorem test_imageWord_magic : gives (exec (.imageWordReceived 9) (loadIn 1 fun l => { l with inbox := [0x524E48] }))
    (fun t => t.loaderState = 0 && t.rd F.STRUCT_STAT_ERR = 1 && raised t 0 0x0210) = true := by decide +kernel

theorem test_imageWord_second : gives (exec (.imageWordReceived 9) (loadIn 1 fun l => { l with inbox := [5], words := [0x524E47] }))
    (fun t => t.ld.words = [5, 0x524E47] && t.rd F.STRUCT_RCVD_COUNT = 2) = true := by decide +kernel

/-- The overlay of the spec's example (chapter 03): LANEMAP of D3, two pairs, and the END section; its header's and sections' CRCs are those of
R91, and its tag that of an empty K-slot. -/
theorem test_lanemap_example : ((0x8D0B60 / 2 ^ 23 % 2, 0x8D0B60 / 2 ^ 15 % 256, 0x8D0B60 / 2 ^ 9 % 64, 0x8D0B60 / 2 ^ 6 % 8, 0x8D0B60 / 2 ^ 5 % 2)
      = (1, 26, 5, 5, 1)) ∧
    ((Image.empty.accept ⟨0, 16, 2, 0x08, [21, 0, 66, 0x8D0B60]⟩).lanes.map (fun e => (e.1, e.2.w)) = [(237, 0), (282, 0x8D0B60)]) ∧
    lanemapFault false ⟨0, 16, 2, 0x08, [21, 0, 66, 0x8D0B60]⟩ = none := by decide +kernel

theorem test_structVerifyDone_tag : (let s := loadIn 2 id
    !s.imageTagOk && gives (exec (.structVerifyDone 9) s) (fun t => t.loaderState = 0 && t.rd F.STRUCT_STAT_ERR = 8)) = true := by decide +kernel

set_option maxRecDepth 20000 in
theorem test_structBanksSwitched : (let s := { loadIn 4 (fun l => { l with incoming := { Image.empty with id := 9, dclass := 3 } }) with variant := .rg2 }
    s.role = 0 && gives (exec (.structBanksSwitched 9) s) (fun t => t.loaderState = 0 && t.rd F.STRUCT_CUR_ID_VALUE = 9 &&
      t.rd F.STRUCT_STAT_LOADED = 1 && t.rcd.raised.any (fun r => r.code = 0x0201 && r.payload = [9, 3]))) = true := by decide +kernel

/-- A load that stores its image in slot B. -/
def storing : State := loadIn 5 fun l => { l with cmd := ⟨0, false, 2, true, 0, 0, 0, false⟩, words := [4, 3] }

theorem test_structStoreDone : (storing.flash.ok && gives (exec (.structStoreDone true 9) storing)
    (fun t => t.flash.slotB = some (slotDesc [3, 4] ++ [3, 4]) && t.loaderState = 0 && raised t 0 0x0204)) = true := by decide +kernel

theorem test_structStoreDone_fails : gives (exec (.structStoreDone false 9) storing)
    (fun t => t.flash.slotB.isNone && t.loaderState = 0 && t.rd F.STRUCT_STAT_ERR = 20) = true := by decide +kernel

theorem test_structFifoTimeout : gives (exec (.structFifoTimeout 200000000) (loadIn 1 id))
    (fun t => t.loaderState = 0 && t.rd F.STRUCT_STAT_ERR = 16) = true := by decide +kernel

theorem test_board : boardFault 8 ⟨0, 16, 1, 0xFF, [8, 0, 3, 0, 4, 0x1FF]⟩ = none ∧ boardFault 8 ⟨0, 16, 1, 0xFF, [8, 0, 3, 0, 4, 0x100]⟩ = some (11, 24) ∧
    (up []).maskFault 17 1 0x7F = some (11, 17) := by decide +kernel

/-- An image of which only its tag stands: that of no words under an empty key (RFC 2104 with SHA-256). -/
def tagged (c : LoadCmd) : State :=
  (up [(F.STRUCT_STAT_STATE, 2), (F.AUTH_SLOT_PROV 1, 1)]).onLd fun l =>
    { l with cmd := c, words := [0, 0, 0xC5, 0x5FC378, 0xD7952F, 0x77ECD9, 0x14089A, 0x6713B6] }

set_option maxRecDepth 40000 in
theorem test_structVerifyDone : ((tagged ⟨0, false, 0, false, 0, 0, 0, false⟩).badFirmware.isNone &&
    gives (exec (.structVerifyDone 9) (tagged ⟨0, false, 0, false, 0, 0, 0, false⟩)) (fun t => t.loaderState = 4)) = true := by decide +kernel

set_option maxRecDepth 40000 in
theorem test_structVerifyDone_store : gives (exec (.structVerifyDone 9) (tagged ⟨0, false, 1, false, 0, 0, 0, false⟩))
    (fun t => t.loaderState = 5 && t.flash.slotA.isNone) = true := by decide +kernel

/-- A load from a window buffer that the driver has taken back. -/
def lost (st : Nat) : State := loadIn st fun l => { l with cmd := ⟨1, false, 0, false, 3, 2, 0, false⟩ }

theorem test_sourceLost : (((lost 1).atTime 9).sourceLost && gives (exec (.imageWordReceived 9) (lost 1)) (fun t => t.loaderState = 0 &&
      t.rd F.STRUCT_STAT_ERR = 18) && ((lost 2).atTime 9).sourceLost && gives (exec (.structVerifyDone 9) (lost 2)) (fun t => t.loaderState = 0 &&
      t.rd F.STRUCT_STAT_ERR = 18)) = true := by decide +kernel

/-! Resets, bring-up and Speedwell service (chapter 04). -/

/-- A strobe of group 3 is pending, and axis 5 moves with its reference. -/
def busy (s : State) : State :=
  ((s.setGroup 3 { s.group 3 with pend := some ⟨5, 0, 0, 500, none, 0, []⟩ }).setAxis 5 { s.axis 5 with v := 7 }).wr (F.MOT_STAT_REFD 1 1) 1

theorem test_resetAssert : (let s := (up [(F.BOOT_STAT_PWR_WARN, 1)]).onEpoch fun e => { e with commits := [wdCommit] }
    !s.boot.inReset || gives (exec (.resetAssert 9) s) (fun t => t.rd F.BOOT_STAT_STAGE = 0 && t.rd F.BOOT_STAT_PWR_WARN = 1 && t.epoch.commits.isEmpty &&
      t.clk = 9)) = true := by decide +kernel

/-- Reset has been released. -/
def ran (l : List (Fld × Nat)) (f : Boot → Boot) : State := (having l).onBoot fun b => f { b with inReset := false }

theorem test_railFault : (gives (exec (.railFault 9) (ran full id)) (fun t => t.boot.inReset && t.rd F.BOOT_STAT_STAGE = 0) &&
    gives (exec (.railFault 9) (having [])) (fun t => t.clk = 9)) = true := by decide +kernel

set_option maxRecDepth 2000 in
theorem test_resetRelease : (State.reset.boot.inReset && State.reset.flash.ok &&
    gives (exec (.resetRelease 9) State.reset) (fun t => t.rd F.BOOT_STAT_STAGE = 1 && t.rd (F.DIE_STAT_STAGE 7) = 1 &&
      t.rd F.BOOT_CYCLES_VALUE = 1)) = true := by decide +kernel

theorem test_pwrWarn : (let s := busy (ran full id)
    gives (exec (.pwrWarnAssert 9) s) (fun t => (t.group 3).pend.isNone && (t.axis 5).v = 0 && t.rd (F.MOT_STAT_REFD 1 1) = 0 &&
      t.rd F.BOOT_STAT_PWR_WARN = 1)) = true := by decide +kernel

/-- The steps of a power warning go on, with the lifetime area being written. -/
def stepping : State :=
  (ran (full ++ [(F.BOOT_STAT_PWR_WARN, 1), (F.EVT_STAT_FLASH_OK, 1)]) fun b => { b with stepping := true }).onRcd fun r =>
    { r with savingLife := some ([(3, 5)], []) }

theorem test_powerDown : (gives (exec (.powerDown 9) stepping) (fun t => t.rd F.BOOT_STAT_PD_DONE = 1 && t.boot.safe && raised t 0 0x010D &&
      t.rcd.savingLife.isNone && t.flash.life.newer.map (·.val) = some ([(3, 5)], []) && t.flash.marks.newer.isSome) &&
    stepping.rd F.AUTH_STAT_HWM_BAD = 0 && gives (exec (.powerDown 9) (up [])) (· = (up []).atTime 9)) = true := by decide +kernel

theorem test_pwrWarn_reset : (let s := having []
    s.boot.inReset && gives (exec (.pwrWarnAssert 9) s) (fun t => t.on F.BOOT_STAT_PWR_WARN &&
      gives (exec (.pwrWarnDeassert 10) t) (fun u => !u.on F.BOOT_STAT_PWR_WARN && !u.on F.BOOT_STAT_HELD))) = true := by decide +kernel

theorem test_powerDown_reset : gives (exec (.powerDown 9) (ran full fun b => { b with resetPending := true }))
    (fun t => t.rd F.BOOT_STAT_STAGE = 1 && !t.boot.inReset && !t.boot.resetPending) = true := by decide +kernel

theorem test_pwrWarnDeassert : gives (exec (.pwrWarnDeassert 9) (ran [(F.BOOT_STAT_PWR_WARN, 1)] id))
    (fun t => t.rd F.BOOT_STAT_HELD = 1 && t.boot.warnLowAt = 9) = true := by decide +kernel

theorem test_bootResume : (let s := (up [(F.BOOT_STAT_HELD, 1)])
    gives (exec .bootResume (s.atTime 2000000)) (fun t => t.rd F.BOOT_STAT_HELD = 0 && raised t 0 0x010E) &&
      gives (exec .bootResume (s.atTime 1999999)) (fun t => t.rd F.BOOT_STAT_HELD = 1)) = true := by decide +kernel

theorem test_bootReset : (gives (exec (.bootReset 0x00C3C3) (busy (ran full id))) (fun t => t.boot.resetPending && (t.group 3).pend.isNone) &&
    gives (exec (.bootReset 0x00C3C4) (up [])) (fun t => !t.boot.resetPending)) = true := by decide +kernel

/-- A FACTORY_RESET that AUTH acts on next. -/
def factory (w : Nat) : State := (ran full id).onAuth fun a => { a with acts := [⟨6, 6, 7, [w], none⟩] }

theorem test_factoryReset : (gives (exec .factoryReset ((factory 0x465253).onFlash fun f => { f with slotA := some [1] }))
      (fun t => t.flash.slotA.isNone && t.boot.resetPending) &&
    gives (exec .factoryReset (factory 1)) (fun t => !t.boot.resetPending && t.rd F.AUTH_STAT_STATUS = 13)) = true := by decide +kernel

set_option maxRecDepth 4000 in
theorem test_dieCensus : (let s := ran [] fun b => { b with censusDue := true }
    gives (exec (.dieCensusDone [] 9) s) (fun t => t.rd F.BOOT_DIE_STAT_PRESENT = 0xFF && t.boot.censused) &&
    gives (exec (.dieCensusDone [12, 13, 14, 15] 9) s) (fun t => t.rd F.BOOT_DIE_STAT_PRESENT = 0xF7 && t.rd F.BOOT_STAT_FAIL_STEP = 1 &&
      t.rcd.raised.map (fun r => (r.code, r.payload)) = [(0x0103, [3])])) = true := by decide +kernel

/-- The census has ended; the boot block of copy A is the defaults with other TKL_LINES. -/
def censused (ok : Bool) : State :=
  (ran [] fun b => { b with censused := true }).onFlash fun f => { f with ok := ok, bootA := some (bootDefaults.set 8 3) }

set_option maxRecDepth 4000 in
theorem test_bootFlashRead : (gives (exec (.bootFlashReadDone [] 9) (censused true))
      (fun t => t.rd (F.BOOT_BB_WORD 8) = 3 && t.rd F.BOOT_STAT_BB_SRC = 0 && t.bb 1 = 1) &&
    gives (exec (.bootFlashReadDone [] 9) (censused false))
      (fun t => t.bb 1 = 0 && t.rd F.AUTH_STAT_HWM_BAD = 1 && raised t 0 0x0105 && raised t 0 0x0106)) = true := by decide +kernel

/-- The event flash has been read, with a boot block whose word 1 is given. -/
def flashRead (w : Nat) : State :=
  (ran [(F.BOOT_DIE_STAT_PRESENT, 0xFF)] fun b => { b with flashRead := true, block := bootDefaults.set 1 w }).onFlash fun f =>
    { f with slotA := some (slotDesc [0x524E47] ++ [0x524E47]) }

theorem test_speedwellEntry : (gives (exec (.speedwellEntry 30000000) (flashRead 0)) (fun t => t.rd F.BOOT_STAT_STAGE = 2 && t.rd F.BOOT_T_SPW_MS = 150) &&
    gives (exec (.speedwellEntry 9) (flashRead 1)) (fun t => t.rd F.BOOT_STAT_STAGE = 3 && t.loaderState = 1 && t.boot.slotsLeft = [3])) = true := by
  decide +kernel

/-- A die in a stage. -/
def dieIn (d st : Nat) : State := ran [(F.BOOT_DIE_STAT_PRESENT, 0xFF), (F.DIE_STAT_STAGE d, st), (F.MEM_RANK_ROLE d 0, 1)] id

theorem test_sdramTraining : (gives (exec (.sdramTrainingDone 2 9 [] [] 9) (dieIn 2 4)) (fun t => t.rd (F.DIE_STAT_STAGE 2) = 5 &&
      t.rd (F.MEM_FREQ_TRAINED 2) = 9) && ((dieIn 2 4).freeSpare 2).isNone &&
    gives (exec (.sdramTrainingDone 2 9 [0] [] 9) (dieIn 2 4)) (fun t => t.rd (F.DIE_STAT_STAGE 2) = 4 && t.memFailed 2 &&
      t.rd F.BOOT_STAT_FAIL_STEP = 6 && raised t 2 0x0109)) = true := by decide +kernel

theorem test_eccInit : gives (exec (.eccInitDone 2 [] 9) (dieIn 2 5)) (fun t => t.rd (F.DIE_STAT_STAGE 2) = 6 && t.rd (F.DIE_STAT_INIT 2) = 1) = true := by
  decide +kernel

/-- Every die has reached AGREE. -/
def agreeing (f : Boot → Boot) : State :=
  ran ((F.BOOT_DIE_STAT_PRESENT, 0xFF) :: (F.BOOT_STAT_STAGE, 6) :: (List.range 8).map (fun d => (F.DIE_STAT_STAGE d, 6))) f

theorem test_fireCountRestore : gives (exec (.fireCountRestoreDone false 9) (agreeing id)) (fun t => t.boot.restored && raised t 0 0x010B) = true := by
  decide +kernel

theorem test_bootAgreeRetry : (gives (exec (.bootAgreeRetry 9) (agreeing fun b => { b with restored := true, rounds := 1 }))
      (fun t => t.epoch.round.isSome && t.boot.rounds = 2) &&
    gives (exec (.bootAgreeRetry 9) (agreeing fun b => { b with restored := true, rounds := 5 }))
      (fun t => t.rd F.BOOT_STAT_FAIL_STEP = 9 && raised t 0 0x010C)) = true := by decide +kernel

set_option maxRecDepth 20000 in
theorem test_fullService : (let s := agreeing fun b => { b with restored := true, agreed := true }
    s.bootDone && gives (exec (.fullService 590000000) s) (fun t => t.rd F.BOOT_STAT_STAGE = 7 && t.rd (F.DIE_STAT_STAGE 5) = 7 &&
      t.rcd.raised.any (fun r => r.code = 0x0102 && r.payload = [2950, 0, 0, 0, 0]))) = true := by decide +kernel

theorem test_bootRetry : (let s := ran [(F.BOOT_STAT_STAGE, 2), (F.BOOT_STAT_FAIL, 1), (F.BOOT_STAT_FAIL_STEP, 1)] id
    s.inService 0x100000 && gives (exec .bootRetry s) (fun t => t.rd F.BOOT_STAT_FAIL = 0 && t.boot.censusDue)) = true := by decide +kernel

/-- BOOT_BB holds the defaults with another TKL_LINES. -/
def bbState (n : Nat) : State := up ((List.range 14).map fun i => (F.BOOT_BB_WORD i, (bootDefaults.set 8 n).getD i 0))

set_option maxRecDepth 2000 in
theorem test_bootBbSave : (gives (exec .bootBbSave (bbState 4)) (fun t => t.boot.saving = some (bootDefaults.set 8 4) && t.rd F.BOOT_BB_CTL_BUSY = 1) &&
    gives (exec .bootBbSave (bbState 5)) (fun t => t.boot.saving.isNone && t.rd F.BOOT_BB_CTL_BB_ERR = 1)) = true := by decide +kernel

theorem test_bootBbSaveDone : gives (exec (.bootBbSaveDone 9) ((up []).onBoot fun b => { b with saving := some [1] }))
    (fun t => t.flash.bootA = some [1] && t.boot.saving.isNone) = true := by decide +kernel

/-- The store port of the spec's example (chapter 04): D3, page store, line 10, lane 21, slot 1,500: unit 84,701, bit 12. -/
def spwPort : State := up [(F.SPW_SEL_DIE, 3), (F.SPW_ADDR_ADDR, 0x014ADD)]

theorem test_spwData : (gives (exec (.spwDataAccess true 0x1000) spwPort) (fun t => t.pageSlot 3 10 21 1500 && !t.pageSlot 3 10 21 1501 &&
      t.rd F.SPW_ADDR_ADDR = 84702) &&
    gives (exec (.spwDataAccess false 0) spwPort) (fun t => t.host.readData = [0] && t.rd F.SPW_ADDR_ADDR = 84702) &&
    gives (exec (.spwDataAccess true 1) (spwPort.wr (blockFld (.spw 3) 4 2) 2)) (fun t => t.press.pageStore.isEmpty && t.rd F.BOOT_EARLY_VALUE = 1))
    = true := by decide +kernel

/-- Speedwell printing or tickle of D1 is ON before a structure is loaded, by the boot block of the spec's example; the head of its group 2
has been read. -/
def spwState (b : Block) (c : Int) (l : List (Fld × Nat)) : State :=
  let s := having ([(F.BOOT_STAT_STAGE, 2), (blockFld b 4 2, 2), (F.LAN_GSTAT_IDV 1 2, 1)] ++ l)
  (s.setInput 9 { s.input 9 with count := c }).onBoot fun b =>
    { b with inReset := false, spw := [(1, ⟨0, c, 0, none, false, true, false, 0⟩)], block := [0x535057, 0, 0, 0, 0, 0, 800, 1000, 1, 800, 16000, 0xEEEEEF, 16, 2500] }

set_option maxRecDepth 20000 in
theorem test_tickleBurst : (let s := spwState (.tkl 1) 0 []
    s.mayFire 1 && gives (exec (.tickleBurst 1 800) s) (fun t => (t.group 10).last = some 800 && (t.group 10).width = 800 && (t.group 11).last.isNone) &&
      gives (exec (.tickleBurst 1 800) (s.wr (blockFld (.spw 1) 4 2) 2)) (fun t => (t.group 10).last.isNone)) = true := by decide +kernel

set_option maxRecDepth 40000 in
theorem test_speedwellLine : (let s := spwState (.spw 1) 17 []
    !(s.atFire 800).webFaster 1 1000 && gives (exec (.speedwellLine 1 800) s) (fun t => (t.spw 1).line = 1 && (t.group 10).last = some 800 &&
      !(t.group 10).sentNofire && (t.group 11).sentNofire)) = true := by decide +kernel

theorem test_speedwellLine_waits : gives (exec (.speedwellLine 1 800) (spwState (.spw 1) 16 [])) (fun t => (t.spw 1).line = 0) = true := by decide +kernel

set_option maxRecDepth 40000 in
theorem test_speedwellLine_last : gives (exec (.speedwellLine 1 800) (spwState (.spw 1) 17 [(F.SPW_CTL_REPEATS 1, 1), (F.SPW_LEN_LINES 1, 1)]))
    (fun t => t.blockState (.spw 1) = 3) = true := by decide +kernel

/-- WEB of D1 advances 8 counts in 8 SENSE periods, which is 2,500 nm in 5 ns each. -/
def fastWeb : State :=
  let s := spwState (.spw 1) 17 []
  s.setInput 9 { s.input 9 with count := 17, still := false, hist := (List.range 9).map (400 - ·) }

set_option maxRecDepth 40000 in
theorem test_speedwellLine_fast : (fastWeb.atFire 800).webFaster 1 1000 = true ∧ gives (exec (.speedwellLine 1 800) fastWeb)
    (fun t => (t.spw 1).fast && (t.group 10).sentNofire && raised t 1 0x0110) = true := by decide +kernel

/-! The window, the rings, AUTH and the Ethernet port (chapter 05). -/

/-- Buffer 5 of D3 in a state, with generation 7: units 0x61000 to 0x610FF (the spec's example, R169). -/
def buffered (st : BufState) : State :=
  ((up [(F.DIE_STAT_INIT 3, 1), (F.WIN_BACKED_UNITS 3, 0x20000)]).setBuf 5 ⟨0x61000, 256, st, 7, true, 0⟩)

/-- First byte of the buffer. -/
def at5 : Nat := 0x610000000

theorem test_bar2Write : (let s := buffered .host
    s.unitFate at5 = .written && gives (exec (.bar2Write (at5 + 1) [some 0xAB, none, some 0xCD]) s)
      (fun t => t.mem = [(at5 + 1, 0xAB), (at5 + 3, 0xCD)])) = true := by decide +kernel

theorem test_bar2Write_device : (let s := buffered .device
    s.unitFate at5 = .device 5 && gives (exec (.bar2Write at5 [some 0xAB]) s) (fun t => t.mem = [] && t.rd F.WIN_WR_DEV_COUNT = 1)) = true := by decide +kernel

theorem test_bar2Write_outside : exec (.bar2Write (2 ^ 36 - 1) [some 1, some 2]) (up []) = .fault .outsideWindow := by
  simp [exec, execBar2Write, windowBytes]

theorem test_bar2Read : (let s := { buffered .device with mem := [(at5 + 1, 0xAB)] }
    gives (exec (.bar2Read at5 3 false) s) (fun t => t.host.readData = [0, 0xAB, 0]) &&
    gives (exec (.bar2Read 0 2 false) s) (fun t => t.host.readData = [0, 0])) = true := by decide +kernel

set_option maxRecDepth 4000 in
theorem test_winDefine : (let s := (buffered .host).wr F.WIN_DEF_LEN_UNITS 16
    let u := s.wr F.WIN_DEF_BASE_UNITS 0x61100
    u.defineStatus 6 = 0 && gives (exec (.winDefine 6) u) (fun t => t.buf 6 = ⟨0x61100, 16, .host, 1, false, 0⟩) &&
    (s.wr F.WIN_DEF_BASE_UNITS 0x610F8).defineStatus 6 = 8 && s.defineStatus 5 = 2 &&
      gives (exec (.winDefine 5) s) (fun t => t.rd F.WIN_RESULT_STATUS = 2 && raised t 0 0x0410 && t.irq.causes = [23])) = true := by decide +kernel

set_option maxRecDepth 40000 in
theorem test_bufferOps : ((buffered .host).opStatus 5 7 = 0 && (buffered .device).opStatus 5 7 = 0 && (buffered .device).opStatus 5 6 = 3 &&
    gives (exec (.winGive 5 7) (buffered .host)) (fun t => (t.buf 5).st = .device && t.rd F.WIN_RESULT_STATUS = 0) &&
    gives (exec (.winReclaim 5 7) (buffered .device)) (fun t => (t.buf 5).st = .reclaiming && t.win.scan) &&
    gives (exec (.winUndefine 5 7) (buffered .host)) (fun t => (t.buf 5).st = .undef) &&
    gives (exec (.winGive 5 7) (buffered .reclaiming)) (fun t => t.rd F.WIN_RESULT_STATUS = 6) &&
    gives (exec (.winUndefine 5 7) (buffered .device)) (fun t => t.rd F.WIN_RESULT_STATUS = 5) &&
    gives (exec (.winGive 5 6) (buffered .device)) (fun t => t.rd F.WIN_RESULT_STATUS = 3) &&
    gives (exec (.winBadOp 5 9) (buffered .device)) (fun t => t.rd F.WIN_RESULT_STATUS = 12)) = true := by decide +kernel

theorem test_giveEffective : gives (exec (.giveEffective 5) ((buffered .device).setBuf 5 ⟨0x61000, 256, .device, 7, false, 0⟩))
    (fun t => (t.buf 5).atHome) = true := by decide +kernel

theorem test_bufferRelease : (gives (exec .bufferRelease ((buffered .device).release 5 10 9)) (fun t => (t.buf 5).st = .host && (t.buf 5).gen = 8) &&
    gives (exec .bufferRelease (((buffered .reclaiming).release 5 10 9).wr F.WIN_CTL_RING_EN 1))
      (fun t => raised t 0 0x0411 && t.win.postings = [.post 0 2 [5 + 65536, 8 + 256 * 7, 10, 0, 0, 0, 9]])) = true := by decide +kernel

theorem test_releaseScan : gives (exec .releaseScan ((buffered .reclaiming).onWin fun w => { w with scan := true }))
    (fun t => t.win.postings = [.release 5 0 0] && !t.win.scan) = true := by decide +kernel

theorem test_pcieReset : gives (exec (.msixMaskWrite 0 (.power true)) ((up []).onHost fun h => { h with msixTable := [(3, 0)], msixPending := [3] }))
    (fun t => t.host.msixTable = [] && t.host.msixPending = [3] && t.host.pcie.d3hot && !t.host.pcie.msixEnable) = true := by decide +kernel

/-- Ring Q97 of D3 is ON in buffer 5 with 16 entries: host to device of a type, or device to host. -/
def ringed (type db idx : Nat) : State :=
  let s := buffered (if type < 4 then .host else .device)
  [(F.QUE_CTL_STATE 97, 2), (F.QUE_CTL_TYPE 97, type), (F.QUE_CTL_DEPTH 97, 4), (F.QUE_BASE_INDEX 97, 5), (F.QUE_BASE_GEN 97, 7),
    (F.QUE_DB_INDEX 97, db), (F.QUE_IDX_INDEX 97, idx)].foldl (fun s e => s.wr e.1 e.2) s

theorem test_doorbell : ((ringed 1 3 2).doorbellOk 97 18 && !(ringed 1 3 2).doorbellOk 97 19 && !(ringed 1 3 2).doorbellOk 97 2 &&
    (ringed 4 3 9).doorbellOk 97 9 && !(ringed 4 3 9).doorbellOk 97 10 &&
    gives (exec (.doorbell 97 18) (ringed 1 3 2)) (fun t => t.rd (F.QUE_DB_INDEX 97) = 18) &&
    gives (exec (.doorbell 97 9) (ringed 4 3 9)) (fun t => t.rd (F.QUE_DB_INDEX 97) = 9) &&
    gives (exec (.doorbell 97 19) (ringed 1 3 2)) (fun t => t.rd (F.QUE_ERR_DB_ERR 97) = 1 && raised t 3 0x0420 && t.irq.causes = [833])) = true := by
  decide +kernel

/-- Entry 2 of Q97 holds a header and a TAG. -/
def entered (w0 : Nat) : State := (ringed 0 3 2).storeWords (at5 + 128) [w0, 0x55]

set_option maxRecDepth 2000 in
theorem test_ringEntryRead : ((entered 0x100).readable 97 && gives (exec (.ringEntryRead 97) (entered 0x100))
      (fun t => t.win.entries.map (fun e => (e.ring, e.words.take 2)) = [(97, [0x100, 0x55])] && t.rd (F.QUE_IDX_INDEX 97) = 3) &&
    gives (exec (.ringEntryRead 97) (entered 0x177)) (fun t => t.win.entries.isEmpty && t.rd (F.QUE_ERR_ENTRY_BAD 97) = 1 && raised t 3 0x0422) &&
    !(ringed 0 2 2).readable 97) = true := by decide +kernel

theorem test_nop : gives (exec (.nop 97) (((ringed 0 3 3).onWin fun w => { w with entries := [⟨97, 0, [0x100, 0x55], false⟩] }).wr (F.QUE_ANS_EN 97) 1))
    (fun t => t.win.entries.isEmpty && t.win.postings = [.post 0 3 [0x55, 97 * 256]]) = true := by decide +kernel

/-- A LOST record of one entry waits for Q97. -/
def posting (s : State) : State := s.onWin fun w => { w with postings := [.post 97 7 [1]] }

set_option maxRecDepth 4000 in
theorem test_recordPost : (gives (exec .recordPost (posting (ringed 4 0 2)))
      (fun t => t.mem = [(at5 + 128, 7), (at5 + 129, 1), (at5 + 130, 0x80), (at5 + 132, 1)] && t.rd (F.QUE_IDX_INDEX 97) = 3 && t.irq.causes = [833]) &&
    gives (exec .recordPost (posting (ringed 4 0 16))) (fun t => (t.ring 97).reserve = [.record 7 [1]] && t.mem = []) &&
    gives (exec .recordPost (posting ((ringed 4 0 16).setRing 97 ⟨16, List.replicate 16 (.record 7 [1])⟩)))
      (fun t => (t.ring 97).reserve = List.replicate 16 (.record 7 [1]) ++ [.lost 1] && t.rd (F.QUE_ERR_LOST 97) = 1 && raised t 3 0x0421) &&
    gives (exec .recordPost (posting ((ringed 4 0 2).wr (F.QUE_CTL_STATE 97) 0))) (fun t => t.mem = [] && t.rd (F.QUE_ERR_LOST 97) = 1)) = true := by
  decide +kernel

/-! The envelope of the spec's example (R197). -/

/-- Its words 0 to 8. -/
def envWords : List Nat := [0x434D44, 0x040101, 0x000111, 0, 0, 0x000011, 0x030010, 0xC9D380, 0x000001]

/-- Words in slots with their parity (R184). -/
def envSlots (ws : List Nat) : List Nat := ws.map fun w => (if ones w 24 % 2 = 0 then 0xAB000000 else 0xAA000000) + w

theorem test_envelope_example : envSlots envWords =
    [0xAA434D44, 0xAA040101, 0xAA000111, 0xAB000000, 0xAB000000, 0xAB000011, 0xAA030010, 0xABC9D380, 0xAA000001] := by decide +kernel

/-- K-slots 0 and 1 hold keys; the last accepted counter of K-slot 1 is 272, and an envelope stands in AUTH_ENV. -/
def envelope (slots : List Nat) (l : List (Fld × Nat)) : State :=
  (up ([(F.AUTH_SLOT_PROV 1, 1), (F.AUTH_CNT_LO_VALUE 1, 272), (F.AUTH_HWM_LO_VALUE 1, 4096), (F.AUTH_UNIT_UNIT, 9)] ++ l)).onAuth fun a =>
    { a with keys := [(1, [1, 2, 3])], env := slots.zipIdx.map fun e => (e.2, e.1) }

/-- The example's envelope with its tag under the key of three bytes (HMAC-SHA-256, RFC 2104). -/
def goodEnv : List Nat := envSlots (envWords ++ [0xC74275, 0x60EF13, 0x87FEDB, 0xC9E7BB, 0x2C43DC, 0x000014])

set_option maxRecDepth 40000 in
theorem test_authSubmit : gives (exec (.authSubmit 0) (envelope goodEnv []))
    (fun t => t.auth.acts = [⟨1, 1, 273, [0x11, 0x030010, 0xC9D380, 1], none⟩] && t.cnt 1 = 273 && raised t 0 0x0300) = true := by decide +kernel

set_option maxRecDepth 40000 in
theorem test_authSubmit_mark : gives (exec (.authSubmit 0) (envelope goodEnv [(F.AUTH_HWM_LO_VALUE 1, 200)]))
    (fun t => t.auth.acts = [] && t.auth.marking.isSome && t.rd F.AUTH_STAT_BUSY = 1) = true := by decide +kernel

set_option maxRecDepth 40000 in
theorem test_authSubmit_replay : gives (exec (.authSubmit 0) (envelope goodEnv [(F.AUTH_CNT_LO_VALUE 1, 273)]))
    (fun t => t.auth.acts = [] && t.rd F.AUTH_STAT_STATUS = 10 && t.rd F.AUTH_REPLAY_COUNT = 1 && raised t 0 0x0302) = true := by decide +kernel

set_option maxRecDepth 40000 in
theorem test_authSubmit_tag : gives (exec (.authSubmit 0) (envelope (goodEnv.set 5 0xAA000010) []))
    (fun t => t.auth.acts = [] && t.rd F.AUTH_STAT_STATUS = 9 && t.rd F.AUTH_TAG_FAIL_COUNT = 1 && raised t 0 0x0301) = true := by decide +kernel

set_option maxRecDepth 4000 in
theorem test_authSubmit_form : (gives (exec (.authSubmit 0) (envelope (goodEnv.set 5 0xAA000011) []))
      (fun t => t.rd F.AUTH_STAT_STATUS = 1 && t.rd F.AUTH_MALFORMED_COUNT = 1 && raised t 0 0x0303) &&
    gives (exec (.authSubmit 0) (envelope goodEnv [(F.AUTH_STAT_LOCKED, 1)])) (fun t => t.rd F.AUTH_STAT_STATUS = 7 && t.rcd.raised.isEmpty)) = true := by
  decide +kernel

theorem test_authLockEnd : (gives (exec .authLockEnd ((up [(F.AUTH_STAT_LOCKED, 1)]).atTime 200000000)) (fun t => t.rd F.AUTH_STAT_LOCKED = 0) &&
    gives (exec .authLockEnd ((up [(F.AUTH_STAT_LOCKED, 1)]).atTime 199999999)) (fun t => t.rd F.AUTH_STAT_LOCKED = 1)) = true := by decide +kernel

theorem test_authHwmWritten : gives (exec .authHwmWritten ((up []).onAuth fun a => { a with marking := some ⟨1, 1, 273, [], none⟩ }))
    (fun t => t.hwm 1 = 4369 && t.auth.acts.length = 1) = true := by decide +kernel

/-- An accepted command that AUTH acts on next. -/
def acting (op : Nat) (w : List Nat) (l : List (Fld × Nat)) : State :=
  (up l).onAuth fun a => { a with acts := [⟨op, 5, 7, w, none⟩] }

set_option maxRecDepth 40000 in
theorem test_keyRotate : (gives (exec .keyRotate (acting 2 [2] [])) (fun t => t.rd F.AUTH_STAT_STATUS = 5 && t.auth.burning.isNone) &&
    gives (exec (.keyBurnDone true) ((up [(F.AUTH_SLOT_PROV 7, 1)]).onAuth fun a => { a with burning := some (7, [5], ⟨2, 5, 7, [], none⟩) }))
      (fun t => t.auth.keys = [(7, [5])] && t.rd (F.AUTH_SLOT_CUR 7) = 1 && t.rcd.raised.map (fun r => (r.code, r.payload)) = [(0x0305, [15])]) &&
    gives (exec (.keyBurnDone false) ((up []).onAuth fun a => { a with burning := some (7, [5], ⟨2, 5, 7, [], none⟩) }))
      (fun t => t.auth.keys.isEmpty && t.rd F.AUTH_STAT_STATUS = 13)) = true := by decide +kernel

/-- A rotation of K-slot 7 to the key 0, 1, ..., 31, wrapped under a K-slot 5 that holds no byte. -/
def rotation : State := acting 2 [7, 3389824, 4532568, 11468953, 7032457, 6348993, 6519815, 3166851, 973509, 10769023, 10860922, 12454026, 14801182,
  3215099, 237] []

set_option maxRecDepth 100000 in
theorem test_keyRotate_unwraps : gives (exec .keyRotate rotation) (fun t => t.rd F.AUTH_STAT_BUSY = 1 &&
    t.auth.burning.map (fun b => (b.1, b.2.1)) = some (7, List.range 32)) = true := by decide +kernel

set_option maxRecDepth 100000 in
theorem test_keyRotate_wrong : gives (exec .keyRotate (acting 2 [7] [])) (fun t => t.rd F.AUTH_STAT_STATUS = 13 && t.auth.burning.isNone) = true := by
  decide +kernel

set_option maxRecDepth 4000 in
theorem test_markSet : (let s := acting 7 [5, 0, 6, 1] [(F.EVT_STAT_FLASH_OK, 1), (F.AUTH_STAT_HWM_BAD, 1)]
    gives (exec (.markSet true) s) (fun t => t.cnt 1 = 6 + 2 ^ 24 && t.hwm 0 = 5 && t.rd F.AUTH_STAT_HWM_BAD = 0 && raised t 0 0x0307) &&
      gives (exec (.markSet false) s) (fun t => t.rd F.AUTH_STAT_HWM_BAD = 1 && t.rd F.AUTH_STAT_STATUS = 13)) = true := by decide +kernel

set_option maxRecDepth 4000 in
theorem test_headLimits : (let s := (acting 5 [3, 1500, 2500] []).onLd fun l => { l with current := { l.current with heads := [(3, ⟨[0x800000, 0, 0], 0, 0⟩)] } }
    (s.headNow 3).isSome && gives (exec (.headLimits true) s) (fun t => t.flash.limits.newer.map (·.val) = some [(3, (1500, 2500))] && raised t 0 0x080F) &&
      gives (exec (.headLimits true) (acting 5 [3, 2500, 1500] [])) (fun t => t.flash.limits.newer.isNone && t.rd F.AUTH_STAT_STATUS = 13)) = true := by decide +kernel

/-! The Ethernet port. -/

/-- The port is up at 10.0.0.5. -/
def ethUp : State := up [(F.PKG_ETH_CTL_ETH_EN, 1), (F.PKG_ETH_STAT_LINK, 1), (F.PKG_ETH_IP_LO_ADDR, 5), (F.PKG_ETH_IP_HI_ADDR, 10)]

theorem test_ethLink : (gives (exec (.ethLinkDown 9) ethUp) (fun t => t.rd F.PKG_ETH_STAT_LINK = 0 && t.rd F.PKG_ETH_CNT_DOWNS = 1 && raised t 0 0x1007) &&
    gives (exec (.ethLinkUp 9) (up [])) (fun t => t.rd F.PKG_ETH_STAT_LINK = 1 && raised t 0 0x1008)) = true := by decide +kernel

set_option maxRecDepth 4000 in
theorem test_ethFrame : (gives (exec (.ethFrameReceived false [1, 2]) ethUp) (fun t => t.rd F.PKG_ETH_CNT_DROPPED = 1) &&
    gives (exec (.ethFrameReceived true ([255, 255, 255, 255, 255, 255] ++ [2, 0, 0, 0, 0, 1] ++ [8, 6, 0, 1, 8, 0, 6, 4, 0, 1] ++ [2, 0, 0, 0, 0, 1] ++
      [10, 0, 0, 9] ++ [0, 0, 0, 0, 0, 0] ++ [10, 0, 0, 5])) ethUp) (fun t => t.eth.sent = [⟨none, .arp 0x020000000001 0x0A000009⟩])) = true := by decide +kernel

/-- The last reply's bytes but for the three free ones. -/
def lastReply (t : State) : List Nat :=
  match t.eth.sent with
  | ⟨_, .mgmt b⟩ :: _ => b.take 9 ++ b.drop 12
  | _ => []

set_option maxRecDepth 20000 in
theorem test_mgmt : (let s := (ethUp.wr F.PKG_SCRATCH_VALUE 0x123456).onEth fun e => { e with second := 5 }
    gives (exec (.mgmtRead 7 0x10 1) s) (fun t => lastReply t = [0x4D, 0x52, 1, 1, 7, 0, 0, 0, 0, 0x56, 0x34, 0x12, 0]) &&
    gives (exec (.mgmtRead 7 0x10 65) s) (fun t => lastReply t = [0x4D, 0x52, 1, 65, 7, 0, 0, 0, 2]) &&
    !s.mgmtReadable 0x30100 && gives (exec (.mgmtRead 7 0x30100 1) s) (fun t => lastReply t = [0x4D, 0x52, 1, 1, 7, 0, 0, 0, 1]) &&
    gives (exec (.mgmtRead 7 0x10 1) (s.onEth fun e => { e with second := 0, answered := 1000 })) (fun t => (lastReply t).getD 8 0 = 3)) = true := by decide +kernel

set_option maxRecDepth 20000 in
theorem test_mgmtEnvelope : (let s := ethUp.onEth fun e => { e with second := 5 }
    s.envStatus (envSlots [0x434D44, 0x2A0]) = 1 && gives (exec (.mgmtEnvelope 7 (envSlots [0x434D44, 0x2A0])) s)
      (fun t => (lastReply t).take 9 = [0x4D, 0x52, 2, 2, 7, 0, 0, 0, 0] && t.rd F.AUTH_STAT_STATUS = 1) &&
      gives (exec (.mgmtEnvelope 7 []) s) (fun t => lastReply t = [0x4D, 0x52, 2, 0, 7, 0, 0, 0, 2]) &&
      gives (exec (.mgmtEnvelope 7 [1]) (s.onEth fun e => { e with second := 0, answered := 1000 })) (fun t => (lastReply t).getD 8 0 = 3) &&
      gives (exec (.mgmtEnvelope 7 [1]) (up [])) (· = up [])) = true := by decide +kernel

/-! Contexts and page streams (chapter 06). -/

/-- A structure in which bar 0 prints on pacer 0 of D0, and ring Q10 is a STREAM ring. -/
def jobImage : Image := { Image.empty with bars := [⟨[0xC00000, 0], 0, 0⟩], rings := [0x900A06, 0] }

/-- Full service with that structure, an entry of a CMD ring Q2 in hand, and buffer 5 of D0 with generation 7. -/
def jobState (ws : List Nat) (l : List (Fld × Nat)) : State :=
  (((up ([(F.EPOCH_CTL_LINE_VALID, 1), (F.QUE_CTL_TYPE 10, 1), (F.DIE_LINE_LO_LINE 0, 5000)] ++ l)).onLd fun x => { x with current := jobImage }).onWin fun w =>
    { w with entries := [⟨2, 0, ws, false⟩] }).setBuf 5 ⟨0, 1, .device, 7, true, 0⟩

/-- A context block that prints bar 0 from Q10 in pages of 100 lines. -/
def jobBlock : CtxBlock := ⟨9, 100, 3, 1, false, false, 0, 0, 0, ⟨0, 10, 0⟩ :: List.replicate 15 ⟨0, 0, 0⟩, [], 0⟩

theorem test_ctxLoad : (let s := jobState [0x320, 0x55, 6, 0x070005] []
    gives (exec (.ctxLoad 2) s) (fun t => (t.ctx 6).st = .loading && (t.buf 5).uses = 1 && t.rcd.raised.isEmpty) &&
      gives (exec (.ctxLoad 2) (s.setCtx 6 { Ctx.free with st := .ready }))
        (fun t => t.rcd.raised.map (fun r => (r.code, r.payload)) = [(0x0506, [6, 16, 2])] && t.irq.causes = [24]) &&
      gives (exec (.ctxLoad 2) (s.setBuf 5 ⟨0, 1, .device, 8, true, 0⟩)) (fun t => t.rcd.raised.map (·.payload) = [[6, 3, 0]])) = true := by decide +kernel

/-- A context that waits for its validation, with a block in its buffer whose CRC is that of zlib. -/
def validating (page : Byte) : State :=
  { (jobState [0x320, 0x55, 6, 0x070005] []).setCtx 6 { Ctx.free with st := .loading, buf := 5, gen := 7, entry := (2, 0) } with
    mem := [(0, 66), (1, 79), (2, 74), (4, 1), (8, 5), (12, page), (20, 1), (65, 10), (12608, 242), (12610, 214), (12612, 186)] }

set_option maxRecDepth 1000000 in
theorem test_ctxValidated : gives (exec (.ctxValidated 6 none) (validating 100))
    (fun t => (t.ctx 6).st = .ready && raised t 0 0x0501 && t.win.entries.isEmpty) = true := by decide +kernel

theorem test_ctxValidated_fails : (let s := { validating 100 with mem := [] }
    gives (exec (.ctxValidated 6 none) s) (fun t => (t.ctx 6).st = .free && t.win.postings.contains (.release 5 0 0) &&
      t.rcd.raised.map (fun r => (r.code, r.payload)) = [(0x0506, [6, 17, 0])])) = true := by decide +kernel

/-- A context with the block in a state. -/
def ctxIn (ws : List Nat) (st : CtxState) (final : Option Nat) (l : List (Fld × Nat)) : State :=
  (jobState ws l).setCtx 6 { Ctx.free with st := st, block := some jobBlock, buf := 5, start := 4000, final := final }

set_option maxRecDepth 4000 in
theorem test_ctxArm : (let s := ctxIn [0x421, 0x55, 6, 9000, 0] .ready none []
    !s.matched && !s.waitsFor 6 && (s.structCheck jobBlock).isNone && (s.ringBusy jobBlock).isNone &&
    gives (exec (.ctxArm 2) s) (fun t => (t.ctx 6).st = .armed && (t.ctx 6).start = 9000 && t.epoch.commits.map (fun c => (c.id, c.line)) = [(1, 9000)] &&
      t.rcd.raised.map (fun r => (r.code, r.payload)) = [(0x0502, [6, 1, 9000])]) &&
    gives (exec (.ctxArm 2) (ctxIn [0x421, 0x55, 6, 9000, 0] .running none [])) (fun t => t.epoch.commits.isEmpty && t.irq.causes = [24]) &&
    gives (exec (.ctxArm 2) ((List.range 8).foldl (fun s i => s.setCtx (20 + i) { Ctx.free with st := .armed }) s))
      (fun t => t.epoch.commits.isEmpty && t.irq.causes = [24])) = true := by decide +kernel

theorem test_ctxStop : (gives (exec (.ctxStop 2) (ctxIn [0x422, 0x55, 6, 9050, 0] .running none []))
      (fun t => (t.ctx 6).ends = [(9050, 1)] && (t.ctx 6).st = .running && t.epoch.commits.length = 1) &&
    gives (exec (.ctxStop 2) (ctxIn [0x422, 0x55, 6, 9050, 0] .ready none [])) (fun t => t.epoch.commits.isEmpty && t.irq.causes = [24])) = true := by decide +kernel

theorem test_ctxUnload : (gives (exec (.ctxUnload 2) (ctxIn [0x223, 0x55, 6] .ready none []))
      (fun t => (t.ctx 6).st = .free && t.win.postings.contains (.release 5 0 0)) &&
    gives (exec (.ctxUnload 2) (ctxIn [0x223, 0x55, 6] .ending none [])) (fun t => (t.ctx 6).st = .ending && t.irq.causes = [24])) = true := by decide +kernel

theorem test_jobRetired : (gives (exec (.jobRetired 6) (ctxIn [] .ending (some 4250) []))
      (fun t => (t.ctx 6).st = .free && t.rcd.raised.map (fun r => (r.code, r.payload)) = [(0x0505, [6, 9, 3])]) &&
    gives (exec (.jobRetired 6) (ctxIn [] .ending (some 5001) [])) (fun t => (t.ctx 6).st = .ending)) = true := by decide +kernel

/-- A page descriptor is in hand on Q10. -/
def paged (ws : List Nat) (final : Option Nat) : State :=
  (ctxIn [] .running final []).onWin fun w => { w with entries := [⟨10, 3, ws, false⟩] }

theorem test_pageDescriptor : (let d (ctx page w7 : Nat) : List Nat := [0x710, 0x77, ctx, page, 0x070005, 2, 0, w7]
    (paged (d 6 0 0) none).binding 10 = some (6, 0) &&
    gives (exec (.pageDescriptor 10) (paged (d 6 0 0) none)) (fun t => (t.stream 6 0).descs.map (fun x => (x.page, x.repeats, x.tag)) = [(0, 2, 0x77)] &&
      (t.stream 6 0).expected = 3) &&
    gives (exec (.pageDescriptor 10) (paged (d 6 1 1) none)) (fun t => t.rd (F.JOB_STREAM_ERR_SEQ 0) = 1 && raised t 0 0x0514) &&
    gives (exec (.pageDescriptor 10) ((paged (d 6 1 1) none).setStream 6 0 ⟨2, 0, [], [], none, [], []⟩))
      (fun t => t.rd (F.JOB_STREAM_ERR_LATE 0) = 1 && raised t 0 0x0511) &&
    gives (exec (.pageDescriptor 10) (paged (d 6 0 1) (some 4000))) (fun t => t.rd (F.JOB_STREAM_ERR_CUT 0) = 1 && (t.stream 6 0).descs.isEmpty) &&
    gives (exec (.pageDescriptor 10) (paged (d 5 0 0) none)) (fun t => t.win.entries.isEmpty && (t.stream 6 0).descs.isEmpty) &&
    gives (exec (.pageDescriptor 10) ((paged (d 6 0 0) none).setBuf 5 ⟨0, 1, .host, 7, true, 0⟩)) (fun t => t.win.entries.isEmpty && (t.stream 6 0).descs.isEmpty)) = true := by
  decide +kernel

/-- A descriptor of page 0 is queued, and the bar has triggered up to a line. -/
def firedTo (l : Nat) : State :=
  ((ctxIn [] .running none []).setStream 6 0 ⟨1, 0, [⟨10, 3, 0, 0, true, false, 0, 0, 0, 0x77, .queued, none, 0⟩], [], none, [], []⟩).onJobs fun q =>
    { q with fired := [(0, l)] }

theorem test_pageDone : ((firedTo 4100).ctx 6).lastLine jobBlock ⟨10, 3, 0, 0, true, false, 0, 0, 0, 0x77, .queued, none, 0⟩ = 4099 ∧
    gives (exec (.pageDone 10) (firedTo 4100)) (fun t => (t.stream 6 0).descs.isEmpty) = true ∧
    gives (exec (.pageDone 10) (firedTo 4099)) (fun t => (t.stream 6 0).descs.length = 1) = true := by decide +kernel

theorem test_jobAt : ((ctxIn [] .running (some 6000) []).jobAt 4000).map (·.1) = some 6 ∧ (ctxIn [] .running (some 6000) []).jobAt 6000 = none ∧
    (ctxIn [] .running none []).boundaryFrom 4001 = 4100 ∧ (ctxIn [] .running none []).boundaryFrom 4100 = 4100 := by decide +kernel

/-! Compression (chapter 07). -/

/-- The packet of two bytes 7 and 9 in a stored block, as the plane of bar 0 in pages of two lines or as general data; both CRCs are
those of zlib. -/
def packetAt (s : State) (a : Nat) (use : Bool) : State :=
  (s.storeWords a (if use then [0x504C4E, 0x1001, 0, 0, 2, 0, 7, 0, 0x443C9C, 0x77, 0, 0, 0, 0, 0x99FD90, 0x2E]
    else [0x504C4E, 1, 0, 1, 2, 0, 7, 0, 0x443C9C, 0x77, 0, 0, 0, 0, 0xD99E0E, 0xAD])).storeBytes (a + 64) [1, 2, 0, 253, 255, 7, 9]

/-- A descriptor of page 0 in buffer 5. -/
def pageDesc (st : DescState) (slot : Option Nat) : PDesc := ⟨10, 3, 0, 0, false, false, 5, 7, 0, 0x77, st, slot, 0⟩

/-- A job of pages of two lines of one byte runs, and its first descriptor is in a state. -/
def unpacking (st : DescState) (slot : Option Nat) : State :=
  (((jobState [] [(F.ZIP_CTL_STATE 0, 2), (F.RAS_W_WIDTH 0 0, 8), (F.ZIP_CTL_WORK_MAX 0, 1)]).setCtx 6
    { Ctx.free with st := .running, block := some { jobBlock with pageLines := 2 }, buf := 5, start := 4000 }).setStream 6 0
    ⟨1, 0, [pageDesc st slot], [], none, [], []⟩)

set_option maxRecDepth 100000 in
theorem test_inflate : inflate [1, 2, 0, 253, 255, 7, 9] = ⟨[7, 9], 0, 7⟩ ∧ inflate [7] = ⟨[], 3, 1⟩ ∧ (inflate [1, 2, 0, 252, 255, 7, 9]).err = 4 ∧
    inflate [0x4B, 0x4C, 0x04, 0x01, 0x00] = ⟨[97, 97, 97, 97, 97, 97], 0, 5⟩ ∧ (inflate [0x4B, 0x4C, 0x04]).err = 8 := by decide +kernel

set_option maxRecDepth 100000 in
theorem test_pageStreamStart : (let s := packetAt (unpacking .queued none) 0 false
    s.binding 10 = some (6, 0) && s.idleUnit 0 = some 0 && (s.stream 6 0).freeSlot = some 0 && s.refStatus 5 7 = 0 && (s.packetHead 0).ok &&
    gives (exec (.pageStreamStart 10) s) (fun t => (t.stream 6 0).descs = [pageDesc .filling (some 0)] && (t.dunit 0 0).st = .run &&
      (t.dunit 0 0).result.out = [7, 9] && t.rcd.raised.isEmpty)) = true := by decide +kernel

set_option maxRecDepth 100000 in
theorem test_pageStreamStart_refused : (gives (exec (.pageStreamStart 10) (packetAt (unpacking .queued none) 0 true))
      (fun t => (t.stream 6 0).descs = [pageDesc .packet none] && t.win.postings = [.release 5 0 0x77]) &&
    gives (exec (.pageStreamStart 10) (unpacking .queued none)) (fun t => (t.stream 6 0).descs = [pageDesc (.aborted 1) none] &&
      t.rcd.raised.map (fun r => (r.code, r.payload)) = [(0x0601, [0, 1, 0x77, 0])] && t.irq.causes = [26])) = true := by decide +kernel

/-- A WORK stream waits, from the packet in buffer 5 to buffer 6, which has `len` units. -/
def waiting (len used : Nat) : State :=
  ((packetAt (unpacking .complete none) 0 true).setBuf 6 ⟨1, len, .device, 4, true, 1⟩).onZip fun z =>
    { z with dwait := [(0, { DUnit.none with st := .header, work := true, ring := 2, tag := 8, inBuf := 5, outBuf := 6, outAddr := 65536 })]
             dunits := if used = 0 then [] else [(3, { DUnit.none with st := .run, work := true })] }

set_option maxRecDepth 100000 in
theorem test_workStreamStart : (gives (exec (.workStreamStart 0) (waiting 1 0)) (fun t => (t.dunit 0 0).st = .run && (t.dunit 0 0).result.out = [7, 9] &&
      t.zip.dwait.isEmpty) && (waiting 1 1).onWork 0 = 1 && gives (exec (.workStreamStart 0) (waiting 1 1)) (fun t => t.zip.dwait.length = 1) &&
    gives (exec (.workStreamStart 0) (waiting 0 0)) (fun t => (t.dunit 0 0).st = .idle && t.rcd.raised.map (·.payload) = [[0, 2, 8, 0xFFFFFF]])) = true := by
  decide +kernel

/-- Unit 0 of D0 runs for page 0 of bar 0 with an expansion, OUT_SIZE, IN_LEN and OUT_CRC. -/
def running (st : UnitState) (r : Inflated) (size len crc dec wr : Nat) : State :=
  (unpacking .filling (some 0)).setDUnit 0 0 { DUnit.none with
    st := st, stream := 96, ring := 10, seq := 3, tag := 0x77, inBuf := 5, lineBytes := 1, slot := 0, result := r, outSize := size, inLen := len, crc := crc,
    decoded := dec, written := wr }

theorem test_stagingWritten : (let r : Inflated := ⟨[7, 9], 0, 7⟩
    gives (exec (.stagingWritten 0 0 2 1) (running .run r 2 7 0 0 0)) (fun t => (t.stream 6 0).slots = [(0, ⟨[7], 1, 1⟩)] && (t.dunit 0 0).st = .run &&
      t.rd (F.ZIP_OUT_LO_BYTES 0) = 2) &&
    gives (exec (.stagingWritten 0 0 2 2) ((running .run r 2 7 0 0 0).setDUnit 0 0 { (running .run r 2 7 0 0 1).dunit 0 0 with
      work := true, ring := 2, outAddr := 65536 })) (fun t => t.mem = [(65537, 9)]) &&
    gives (exec (.stagingWritten 0 0 4096 0) (running .run ⟨List.replicate 4097 1, 0, 7⟩ 5000 7 0 0 0))
      (fun t => (t.dunit 0 0).st = .suspended && t.rd (F.ZIP_SUSP_COUNT 0) = 1) &&
    gives (exec (.stagingSpace 0 0) (running .suspended r 2 7 0 4096 1)) (fun t => (t.dunit 0 0).st = .run) &&
    gives (exec (.stagingSpace 0 0) (running .suspended r 2 7 0 4096 0)) (fun t => (t.dunit 0 0).st = .suspended)) = true := by decide +kernel

theorem test_decompStreamError : (gives (exec (.decompStreamError 0 0 false) (running .run ⟨[7, 9], 0, 7⟩ 1 7 0 0 0))
      (fun t => t.rcd.raised.map (fun r => (r.code, r.payload)) = [(0x0602, [0, 10, 0x77, 0])] && (t.stream 6 0).descs = [pageDesc (.aborted 10) none]) &&
    gives (exec (.decompStreamError 0 0 true) (running .run ⟨[7, 9], 0, 7⟩ 2 7 0 0 0)) (fun t => t.rd (F.ZIP_LAST_ERR_CODE 0) = 13) &&
    gives (exec (.decompStreamError 0 0 false) (running .run ⟨[], 3, 7⟩ 2 7 0 0 0)) (fun t => raised t 0 0x0601 && t.rd (F.ZIP_ERR_DEC 0) = 1) &&
    gives (exec (.decompStreamError 0 0 false) (running .run ⟨[7, 9], 0, 7⟩ 2 7 0 0 0)) (fun t => (t.dunit 0 0).st = .run)) = true := by decide +kernel

/-- The end of a stream of two bytes, with an OUT_SIZE, IN_LEN and OUT_CRC. -/
def ended (size len crc : Nat) : Host.Outcome State Fault Refusal :=
  exec (.decompStreamEnd 0 0) (running .run ⟨[7, 9], 0, 7⟩ size len crc 0 0)

theorem test_decompStreamEnd : (    gives (ended 3 7 0) (fun t => t.rd (F.ZIP_LAST_ERR_CODE 0) = 11) && gives (ended 2 8 0) (fun t => t.rd (F.ZIP_LAST_ERR_CODE 0) = 9) &&
    gives (ended 2 7 1) (fun t => raised t 0 0x0603 && t.rd (F.ZIP_ERR_CRC 0) = 1) &&
    gives (ended 2 7 0x77443C9C) (fun t => (t.dunit 0 0).st = .idle && (t.stream 6 0).held = some 0 && t.win.postings = [.release 5 0 0x77])) = true := by
  decide +kernel

/-- A WORK entry of Q2 in hand; buffers 5 and 6 are the device's. -/
def asked (ws : List Nat) : State := (packetAt (jobState ws [(F.ZIP_CTL_STATE 0, 2)]) 0 true).setBuf 6 ⟨1, 1, .device, 4, true, 0⟩

/-- A compression of three bytes for a WORK entry, with its chain. -/
def compJob (chain : List (Nat × Nat)) : CJob := ⟨.work 2 0, 0x55, 3, [1, 2, 3], some 5, chain, false⟩

theorem test_workDecomp : (gives (exec (.workDecomp 2) (asked [0x530, 0x55, 0x070005, 0, 0x040006, 2]))
      (fun t => t.zip.dwait.map (fun x => (x.1, x.2.inBuf, x.2.outBuf, x.2.outAddr)) = [(0, 5, 6, 65536 + 512)] && (t.buf 5).uses = 1 && (t.buf 6).uses = 1) &&
    gives (exec (.workDecomp 2) (asked [0x530, 0x55, 0x070005, 0, 0x030006, 2])) (fun t => t.zip.dwait.isEmpty && t.win.entries.isEmpty)) = true := by
  decide +kernel

theorem test_workComp : (gives (exec (.workComp 2) (asked [0x731, 0x55, 0x070005, 0, 3, 0, 0x040006, 3]))
      (fun t => t.zip.cwait = [(0, { compJob [(6, 0)] with input := [0x4E, 0x4C, 0x50] })]) &&
    gives (exec (.workComp 2) (asked [0x731, 0x55, 0x070005, 0, 3, 0, 0x040006, 10])) (fun t => t.zip.cwait.isEmpty && t.win.entries.isEmpty)) = true := by
  decide +kernel

/-- C-unit 1 of D0 has a compression with its output. -/
def comping (ws : List Nat) (chain : List (Nat × Nat)) (stalled : Bool) (out : List Nat) : State :=
  (asked ws).setCUnit 0 1 ⟨some (compJob chain), 3, stalled, out, [], 1, 0⟩

theorem test_workCompMore : (gives (exec (.workCompMore 2) (comping [0x332, 1, 0x55, 0x040006] [(6, 0)] true []))
      (fun t => (t.cunit 0 1).job = some (compJob [(6, 0), (6, 0)])) &&
    gives (exec (.workCompMore 2) (comping [0x332, 1, 0x55, 0x040006] (List.replicate 16 (6, 0)) true []))
      (fun t => (t.cunit 0 1).job = some (compJob (List.replicate 16 (6, 0))) && t.win.entries.isEmpty)) = true := by decide +kernel

/-- A compression waits on D0. -/
def compWaits : State := (asked []).onZip fun z => { z with cwait := [(0, compJob [(6, 0)])] }

set_option maxRecDepth 100000 in
theorem test_producerCompressStart : (compWaits.nextComp 0 0).isSome = true ∧ compWaits.workLost (compJob [(6, 0)]) = none ∧
    gives (exec (.producerCompressStart 0 0) compWaits) (fun t => t.zip.cwait.isEmpty && (t.cunit 0 0).level = 3 && t.rd (F.ZIP_CIN_LO_BYTES 0) = 3) = true := by decide +kernel

theorem test_producerCompressStart_lost : (let s := compWaits.setBuf 6 ⟨1, 1, .reclaiming, 4, true, 1⟩
    s.workLost (compJob [(6, 0)]) = some 5 && gives (exec (.producerCompressStart 0 0) s) (fun t => t.zip.cwait.isEmpty &&
      (t.cunit 0 0).job.isNone && (t.buf 6).uses = 0)) = true := by decide +kernel

theorem test_comp : (gives (exec (.compOutputSpace 0 1) (comping [] [(6, 0)] true (List.replicate 70 1))) (fun t => !(t.cunit 0 1).stalled) &&
    gives (exec (.compOutputSpace 0 1) (comping [] [(6, 65500)] true (List.replicate 70 1))) (fun t => (t.cunit 0 1).stalled) &&
    gives (exec (.compStallTimeout 0 ⟨1, false, 200000⟩) (comping [] [(6, 0)] true (List.replicate 70 1)))
      (fun t => (t.cunit 0 1).job.isNone && t.rcd.raised.map (·.payload) = [[9, 15, 0x55, 0xFFFFFF]] && t.win.postings = [.release 6 70 0x55, .release 5 0 0x55]) &&
    gives (exec (.compStallTimeout 0 ⟨1, false, 199999⟩) (comping [] [(6, 0)] true (List.replicate 70 1))) (fun t => (t.cunit 0 1).job.isSome) &&
    gives (exec (.compStallTimeout 0 ⟨1, false, 200000⟩) (comping [] [(6, 0)] false [])) (fun t => (t.cunit 0 1).job.isSome)) = true := by decide +kernel

theorem test_comp_busy : gives (exec (.compStallTimeout 0 ⟨1, true, 9⟩) (comping [] [(6, 0)] false []))
    (fun t => (t.cunit 0 1).job.isNone && raised t 0 0x0604) = true := by decide +kernel

theorem test_compClose : gives (exec (.compClose 0 1) (comping [] [(6, 0)] false (List.replicate 65 0)))
    (fun t => (t.cunit 0 1).job.isNone && (t.packetHead 65536).ok && (t.packetHead 65536).outSize = 3 && (t.packetHead 65536).inLen = 1 &&
      t.win.postings = [.release 6 65 0x55, .release 5 0 0x55]) = true := by decide +kernel

/-! The raster pipeline (chapter 08). -/

/-- Head 0 of class 0 on lane 0 of D0, with row 0 at positions 0 and 1 and row 1 at position 0; slot values equal codes. -/
def rasImage : Image :=
  { jobImage with
    lanes := [(0, ⟨0x800000, 0, 0⟩)]
    heads := [(0, ⟨[0x800000, 0, 0], 0, 0⟩)]
    geoms := [(0, ⟨[0x800000, 0x800001, 0xC00000], 0, 0⟩)]
    classes := [(0, ⟨[100, 200, 300, 7, 0x543210, 0xBA9876, 0xEDC, 0, 2000, 0], 0, 0⟩)] }

/-- Pages of 100 lines at 2 bits from a slot whose first line is codes 2 and 3; the next line to begin is given, and D0 is at line 5000. -/
def rasState (next : Int) (l : List (Fld × Nat)) : State :=
  let b : CtxBlock := { jobBlock with planes := ⟨1, 10, 0⟩ :: List.replicate 15 ⟨0, 0, 0⟩ }
  ((((jobState [] ([(F.RAS_PCTL_STATE 0 0, 2), (F.RAS_W_WIDTH 0 0, 2), (F.RAS_GEOM_XRES 0, 1200), (F.RAS_DL_DEPTH 0 0, 8)] ++ l)).onLd fun x =>
    { x with current := rasImage }).setCtx 6 { Ctx.free with st := .running, block := some b, buf := 5, start := 4000 }).setStream 6 0
    ⟨1, 0, [⟨10, 3, 0, 99, false, false, 0, 0, 0, 0x77, .complete, some 0, 0⟩], [(0, ⟨[14], 1, 1⟩)], none, [], []⟩).setRaster 0 ⟨next, [], none, 0, none, false, []⟩

theorem test_rank : rank 21541 130 = 46 ∧ rank 0 0 = 0 ∧ rank 7 0 = 42 := by decide +kernel

theorem test_pixelOrigin : pixelOrigin 3375025 1200 = 15945 := by decide +kernel

/-- The computation of a line of two positions, with the nozzle at position 1 out or not. -/
def twoWide (i : Nat) (out : Nat → Bool) : LineEnv :=
  ⟨rasImage, 1200, rasImage.nozzles 0 0 1200, 2, 2, 0, i, [], 0, false, false, fun _ => 32, out, fun _ c => c + 16 * c⟩

set_option maxRecDepth 4000 in
theorem test_choose : ((twoWide 0 fun _ => false).choose 0 = some (⟨0, 0, 0, 0⟩, false) ∧ (twoWide 0 fun a => a = 0).choose 0 = some (⟨0, 1, 0, 2⟩, true) ∧
    (twoWide 0 fun _ => true).choose 0 = none ∧ ((twoWide 0 fun a => a = 1).place [9] 0).missed = [(1, 2)] ∧
    (let t := (twoWide 0 fun a => a = 1).substitute ((twoWide 0 fun a => a = 1).place [9] 0)
     t.codes = [(0, 3)] ∧ t.subst = 1 ∧ t.lost = 0 ∧ (twoWide 0 fun _ => false).waves t.codes = [(0, 3)])) := by decide +kernel

set_option maxRecDepth 4000 in
theorem test_rasLineBegin : (gives (exec (.rasLineBegin 0 0) (rasState 4000 [(F.RAS_PCTL_LEAD 0 0, 64)]))
      (fun t => (t.raster 0).recs.map (fun x => (x.line, x.nofire, x.vals)) = [(4000, false, [(0, 2), (1, 3)])] && (t.raster 0).next = 4001 &&
        t.rd (F.RAS_BEGUN_LO_LINE 0 0) = 4000 && t.rd (F.RAS_W_CODE 0 0) = 1) &&
    gives (exec (.rasLineBegin 0 0) (rasState 5065 [])) (fun t => (t.raster 0).recs.isEmpty && (t.raster 0).next = 5065) &&
    gives (exec (.rasLineBegin 0 0) (rasState (-3) [])) (fun t => (t.raster 0).recs.isEmpty && (t.raster 0).next = -2) &&
    gives (exec (.rasLineBegin 0 0) (rasState 3999 [])) (fun t => (t.raster 0).recs.map (fun x => (x.line, x.nofire)) = [(3999, true)])) = true := by decide +kernel

set_option maxRecDepth 4000 in
theorem test_rasLineBegin_claimed : (let s := (rasState 4039 []).onEye fun e => { e with runs := [(0, ⟨[], [(⟨6, 0, 0, 4038, .strip 0 3⟩, [])], 0, [], none, 0, none, none, ⟨[], [], []⟩⟩)] }
    let s := { s with jobs := { s.jobs with ctxs := s.jobs.ctxs.map (fun x => (x.1, { x.2 with block := x.2.block.map (fun b => { b with gap := 64 }) })) } }
    s.claimAt 4039 = some (1, .strip 0 3) && gives (exec (.rasLineBegin 0 0) s) (fun t => (t.raster 0).recs.map (·.vals) = [[(0, 3)]]) &&
    gives (exec (.rasLineBegin 0 0) ((rasState 4000 []).setStream 6 0 ⟨0, 0, [], [], none, [], []⟩))
      (fun t => (t.raster 0).recs.map (fun x => (x.line, x.nofire)) = [(4000, true)] && raised t 0 0x0510)) = true := by decide +kernel

theorem test_rasNzData : (gives (exec (.rasNzDataAccess 0 none) (up [(F.RAS_NZ_ADDR_ADDR 0, 131071), (F.EPOCH_CTL_VIEW, 1), (nozzleEbOut 131071, 1)]))
      (fun t => t.host.readData = [32 + 1024 + 2048] && t.rd (F.RAS_NZ_ADDR_ADDR 0) = 0) &&
    gives (exec (.rasNzDataAccess 0 (some 0x2FF)) (up [(F.RAS_NZ_ADDR_ADDR 0, 5)]))
      (fun t => t.epoch.stage = [⟨0, (nozzleWord 5).key, 0x23F⟩] && t.rd (F.RAS_NZ_ADDR_ADDR 0) = 6)) = true := by decide +kernel

/-! Feedback (chapter 09). -/

/-- Input 0 of D0 (F0) is ON at given levels; the clock stands at 10,000. -/
def fed (x : Input) (l : List (Fld × Nat)) : State := { (up ([(F.FBK_CTL_STATE 0 0, 2)] ++ l)).setInput 0 x with clk := 10000 }

/-- An input with a history. -/
def inputAt (count : Int) (hist : List Nat) (still back : Bool) : Input := 
  ⟨false, false, false, count, hist, still, back, false, 0, some back, hist.headD 0, false, none, (4, 0)⟩

theorem test_speed : (inputAt 0 [400, 300, 200, 100, 0] false false).speed 437 20000000 = 512000000 ∧
    (inputAt 1000000000 [400, 300] false false).position 437 = 0x3B9ACA005E ∧
    (inputAt 0 [20000, 10000] false false).speed 40000 20000000 = 10000 * 256 ∧ (inputAt 0 [20000, 10000] false false).speed 20020000 20000000 = 0 := by
  decide +kernel

theorem test_frozen : ({ inputAt 3 [400, 300] false false with frozen := some 700 } : Input).position 437 = 700 := by decide +kernel

set_option maxRecDepth 4000 in
theorem test_fbkEdge : (let s := fed (inputAt 7 [9000] false false) []
    s.inputLive 0 && gives (exec (.fbkEdge 0 true false 10000 0) s) (fun t => (t.input 0).count = 8 && (t.input 0).hist = [10000, 9000]) &&
    gives (exec (.fbkEdge 0 false true 10000 0) s) (fun t => (t.input 0).count = 6 && (t.input 0).hist = [10000]) &&
    gives (exec (.fbkEdge 0 false false 10000 0) s) (fun t => (t.input 0).count = 7) &&
    gives (exec (.fbkEdge 0 true true 10000 0) s) (fun t => (t.input 0).count = 7 && t.rd (F.FBK_QERR_COUNT 0 0) = 1 && (t.input 0).hold) &&
    gives (exec (.fbkEdge 0 true true 10000 0) (s.wr (F.FBK_CTL_INFER 0 0) 1)) (fun t => (t.input 0).count = 9) &&
    gives (exec (.fbkEdge 0 true false 10000 0) (s.wr (F.FBK_STAT_LOS 0 0) 1)) (fun t => (t.input 0).count = 7) &&
    !s.filtered 0 20000 && gives (exec (.fbkEdge 0 true false 10000 20000) s) (fun t => (t.input 0).count = 7 && !(t.input 0).a)) = true := by decide +kernel

set_option maxRecDepth 4000 in
theorem test_zEdge : (gives (exec (.zEdge 0 ⟨10000, 0⟩) (fed (inputAt 3 [] true false) [(F.FBK_CTL_ZMODE 0 0, 2)]))
      (fun t => t.rd (F.FBK_IDX_LO_VALUE 0 0) = 768 && (t.input 0).count = 0 && t.rd (F.FBK_STAT_IDX_NEW 0 0) = 1) &&
    gives (exec (.zEdge 0 ⟨10000, 0⟩) (fed (inputAt 3 [] true false) [(F.FBK_CTL_ZMODE 0 0, 0)])) (fun t => (t.input 0).count = 3)) = true := by decide +kernel

theorem test_standstill : (gives (exec (.standstillTimeout 0 20010000) (fed (inputAt 3 [10000] false false) [])) (fun t => (t.input 0).still && (t.input 0).hist.isEmpty) &&
    gives (exec (.standstillTimeout 0 20009999) (fed (inputAt 3 [10000] false false) [])) (fun t => !(t.input 0).still)) = true := by decide +kernel

theorem test_los : (gives (exec (.losSet 4 10000) (fed (inputAt 0 [] true false) [(F.LNP_CTL_STATE 0 0, 2)]))
      (fun t => t.rd (F.FBK_STAT_LOS 0 4) = 1 && raised t 0 0x0D02 && raised t 0 0x080D && (t.pacer 0).loss = .lost) &&
    gives (exec (.losSet 0 10000) (fed { inputAt 0 [] true false with single := true } [])) (fun t => t.rd (F.FBK_STAT_LOS 0 0) = 0) &&
    gives (exec (.losClear 4 10000) ((fed (inputAt 0 [] true false) [(F.FBK_STAT_LOS 0 4, 1)]).setPacer 0 { State.reset.pacer 0 with loss := .lost }))
      (fun t => t.rd (F.FBK_STAT_LOS 0 4) = 0 && raised t 0 0x0D03 && (t.pacer 0).loss = .cleared)) = true := by decide +kernel

/-- Output 6 of D3 scales 254 counts to 15 (the spec's example). -/
def emulating (e : Emu) : State := { (up [(F.FBK_EMU_CTL_STATE 3 0, 2), (F.FBK_EMU_NUM_VALUE 3 0, 15), (F.FBK_EMU_DEN_VALUE 3 0, 254)]).setEmu 6 e with clk := 10000 }

set_option maxRecDepth 10000 in
theorem test_emuCount : (let t := (List.range 254).foldl (fun s _ => s.emuCount 6 false) (emulating ⟨0, 0, 0, 0, 0, false, false, false, (0, 0), 0⟩)
    decide ((t.emu 6).backlog = 15) && decide ((t.emu 6).acc = 0)) = true := by decide +kernel

theorem test_emuEmit : (gives (exec (.emuEmit 6 10000) (emulating ⟨0, -3, 0, 0, 9980, false, false, false, (0, 0), 0⟩))
      (fun t => (t.emu 6).backlog = -2 && (t.emu 6).pos = -1 && (t.emu 6).lastAt = 10000) &&
    gives (exec (.emuEmit 6 10000) ((emulating ⟨0, -3, 0, 0, 9900, false, true, false, (0, 0), 0⟩).wr (F.FBK_EMU_CTL_MODE 3 0) 1))
      (fun t => (t.emu 6).lastAt = 10004 && !(t.emu 6).b) &&
    gives (exec (.emuEmit 6 10000) (emulating ⟨0, 3, 0, 0, 9981, false, false, false, (0, 0), 0⟩)) (fun t => (t.emu 6).backlog = 3)) = true := by decide +kernel

/-! Line timing (chapter 10). -/

/-- Pacer 0 of D0 is ON, its group 0 FIRING with line 3000 next, and stamps of the web lie 200 FIRE clocks apart. -/
def pacing (recs : List LineRec) (pend : Option Strobe) (last : Option Nat) (l : List (Fld × Nat)) : State :=
  ((((up ([(F.LNP_CTL_STATE 0 0, 2), (F.LNP_GRP_STATE 0 0, 1), (F.EPOCH_CTL_LINE_VALID, 1), (F.EPOCH_PITCH_INT_PITCH, 16), (F.LNP_PW_PW 0 0, 1200),
      (F.DIE_LINE_LO_LINE 0, 3000), (F.LNP_TSET_TSET 0, 80), (F.LAN_GSTAT_ALIGNED 0 0, 0x1FF), (F.LAN_GSTAT_IDV 0 0, 1)] ++ l)).onLd fun x => { x with current := rasImage }).setWeb 0
    ⟨0, 48000, true, (List.range 17).map (fun k => 100000 - 200 * k), false, 0⟩).setRaster 0 ⟨3100, recs, none, 0, none, false, []⟩).setGroup 0
    { State.reset.group 0 with next := 3000, pend := pend, last := last }

/-- A record of line 3000, written in time. -/
def goodRec : LineRec := ⟨3000, false, [(0, 2)], [(0, 0), (1, 0)], 1, 2900, false⟩

/-- A strobe of line 3000. -/
def dueAt (placed ready : Nat) : Strobe := ⟨3000, 48000 * 2 ^ 24, 0, 1200, some placed, ready, []⟩

set_option maxRecDepth 4000 in
theorem test_lineTrigger : (let s := (pacing [goodRec] none none []).setPacer 0 { State.reset.pacer 0 with stepLine := 3000 }
    s.firesLine 0 3000 && s.mayFire 0 && s.groupPacer 0 = 0 && rasImage.groupPacer 0 0 = some 0 &&
    gives (exec (.lineTrigger 0 100000 100100 []) s) (fun t => (t.group 0).next = 3001 && !(t.group 0).sentNofire &&
      (t.group 0).pend.any (fun b => b.line = 3000 && b.drops = [(0, 2)])) &&
    gives (exec (.lineTrigger 0 100000 100100 []) (s.wr (F.LNP_GRP_STATE 0 0) 2)) (fun t => (t.group 0).next = 3001 && (t.group 0).sentNofire && (t.group 0).pend.isNone) &&
    gives (exec (.lineTrigger 0 100000 100100 []) (s.wr (F.LNP_CTL_STATE 0 0) 0)) (fun t => (t.group 0).next = 3000)) = true := by decide +kernel

set_option maxRecDepth 4000 in
theorem test_strobeFire : (gives (exec (.strobeFire 0 100200) (pacing [] (some (dueAt 100187 100000)) (some 99000) []))
      (fun t => (t.group 0).last = some 100200 && (t.group 0).width = 40 && (t.group 0).pend.isNone && (t.pacer 0).firedTo = 3001) &&
    gives (exec (.strobeFire 0 100186) (pacing [] (some (dueAt 100187 100000)) (some 99000) [])) (fun t => (t.group 0).pend.isSome) &&
    gives (exec (.strobeFire 0 100200) (pacing [] (some (dueAt 100187 100121)) (some 99000) []))
      (fun t => (t.group 0).pend.isNone && t.rd (F.LNP_LATE_COUNT 0 0) = 1 && raised t 0 0x080A) &&
    (pacing [] none none []).floorOf 0 3000 = 80 &&
    gives (exec (.strobeFire 0 100200) (pacing [] (some (dueAt 100187 100000)) (some 100121) []))
      (fun t => (t.group 0).pend.isNone && t.rd (F.LNP_OMIT_COUNT 0 0) = 1 && (t.group 0).last = some 100121)) = true := by decide +kernel

theorem test_strobeWithdraw : (gives (exec (.strobeWithdraw 0 100400) (pacing [] (some (dueAt 100187 100000)) none [])) (fun t => (t.group 0).pend.any (fun b => b.placed.isNone)) &&
    gives (exec (.strobeWithdraw 0 100399) (pacing [] (some (dueAt 100187 100000)) none [])) (fun t => (t.group 0).pend.any (fun b => b.placed.isSome))) = true := by
  decide +kernel

/-- The spec's placement: 14/15 of a count of 200 FIRE clocks is 187 clocks. -/
theorem test_place : (⟨0, 0, true, [1000, 800, 600], false, 0⟩ : Web).place 338860908 ((20011471 * 254 * 2 ^ 24 + 7) / 15 : Nat) 0 = some 1187 := by decide +kernel

/-- The spec's q at 5.4 m/s is 1,045 with MP 3,200 and a span of 2,963 clocks. -/
theorem test_q : ceilDiv (1024 * 3200 * 16 * 2 ^ 24) ((254 * 2 ^ 24 + 7) / 15 * 2963) = 1045 := by decide +kernel

/-- A pacer in a band, with a speed. -/
def banded (band span acc gap : Nat) : State :=
  (((pacing [] none none [(F.LNP_STAT_BAND 0 0, band)]).setWeb 0 ⟨0, 48000, true, (List.range 17).map (fun k => 100000 - span * k), false, 0⟩).setPacer 0
    { State.reset.pacer 0 with acc := acc, gap := gap })

set_option maxRecDepth 4000 in
theorem test_bandStep : ((banded 0 6 0 0).speedQ 0 0 = 1067 && (banded 0 5 0 0).speedQ 0 0 = 1280 && (banded 0 4 0 0).speedQ 0 0 = 1600 && (banded 0 7 0 0).speedQ 0 0 = 915 &&
    ((banded 0 6 0 0).bandStep 0 9).band 0 = 1 && ((banded 0 4 0 0).bandStep 0 9).band 0 = 2 && ((banded 0 7 0 0).bandStep 0 9).band 0 = 0 &&
    ((banded 2 7 0 0).bandStep 0 9).band 0 = 0 && ((((banded 1 6 1030 4).bandStep 0 9).pacer 0).step = .omit) && ((((banded 1 6 1023 4).bandStep 0 9).pacer 0).step = .fire) &&
    ((((banded 1 6 1030 3).bandStep 0 9).pacer 0).step = .fire)) = true := by decide +kernel

set_option maxRecDepth 4000 in
theorem test_watchdog : (let s := pacing [] (some (dueAt 1 2)) none []
    gives (exec (.strobeCut 0 2000) s) (fun t => t.grpState 0 = 2 && t.rd (F.LNP_GRP_FAULT 0 0) = 1 && (t.group 0).pend.isNone && raised t 0 0x0807) &&
    gives (exec (.strobeStuck 0) s) (fun t => t.grpState 0 = 2 && t.rd (F.LNP_WD_STUCK 0 0) = 1) && gives (exec (.periodGuard 0 9) s) (fun t => t.grpState 0 = 2) &&
    gives (exec (.strobeCut 0 2000) (s.wr (F.LNP_GRP_STATE 0 0) 3)) (fun t => t.grpState 0 = 3) &&
    gives (exec (.groupFaultClear 0 false) (pacing [] none none [(F.LNP_GRP_STATE 0 0, 2), (F.LNP_GRP_FAULT 0 0, 1), (F.LAN_GSTAT_IDV 0 0, 1)]))
      (fun t => t.grpState 0 = 1 && t.rd (F.LNP_GRP_FAULT 0 0) = 0) &&
    gives (exec (.groupFaultClear 0 true) (pacing [] none none [(F.LNP_GRP_STATE 0 0, 2), (F.LNP_GRP_FAULT 0 0, 1)])) (fun t => t.grpState 0 = 2 && raised t 0 0x0808)) = true := by
  decide +kernel

set_option maxRecDepth 4000 in
theorem test_watchdogLimits : (let s := pacing [] (some (dueAt 1 2)) none []
    let z := s.setGroup 0 { s.group 0 with own := true, width := 41 }
    z.cutLimit 0 = 23 && gives (exec (.strobeCut 0 23) z) (fun t => t.grpState 0 = 1) && gives (exec (.strobeCut 0 24) z) (fun t => t.grpState 0 = 2) &&
    gives (exec (.periodGuard 0 39) s) (fun t => t.grpState 0 = 1) && gives (exec (.periodGuard 0 38) s) (fun t => t.grpState 0 = 2)) = true := by
  decide +kernel

set_option maxRecDepth 4000 in
theorem test_notDue : (let s := (pacing [goodRec] none none []).setPacer 0 { State.reset.pacer 0 with stepLine := 3000 }
    gives (exec (.lineTrigger 0 100000 100100 []) (s.setWeb 0 { s.web 0 with ahead := false })) (fun t => (t.group 0).next = 3000) &&
    gives (exec (.lineTrigger 0 100000 100100 []) (s.setGroup 0 { s.group 0 with ghost := some (dueAt 100001 0) })) (fun t => (t.group 0).next = 3000) &&
    gives (exec (.lineTrigger 0 100000 100100 []) (s.setGroup 0 { s.group 0 with ghost := some (dueAt 100000 0) })) (fun t => (t.group 0).next = 3001)) = true := by
  decide +kernel

theorem test_reject : (let s := (pacing [] none none []).onPress fun q => { q with spans := [⟨2900, 2999, false⟩, ⟨3001, 3100, false⟩] }
    gives (exec .rejectSpanStart s) (fun t => t.rd (F.LNP_REJ_STAT_REJECT 0) = 1 && t.press.spans.map Span.started = [true, false]) &&
    gives (exec .rejectSpanEnd (s.wr (F.LNP_REJ_STAT_REJECT 0) 1)) (fun t => t.rd (F.LNP_REJ_STAT_REJECT 0) = 0 && t.press.spans.length = 1) &&
    gives (exec .rejectSpanStart (s.wr (F.DIE_LINE_LO_LINE 0) 10)) (fun t => t.rd (F.LNP_REJ_STAT_REJECT 0) = 0)) = true := by decide +kernel

set_option maxRecDepth 100000 in
theorem test_pacerTickle : (gives (exec (.pacerTickle 0 500000) (pacing [] none (some 100000) [(F.LNP_TKLPW_PW 0 0, 250), (F.LNP_TKL_IDLE 0 0, 1), (F.LNP_TKL_LINES 0 0, 2)]))
      (fun t => (t.group 0).last = some 500100 && (t.group 0).tickled = 2 && (t.group 0).burstTo = 500100) &&
    gives (exec (.pacerTickle 0 499999) (pacing [] none (some 100000) [(F.LNP_TKLPW_PW 0 0, 250), (F.LNP_TKL_IDLE 0 0, 1), (F.LNP_TKL_LINES 0 0, 2)]))
      (fun t => (t.group 0).last = some 100000)) = true := by decide +kernel

/-- With no job, q does not depend on the line: the steady speed of an excursion. -/
theorem test_steadyQ (l : Int) : (banded 1 6 0 0).speedQ 0 l = 1067 := by
  have h : (banded 1 6 0 0).speedLimit 0 l = 0 := by
    unfold State.speedLimit
    split
    · rfl
    · rfl
  unfold State.speedQ State.minPeriod
  rw [h]
  decide +kernel

/-! The head link (chapter 11). -/

/-- Group 0 of D0, with a LAN block that is ON, in a LINK state. -/
def linked (link : Nat) (l : List (Fld × Nat)) : State :=
  ((up ([(F.LAN_GCTL_STATE 0 0, 2), (F.LAN_GSTAT_LINK 0 0, link), (F.STRUCT_STAT_LOADED, 1)] ++ l)).onLd fun x => { x with current := rasImage })

/-- A valid identity record with serial number 9 and rank 0; its CRC is that of zlib. -/
def identity : List Byte :=
  [72, 73, 1, 0, 0, 0, 9, 0, 0, 0, 0, 0, 100, 0, 0, 250, 0, 0, 0, 0, 0, 0, 0, 0, 0, 0, 0, 0, 125, 164, 202, 106]

/-- The group waits for its identity. -/
def identing (link tries : Nat) (l : List (Fld × Nat)) : State :=
  (linked link l).setGroup 0 { State.reset.group 0 with reading := true, tries := tries }

set_option maxRecDepth 4000 in
theorem test_training : (gives (exec (.linkRetryTimer 0 5) ((linked 0 []).wr (F.LAN_EQ_SETTING 0 0) 0x8000)) (fun t => t.link 0 = 1 && t.rd (F.LAN_GSTAT_RATE 0 0) = 1) &&
    gives (exec (.linkRetryTimer 0 5) ((linked 0 []).wr (F.LAN_GCTL_STATE 0 0) 0)) (fun t => t.link 0 = 0) &&
    gives (exec (.clockSettled 0 4000) (linked 1 [])) (fun t => t.link 0 = 2) && gives (exec (.clockSettled 0 3999) (linked 1 [])) (fun t => t.link 0 = 1) &&
    gives (exec (.trainTimeout 0 100000) (linked 2 [])) (fun t => t.link 0 = 0 && (t.group 0).retryAt = 300000) &&
    gives (exec (.trainTimeout 0 99999) (linked 2 [])) (fun t => t.link 0 = 2) && gives (exec (.linkRetryTimer 0 5)
      ((linked 0 []).setGroup 0 { State.reset.group 0 with retryAt := 6 })) (fun t => t.link 0 = 0) &&
    (linked 2 []).serviceMask 0 = 1 && gives (exec (.trainedReceived 0 0x101 0 5) (linked 2 [])) (fun t => t.link 0 = 3 && (t.group 0).reading && raised t 0 0x0908) &&
    gives (exec (.trainedReceived 0 0x100 0 5) (linked 2 [])) (fun t => t.link 0 = 2) &&
    gives (exec (.identReread 0 20000000) (linked 4 [])) (fun t => (t.group 0).reading) &&
    gives (exec (.identReread 0 19999999) (linked 4 [])) (fun t => !(t.group 0).reading)) = true := by decide +kernel

set_option maxRecDepth 8000 in
theorem test_identity : ((identing 3 1 []).groupRank 0 = some 0 &&
    gives (exec (.identTimeout 0 40000) (identing 3 2 [])) (fun t => (t.group 0).tries = 3 && t.link 0 = 3) &&
    gives (exec (.identTimeout 0 39999) (identing 3 2 [])) (fun t => (t.group 0).tries = 2) &&
    gives (exec (.identTimeout 0 40000) (identing 3 3 [])) (fun t => t.link 0 = 4 && t.rcd.raised.map (·.payload) = [[0, 1]]) &&
    gives (exec (.memdataReceived 0 0 identity 5) (identing 3 1 [])) (fun t => t.link 0 = 4 && t.grpState 0 = 0 && (t.settleGroup 0).grpState 0 = 1 && t.rd (F.LAN_SER_LO_SERIAL 0 0) = 9 && raised t 0 0x0901) &&
    gives (exec (.memdataReceived 0 0 identity 5) (identing 3 1 [(F.LNP_GRP_STATE 0 0, 3)])) (fun t => t.grpState 0 = 3 && t.rd (F.LNP_GRP_NEW 0 0) = 1) &&
    gives (exec (.memdataReceived 0 0 (identity.set 6 8) 5) (identing 3 1 [])) (fun t => t.link 0 = 4 && t.rcd.raised.map (·.payload) = [[0, 3]])) = true := by decide +kernel

set_option maxRecDepth 4000 in
theorem test_status : (gives (exec (.statusReceived 0 1 1 300 250 7 [3, 0, 0, 0, 0, 0, 0, 0, 0] 5) (linked 4 []))
      (fun t => t.link 0 = 4 && t.rd (F.LAN_LERR_COUNT 0 0) = 3 && t.rd (F.LAN_FLW_EPOCH 0 0) = 7 && t.rd (F.LAN_TEMP_HEAD 0 0) = 300) &&
    gives (exec (.statusReceived 0 2 3 300 250 7 [0, 0, 0, 0, 0, 0, 0, 0, 0] 5) (linked 4 [(F.LNP_GRP_STATE 0 0, 1)]))
      (fun t => t.link 0 = 0 && t.grpState 0 = 1 && (t.settleGroup 0).grpState 0 = 0 && t.rcd.raised.map (fun r => (r.code, r.payload)) = [(0x0906, [0, 3]), (0x0902, [0, 4])]) &&
    gives (exec (.statusTimeout 0 199999) (linked 4 [])) (fun t => t.link 0 = 4) &&
    gives (exec (.statusTimeout 0 200000) (linked 4 [])) (fun t => t.link 0 = 0 && t.rcd.raised.map (·.payload) = [[0, 1]]) &&
    gives (exec (.returnCodeViolations 0 ⟨7, 5⟩) (linked 4 [])) (fun t => t.link 0 = 4 && t.rd (F.LAN_RERR_CODE 0 0) = 7) &&
    gives (exec (.returnCodeViolations 0 ⟨8, 5⟩) (linked 4 [])) (fun t => t.link 0 = 0 && t.rcd.raised.map (·.payload) = [[0, 2]]) &&
    gives (exec (.returnPacketBad 0) (linked 4 [])) (fun t => t.rd (F.LAN_RERR_PKT 0 0) = 1) &&
    gives (exec (.activeSend 0 5) (linked 4 [])) (fun t => (t.group 0).active = some (5, 0, true))) = true := by decide +kernel

set_option maxRecDepth 4000 in
theorem test_memRead : (gives (exec (.memRead 0 32) (linked 4 [(F.LAN_MRD_ADDR_ADDR 0, 64)])) (fun t => tget? t.press.reads 0 = some ⟨0, 64, 32, 1, 0⟩) &&
    gives (exec (.memRead 0 32) (linked 3 [])) (fun t => t.rd (F.LAN_MRD_STAT_RESULT 0) = 2) &&
    gives (exec (.memReadRetry 0 40000) ((linked 4 []).onPress fun q => { q with reads := [(0, ⟨0, 64, 32, 2, 0⟩)] })) (fun t => tget? t.press.reads 0 = some ⟨0, 64, 32, 3, 40000⟩) &&
    gives (exec (.memReadRetry 0 39999) ((linked 4 []).onPress fun q => { q with reads := [(0, ⟨0, 64, 32, 3, 0⟩)] })) (fun t => !t.press.reads.isEmpty) &&
    gives (exec (.memdataReceived 0 64 (List.replicate 32 7) 5) ((linked 4 []).onPress fun q => { q with reads := [(0, ⟨0, 64, 32, 2, 0⟩)] }))
      (fun t => t.press.reads.isEmpty && t.rd (F.LAN_MRD_DATA_BYTES 0 10) = 0x000707) &&
    gives (exec (.memReadRetry 0 40000) ((linked 4 []).onPress fun q => { q with reads := [(0, ⟨0, 64, 32, 3, 0⟩)] }))
      (fun t => t.press.reads.isEmpty && t.rd (F.LAN_MRD_STAT_RESULT 0) = 1 && raised t 0 0x0905)) = true := by decide +kernel

/-- An adapter in a state, with what it follows and holds. -/
def adapting (st : AdapterState) (follow change : Option Bool) (held : List (Bool × Nat × LineFrame)) : State :=
  (linked 4 []).setAdapter 0 { State.reset.adapter 0 with st := st, follow := follow, change := change, held := held }

/-- A LINE frame for a lane and a line. -/
def frameOf (lane line : Nat) : LineFrame := ⟨lane, 0, false, line, 0, 2200, []⟩

/-- Its characters (R348). -/
def charsOf (lane line : Nat) : List Nat := lineChars (frameOf lane line)

/-- A LINE frame's characters spell it again. -/
theorem test_lineChars : (readLine (lineChars ⟨5, 1, true, 70000, 300, 2200, [(0, 3), (7, 1), (2047, 2)]⟩) = some ⟨5, 1, true, 70000, 300, 2200, [(0, 3), (7, 1), (2047, 2)]⟩) ∧
    readActive (activeSet true 70000) = some (true, 70000) ∧ readActive (activeSet true 5 |>.set 1 0) = none ∧ readCommand (readSet 65535 64) = some (65535, 64) := by
  decide +kernel

theorem test_adapterFrames : (gives (exec (.adapterLineFrame 0 false 8 false (charsOf 5 9)) (adapting .up (some false) none [(false, 5, frameOf 5 8), (false, 1, frameOf 1 8)]))
      (fun t => (t.adapter 0).held = [(false, 1, frameOf 1 8), (false, 8, frameOf 5 9)]) &&
    gives (exec (.adapterLineFrame 0 true 5 false (charsOf 5 9)) (adapting .up (some false) none [])) (fun t => (t.adapter 0).held.isEmpty) &&
    gives (exec (.adapterLineFrame 0 false 5 true (charsOf 5 9)) (adapting .up (some false) none [])) (fun t => (t.adapter 0).inA.lcrc.getD 5 0 = 1) &&
    gives (exec (.adapterNofireFrame 0 false ⟨5, nofireSet 9⟩) (adapting .up (some false) none [(false, 5, frameOf 5 8), (false, 1, frameOf 1 8)]))
      (fun t => (t.adapter 0).held = [(false, 1, frameOf 1 8)])) = true := by decide +kernel

theorem test_adapterStrobe : (gives (exec (.adapterStrobe 0 false) (adapting .up (some false) none [(false, 5, frameOf 5 8), (false, 1, frameOf 1 9), (false, 2, frameOf 2 9)]))
      (fun t => (t.adapter 0).fired = [frameOf 1 9, frameOf 2 9] && (t.adapter 0).held.isEmpty) &&
    gives (exec (.adapterStrobe 0 true) (adapting .up (some false) (some true) [(false, 5, frameOf 5 8), (true, 1, frameOf 1 7)]))
      (fun t => (t.adapter 0).fired = [frameOf 1 7] && (t.adapter 0).follow = some true) &&
    gives (exec (.adapterStrobe 0 true) (adapting .up (some false) none [(true, 5, frameOf 5 8)])) (fun t => (t.adapter 0).fired.isEmpty) &&
    gives (exec (.adapterStrobe 0 false) (adapting .training (some false) none [(false, 5, frameOf 5 8)])) (fun t => (t.adapter 0).held.length = 1)) = true := by decide +kernel

/-- An adapter whose input B was heard at time 100 with epoch 5. -/
def heardB (follow : Option Bool) : State :=
  (linked 4 []).setAdapter 0 { State.reset.adapter 0 with st := .up, inB := ⟨5, some 100, []⟩, follow := follow, held := [(true, 5, frameOf 5 8)] }

theorem test_adapterActive : (gives (exec (.adapterActive 0 false k281 (activeSet true 6).tail 200) (heardB (some true))) (fun t => (t.adapter 0).change = some false) &&
    gives (exec (.adapterActive 0 false k281 (activeSet true 5).tail 200) (heardB (some true))) (fun t => (t.adapter 0).change.isNone && (t.adapter 0).follow = some true) &&
    gives (exec (.adapterActive 0 true k281 (activeSet false 5).tail 200) (heardB (some true))) (fun t => (t.adapter 0).follow.isNone && (t.adapter 0).held.isEmpty) &&
    gives (exec (.adapterInputLapse 0 true 50100) (heardB (some true))) (fun t => (t.adapter 0).follow.isNone) &&
    gives (exec (.adapterInputLapse 0 true 50099) (heardB (some true))) (fun t => (t.adapter 0).follow = some true)) = true := by decide +kernel

theorem test_adapterStates : (gives (exec (.adapterRead 0 k282 (readSet 65535 2).tail) ((linked 4 []).setAdapter 0 { State.reset.adapter 0 with st := .up, mem := [(0, 7), (65535, 9)] }))
      (fun t => (t.adapter 0).answered = [9, 7]) &&
    gives (exec (.adapterTrain 0 0x1FF) (adapting .training none none [])) (fun t => (t.adapter 0).st = .up) &&
    gives (exec (.adapterFaultEntry 0 3) (adapting .up none none [])) (fun t => (t.adapter 0).st = .fault) &&
    gives (exec (.adapterFaultCleared 0) (adapting .fault none none [])) (fun t => (t.adapter 0).st = .training) &&
    gives (exec (.adapterKAbsent 0) (adapting .up none none [])) (fun t => (t.adapter 0).st = .training) &&
    gives (exec (.adapterKAbsent 0) (adapting .fault none none [])) (fun t => (t.adapter 0).st = .fault)) = true := by decide +kernel

/-! Inspection (chapter 12). -/

/-- Camera 0 is ON with frames of 2 x 2 in RAW12, POSITION triggers every 2,048 lines, and D0 at line 4,100. -/
def imaging (c : Camera) (l : List (Fld × Nat)) : State :=
  (up ([(F.CAM_CTL_STATE 0, 2), (F.CAM_CTL_FMT 0, 1), (F.CAM_WIDTH_SIZE 0, 2), (F.CAM_HEIGHT_SIZE 0, 2), (F.CAM_TRIG_MODE 0, 1), (F.EPOCH_CTL_LINE_VALID, 1),
    (F.CAM_FMIN_FMIN 0, 10), (F.DIE_LINE_LO_LINE 0, 4100)] ++ l)).setCam 0 c

set_option maxRecDepth 4000 in
theorem test_camTrigger : ((imaging { Camera.reset with judged := 2000 } []).trigPoints 0 = (2, 4096) &&
    gives (exec (.camTrigger 0 9000) (imaging { Camera.reset with judged := 2000 } []))
      (fun t => (t.cam 0).unmatched.map (fun x => (x.number, x.l0)) = some (1, 4096) && t.rd (F.CAM_SKIP_TRIG 0) = 1 && (t.cam 0).trigTo = 11000) &&
    gives (exec (.camTrigger 0 9000) (imaging { Camera.reset with judged := 2000, lastTrig := some 7001 } []))
      (fun t => (t.cam 0).unmatched.isNone && t.rd (F.CAM_SKIP_TRIG 0) = 2) &&
    gives (exec (.camTrigger 0 9000) (imaging { Camera.reset with judged := 4096 } [])) (fun t => (t.cam 0).unmatched.isNone && t.rd (F.CAM_SKIP_TRIG 0) = 0) &&
    gives (exec (.camFlashPulse 0 9000) (imaging { Camera.reset with flashDue := some 8000 } [(F.CAM_FLASH_FLASH_W 0, 20)])) (fun t => (t.cam 0).flash = (8000, 8400)) &&
    gives (exec (.camFlashPulse 0 7999) (imaging { Camera.reset with flashDue := some 8000 } [(F.CAM_FLASH_FLASH_W 0, 20)])) (fun t => (t.cam 0).flashDue = some 8000)) = true := by
  decide +kernel

/-- A trigger of frame 7 for substrate line 4,000. -/
def trig7 : Trigger := ⟨7, 4000, 123, false, false⟩

set_option maxRecDepth 4000 in
theorem test_frameStart : (gives (exec (.frameStart 0 0 9000) (imaging { Camera.reset with unmatched := some trig7 } [])) (fun t => (t.cam 0).frame = some ⟨some trig7, [], 0⟩) &&
    gives (exec (.frameStart 0 0 9000) (imaging Camera.reset [])) (fun t => (t.cam 0).frame = some ⟨none, [], 0⟩ && t.rd (F.CAM_SKIP_ORPHAN 0) = 1) &&
    gives (exec (.frameStart 0 0 9000) (imaging { Camera.reset with frame := some ⟨some trig7, [], 0⟩ } [(F.CAM_CTL_STATE 0, 3)])) (fun t => (t.cam 0).frame.isNone) &&
    gives (exec (.frameStart 0 1 9000) (imaging Camera.reset [])) (fun t => (t.cam 0).frame.isNone)) = true := by decide +kernel

set_option maxRecDepth 4000 in
theorem test_csiPacket : (let s := imaging { Camera.reset with frame := some ⟨some trig7, [], 0⟩ } []
    gives (exec (.csiPacket 0 0 0x2C false false [5, 6]) s) (fun t => (t.cam 0).frame = some ⟨some trig7, [(true, [5, 6])], 0⟩) &&
    gives (exec (.csiPacket 0 0 0x2C false true [5, 6]) s) (fun t => (t.cam 0).frame = some ⟨some trig7, [(false, [5, 6])], 0⟩ && t.rd (F.CAM_ERR_CRC 0) = 1) &&
    gives (exec (.csiPacket 0 0 0x2C true false [5, 6]) s) (fun t => t.rd (F.CAM_ERR_HDR 0) = 1) &&
    gives (exec (.csiPacket 0 0 0x2C false false [5, 6]) (imaging { Camera.reset with frame := some ⟨some trig7, [(true, [1, 2]), (true, [3, 4])], 0⟩ } []))
      (fun t => (t.cam 0).frame = some ⟨some trig7, [(true, [1, 2]), (true, [3, 4])], 1⟩ && t.rd (F.CAM_DROP_LINES 0) = 1)) = true := by decide +kernel

/-- The first posting is a VISION record of frame 7 with 2 valid lines to ring 20. -/
def visionPosted (t : State) : Bool :=
  match t.win.postings with
  | [.post 20 6 b] => b.head? = some 7 && b.getD 8 0 = 2
  | _ => false

/-- An open frame of two of its four lines. -/
def shortFrame : State :=
  imaging { Camera.reset with frame := some ⟨some trig7, [(true, [100, 200]), (true, [100, 200])], 0⟩ }
    [(F.CAM_HEIGHT_SIZE 0, 4), (F.CAM_OUT_VIS_EN 0, 1), (F.CAM_OUT_VIS_RING 0, 20)]

set_option maxRecDepth 100000 in
theorem test_frameEnd : (gives (exec (.frameEnd 0 0 9000) shortFrame) (fun t => (t.cam 0).frame.isNone && t.rd (F.CAM_FRAME_FRAME 0) = 7 &&
      t.rd (F.CAM_LINES_VALID 0) = 2 && raised t 0 0x0A01 && visionPosted t && t.irq.causes.contains 32) &&
    gives (exec (.camStopFrameTimeout 0 20000000) (shortFrame.wr (F.CAM_CTL_STATE 0) 3)) (fun t => (t.cam 0).frame.isNone && t.rd (F.CAM_LINES_SHORT 0) = 1) &&
    gives (exec (.camStopFrameTimeout 0 19999999) (shortFrame.wr (F.CAM_CTL_STATE 0) 3)) (fun t => (t.cam 0).frame.isSome) &&
    gives (exec (.camStopFrameTimeout 0 20000000) ((shortFrame.wr (F.CAM_CTL_STATE 0) 3).wr (F.CAM_HEIGHT_SIZE 0) 2)) (fun t => (t.cam 0).frame.isNone && t.rd (F.CAM_LINES_SHORT 0) = 1)) = true := by
  decide +kernel

/-- A set of one commit. -/
def setOf (id : Nat) (missed : Bool) : CciSet := ⟨[id], [], missed, 0, false, none, []⟩

set_option maxRecDepth 4000 in
theorem test_cciTransferDone : (gives (exec (.cciTransferDone 0 none 0 9000) (imaging { Camera.reset with cci := some (.set (setOf 5 false)) } []))
      (fun t => (t.cam 0).cci.isNone && (t.cam 0).sent = [{ setOf 5 false with sentAt := 9000 }]) &&
    gives (exec (.cciTransferDone 0 (some 0x401) 0 9000) (imaging { Camera.reset with cci := some (.set (setOf 5 false)) } []))
      (fun t => t.rd (F.CAM_STAT_SET_FAIL 0) = 1 && t.rcd.raised.map (·.payload) = [[0, 0x401, 5]]) &&
    gives (exec (.cciTransferDone 0 none 0x5A 9000) (imaging { Camera.reset with cci := some .raw } [(F.CAM_RAW_CTL_RD 0, 1)]))
      (fun t => t.rd (F.CAM_RAW_CTL_RDATA 0) = 0x5A && (t.cam 0).cci.isNone)) = true := by decide +kernel

set_option maxRecDepth 4000 in
theorem test_camPorts : (gives (exec (.camRawGo 0 true) (imaging Camera.reset [(F.CAM_CTL_STATE 0, 0)])) (fun t => (t.cam 0).cci = some .raw && t.rd (F.CAM_RAW_CTL_BUSY 0) = 1) &&
    gives (exec (.camRawGo 0 true) (imaging Camera.reset [])) (fun t => t.rd (F.CAM_RAW_CTL_NACK 0) = 1) &&
    gives (exec (.camArchReq 0) (imaging Camera.reset [])) (fun t => (t.cam 0).archReq) &&
    gives (exec (.camArchQWrite 0 5 7) ((imaging Camera.reset []).setBuf 5 ⟨0, 1, .device, 7, true, 0⟩)) (fun t => (t.cam 0).archQ = [(5, 7)] && (t.buf 5).uses = 1) &&
    gives (exec (.camArchQWrite 0 5 8) ((imaging Camera.reset []).setBuf 5 ⟨0, 1, .device, 7, true, 0⟩)) (fun t => t.rd (F.CAM_SKIP_ARCH 0) = 1) &&
    gives (exec (.camTblDataRead 0) (imaging { Camera.reset with shade := [(16387, 900)] } [(F.CAM_TBL_BANK 0, 1), (F.CAM_TBL_ADDR_ADDR 0, 3)]))
      (fun t => t.host.readData = [900] && t.rd (F.CAM_TBL_ADDR_ADDR 0) = 4) &&
    gives (exec (.camInitDataAccess 0 (some 0x20401)) (imaging Camera.reset [(F.CAM_INIT_ADDR_ADDR 0, 63)]))
      (fun t => t.epoch.stage = [⟨0, (initEntry 0 63).key, 0x20401⟩] && t.rd (F.CAM_INIT_ADDR_ADDR 0) = 0) &&
    gives (exec (.camInitDataAccess 0 none) (imaging Camera.reset [(initEntry 0 0, 77), (F.EPOCH_CTL_VIEW, 1)])) (fun t => t.host.readData = [77])) = true := by decide +kernel

/-- A site of a 4 x 4 frame whose G comes from the flatter direction: rows of 100, with one column of 300 at the right. -/
theorem test_demosaic : (let f : Frame := ⟨4, 4, List.replicate 4 [100, 100, 100, 300]⟩
    f.greenAt 2 2 = 100 ∧ mirror (-2) 4 = 2 ∧ mirror 5 4 = 1 ∧ ((f.demosaic (f.green 0) 0 2 2).g = 100)) := by decide +kernel

/-! Nozzle health and calibration (chapter 13). -/

/-- Two FAIL of the last three take a nozzle out. -/
def km : List (Fld × Nat) := [(F.HLTH_KM_K, 2), (F.HLTH_KM_M, 3), (F.HLTH_BAR_DECIDE 0, 1)]

/-- A verdict on nozzle 5 arrives at a given history. -/
def verdictOn (spot : Spot) (hist : List Bool) (l : List (Fld × Nat)) : State :=
  (up (km ++ l)).onEye fun e => { e with verdicts := [⟨5, 0, 9, spot⟩], hists := [(5, ⟨hist, none, 0⟩)] }

set_option maxRecDepth 4000 in
theorem test_verdict : (gives (exec .nozzleVerdict (verdictOn .missing [false, true] []))
      (fun t => t.rd (nozzleEbOut 5) = 1 && raised t 0 0x0B01 && t.rd F.HLTH_OUT_COUNT = 1 && t.eye.hists = [(5, ⟨[true, false, true], some .missing, 1⟩)]) &&
    gives (exec .nozzleVerdict (verdictOn .pass [false, false] [(nozzleEbOut 5, 1)])) (fun t => t.rd (nozzleEbOut 5) = 0 && raised t 0 0x0B02) &&
    gives (exec .nozzleVerdict (verdictOn .pass [false] [(nozzleEbOut 5, 1)])) (fun t => t.rd (nozzleEbOut 5) = 1) &&
    gives (exec .nozzleVerdict (verdictOn .deviated [true, true] [(F.HLTH_BAR_DECIDE 0, 0)])) (fun t => t.rd (nozzleEbOut 5) = 0)) = true := by decide +kernel

set_option maxRecDepth 4000 in
theorem test_clear : (let s := (verdictOn .pass [true] [(nozzleEbOut 2, 1), (F.HLTH_NZ_ADDR_ADDR, 2)]).onEye fun e => { e with hists := [(2, ⟨[true], none, 0⟩)] }
    gives (exec .hlthClearNozzle s) (fun t => t.rd (nozzleEbOut 2) = 1 && !raised t 0 0x0B02) &&
    gives (exec .hlthClearNozzle (s.onLd fun x => { x with current := rasImage })) (fun t => t.rd (nozzleEbOut 2) = 0 && t.eye.hists = [] && raised t 0 0x0B02) &&
    gives (exec .hlthClearHead s) (fun t => t.rd (nozzleEbOut 2) = 1) &&
    gives (exec .hlthClearHead (s.onLd fun x => { x with current := rasImage })) (fun t => t.rd (nozzleEbOut 2) = 0 && t.eye.hists = []) &&
    gives (exec .hlthClearAll s) (fun t => t.rd (nozzleEbOut 2) = 0 && t.eye.hists = []) &&
    gives (exec .hlthNzDataRead s) (fun t => t.host.readData = [0x1101] && t.rd F.HLTH_NZ_ADDR_ADDR = 3)) = true := by decide +kernel

/-- A row of eight equal pixels, or with one dark pixel at column 3. -/
def pixelRow (dark : Bool) : List Pixel := (List.range 8).map fun x => if dark && x = 3 then ⟨0, 0, 0⟩ else ⟨1000, 1000, 1000⟩

/-- Camera 0 sees lines 95 to 134, with the spot of the ladder's nozzle in row 0 at position 0, and the ladder of bar 0 at line 100. -/
def ladderFrame : State :=
  let p : VisionPlane := ⟨some ⟨3, 95, 0, false, false⟩, 0, false, false, List.replicate 40 true,
    (List.range 40).map (fun y => pixelRow (y = 5)), [], false⟩
  ((rasState 4000 [(F.HLTH_CTL_STATE, 2), (F.HLTH_BAR_CHK_EN 0, 1), (F.HLTH_BAR_CH 0, 0), (F.HLTH_OWN_HI_POS 0, 9), (F.HLTH_CAMS_SCALE 0, 4096),
    (F.HLTH_CAMX_ORG 0, 2 ^ 24 - 40)]).setCam 0 { Camera.reset with planes := [p] }).onEye fun e => { e with printed := [⟨100, 7, .ladder 0, 32, 2⟩] }

set_option maxRecDepth 100000 in
theorem test_frameDecode : (gives (exec (.frameDecode 0 9000) (ladderFrame.onCam 0 fun c => { c with planes := c.planes.map (fun p => { p with short := true }) }))
      (fun t => t.rd F.HLTH_UNSEEN_COUNT = 3 && raised t 0 0x0B05 && t.eye.verdicts.isEmpty && (t.cam 0).planes.all (·.decoded)) &&
    gives (exec (.frameDecode 0 9000) (ladderFrame.wr F.HLTH_CTL_STATE 0)) (fun t => t.eye.verdicts.isEmpty && t.rd F.HLTH_UNSEEN_COUNT = 0) &&
    gives (exec (.frameDecode 0 9000) (up [])) (fun t => t.eye.verdicts.isEmpty)) = true := by decide +kernel

/-- A spot dark at column 3 of line 100, on a substrate of 1,000. -/
def oneSpot (l c : Int) : Option Nat := some (if l = 100 ∧ c = 3 then 0 else 1000)

theorem test_viewSpot : viewSpot oneSpot false 100 3 = some ⟨2000, [0, 0, 2000, 0, 0]⟩ ∧ viewSpot oneSpot true 100 3 = some ⟨0, [0, 0, -2000, 0, 0]⟩ ∧
    viewSpot (fun _ _ => some 4095) false 100 3 = none ∧ (having [(F.HLTH_CAMS_SCALE 0, 4096)]).judgeSpot 0 ⟨2000, [0, 0, 2000, 0, 0]⟩ 12288 4096 3 = .pass ∧
    (having [(F.HLTH_CAMS_SCALE 0, 8192)]).judgeSpot 0 ⟨2000, [0, 0, 0, 0, 2000]⟩ 24576 8192 3 = .deviated ∧
    State.reset.judgeSpot 0 ⟨511, []⟩ 0 0 0 = .missing := by decide +kernel

/-- CAL is ON, and buffer 3 is the device's with its home on D0. -/
def calState (l : List (Fld × Nat)) : State :=
  (up ([(F.CAL_CTL_STATE, 2), (F.CAL_XFER_BUF_BUF, 3), (F.CAL_XFER_BUF_GEN, 7)] ++ l)).setBuf 3 ⟨0, 100, .device, 7, true, 0⟩

set_option maxRecDepth 4000 in
theorem test_calReq : (gives (exec (.calReq 5 2) (calState [(F.CAL_BAR_STATE 2, 3)]))
      (fun t => t.rd (F.CAL_BAR_STATE 0) = 1 && t.rd (F.CAL_BAR_STATE 2) = 3 && t.rd (F.CAL_CAM_STATE 1) = 1 && (t.cam 1).darkReq && t.rd F.CAL_RUNS_COUNT = 2) &&
    gives (exec (.calReq 5 2) (up [])) (fun t => t.rd (F.CAL_BAR_STATE 0) = 0)) = true := by decide +kernel

/-- A transfer of the buffer has begun. -/
def xferBegun (t : State) (x : Xfer) : Bool := t.rd F.CAL_XFER_STAT_BUSY = 1 && t.eye.xfer = some x && (t.buf 3).uses = 1

set_option maxRecDepth 4000 in
theorem test_calXfer : (gives (exec .calExport (calState [])) (fun t => xferBegun t .sending && t.zip.cwait.length = 1) &&
    gives (exec .calImport (calState [])) (fun t => xferBegun t .receiving && t.zip.dwait.map (fun e => e.2.inBuf) = [3]) &&
    gives (exec .calExport (calState [(F.CAL_XFER_STAT_BUSY, 1)])) (fun t => t.rd F.CAL_XFER_STAT_STATUS = 8) &&
    gives (exec .calImport (calState [(F.CAL_XFER_BUF_GEN, 8)])) (fun t => t.rd F.CAL_XFER_STAT_STATUS = 2 && t.zip.dwait.isEmpty)) = true := by decide +kernel

/-- A block without sections, for the structure 0x123 and eight dies, with its CRC-32. -/
def calWords : List Nat := [0x43414C, 0x801, 0x123, 0, 0, 0, 0, 0, 16651306, 97]

/-- A block waits for its validation, with a run of bar 1 MEASURING. -/
def importing (ws : List Nat) : State :=
  (calState [(F.CAL_XFER_STAT_BUSY, 1), (F.STRUCT_CUR_ID_VALUE, 0x123), (F.EPOCH_CTL_LINE_VALID, 1), (F.CAL_BAR_STATE 1, 1)]).onEye fun e =>
    { e with xfer := some (.validating (wordBytes ws)), runs := [(1, ⟨[], [], 0, [], none, 0, none, none, ⟨[], [], []⟩⟩)] }

set_option maxRecDepth 100000 in
theorem test_calImportValidated : (gives (exec .calImportValidated (importing calWords)) (fun t => t.rd F.CAL_XFER_STAT_STATUS = 0 && t.eye.xfer.isNone &&
      raised t 0 0x0B13 && t.rd (F.CAL_BAR_RESULT 1) = 4 && t.eye.runs.isEmpty && t.win.postings = [.release 3 0 0]) &&
    gives (exec .calImportValidated (importing (1 :: calWords.drop 1))) (fun t => t.rd F.CAL_XFER_STAT_STATUS = 3 && raised t 0 0x0B14 && t.eye.runs.length = 1) &&
    gives (exec .calImportValidated (up [])) (fun t => t.eye.xfer.isNone)) = true := by decide +kernel

/-- Curve 24 of the example after R420. -/
theorem test_curve24 : (List.range 4).map (curveEntry 3 24) = [0, 1 + 16 * 2 + 256 * 3, 2 + 16 * 3 + 256 * 7, 3 + 16 * 3 + 256 * 10] ∧ curveEntry 3 32 2 = 0x22 := by decide +kernel

/-! Motion (chapter 14). -/

/-- Axis 5 (D1, axis 1) is ON with limits in full steps, and stands as given. -/
def axisAt (x : Axis) (l : List (Fld × Nat)) : State :=
  (up ([(F.MOT_CTL_STATE 1 1, 2), (F.MOT_ACC_RATE 1 1, 1250), (F.MOT_DEC_RATE 1 1, 1250), (F.MOT_VMAX_VMAX 1 1, 2000), (F.MOT_MS_KMAX 1 1, 8),
    (F.MOT_TGT_LO_TGT 1 1, 2560)] ++ l)).setAxis 5 { x with dec := 1250 }

/-- The axis as an observer sees it. -/
def axis5 (o : Host.Outcome State Fault Refusal) (p : State → Axis → Bool) : Bool := gives o (fun t => p t (t.axis 5))

theorem test_travel : ((Axis.reset.travel 100 7 9 3 (some 50) true).1.p = 7 ∧ (({ Axis.reset with v := 20, p := 40 } : Axis).travel 100 7 9 3 (some 50) true).1.rev = true ∧
    (({ Axis.reset with v := 8, p := 43 } : Axis).travel 100 7 9 3 (some 50) true).1.p = 47 ∧
    (({ Axis.reset with v := 5, p := 60, rev := true } : Axis).travel 100 7 9 3 (some 50) true) = ({ Axis.reset with p := 60, dwell := 3 }, true) ∧
    (({ Axis.reset with dwell := 2 } : Axis).travel 100 7 9 3 (some 50) true).1.dwell = 1 ∧
    (({ Axis.reset with v := -3 } : Axis).travel 100 7 9 3 (some 1) true).2 = true) := by decide +kernel

set_option maxRecDepth 10000 in
theorem test_motionTick : (axis5 (exec (.motionTick 5 10000) (axisAt Axis.reset [])) (fun _ x => x.p = rateOf 1250 && x.v = rateOf 1250 && x.pulses = []) &&
    axis5 (exec (.motionTick 5 10000) (axisAt { Axis.reset with v := 2 * fine, p := 5 * fine / 2 } [(F.MOT_TGT_HI_TGT 1 1, 1)]))
      (fun _ x => x.v = 2 * fine + rateOf 1250 && x.e = 4 && x.pulses = [10250, 10750, 11250, 11750]) &&
    axis5 (exec (.motionTick 5 10000) (axisAt { Axis.reset with v := 5, p := 2561 * fine, rev := true } []))
      (fun t x => x.v = 0 && x.dwell = 10 && t.rd (F.MOT_CNT_REVERSALS 1 1) = 1 && raised t 1 0x0C02) &&
    axis5 (exec (.motionTick 5 10000) (axisAt { Axis.reset with mode := 1 } [(F.MOT_CTL_MODE 1 1, 1), (F.MOT_VEL_VEL 1 1, 2 ^ 24 - 10)])) (fun _ x => x.v = - rateOf 1250) &&
    axis5 (exec (.motionTick 5 9999) (axisAt Axis.reset [])) (fun _ x => x.p = 0 && x.tick = 0) &&
    axis5 (exec (.motionTick 5 10000) (axisAt { Axis.reset with tickAt := 9001 } [])) (fun _ x => x.p = 0 && x.tick = 5) &&
    axis5 (exec (.motionTick 5 10000) (axisAt Axis.reset [(F.MOT_STAT_STALL 1 1, 1)])) (fun _ x => x.p = 0) &&
    axis5 (exec (.motionTick 5 10000) (axisAt Axis.reset [(F.MOT_CTL_STATE 1 1, 0)])) (fun _ x => x.p = 0)) = true := by decide +kernel

set_option maxRecDepth 10000 in
theorem test_motionTick_others : (axis5 (exec (.motionTick 5 10000) (axisAt { Axis.reset with setpos := true } [(F.MOT_CTL_STATE 1 1, 0), (F.MOT_SETPOS_LO_SETPOS 1 1, 77)]))
      (fun t x => x.p = 77 * fine && x.e = 77 && t.rd (F.MOT_STAT_REFD 1 1) = 1) &&
    axis5 (exec (.motionTick 5 10000) (axisAt { Axis.reset with setpos := true, v := 1 } [(F.MOT_CTL_STATE 1 1, 0)])) (fun t x => x.p = 0 && raised t 1 0x0C07) &&
    axis5 (exec (.motionTick 5 10000) (axisAt { Axis.reset with mode := 2, wa := -3 } [(F.MOT_CTL_MODE 1 1, 2), (F.MOT_GNUM_NUM 1 1, 1)]))
      (fun _ x => x.p = 3 * fine && x.lag = 0 && x.ratio = (1, 1)) &&
    axis5 (exec (.motionTick 5 10000) (axisAt { Axis.reset with e := 2000, devTicks := 9 } [(F.MOT_SRC_DEV_EN 1 1, 1), (F.MOT_STAT_REFD 1 1, 1)]))
      (fun t x => t.rd (F.MOT_STAT_STALL 1 1) = 1 && t.rd (F.MOT_STAT_REFD 1 1) = 0 && raised t 1 0x0C03 && x.e = 2000)) = true := by decide +kernel

set_option maxRecDepth 10000 in
theorem test_clears : (axis5 (exec (.stallClear 5) (axisAt { Axis.reset with e := 9 } [(F.MOT_STAT_STALL 1 1, 1)]))
      (fun t x => t.rd (F.MOT_STAT_STALL 1 1) = 0 && x.p = 9 * fine && x.e0 = 9) &&
    axis5 (exec (.stallClear 5) (axisAt { Axis.reset with e := 9 } [])) (fun _ x => x.p = 0) &&
    axis5 (exec (.followLagClear 5) (axisAt { Axis.reset with p := 6 * fine, lag := 4 } [(F.MOT_STAT_FOLLOW_LAG 1 1, 1)]))
      (fun t x => t.rd (F.MOT_STAT_FOLLOW_LAG 1 1) = 0 && x.lag = 0 && x.tb = 6 && x.pa = 6 * fine) &&
    axis5 (exec (.followLagClear 5) (axisAt { Axis.reset with lag := 4 } [])) (fun _ x => x.lag = 4)) = true := by decide +kernel

/-! SDRAM (chapter 15). -/

/-- D1 has two working ranks and a spare, and all set-points are trained. -/
def memState (l : List (Fld × Nat)) : State :=
  up ([(F.MEM_RANK_ROLE 1 0, 1), (F.MEM_RANK_ROLE 1 2, 1), (F.MEM_RANK_ROLE 1 3, 2), (F.MEM_FREQ_TRAINED 1, 15)] ++ l)

/-- A set-point has been asked for. -/
def wanting (s : State) (sp : Nat) : State := s.onSdram fun m => { m with want := [(1, (sp, 0))] }

theorem test_memRefresh : (gives (exec (.memRefresh 1 0 2 true) (memState [])) (fun t => t.sdram.postponed = [(18, 1)]) &&
    gives (exec (.memRefresh 1 0 2 true) ((memState []).onSdram fun m => { m with postponed := [(18, 3), (19, 1), (20, 2)], rows := [(128, (9, 0)), (160, (5, 0))] }))
      (fun t => t.sdram.postponed = [(20, 2)] && t.rd (F.MEM_REF_COUNT 1) = 1 && t.sdram.rows = [(160, (5, 0))]) &&
    gives (exec (.memRefresh 1 0 2 false) ((memState []).onSdram fun m => { m with postponed := [(18, 3)] })) (fun t => t.sdram.postponed = [])) = true := by decide +kernel

theorem test_setpoints : (gives (exec (.mr4Poll 1 [3, 0, 4, 1] [50, 0, 96, 50] ⟨⟨0, 0, 0, 0, 0⟩, 400⟩) (memState [])) (fun t => t.rd (F.MEM_STAT_HOT 1) = 1 && raised t 1 0x0E09 &&
      t.sdram.want = [(1, (1, 400))] && t.rd (F.MEM_RANK_MR4 1 2) = 4) &&
    gives (exec (.mr4Poll 1 [] [50, 0, 96, 50] ⟨⟨0, 0, 0, 0, 0⟩, 400⟩) (memState [(F.MEM_FREQ_TRAINED 1, 1)])) (fun t => raised t 1 0x0E08 && t.sdram.want = []) &&
    gives (exec (.mr4Poll 1 [] [] ⟨⟨0, 0, 0, 0, 0⟩, 400⟩) (memState [])) (fun t => t.rd (F.MEM_STAT_HOT 1) = 0) &&
    gives (exec (.freqSwitch 1 500) (wanting (memState []) 2)) (fun t => t.rd (F.MEM_STAT_SP 1) = 2 && raised t 1 0x0E06 && t.sdram.want = []) &&
    gives (exec (.freqSwitch 1 500) (wanting (memState [(F.LNP_CTL_STATE 1 0, 2)]) 2)) (fun t => t.rd (F.MEM_STAT_SP 1) = 0) &&
    gives (exec (.freqSwitch 1 500) (wanting (memState [(F.DIE_STAT_STAGE 1, 4)]) 2)) (fun t => t.sdram.switched = [1] && raised t 1 0x0E07)) = true := by decide +kernel

theorem test_ranks : (gives (exec (.scrubHour 1 0 256) (memState [])) (fun t => raised t 1 0x0E01 && t.rd (F.MEM_RANK_CE 1 0) = 255 && t.sdram.copies = []) &&
    gives (exec (.scrubHour 1 0 255) (memState [])) (fun t => t.rcd.raised.isEmpty) &&
    gives (exec (.sdramUncorrectable 1 0 ⟨0x1000123, none⟩) (memState [])) (fun t => t.sdram.copies = [(1, (0, 3))] && raised t 1 0x0E02 && t.rd (F.MEM_UE_ADDR_HI_ADDR 1) = 1) &&
    gives (exec (.sdramUncorrectable 1 0 ⟨7, none⟩) (memState [(F.MEM_ECC_CTL_SPARE_AUTO 1, 0)])) (fun t => t.sdram.copies = [] && t.rd (F.MEM_RANK_UE 1 0) = 1) &&
    gives (exec (.memCmdRetire 1 2) (memState [])) (fun t => t.sdram.copies = [(1, (2, 3))] && raised t 1 0x0E03) &&
    gives (exec (.memCmdRetire 1 2) (memState [(F.MEM_RANK_ROLE 1 3, 0)])) (fun t => raised t 1 0x0E05) &&
    gives (exec (.migrateDone 1 5) ((memState []).onSdram fun m => { m with copies := [(1, (0, 3))] }))
      (fun t => t.rd (F.MEM_RANK_ROLE 1 0) = 3 && t.rd (F.MEM_RANK_ROLE 1 3) = 1 && t.rd (F.MEM_MIG_POISON 1) = 5 && raised t 1 0x0E0C)) = true := by decide +kernel

/-- A compression of buffer 3 runs on compressor 1 of D1. -/
def compReading : State :=
  let job : CJob := ⟨.work 32 7, 9, 0, [1, 2, 3], some 3, [(4, 0)], false⟩
  (memState []).setCUnit 1 1 ⟨some job, 0, false, [], [], 0, 0⟩

theorem test_memLoad : 5000 ≤ (memState []).memRate 1 ∧ 3000 ≤ (memState []).zipShare 1 ⟨5000, 60, 3000, 0, 7⟩ ∧
    gives (exec (.mr4Poll 1 [] [] ⟨⟨5000, 60, 3000, 0, 7⟩, 400⟩) (memState [])) (fun t => t.rd (F.MEM_LATE_COUNT 1) = 7) = true ∧
    gives (exec (.mr4Poll 1 [] [] ⟨⟨4915, 60, 0, 0, 7⟩, 400⟩) (memState [])) (fun t => t.rd (F.MEM_LATE_COUNT 1) = 0) = true := by decide +kernel

theorem test_compRead : gives (exec (.sdramUncorrectable 1 0 ⟨7, (some 1)⟩) compReading) (fun t => t.rcd.raised.any (fun e => e.die = 1 && e.code = 0x0604 &&
    e.payload = [9, 13, 9, 0xFFFFFF])) = true := by decide +kernel

/-! Engines and interrupts (chapter 16). -/

/-- Engine 3 of D1 is ON. -/
def engState (l : List (Fld × Nat)) (past : List Nat) : State :=
  let s := up ([(F.ENG_CTL_STATE 1 3, 2)] ++ l)
  { s with eng := { s.eng with faultTimes := [(15, past)] } }

theorem test_engineFault : (gives (exec (.engineFault 1 3 2 0x1000007 900) (engState [] [])) (fun t => t.rd (F.ENG_STAT_CAUSE 1 3) = 2 && t.rd (F.ENG_PC_PC 1 3) = 7 &&
      t.rd (F.ENG_STAT_RESTARTS 1 3) = 1 && t.rd (F.ENG_CTL_STATE 1 3) = 2 && raised t 1 0x0F01 && t.irq.causes = [268]) &&
    gives (exec (.engineFault 1 3 2 0 900) (engState [] [1, 2, 3])) (fun t => t.rd (F.ENG_CTL_STATE 1 3) = 0 && raised t 1 0x0F03) &&
    gives (exec (.engineWatchdogExpire 1 3 0 199999) (engState [(F.ENG_WD_WD_MS 1, 1)] [])) (fun t => t.rd (F.ENG_STAT_FAULT 1 3) = 0) &&
    gives (exec (.engineWatchdogExpire 1 3 0 200000) (engState [(F.ENG_SPARE_SPARE_EN 1, 1), (F.ENG_WD_WD_MS 1, 1)] []))
      (fun t => t.rd (F.ENG_STAT_CAUSE 1 3) = 1 && t.rd (F.ENG_CTL_STATE 1 11) = 2 && raised t 1 0x0F02 && t.targetEnabled 1 19) &&
    gives (exec (.engineFault 1 4 2 0 900) (engState [] [])) (fun t => t.rd (F.ENG_STAT_FAULT 1 4) = 0)) = true := by decide +kernel

/-- Source 835 (local 67 of D3) goes to target 2 with priority 4, and 798 (local 30) with priority 9. -/
def irqState (l : List (Fld × Nat)) (f : Irq → Irq) : State :=
  ((up ([(F.IRQ_CFG_PRIO 3 67, 4), (F.IRQ_HMASK_HMASK 3 67, 4), (F.IRQ_CFG_PRIO 3 30, 9), (F.IRQ_HMASK_HMASK 3 30, 4), (F.IRQH_TCTL_ACCEPT 2, 1)] ++ l)).onIrq f).onHost fun h =>
    { h with msixTable := [(8, 0x23456780), (9, 1), (10, 77), (11, 0)], pcie := { h.pcie with msixEnable := true } }

theorem test_irqCause : (gives (exec (.irqCause none) (irqState [] fun q => { q with causes := [835, 7] })) (fun t => t.irq.causes = [7] && t.irq.raises = [835]) &&
    gives (exec (.irqCause (some 770)) (irqState [(F.IRQ_COAL_COUNT 3 2, 4)] id)) (fun t => t.irq.counted = [(770, 1)] && t.irq.raises = []) &&
    gives (exec (.irqCoalTimeout ⟨835, 1800⟩) (irqState [(F.IRQ_COAL_TIME 3 67, 9)] fun q => { q with counted := [(835, 3)] })) (fun t => t.irq.raises = [835] && t.irq.counted = []) &&
    gives (exec (.irqCoalTimeout ⟨835, 1799⟩) (irqState [(F.IRQ_COAL_TIME 3 67, 9)] fun q => { q with counted := [(835, 3)] })) (fun t => t.irq.raises = []) &&
    gives (exec (.irqCoalTimeout ⟨835, 1800⟩) (irqState [] fun q => { q with counted := [(835, 3)] })) (fun t => t.irq.raises = []) &&
    gives (exec (.irqSet 3 96) (up [])) (fun t => t.irq.causes = [864]) && gives (exec (.irqSet 3 95) (up [])) (fun t => t.irq.causes = [])) = true := by decide +kernel

set_option maxRecDepth 10000 in
theorem test_irqRaiseArrival : (gives (exec (.irqRaiseArrival 3) (irqState [] fun q => { q with raises := [5, 835, 798] }))
      (fun t => t.irq.raises = [5, 798] && t.irq.assigned = [(835, 2)] && t.irq.outstanding = [2] && t.host.msixSent = [⟨2, 0x123456780, 77⟩]) &&
    gives (exec (.irqRaiseArrival 3) (irqState [(F.IRQH_TCTL_ACCEPT 2, 0)] fun q => { q with raises := [835] }))
      (fun t => t.irq.pending = [835] && t.irq.assigned = [] && t.rd F.IRQH_ERR_NOTARGET = 1 && raised t 0 0x0F06) &&
    gives (exec (.irqRaiseArrival 3) (irqState [(F.IRQ_CFG_PRIO 3 67, 0)] fun q => { q with raises := [835] })) (fun t => t.irq.assigned = [] && t.rcd.raised.isEmpty) &&
    gives (exec (.irqhAccept 2 true) (irqState [(F.IRQH_TCTL_ACCEPT 2, 0)] fun q => { q with pending := [835] })) (fun t => t.irq.assigned = [(835, 2)]) &&
    gives (exec (.irqhAccept 2 false) (irqState [] id)) (fun t => t.rd (F.IRQH_TCTL_ACCEPT 2) = 0)) = true := by decide +kernel

/-- Both sources wait at target 2. -/
def claimable (l : List (Fld × Nat)) (stack : List Claimed) : State :=
  irqState l fun q => { q with pending := [835, 798], assigned := [(798, 2), (835, 2)], claims := [(2, stack)], outstanding := [2] }

set_option maxRecDepth 10000 in
theorem test_irqhClaim : (gives (exec (.irqhClaim 2) (claimable [] [])) (fun t => t.host.readData = [0x80931E] && t.stackOf 2 = [⟨798, 9⟩] && t.irq.pending = [835] &&
      t.irq.outstanding = []) &&
    gives (exec (.irqhDone 2 798) (claimable [] [⟨835, 4⟩, ⟨798, 9⟩])) (fun t => t.stackOf 2 = [⟨835, 4⟩] && t.runPrio 2 = 4) &&
    gives (exec (.irqhDone 2 5) (claimable [] [⟨798, 9⟩])) (fun t => t.stackOf 2 = [⟨798, 9⟩] && t.rd F.IRQH_ERR_IGNORED = 1) &&
    gives (exec (.irqhMaskSet 798) (claimable [] [])) (fun t => t.eligible 2 = [835]) &&
    gives (exec (.irqhMaskClr 798) (claimable [(F.IRQH_MASK_MASK 25, 64)] [])) (fun t => !t.irqMasked 798 && t.eligible 2 = [835, 798]) &&
    gives (exec (.irqhMaskSet 2048) (claimable [] [])) (fun t => t.eligible 2 = [835, 798]) &&
    gives (exec (.irqhFlush 2) (claimable [] [⟨798, 9⟩])) (fun t => t.stackOf 2 = [] && t.irq.pending = [835, 798] && t.eligible 2 = [835, 798]) &&
    gives (exec (.irqhClaim 2) (claimable [(F.IRQH_TCTL_THRESH 2, 9)] [])) (fun t => t.host.readData = [0])) = true := by decide +kernel

/-- Vector 2 is pending, with MSI-X enabled. -/
def pending2 : State := State.reset.onHost fun h => { h with msixPending := [2], pcie := { h.pcie with msixEnable := true } }

theorem test_msix : (gives (exec (.msixMaskWrite 44 (.bar4Write 0)) pending2) (fun t => t.host.msixSent = [⟨2, 0, 0⟩] && t.host.msixPending = []) &&
    gives (exec (.msixMaskWrite 44 (.bar4Write 1)) pending2) (fun t => t.host.msixHeld 2 && t.host.msixPending = [2]) &&
    gives (exec (.msixMaskWrite 40 (.bar4Write 9)) pending2) (fun t => (t.host.msixMsg 2).msgData = 9) &&
    gives (exec (.msixMaskWrite 0x1000 .bar4Read) pending2) (fun t => t.host.readData = [4]) &&
    gives (exec (.msixMaskWrite 0 (.msixControl true true)) pending2) (fun t => t.host.msixSent = [] && t.host.pcie.funcMask) &&
    gives (exec (.msixMaskWrite 0 (.device 256 true false)) pending2) (fun t => t.host.pcie.maxPayload = 256) &&
    gives (exec (.msixMaskWrite 0 (.power false)) (pending2.onHost fun h => { h with pcie := { h.pcie with d3hot := true } })) (fun t => !t.host.pcie.d3hot) &&
    gives (exec (.msixMaskWrite 64 (.atomicOp 2)) State.reset) (fun t => t.host.unsupported)) = true := by decide +kernel

/-! Time (chapter 17). -/

/-- A master: port 5 of the grandmaster 6, heard every second. -/
def master5 : PtpAnnounce := ⟨0, 5, 6, 128, 6, 33, 100, 128, 1, 1000000⟩

/-- PTP runs from master 5, in a state of the clock. -/
def ptpState (st good bad : Nat) (l : List (Fld × Nat)) : State :=
  (up ([(F.TIME_CTL_SRC, 1), (F.TIME_STAT_STATE, st), (F.TIME_STEP_STEP, 1000)] ++ l)).onClock fun c => { c with master := some master5, good := good, bad := bad, updates := [640, 0] }

/-- The clock after a command. -/
def clockOf (o : Host.Outcome State Fault Refusal) (p : State → Clock → Bool) : Bool := gives o (fun t => p t t.clock)

set_option maxRecDepth 4000 in
theorem test_ptpSync : (clockOf (exec (.ptpSync ⟨0, 5, 1000000⟩ 900) ((ptpState 2 0 0 []).wr F.TIME_STEP_STEP 900)) (fun t c => c.steps = [⟨996500 * 2 ^ 32, 1, 4900⟩] && t.rd F.TIME_STAT_STATE = 2) &&
    clockOf (exec (.ptpSync ⟨0, 5, 2000⟩ 900) (ptpState 0 0 0 [])) (fun t c => c.steps = [] && c.updates.length = 3 && t.rd F.TIME_STAT_STATE = 1) &&
    clockOf (exec (.ptpSync ⟨0, 5, 2000⟩ 900) (ptpState 1 15 0 [])) (fun t _ => raised t 0 0x1004 && t.rd F.TIME_STAT_STATE = 2) &&
    clockOf (exec (.ptpSync ⟨0, 5, 1500⟩ 900) (ptpState 2 0 3 [])) (fun t c => t.rd F.TIME_STAT_STATE = 1 && c.good = 0) &&
    clockOf (exec (.ptpSync ⟨0, 5, 2000⟩ 900) (up [])) (fun _ c => c.updates = [])) = true := by decide +kernel

set_option maxRecDepth 4000 in
theorem test_ptpLost : (clockOf (exec (.ptpSyncTimeout 600000000) (ptpState 2 0 0 [])) (fun t _ => t.rd F.TIME_STAT_STATE = 3 && t.rd F.TIME_ADJ_RATE = 320 && raised t 0 0x1002) &&
    clockOf (exec (.ptpSyncTimeout 599999999) (ptpState 2 0 0 [])) (fun t _ => t.rd F.TIME_STAT_STATE = 2) &&
    clockOf (exec (.ptpSyncTimeout 600000000) (ptpState 0 0 0 [])) (fun t _ => t.rd F.TIME_STAT_STATE = 0) &&
    clockOf (exec (.ptpAnnounce ⟨{ master5 with port := 7, gm := 0x9000007, prio1 := 127 }, 900⟩) (ptpState 2 0 0 [])) (fun t c => c.master.map (·.port) = some 7 && t.rd F.TIME_STAT_STATE = 1 && raised t 0 0x1003 && t.rd (F.TIME_GM_ID 1) = 9) &&
    clockOf (exec (.ptpAnnounce ⟨{ master5 with port := 7, gm := 7 }, 900⟩) ((ptpState 2 0 0 []).onClock fun c => { c with heard := [(master5, 0)] }))
      (fun t c => t.rd F.TIME_STAT_STATE = 2 && c.master = some master5 && c.heard.length = 2) &&
    clockOf (exec (.ptpAnnounce ⟨{ master5 with domain := 1 }, 900⟩) (ptpState 2 0 0 [])) (fun _ c => c.heard = []) &&
    clockOf (exec (.ptpDelayResp ⟨0, 5, 1000, 1177⟩) (ptpState 2 0 0 [])) (fun t c => c.delay = 588 && t.irq.causes = [37]) &&
    clockOf (exec (.ptpDelayResp ⟨0, 5, 1000, 1177⟩) (up [])) (fun _ c => c.delay = 0)) = true := by decide +kernel

set_option maxRecDepth 4000 in
theorem test_timeSet : (clockOf (exec (.timeSet 1000000 200) (up [])) (fun t c => c.steps = [⟨999000 * 2 ^ 32, 2, 4200⟩] && t.time 0 = 1000) &&
    clockOf (exec (.timeSet 1 200) (ptpState 2 0 0 [])) (fun t c => c.steps = [] && t.rd F.TIME_STAT_SET_REFUSED = 1) &&
    clockOf (exec (.timeAdj 64 200) (up [])) (fun t c => c.adj = 64 && t.rate = 21 && t.rd F.TIME_ADJ_RATE = 64) &&
    clockOf (exec (.timeAdj 64 200) (ptpState 2 0 0 [])) (fun t _ => t.rd F.TIME_STAT_SET_REFUSED = 1) &&
    clockOf (exec (.timeSrcWrite 2 200) (ptpState 2 0 0 [])) (fun t _ => t.rd F.TIME_CTL_SRC = 2 && t.rd F.TIME_STAT_STATE = 0 && raised t 0 0x1002) &&
    clockOf (exec (.timeSrcWrite 1 200) (ptpState 2 0 0 [])) (fun t _ => t.rcd.raised.isEmpty) &&
    clockOf (exec (.timeSrcWrite 1 200) (up [])) (fun t _ => t.rd F.TIME_CTL_SRC = 1)) = true := by decide +kernel

/-- A step of 2 ms forward is due at 4,200. -/
def timeStepping : State := (up [(F.TIME_STEP_STEP, 1000)]).onClock fun c => { c with steps := [⟨2000000 * 2 ^ 32, 2, 4200⟩] }

set_option maxRecDepth 4000 in
theorem test_timeStepApply : (clockOf (exec (.timeStepApply 4200) timeStepping) (fun t c => c.steps = [] && t.time 0 = 2021000 && t.time 7 = 2021000 && raised t 0 0x1001 &&
      t.rd F.TIME_STEPS_COUNT = 1) &&
    clockOf (exec (.timeStepApply 4199) timeStepping) (fun t c => c.steps.length = 1 && t.time 0 = 20995) &&
    clockOf (exec (.timeStepApply 4200) (timeStepping.wr F.TIME_STEP_STEP 2000)) (fun t _ => t.time 3 = 2021000 && t.rcd.raised.isEmpty) &&
    clockOf (exec (.timeStepApply 9) (up [])) (fun t _ => t.time 0 = 45) &&
    gives (exec (.dieTimeSync 3 (-60) 200000) ((up []).wr F.TIME_STAT_STATE 0)) (fun t => t.time 3 = 1000000 && raised t 0 0x1006) &&
    gives (exec (.dieTimeSync 3 50 200000) (up [])) (fun t => t.rcd.raised.isEmpty && t.clock.synced = [(3, 200000)]) &&
    gives (exec (.dieTimeSync 3 60 199999) (up [])) (fun t => t.rcd.raised.isEmpty && t.clock.synced = [])) = true := by decide +kernel

/-- Trigger 2 is ON. -/
def trgState (l : List (Fld × Nat)) : State := (up ([(F.TRG_CMP_LO_CMP 2, 1000), (F.TRG_CTL_IRQ_EN 2, 1)] ++ l)).setBlockState (.trg 2) 2

set_option maxRecDepth 4000 in
theorem test_trgFire : (gives (exec (.trgFire 2 200) (trgState [])) (fun t => t.blockState (.trg 2) = 0 && t.rd (F.TRG_PER_FIRES 2) = 1 && t.irq.causes = [37]) &&
    gives (exec (.trgFire 2 199) (trgState [])) (fun t => t.blockState (.trg 2) = 2 && t.irq.causes = []) &&
    gives (exec (.trgFire 2 200) (trgState [(F.TRG_CTL_MODE 2, 1), (F.TRG_PER_PER 2, 1), (F.TRG_CTL_TARGET 2, 1), (F.TRG_CTL_DIES 2, 5)]))
      (fun t => t.blockState (.trg 2) = 2 && t.clock.convert = 5) &&
    gives (exec (.trgFire 2 800) ((trgState [(F.TRG_CTL_MODE 2, 1), (F.TRG_PER_PER 2, 1), (F.TRG_CTL_TARGET 2, 1), (F.TRG_CTL_DIES 2, 5)]).onClock fun c => { c with judged := [(2, 1500)] }))
      (fun t => t.blockState (.trg 2) = 2 && t.clock.convert = 5 && t.rd (F.TRG_PER_FIRES 2) = 1) &&
    gives (exec (.trgFire 1 200) (trgState [])) (fun t => t.irq.causes = [])) = true := by decide +kernel

/-! The pair (chapter 18). -/

/-- A unit with a role, the link up, and its pair state as given. -/
def pairOf (role : Nat) (l : List (Fld × Nat)) (f : Pair → Pair) : State :=
  (up ([(F.PAIR_STAT_ROLE, role), (F.PAIR_STAT_LINK, 1), (F.PAIR_CFG_ENABLE, 1), (F.PAIR_LINK_ALIGNED, 511), (F.EPOCH_CTL_LINE_VALID, 1),
    (F.DIE_LINE_LO_LINE 0, 5000)] ++ l)).onPair f

/-- The same with a command in AUTH. -/
def pairCmd (role op : Nat) (ws : List Nat) (l : List (Fld × Nat)) : State :=
  (pairOf role l fun p => { p with seen := 7 }).onAuth fun a => { a with acts := [⟨op, 3, 1, ws, none⟩] }

/-- Role and command status after a command. -/
def roleIs (o : Host.Outcome State Fault Refusal) (r : Nat) (p : State → Bool) : Bool := gives o (fun t => decide (t.role = r) && p t)

set_option maxRecDepth 10000 in
theorem test_pairConfig : (roleIs (exec (.pairConfig true) (pairCmd 0 3 [1, 77, 0, 100] [])) 3 (fun t => t.rd F.PAIR_EPOCH_EPOCH = 1 && t.flash.pairCfg.newer.map (·.val) = some [1, 77, 0, 100] &&
      raised t 0 0x110E && t.rd F.AUTH_STAT_STATUS = 0) &&
    roleIs (exec (.pairConfig true) (pairCmd 3 3 [0, 77, 0, 100] [])) 0 (fun t => t.rd F.PAIR_EPOCH_EPOCH = 0) &&
    roleIs (exec (.pairConfig true) (pairCmd 2 3 [9, 77, 0, 100] [])) 5 (fun t => raised t 0 0x1105) &&
    roleIs (exec (.pairConfig true) (pairCmd 4 3 [0, 77, 0, 100] [])) 4 (fun t => t.rd F.AUTH_STAT_STATUS = 13 && t.flash.pairCfg.newer = none) &&
    roleIs (exec (.pairConfig true) (pairCmd 4 3 [1, 77, 255, 100] [])) 4 (fun t => t.rd F.AUTH_STAT_STATUS = 13) &&
    roleIs (exec (.pairConfig false) (pairCmd 0 3 [1, 77, 0, 100] [])) 0 (fun t => t.rd F.AUTH_STAT_STATUS = 13) &&
    roleIs (exec (.pairConfig false) (pairOf 0 [] id)) 0 (fun _ => true)) = true := by decide +kernel

set_option maxRecDepth 10000 in
theorem test_pairTakeover : (roleIs (exec .pairTakeoverHandover (pairCmd 4 4 [0, 9000, 0] [(F.PAIR_STAT_READY, 1)])) 4 (fun t => t.pair.handover = some 9000 &&
      t.pair.sent.head? = some ⟨5, 5000, [6, 9000, 0]⟩ && t.rd F.AUTH_STAT_STATUS = 0) &&
    roleIs (exec .pairTakeoverHandover (pairCmd 4 4 [0, 5001, 0] [(F.PAIR_STAT_READY, 1)])) 4 (fun t => t.rd F.AUTH_STAT_STATUS = 13) &&
    roleIs (exec .pairTakeoverHandover (pairCmd 4 4 [1, 9000, 0] [])) 4 (fun t => t.auth.acts.length = 1) &&
    roleIs (exec (.pairTakeoverForce 900) (pairCmd 2 4 [1, 0, 0] [])) 3 (fun t => t.rd F.PAIR_EPOCH_EPOCH = 8 && raised t 0 0x1104 && t.rd F.PAIR_LAST_LO_LINE = 5001) &&
    roleIs (exec (.pairTakeoverForce 900) (pairCmd 4 4 [1, 0, 0] [])) 4 (fun t => t.rd F.AUTH_STAT_STATUS = 13) &&
    roleIs (exec (.pairTakeoverForce 900) (pairCmd 2 4 [0, 0, 0] [])) 2 (fun t => t.auth.acts.length = 1)) = true := by decide +kernel

set_option maxRecDepth 10000 in
theorem test_pairLink : (roleIs (exec (.pairLinkUp 300 255 900) (pairOf 3 [(F.PAIR_STAT_LINK, 0)] id)) 3 (fun t => t.rd F.PAIR_STAT_LINK = 1 && t.rd F.PAIR_LAT_NS = 300 && raised t 0 0x1103) &&
    roleIs (exec (.pairLinkUp 300 503 900) (pairOf 3 [(F.PAIR_STAT_LINK, 0)] id)) 3 (fun t => t.rd F.PAIR_LINK_SPARE_ACT = 1 && t.rd F.PAIR_LINK_TAKES = 3) &&
    roleIs (exec (.pairLinkUp 300 247 900) (pairOf 3 [(F.PAIR_STAT_LINK, 0)] id)) 3 (fun t => t.rd F.PAIR_STAT_LINK = 0) &&
    roleIs (exec (.pairLinkRetry 20000000) (pairOf 3 [(F.PAIR_STAT_LINK, 0)] id)) 3 (fun t => t.pair.triedAt = 20000000) &&
    roleIs (exec (.pairLaneFail 8 900) (pairOf 4 [] id)) 4 (fun t => t.rd F.PAIR_STAT_LINK = 1 && t.rd F.PAIR_LINK_ALIGNED = 255 && t.rcd.raised.isEmpty) &&
    roleIs (exec (.pairLinkUp 300 255 900) (pairOf 3 [] id)) 3 (fun t => t.rd F.PAIR_LAT_NS = 0) &&
    roleIs (exec (.pairLinkDown true 5 900) (pairOf 4 [] id)) 4 (fun t => t.rd F.PAIR_STAT_LINK = 0 && t.rd F.PAIR_RETRY_COUNT = 5 && raised t 0 0x1102) &&
    roleIs (exec (.pairLinkDown false 5 900) (pairOf 4 [(F.PAIR_STAT_LINK, 0)] id)) 4 (fun t => t.rcd.raised.isEmpty) &&
    roleIs (exec (.pairLinkRetry 900) (pairOf 4 [] id)) 4 (fun t => t.clk = 900) &&
    roleIs (exec (.pairLaneFail 3 900) (pairOf 4 [] id)) 4 (fun t => t.rd F.PAIR_LINK_TAKES = 3 && t.rd F.PAIR_LINK_ALIGNED = 503 && raised t 0 0x110C) &&
    roleIs (exec (.pairLaneFail 3 900) (pairOf 4 [(F.PAIR_LINK_SPARE_ACT, 1)] id)) 4 (fun t => t.rd F.PAIR_STAT_LINK = 0) &&
    roleIs (exec (.pairLaneFail 3 900) (pairOf 4 [(F.PAIR_LINK_ALIGNED, 503)] id)) 4 (fun t => t.rd F.PAIR_STAT_LINK = 1)) = true := by decide +kernel

set_option maxRecDepth 10000 in
theorem test_leases : (roleIs (exec (.renewSend 100000) (pairOf 4 [] id)) 4 (fun t => t.pair.unacked = [(1, 100000)] && t.pair.sent.length = 1) &&
    roleIs (exec (.renewSend 99999) (pairOf 4 [] id)) 4 (fun t => t.pair.unacked = []) &&
    roleIs (exec (.renewReceived 5 9 8 900) (pairOf 2 [] id)) 2 (fun t => t.pair.heardAt = 900 && t.pair.heardLine = 5000 && t.rd F.PAIR_EPOCH_EPOCH = 9 &&
      t.pair.sent = [⟨2, 5000, [9, 8]⟩]) &&
    roleIs (exec (.renewReceived 5 9 8 900) (pairOf 4 [] id)) 4 (fun t => t.pair.seen = 9 && t.pair.sent = []) &&
    roleIs (exec (.ackReceived 0 2 900) (pairOf 4 [] fun p => { p with unacked := [(3, 60), (2, 50), (1, 40)] })) 4 (fun t => t.pair.ackAt = 50 && t.pair.unacked = [(3, 60)]) &&
    roleIs (exec (.ackReceived 1 2 900) (pairOf 4 [] fun p => { p with unacked := [(2, 50)] })) 4 (fun t => t.pair.ackAt = 0) &&
    roleIs (exec (.ackReceived 0 7 900) (pairOf 4 [] fun p => { p with unacked := [(2, 50)] })) 4 (fun t => t.pair.ackAt = 0) &&
    roleIs (exec (.leaseFence 200000) (pairOf 4 [(F.LAN_ACT_FLAGS_HOLD 3, 1)] id)) 5 (fun t => raised t 0 0x1105 && t.rd (F.LAN_ACT_FLAGS_HOLD 3) = 0 && t.pair.fencedAt = 200000) &&
    roleIs (exec (.leaseFence 199999) (pairOf 4 [] id)) 4 (fun _ => true) &&
    roleIs (exec (.leaseExpiry 300000) (pairOf 2 [(F.MOT_STAT_REFD 1 1, 1)] fun p => { p with seen := 7 })) 3 (fun t => raised t 0 0x1104 && t.rd F.PAIR_EPOCH_EPOCH = 8 &&
      t.rd (F.MOT_STAT_REFD 1 1) = 0) &&
    roleIs (exec (.leaseExpiry 299999) (pairOf 2 [] id)) 2 (fun _ => true)) = true := by decide +kernel

set_option maxRecDepth 10000 in
theorem test_controls : (roleIs (exec (.controlReady 900) (pairOf 3 [] id)) 4 (fun t => t.pair.ackAt = 900 && t.pair.renewal = 1) &&
    roleIs (exec (.controlReady 900) (pairOf 2 [] id)) 2 (fun _ => true) &&
    roleIs (exec (.controlUnready 900) (pairOf 4 [(F.PAIR_STAT_READY, 1)] id)) 3 (fun t => t.rd F.PAIR_STAT_READY = 0) &&
    roleIs (exec (.controlLeave 900) (pairOf 5 [] id)) 5 (fun _ => true) &&
    roleIs (exec (.controlDrop 900) (pairOf 2 [] id)) 3 (fun t => raised t 0 0x1104) && roleIs (exec (.controlDrop 900) (pairOf 1 [] id)) 1 (fun _ => true) &&
    roleIs (exec (.controlFence 900) (pairOf 4 [] id)) 5 (fun t => raised t 0 0x1105) && roleIs (exec (.controlFence 900) (pairOf 2 [] id)) 3 (fun _ => true) &&
    roleIs (exec (.controlFence 900) (pairOf 1 [] id)) 1 (fun _ => true) &&
    roleIs (exec (.controlHandover 9000 900) (pairOf 2 [] id)) 2 (fun t => t.pair.handover = some 9000) && roleIs (exec (.controlHandover 9000 900) (pairOf 4 [] id)) 4 (fun t => t.pair.handover = none) &&
    roleIs (exec (.handoverComplete 900) (pairOf 4 [(F.PAIR_EPOCH_EPOCH, 7)] fun p => { p with handover := some 5000 })) 2 (fun t => raised t 0 0x1107 && t.rd F.PAIR_EPOCH_EPOCH = 8) &&
    roleIs (exec (.handoverComplete 900) (pairOf 2 [] fun p => { p with handover := some 5000 })) 4 (fun t => t.pair.renewal = 1) &&
    roleIs (exec (.handoverComplete 900) (pairOf 2 [] fun p => { p with handover := some 5001 })) 2 (fun _ => true)) = true := by decide +kernel

set_option maxRecDepth 10000 in
theorem test_roles : (roleIs (exec (.joinWaitExpire 20000000) (pairOf 1 [(F.PAIR_WAIT_MS, 100)] fun p => { p with seen := 7 })) 3 (fun t => t.rd F.PAIR_EPOCH_EPOCH = 8) &&
    roleIs (exec (.joinWaitExpire 19999999) (pairOf 1 [(F.PAIR_WAIT_MS, 100)] id)) 1 (fun _ => true) &&
    roleIs (exec (.followFenceTimer 200500) (pairOf 3 [(F.LAN_GSTAT_LINK 0 0, 4), (F.LAN_GSTAT_FLAGS 0 0, 16)] fun p => { p with followAt := some 500 })) 5
      (fun t => raised t 0 0x1105) &&
    roleIs (exec (.followFenceTimer 200499) (pairOf 3 [(F.LAN_GSTAT_LINK 0 0, 4), (F.LAN_GSTAT_FLAGS 0 0, 16)] fun p => { p with followAt := some 500 })) 3
      (fun _ => true) &&
    roleIs (exec (.followFenceTimer 900) (pairOf 3 [(F.LAN_GSTAT_LINK 0 0, 4)] id)) 3 (fun _ => true) &&
    roleIs (exec (.retakeTimer 400000) (pairOf 5 [(F.PAIR_STAT_LINK, 0), (F.LAN_GSTAT_LINK 0 0, 4), (F.LAN_GSTAT_FLAGS 0 0, 32)] id)) 3 (fun t => raised t 0 0x110A) &&
    roleIs (exec (.retakeTimer 400000) (pairOf 5 [] id)) 5 (fun _ => true) &&
    roleIs (exec (.pairStatusReceived 4 5 3 false false false 9 900) (pairOf 5 [] id)) 1 (fun t => t.rd F.PAIR_P_DCLASS_VALUE = 4 && t.pair.seen = 9) &&
    roleIs (exec (.pairStatusReceived 4 5 5 false false false 9 900) (pairOf 1 [(F.PAIR_CFG_PREFER, 1)] id)) 3 (fun t => t.rd F.PAIR_EPOCH_EPOCH = 10) &&
    roleIs (exec (.pairStatusReceived 4 5 4 false false false 9 900) (pairOf 2 [] fun p => { p with partner := some (4, true, false) })) 1 (fun _ => true) &&
    roleIs (exec (.pairStatusReceived 4 5 1 true false false 9 900) (pairOf 3 [] id)) 3 (fun t => t.rd F.PAIR_STAT_READY = 1)) = true := by decide +kernel

/-- A capture of one staged value waits at a standby. -/
def standby (cs : List PairCapture) (l : List (Fld × Nat)) : State := pairOf 2 l fun p => { p with captures := cs }

/-- The capture. -/
def capt : PairCapture := ⟨false, false, .host, [(3, 4)], [], 6000, false, false, 77⟩

set_option maxRecDepth 10000 in
theorem test_inStep : (gives (exec (.lineSyncReceived 5000 0 900) (standby [] [])) (fun t => t.rd F.PAIR_DIVERGE_COUNT = 0) &&
    gives (exec (.lineSyncReceived 5000 2 900) (standby [] [])) (fun t => t.rd F.PAIR_DIVERGE_COUNT = 1 && (t.web 3).zero = -2 && raised t 0 0x1109) &&
    roleIs (exec (.lineSyncReceived 5000 4095 900) (standby [] [])) 1 (fun _ => true) &&
    roleIs (exec (.lineSyncReceived 8000 77 900) (pairOf 1 [] id)) 1 (fun t => t.rd (F.DIE_LINE_LO_LINE 7) = 8000 && t.pair.catching && t.scaleCount = 77) &&
    roleIs (exec (.lineSyncReceived 8000 77 900) (pairOf 4 [] id)) 4 (fun t => t.rd (F.DIE_LINE_LO_LINE 7) = 0) &&
    gives (exec (.pairCommitReceived 0 6000 12 0 false 5 1 900) (standby [] [])) (fun t => t.pair.due = [⟨12, 0, 6000, 5, 1, none⟩]) &&
    roleIs (exec (.pairCommitReceived 0 6000 12 0 false 5 2 900) (standby [capt] [])) 1 (fun t => t.rcd.raised.any (fun r => r.code = 0x1108 ∧ r.payload = [12, 2])) &&
    roleIs (exec (.pairCommitReceived 0 6000 12 0 false 5 1 900) (standby [capt] [])) 1 (fun t => t.rcd.raised.any (fun r => r.code = 0x1108 ∧ r.payload = [12, 1])) &&
    gives (exec (.pairCommitReceived 0 6000 12 0 true 5 1 900) (standby [] [])) (fun t => t.epoch.commits.map (fun c => (c.id, c.line, c.origin)) = [(12, 6000, .partner)]) &&
    gives (exec (.pairCommitReceived 0 6000 12 0 false 5 1 900) (pairOf 4 [] id)) (fun t => t.pair.due = []) &&
    gives (exec (.pairCancelReceived 12) ((standby [] []).onEpoch fun e => { e with commits := [⟨12, 0, false, false, .host, [], 0, 6000, true, false, [], [], 0, false, false, 0⟩] }))
      (fun t => t.epoch.commits.isEmpty) &&
    gives (exec (.pairCancelReceived 12) (standby [] [])) (fun t => t.epoch.commits.isEmpty)) = true := by decide +kernel

set_option maxRecDepth 100000 in
theorem test_pairCommit : gives (exec (.pairCommitReceived 0 6000 12 0 false 77 1 900) (standby [capt] []))
    (fun t => t.epoch.commits.map (fun c => (c.id, c.line)) = [(12, 6000)] && t.rd F.EPOCH_NEXT_ID_ID = 13 && t.pair.captures = []) = true := by decide +kernel

/-- A context READY with a block of CRC 5 at a unit with a role. -/
def pairCtx (role : Nat) : State := (pairOf role [] id).setCtx 6 { Ctx.free with st := .ready, block := some { jobBlock with crc := 5 } }

set_option maxRecDepth 10000 in
theorem test_pairCtx : (gives (exec (.pairCtxReceived 0 6000 12 6 false 5 900) (pairCtx 2)) (fun t => (t.ctx 6).st = .ready && t.role = 2) &&
    roleIs (exec (.pairCtxReceived 0 6000 12 6 false 7 900) (pairCtx 2)) 1 (fun t => raised t 0 0x0520) &&
    gives (exec (.pairCtxReceived 1 6000 12 6 false 5 900) (pairCtx 1)) (fun t => (t.ctx 6).st = .armed && (t.ctx 6).start = 6000 && (t.ctx 6).commit = 12) &&
    gives (exec (.pairCtxReceived 1 6000 12 6 false 7 900) (pairCtx 1)) (fun t => t.pair.unmatched = [6] && raised t 0 0x0520) &&
    roleIs (exec (.pairCtxReceived 0 6000 12 6 true 5 900) (pairCtx 2)) 1 (fun t => raised t 0 0x0520) &&
    gives (exec (.pairBulkReceived 0 [1, 2, 3, 4, 5] 900) (pairCtx 2)) (fun t => t.bulkWords = [1, 2, 3, 4, 5]) &&
    gives (exec (.pairBulkReceived 0 [1, 2, 3, 4, 5] 900) (pairCtx 4)) (fun t => t.bulkWords = []) &&
    gives (exec (.pairUnderReceived 6250 0 3) ((pairCtx 2).setCtx 6 { Ctx.free with st := .running, block := some jobBlock, start := 6000 }))
      (fun t => (t.stream 6 0).partnerUnder = [(3, 50)]) &&
    gives (exec (.pairUnderReceived 6250 0 3) (pairCtx 2)) (fun t => t.jobs.streams.isEmpty)) = true := by decide +kernel

/-- A unit with a role and the mapping of the raster tests, whose head carries nozzles 0 to 2. -/
def mappedPair (role : Nat) (l : List (Fld × Nat)) : State := (pairOf role l id).onLd fun x => { x with current := rasImage }

set_option maxRecDepth 10000 in
theorem test_pairVerdict : (gives (exec (.pairVerdictReceived 1 0 true 9) (mappedPair 2 km)) (fun t => t.eye.hists.map (fun e => e.2.hist) = [[true]]) &&
    gives (exec (.pairVerdictReceived 1 0 true 9) (mappedPair 2 ((F.PAIR_STAT_MODE, 1) :: km))) (fun t => t.eye.hists.isEmpty) &&
    gives (exec (.pairDecisionReceived 6000 1 true) (mappedPair 2 [])) (fun t => t.rd (nozzleEbOut 1) = 1 && raised t 0 0x110D) &&
    gives (exec (.pairDecisionReceived 6000 1 false) (mappedPair 2 [])) (fun t => t.rcd.raised.isEmpty) &&
    gives (exec (.pairDecisionReceived 6000 1 true) (mappedPair 4 [])) (fun t => t.rd (nozzleEbOut 1) = 0) &&
    gives (exec (.pairDecisionReceived 6000 5 true) (mappedPair 2 [])) (fun t => t.rd (nozzleEbOut 5) = 0 && t.rcd.raised.isEmpty) &&
    gives (exec (.pairVerdictReceived 5 0 true 9) (mappedPair 2 km)) (fun t => t.eye.hists.isEmpty) &&
    gives (exec (.pairRegReceived 3 7 4095) (pairOf 2 [] id)) (fun t => t.rd (F.HLTH_REG_ALONG 3) = 7 && t.rd (F.HLTH_REG_ACROSS 3) = 4095) &&
    gives (exec (.pairRegReceived 3 7 4095) (pairOf 4 [] id)) (fun t => t.rd (F.HLTH_REG_ALONG 3) = 0)) = true := by decide +kernel

/-- A unit ALONE whose partner joins. -/
def partnered (join : Option Nat) : State := pairOf 3 [] fun p => { p with partner := some (1, false, false), joinLine := join }

theorem test_partnerJoins : (partnered none).partnerJoins = true ∧ (partnered (some 5)).partnerJoins = true ∧ (pairOf 3 [] id).partnerJoins = false := by decide +kernel

/-! The meter (chapter 19). -/

/-- A meter in RUN. -/
def mtr (f : Meter → Meter) : State := (up []).onMeter fun m => f { m with st := 1, powered := true, sealed := true }

/-- The meter after a command. -/
def mtrOf (o : Host.Outcome State Fault Refusal) (p : State → Meter → Bool) : Bool := gives o (fun t => p t t.meter)

set_option maxRecDepth 4000 in
theorem test_meterPower : (mtrOf (exec (.meterPowerUp 900) (up [])) (fun _ m => m.powered && m.st = 0) &&
    mtrOf (exec (.meterBootDone true [] [0] false 900) ((up []).onMeter fun m => { m with powered := true, sealCount := 4, ops := 9, saved := [⟨2, ⟨7, false, .zero⟩⟩] }))
      (fun t m => m.st = 1 && m.totalsLost && m.sealCount = 4 && raised t 0 0x1208 && raised t 0 0x120C && m.params.gap = 500 && m.ops = 0) &&
    mtrOf (exec (.meterBootDone true [0, 3] [0] true 900) ((up []).onMeter fun m => { m with
        powered := true, ops := 9, saved := [⟨3, ⟨8, true, .zero⟩⟩, ⟨2, ⟨7, false, .zero⟩⟩], marks := Area.writeBoth ⟨none, none, false⟩ 55,
        savedParams := Area.writeBoth ⟨none, none, false⟩ { MtrParams.default with gap := 9 } }))
      (fun t m => m.st = 1 && !m.totalsLost && m.ops = 7 && m.hwm = some 55 && m.params.gap = 9 && t.rcd.raised.any (fun e => e.code = 0x1209 ∧ e.payload = [2])) &&
    mtrOf (exec (.meterBootDone false [] [] true 900) ((up []).onMeter fun m => { m with powered := true })) (fun _ m => m.st = 2) &&
    mtrOf (exec (.meterBootDone true [] [] true 900) (mtr id)) (fun t m => m.st = 1 && t.rcd.raised.isEmpty) &&
    mtrOf (exec (.meterPowerUp 900) (mtr id)) (fun _ m => m.st = 1) &&
    mtrOf (exec (.meterSupplyFall true 2000000000) (mtr id)) (fun _ m => !m.powered && m.saved.map (fun e => (e.seq, e.val.ops, e.val.brown)) = [(1, 10, true)] && m.ops = 10) &&
    mtrOf (exec (.meterSupplyFall false 2000000000) (mtr id)) (fun _ m => m.saved.isEmpty && m.ops = 10) &&
    mtrOf (exec (.meterSupplyFall true 900) (up [])) (fun _ m => m.saved.isEmpty) &&
    mtrOf (exec (.meterTotalsWrite 2000000000) (mtr id)) (fun _ m => m.saved.map (fun e => (e.seq, e.val.ops, e.val.brown)) = [(1, 10, false)] && m.totalsAt = 2000000000) &&
    mtrOf (exec (.meterTotalsWrite 1999999999) (mtr id)) (fun _ m => m.saved.isEmpty) &&
    mtrOf (exec (.meterHourlySnapshot 720000000000) (mtr id)) (fun _ m => m.snapSeq = 1 && m.snaps.length = 1 && m.hours = 1) &&
    mtrOf (exec (.meterHourlySnapshot 719999999999) (mtr id)) (fun _ m => m.snapSeq = 0)) = true := by decide +kernel

/-- A meter with 163,794,137 as its scale, its levels both low. -/
def scaled (f : Meter → Meter) : State := mtr fun m => f { m with params := { m.params with lscale := 163794137 } }

set_option maxRecDepth 4000 in
theorem test_meterEdge : (mtrOf (exec (.meterEdge true false 900) (scaled id)) (fun _ m => m.count = 1 && m.mark = 1 && m.totals.web = 163794137) &&
    mtrOf (exec (.meterEdge false true 900) (scaled id)) (fun _ m => m.count = -1 && m.mark = 0 && m.totals.web = 0) &&
    mtrOf (exec (.meterEdge false true 900) (scaled fun m => { m with params := { m.params with inv := 1 } })) (fun _ m => m.count = 1) &&
    mtrOf (exec (.meterEdge true true 900) (scaled id)) (fun t m => m.count = 0 && m.qerr = 1 && t.rcd.windows.any (fun w => w.code = 0x1207)) &&
    mtrOf (exec (.meterEdge true false 15) (scaled id)) (fun _ m => m.count = 0 && !m.a) &&
    mtrOf (exec (.meterEdge true false 900) (up [])) (fun _ m => m.count = 0 && m.a && m.changedAt = (900, 0))) = true := by decide +kernel

/-- The black label of the spec's example (R543, R550): channel 3 takes source 6, and entry 0 the rank 9. -/
def black (m : Meter) : Meter :=
  { m with params := { m.params with chans := [(3, ⟨true, 0x414C42, 0x4B43, 896056, 10500, 0x40, 65536⟩)],
                                     masses := [(0, ⟨9, true, [210, 420, 630, 0, 0, 0, 0, 0, 0, 0, 0, 0, 0, 0, 0]⟩)] } }

/-- A COUNT record on the tap of D3. -/
def counted (rank : Nat) (n : List Nat) (f : Meter → Meter) : State := scaled fun m =>
  { f (black m) with wire := [(3, [⟨5, .count 0 0 rank n 0⟩])], taps := [(3, ⟨true, 4, 0, 0⟩)], mark := 100000 }

set_option maxRecDepth 4000 in
theorem test_tapCountRecord : (mtrOf (exec (.tapCountRecord 3 900) (counted 9 [50000000, 40000000, 24804000] id))
      (fun _ m => m.drops 3 = 114804000 && m.area 3 = 102870 && m.vol 3 = 408824 && m.started && m.m = 16379413700000 && m.totals.len = 0 && m.wire = [(3, [])]) &&
    mtrOf (exec (.tapCountRecord 3 900) (counted 9 [1] fun m => { m with started := true, m := 16000000000000 })) (fun _ m => m.totals.len = 379413700000) &&
    mtrOf (exec (.tapCountRecord 3 900) (counted 9 [1] fun m => { m with started := true, params := { m.params with gap := 1 } })) (fun _ m => m.totals.len = 0 && m.m = 16379413700000) &&
    mtrOf (exec (.tapCountRecord 3 900) (counted 8 [1, 1] id)) (fun t m => m.unratedOf 3 = 2 && raised t 0 0x120A && m.vol 3 = 0) &&
    mtrOf (exec (.tapCountRecord 3 900) (counted 9 [3] fun m => { m with params := { m.params with chans := [] } })) (fun _ m => m.totals.unmapped = 3) &&
    mtrOf (exec (.tapCountRecord 3 900) (counted 9 [0] id)) (fun _ m => !m.started) &&
    mtrOf (exec (.tapBadRecord 3 900) (counted 9 [3] id)) (fun _ m => m.drops 3 = 0 && m.wire = [(3, [])])) = true := by decide +kernel

/-- Group 2 of D3 has fired 3 drops of slot value 1. -/
def firedDrops (die : Nat) : State := (mtr id).setGroup (8 * die + 2) { (mtr id).group 26 with tally := [3], tickled := 2 }

set_option maxRecDepth 4000 in
theorem test_tapSend : (mtrOf (exec (.tapSend 3 900) (firedDrops 3)) (fun t m => m.wire = [(3, [⟨0, .count 0 2 0 [3] 2⟩])] && (t.group 26).tally = []) &&
    mtrOf (exec (.tapSend 4 900) (firedDrops 3)) (fun t m => m.wire = [(4, [⟨0, .idle⟩])] && (t.group 26).tally = [3]) &&
    mtrOf (exec (.tapSend 3 4999) ((firedDrops 3).onMeter fun m => { m with sentAt := [(3, 0)] })) (fun _ m => m.wire = []) &&
    mtrOf (exec (.tapSend 0 200000000) (mtr id)) (fun _ m => m.wire = [(0, [⟨0, .idle⟩, ⟨1, .time 1000000000⟩])]) &&
    mtrOf (exec (.tapSend 3 900) ((firedDrops 3).wr (F.DIE_STAT_STAGE 3) 0)) (fun _ m => m.wire = [])) = true := by decide +kernel

set_option maxRecDepth 4000 in
theorem test_tapRecords : (mtrOf (exec (.tapIdleRecord 3 900) (mtr fun m => { m with wire := [(3, [⟨5, .idle⟩])], taps := [(3, ⟨true, 4, 0, 0⟩)] })) (fun t m => m.taps = [(3, ⟨true, 5, 0, 900⟩)] &&
      t.rcd.raised.isEmpty) &&
    mtrOf (exec (.tapIdleRecord 3 900) (mtr fun m => { m with wire := [(3, [⟨6, .idle⟩])], taps := [(3, ⟨true, 4, 0, 0⟩)] })) (fun t m => m.taps = [(3, ⟨true, 6, 1, 900⟩)] &&
      raised t 0 0x1204) &&
    mtrOf (exec (.tapSnapRecord 900) (mtr fun m => { m with wire := [(0, [⟨0, .snap 77⟩])] })) (fun _ m => m.snapSeq = 1 && m.snaps.length = 1) &&
    mtrOf (exec (.tapTimeRecord 900) (mtr fun m => { m with wire := [(0, [⟨0, .time 77⟩])] })) (fun t m => m.net = (77, 900) && t.mtrTime = 77) &&
    mtrOf (exec (.tapDown 3 200900) (mtr fun m => { m with taps := [(3, ⟨true, 5, 0, 900⟩)] })) (fun t m => m.taps = [(3, ⟨false, 5, 0, 900⟩)] && raised t 0 0x1205) &&
    mtrOf (exec (.tapDown 3 200899) (mtr fun m => { m with taps := [(3, ⟨true, 5, 0, 900⟩)] })) (fun t _ => t.rcd.raised.isEmpty)) = true := by decide +kernel

set_option maxRecDepth 4000 in
theorem test_indication : (mtrOf (exec (.indRedraw 900) (mtr id)) (fun _ m => m.iseq = 1 && m.crcs.length = 1) &&
    mtrOf (exec (.indRedraw 900) (mtr fun m => { m with iseq := 4 })) (fun _ m => m.iseq = 4) &&
    mtrOf (exec (.indReport 900) (mtr fun m => { m with reports := [(4, 7)], crcs := [(4, 7)], indFault := true, indStale := true })) (fun _ m => !m.indFault && !m.indStale &&
      m.reportAt = 900) &&
    mtrOf (exec (.indReport 900) (mtr fun m => { m with reports := [(4, 7)], crcs := [(4, 8)], misses := 2 })) (fun t m => m.indFault && m.indErr = 1 && raised t 0 0x1206) &&
    mtrOf (exec (.indReport 900) (mtr fun m => { m with reports := [(4, 7)], misses := 1 })) (fun t m => !m.indFault && m.misses = 2 && t.rcd.raised.isEmpty) &&
    mtrOf (exec (.indReport 900) (mtr id)) (fun _ m => m.reportAt = 0) &&
    mtrOf (exec (.indReport 900) ((mtr id).onMeter fun m => { m with st := 0, reports := [(4, 7)] })) (fun _ m => m.reports.isEmpty && m.reportAt = 0) &&
    mtrOf (exec (.indStaleTimeout 200000000) (mtr id)) (fun _ m => m.indStale) &&
    mtrOf (exec (.indStaleTimeout 199999999) (mtr id)) (fun _ m => !m.indStale) &&
    mtrOf (exec (.indStaleTimeout 200000000) (mtr fun m => { m with psr := some 0 })) (fun _ m => !m.indStale)) = true := by decide +kernel

/-- An envelope of TRAIL_CLEAR with counter 5 stands at the keyed port, under a key of three bytes (HMAC-SHA-256, RFC 2104). -/
def mtrEnvelope (cnt : Nat) : State := (mtr fun m => { m with
    cnt := cnt, hwm := some 4096, env := (envSlots [0x434D44, 0x021D, 5, 0, 0, 0x8b8025, 0x7c03d8, 0xe5b92b, 0xc458, 0x590141, 0x5]).zipIdx.map fun e => (e.2, e.1) }).onAuth
  fun a => { a with keys := [(2, [1, 2, 3])] }

set_option maxRecDepth 40000 in
theorem test_mtrSubmit : mtrOf (exec (.mtrSubmit 900) (mtrEnvelope 4)) (fun t m => m.act.isSome && m.cnt = 5 && m.hwm = some 4096 && t.rcd.raised.isEmpty) = true := by
  decide +kernel

set_option maxRecDepth 40000 in
theorem test_mtrSubmit_replay : mtrOf (exec (.mtrSubmit 900) (mtrEnvelope 5)) (fun t m => m.act.isNone && m.res.head? = some (0x1D + 2 ^ 9 + 10 * 2 ^ 11) && raised t 0 0x1202) =
    true := by decide +kernel

theorem test_mtrLockEnd : (mtrOf (exec .mtrLockEnd ((mtr fun m => { m with locked := true }).atTime 200000000)) (fun _ m => !m.locked) &&
    mtrOf (exec .mtrLockEnd ((mtr fun m => { m with locked := true }).atTime 199999999)) (fun _ m => m.locked) &&
    mtrOf (exec (.mtrSubmit 900) (up [])) (fun _ m => m.res = [])) = true := by decide +kernel

/-- The meter acts next on a command, with its seal open. -/
def mtrAct (op : Nat) (ws : List Nat) (f : Meter → Meter) : State := mtr fun m => f { m with act := some ⟨op, 2, 9, ws, none⟩, sealed := false, sealCount := 11 }

/-- A command wrote an audit entry of a type. -/
def audited (type : Nat) (t : State) : Bool := t.meter.sealCount = 12 && (t.meter.trail.map fun e => e.take 2) = [[type % 2 ^ 24, 12]] && raised t 0 0x1201

/-- A command was refused with a DETAIL. -/
def turned (detail : Nat) (t : State) : Bool :=
  t.meter.sealCount = 11 && t.meter.act.isNone && t.rcd.raised.map (fun e => (e.code, e.payload.drop 1)) = [(0x1202, [13, detail])]

set_option maxRecDepth 40000 in
theorem test_seal : (gives (exec (.sealBreak true) (mtrAct 0x10 [0x4F504E] fun m => { m with sealed := true })) (fun t => audited 0x1001 t && !t.meter.sealed && raised t 0 0x1203) &&
    gives (exec (.sealBreak true) (mtrAct 0x10 [0x4F504E] fun m => { m with sealed := true, trail := List.replicate 1024 [] })) (fun t => turned 5 t && t.meter.sealed) &&
    gives (exec (.sealBreak true) (mtrAct 0x10 [0x4F504E] id)) (turned 1) &&
    gives (exec (.sealMeter true) (mtrAct 0x11 [0x534C44] fun m => { m with massWin := some (1, 2) })) (fun t => audited 0x1102 t && t.meter.sealed && t.meter.massWin.isNone) &&
    gives (exec (.sealMeter true) (mtrAct 0x10 [0x534C44] id)) (fun t => t.meter.act.isSome)) = true := by decide +kernel

set_option maxRecDepth 40000 in
theorem test_parameters : (gives (exec (.setChannel true) (mtrAct 0x12 [0x13, 0x414C42, 0, 896056, 10500, 0x40] id)) (fun t => audited 0x031203 t &&
      t.meter.params.chan 3 = ⟨true, 0x414C42, 0, 896056, 10500, 0x40, 65536⟩) &&
    gives (exec (.setChannel true) (mtrAct 0x12 [0x14, 0x414C42, 0, 896056, 10500, 0x40] black)) (turned 2) &&
    gives (exec (.setMass true) (mtrAct 0x13 [0x12, 9, 210, 420, 630] id)) (fun t => audited 0x021303 t && (t.meter.params.entry 2).mass.take 3 = [210, 420, 630]) &&
    gives (exec (.setMass false) (mtrAct 0x13 [0x12, 9, 210, 420, 630] id)) (turned 4) &&
    gives (exec (.setParam true) (mtrAct 0x14 [1, 100000, 0] id)) (fun t => audited 0x011403 t && t.meter.params.gap = 100000) &&
    gives (exec (.setParam true) (mtrAct 0x14 [1, 100001, 0] id)) (turned 2) &&
    gives (exec (.setParam true) (mtrAct 0x14 [31, 480, 0] id)) (fun t => t.meter.params.offs = [(15, 480)]) &&
    gives (exec (.setParam true) (mtrAct 0x14 [32, 1, 0] id)) (turned 2)) = true := by decide +kernel

set_option maxRecDepth 40000 in
theorem test_patch : (gives (exec .patchBegin (mtrAct 0x17 [50, 7] id)) (fun t => t.meter.patchIn = some ⟨7, 50, []⟩) &&
    gives (exec .patchBegin (mtrAct 0x17 [87382, 7] id)) (turned 2) &&
    gives (exec .patchData (mtrAct 0x18 [0, 8, 9] fun m => { m with patchIn := some ⟨7, 1, []⟩ })) (fun t => t.meter.patchIn = some ⟨7, 1, [8]⟩) &&
    gives (exec .patchData (mtrAct 0x18 [1, 8, 9] fun m => { m with patchIn := some ⟨7, 1, []⟩ })) (fun t => turned 7 t && t.meter.patchIn.isNone) &&
    gives (exec .patchData (mtrAct 0x18 [1, 8, 9] id)) (turned 7) &&
    gives (exec (.patchEnd true) (mtrAct 0x19 [1] id)) (turned 7) &&
    gives (exec (.patchRemove true) (mtrAct 0x1A [] fun m => { m with patch := some ⟨7, 1, [8]⟩ })) (fun t => audited 0x1A06 t && t.meter.patch.isNone)) = true := by decide +kernel

/-- The wrapped key of the rotation of chapter 5. -/
def mtrRotation (tail : Nat) : State :=
  mtrAct 0x1B [3389824, 4532568, 11468953, 7032457, 6348993, 6519815, 3166851, 973509, 10769023, 10860922, 12454026, 14801182, 3215099, 237 + tail] id

set_option maxRecDepth 100000 in
theorem test_mtrKeyRotate : (gives (exec (.mtrKeyRotate true) (mtrRotation 0)) (fun t => t.mtrKey = some (List.range 32) && t.meter.sealCount = 12 && t.meter.trail.length = 1) &&
    gives (exec (.mtrKeyRotate true) (mtrRotation (2 ^ 16))) (turned 2)) = true := by
  decide +kernel

set_option maxRecDepth 40000 in
theorem test_trail : (gives (exec (.trailClear true) (mtrAct 0x1D [] fun m => { m with trail := List.replicate 3 [1] })) (fun t => audited 0x1D08 t) &&
    gives (exec (.mtrMarkSet true) (mtrAct 0x1C [5, 1] id)) (fun t => t.meter.hwm = some 16777221 && t.meter.marks.newer.map Copy.val = some 16777221 && t.meter.cnt = 16777221 && t.meter.sealCount = 11) &&
    gives (exec (.mtrMarkSet false) (mtrAct 0x1C [5, 1] id)) (turned 4) &&
    gives (exec (.mtrMarkSet true) (mtrAct 0x1C [5, 256] id)) (turned 2)) = true := by decide +kernel

/-- A length window is open on 10,000.000 mm, with a nominal scale as its first mark has passed. -/
def lenOpen (nominal count : Nat) (first : Option Int) : State := mtr fun m =>
  { m with lenWin := some ⟨⟨0x15, 2, 9, [], none⟩, 10000000, nominal, 0, first⟩, count := count, sealCount := 11, sealed := false }

set_option maxRecDepth 40000 in
theorem test_lenCal : (gives (exec .lenCalOpen (mtrAct 0x15 [0, 10000000, 0, 163840000 % 2 ^ 24, 9] id)) (fun t => (t.meter.lenWin.map fun w => (w.dist, w.nominal)) = some (10000000, 163840000)) &&
    gives (exec .lenCalOpen (mtrAct 0x15 [1] id)) (fun t => t.meter.act.isSome) &&
    gives (exec .lenCalAbort (mtrAct 0x15 [1] fun m => { m with lenWin := some ⟨⟨0x15, 2, 9, [], none⟩, 1, 1, 0, none⟩ })) (fun t => t.meter.lenWin.isNone) &&
    gives (exec .lenCalAbort (mtrAct 0x15 [1] id)) (turned 7) &&
    gives (exec (.mtrMarkEdge true 900) (lenOpen 163840000 100 none)) (fun t => (t.meter.lenWin.bind LenWin.first) = some 100) &&
    gives (exec (.mtrMarkEdge true 900) (lenOpen 163840000 4001220 (some 100))) (fun t => audited 0x1504 t && t.meter.params.lscale = 163794137 && t.meter.lenWin.isNone) &&
    gives (exec (.mtrMarkEdge true 900) (lenOpen 100000000 4001220 (some 100))) (fun t => turned 3 t && t.meter.params.lscale = 0) &&
    gives (exec (.lenCalTimeout 720000000000) (lenOpen 1 1 none)) (turned 7) &&
    gives (exec (.lenCalTimeout 719999999999) (lenOpen 1 1 none)) (fun t => t.meter.lenWin.isSome)) = true := by decide +kernel

set_option maxRecDepth 40000 in
theorem test_massCal : (gives (exec .massCalOpen (mtrAct 0x16 [3, 0, 0] id)) (fun t => t.meter.massWin = some (3, 0)) &&
    gives (exec .massCalAbort (mtrAct 0x16 [0x23, 0, 0] fun m => { m with massWin := some (3, 8) })) (fun t => t.meter.massWin.isNone) &&
    gives (exec (.massCalClose true) (mtrAct 0x16 [0x13, 1001, 0] fun m => { m with massWin := some (3, 100000000) })) (fun t => audited 0x031605 t &&
      (t.meter.params.chan 3).mfact = 65602 && t.meter.massWin.isNone) &&
    gives (exec (.massCalClose true) (mtrAct 0x16 [0x13, 1300, 0] fun m => { m with massWin := some (3, 100000000) })) (turned 3) &&
    gives (exec (.massCalClose true) (mtrAct 0x16 [3, 0, 0] id)) (fun t => t.meter.act.isSome)) = true := by decide +kernel

/-! The recorder (chapter 20). -/

/-- Events on their way from D3, a record of D3 open since 1,000 SENSE periods, and records in the FIFO. -/
def recording (l : List (Fld × Nat)) (f : Recorder → Recorder) : State :=
  (up ([(F.EVT_STAT_FLASH_OK, 1), (F.EVT_CTL_RING_EN, 1), (F.EVT_CTL_RING, 97), (F.EVT_CTL_RING_SEV, 2)] ++ l)).onRcd fun q =>
    f { q with raised := [⟨3, 0x0420, [97, 5], 77⟩], opened := some ⟨0x0420, 2, 3, 0, 0, 0, 0, 9, [97, 4]⟩, openedAt := 1000 }

/-- The recorder after a command. -/
def rcdOf (o : Host.Outcome State Fault Refusal) (p : State → Recorder → Bool) : Bool := gives o (fun t => p t t.rcd)

set_option maxRecDepth 4000 in
theorem test_eventArrival : (rcdOf (exec (.eventArrival 3 2000) (recording [] id)) (fun _ q => q.raised = [] && (q.opened.map fun r => (r.repeats, r.payload)) = some (10, [97, 4])) &&
    rcdOf (exec (.eventArrival 2 2000) (recording [] id)) (fun _ q => q.raised.length = 1) &&
    rcdOf (exec (.eventArrival 3 2000) (recording [] fun q => { q with opened := none })) (fun _ q => q.openedAt = 2000 && (q.opened.map fun r => (r.sev, r.ntime, r.repeats)) = some (2, 77, 1)) &&
    rcdOf (exec (.eventArrival 3 2000) (recording [] fun q => { q with raised := [⟨3, 0x0422, [97], 77⟩] })) (fun _ q => q.fifo.map Rec.code = [0x0420] &&
      q.opened.map Rec.code = some 0x0422) &&
    rcdOf (exec (.eventArrival 3 2000) (recording [] fun q => { q with opened := q.opened.map fun r => { r with repeats := 65534 } })) (fun _ q => q.opened.isNone &&
      q.fifo.map Rec.repeats = [65535])) = true := by decide +kernel

set_option maxRecDepth 4000 in
theorem test_recordClose : (rcdOf (exec (.recordAgeClose 2000001000) (recording [] id)) (fun t q => q.opened.isNone && q.fifo.length = 1 && t.win.postings.length = 1) &&
    rcdOf (exec (.recordAgeClose 2000000999) (recording [] id)) (fun _ q => q.opened.isSome) &&
    rcdOf (exec .evtFlush (recording [(F.EVT_CTL_RING_SEV, 3)] id)) (fun t q => q.fifo.length = 1 && t.win.postings = []) &&
    rcdOf (exec .evtFlush (recording [(F.EVT_STAT_FLASH_OK, 0)] id)) (fun _ q => q.held.length = 1 && q.fifo = []) &&
    rcdOf (exec .evtFlush (recording [] fun q => { q with fifo := List.replicate 64 ⟨1, 0, 0, 0, 0, 0, 0, 1, []⟩ })) (fun t q => q.fifo.length = 64 && q.lost = some (9, 1, 0x0420) &&
      t.rd F.EVT_LOST_EVENTS = 9 && t.win.postings = []) &&
    rcdOf (exec .evtFlush (recording [] fun q => { q with opened := none })) (fun _ q => q.fifo = [])) = true := by decide +kernel

/-- One record of D3 waits for the writer, which stands at a slot. -/
def writing (slot : Nat) (f : Recorder → Recorder) : State := recording [(F.EVT_HEAD_SLOT, slot)] fun q => f { q with raised := [], fifo := [⟨0x0420, 2, 3, 0, 0, 0, 0, 9, [97, 4]⟩] }

set_option maxRecDepth 10000 in
theorem test_recordWritten : (rcdOf (exec (.recordWritten true) (writing 65535 id)) (fun t q => q.fifo = [] && t.rd F.EVT_HEAD_SLOT = 0 && t.rd F.EVT_COUNT_RECORDS = 1 && q.erasing.isNone &&
      t.flash.slots.map (fun e => (e.1, slotState (some e.2))) = [(65535, 1)]) &&
    rcdOf (exec (.recordWritten false) (writing 64512 id)) (fun t q => q.fifo.length = 1 && q.erasing = some 0 && raised t 0 0x1306 && t.irq.causes = [43] &&
      t.flash.slots.map (fun e => (e.1, slotState (some e.2))) = [(64512, 2)]) &&
    rcdOf (exec (.recordWritten true) (writing 5 fun q => { q with lost := some (9, 2, 0x0420) })) (fun t q => q.lost.isNone && q.fifo.map (fun r => (r.code, r.payload)) = [(0x1301, [9, 2, 0x0420])] &&
      t.irq.causes = [43]) &&
    rcdOf (exec (.recordWritten true) (writing 5 fun q => { q with erasing := some 0 })) (fun _ q => q.fifo.length = 1) &&
    rcdOf (exec (.recordWritten true) ((writing 5 id).wr F.BOOT_STAT_STAGE 1)) (fun _ q => q.fifo.length = 1) &&
    rcdOf (exec (.recordWritten true) (writing 5 fun q => { q with held := q.fifo })) (fun _ q => q.fifo.length = 1 && q.held = []) &&
    rcdOf (exec .sectorEraseDone ((writing 5 fun q => { q with erasing := some 0 }).onFlash fun f => { f with slots := [(5, [1]), (1024, [2])] })) (fun t q => q.erasing.isNone &&
      t.flash.slots = [(1024, [2])]) &&
    rcdOf (exec .sectorEraseDone (writing 5 id)) (fun t _ => t.flash.slots = [])) = true := by decide +kernel

/-- The flash was absent: 12 s have been counted, and one record is held. -/
def absent : State := (recording [(F.EVT_STAT_FLASH_OK, 0)] fun q => { q with raised := [], held := [⟨0x0420, 2, 3, 12, 7, 0, 0, 9, [97]⟩], life := [(39, 12)] }).onFlash fun f =>
  { f with cycles := Area.write ⟨none, none, false⟩ 4, life := ⟨none, some ⟨1, ([(39, 5000)], [])⟩, true⟩ }

set_option maxRecDepth 10000 in
theorem test_eventFlashReturn : (rcdOf (exec .eventFlashReturn absent) (fun t q => t.on F.EVT_STAT_FLASH_OK && t.opsec = 5012 && t.rd F.BOOT_CYCLES_VALUE = 5 && raised t 0 0x1302 &&
      t.flash.count = 5 && q.held.map (fun r => (r.pcc, r.opsec, r.frac)) = [(5, 5012, 7)] && (q.opened.map fun r => (r.pcc, r.opsec)) = some (5, 5000)) &&
    rcdOf (exec .eventFlashReturn (recording [] id)) (fun t _ => t.flash.cycles = State.reset.flash.cycles) &&
    rcdOf (exec (.opsecTick 199999999) (recording [] id)) (fun t _ => t.opsec = 0) &&
    rcdOf (exec (.opsecTick 200000000) (recording [] fun q => { q with ageSec := 119 })) (fun t q => t.opsec = 1 && q.secondAt = 200000000 && q.lifeSec = 1 && t.rd F.EVT_PERSIST_AGE = 2 && tget q.life (64 * 7 + 15) 0 = 1)) = true := by
  decide +kernel

set_option maxRecDepth 4000 in
theorem test_persist : (rcdOf (exec .lifetimeSave (recording [] fun q => { q with lifeSec := 3600, life := [(4, 5)] })) (fun t q => q.savingLife = some ([(4, 5)], []) && t.rd F.EVT_PERSIST_BUSY = 1) &&
    rcdOf (exec .lifetimeSave (recording [(F.EVT_STAT_FLASH_OK, 0)] fun q => { q with lifeSec := 3600 })) (fun _ q => q.lifeSec = 0 && q.savingLife.isNone) &&
    rcdOf (exec .fireCountSave (recording [] fun q => { q with fireSec := 3600, fires := [(4, 5)] })) (fun t q => q.savingFires = some [(4, 5)] && t.rd F.EVT_PERSIST_BUSY = 1) &&
    rcdOf (exec .fireCountSave (recording [] fun q => { q with fireSec := 3600, fires := [(4, 5)], savingFires := some [] })) (fun _ q => q.savingFires = some []) &&
    rcdOf (exec .lifetimeSave (recording [] fun q => { q with lifeSec := 3599 })) (fun _ q => q.savingLife.isNone && q.lifeSec = 3599) &&
    rcdOf (exec .fireCountSave (recording [] fun q => { q with fireSec := 3599 })) (fun _ q => q.savingFires.isNone) &&
    rcdOf (exec .evtPersistSave (recording [] id)) (fun _ q => q.savingFires.isSome && q.savingLife.isSome) &&
    rcdOf (exec (.persistDone true) (recording [(F.EVT_PERSIST_BUSY, 1)] fun q => { q with savingFires := some [(4, 5)], ageSec := 9 })) (fun t q => q.savingFires.isNone && q.ageSec = 0 &&
      t.rd F.EVT_PERSIST_BUSY = 0 && t.flash.fires = ⟨some ⟨1, [(4, 5)]⟩, none, true⟩) &&
    rcdOf (exec (.persistDone false) ((recording [(F.EVT_PERSIST_BUSY, 1)] fun q => { q with savingLife := some ([], []), savingFires := some [] }).onFlash fun f =>
      { f with life := ⟨some ⟨3, ([], [])⟩, none, true⟩ })) (fun t q => q.savingLife.isNone && t.rd F.EVT_PERSIST_BUSY = 1 && t.flash.life.b = some ⟨4, ([], [])⟩) &&
    rcdOf (exec (.persistDone false) (recording [] id)) (fun t _ => t.flash.life.a.isNone)) = true := by decide +kernel

/-- A dump names buffer 2 of generation 7. -/
def dumping (st : BufState) (l : List (Fld × Nat)) : State :=
  ((recording ([(F.EVT_DUMP_BUF_BUF, 2), (F.EVT_DUMP_BUF_GEN, 7)] ++ l) id).setBuf 2 { (State.reset.buf 2) with gen := 7, st := st })

set_option maxRecDepth 4000 in
theorem test_dumps : (gives (exec .dumpRecords (dumping .device [])) (fun t => t.rd F.EVT_DUMP_STAT_BUSY = 1 && t.zip.cwait = [(0, ⟨.dump, 0, 0, [], none, [(2, 0)], false⟩)]) &&
    gives (exec .dumpRecords (dumping .host [])) (fun t => t.rd F.EVT_DUMP_STAT_STATUS = 1 && t.irq.causes = [43]) &&
    gives (exec .dumpLifetime (dumping .device [(F.EVT_DUMP_BUF_GEN, 6)])) (fun t => t.rd F.EVT_DUMP_STAT_STATUS = 2 && t.zip.cwait = []) &&
    gives (exec .dumpLifetime (dumping .device [])) (fun t => t.rd F.EVT_DUMP_STAT_BUSY = 1 && t.zip.cwait.length = 1) &&
    gives (exec .dumpFireCounts (dumping .device [])) (fun t => t.rd F.EVT_DUMP_STAT_BUSY = 1 && t.zip.cwait.length = 1) &&
    gives (exec .dumpFireCounts (dumping .device [(F.EVT_DUMP_STAT_BUSY, 1)])) (fun t => t.zip.cwait = [])) = true := by decide +kernel

/-- Slot 65,535 holds a record. -/
def slotted : State := (recording [] id).onFlash fun f => { f with slots := [(65535, (⟨0x0420, 2, 3, 5, 0, 4, 0, 9, [97, 4]⟩ : Rec).words)] }

set_option maxRecDepth 40000 in
theorem test_evtRdSelWrite : (gives (exec (.evtRdSelWrite 65535) slotted) (fun t => t.rd F.EVT_RD_STAT_STATE = 1 && t.rd (F.EVT_RD_DATA_WORD 0) = 0x1A0420 && t.rd (F.EVT_RD_DATA_WORD 8) = 97 &&
      t.rd F.EVT_RD_SEL_SLOT = 65535) &&
    gives (exec (.evtRdSelWrite 0) slotted) (fun t => t.rd F.EVT_RD_STAT_STATE = 0)) = true := by decide +kernel

/-! LED chains and the display (chapter 21). -/

/-- Chain 6, of D3, is ON in a mode with 8 devices. -/
def lit (mode : Nat) (l : List (Fld × Nat)) (f : Chain → Chain) : State :=
  let s := up ([(F.LED_CTL_STATE 3 0, 2), (F.LED_CTL_MODE 3 0, mode), (F.LED_CTL_DEVS 3 0, 7)] ++ l)
  s.setChain 6 (f Chain.none)

/-- Chain 6 after a command. -/
def chainOf (o : Host.Outcome State Fault Refusal) (p : State → Chain → Bool) : Bool := gives o (fun t => p t (t.chain 6))

/-- The spec's example: device 5 holds three AUTO channels at factor 702. -/
def ambient : State := lit 0 [(ledLevel 6 5 0, 20000), (ledLevel 6 5 1, 30000), (ledLevel 6 5 2, 25000)] fun x => { x with factors := [(5, 702)] }

set_option maxRecDepth 10000 in
theorem test_ledFrameSend : (chainOf (exec (.ledFrameSend 6 900) ambient) (fun _ x => (x.sent.drop 15).take 3 = [(20, 13710, 0), (21, 20566, 53), (22, 17138, 132)] &&
      x.out = some 116100) &&
    chainOf (exec (.ledFrameSend 6 900) (lit 0 [] fun x => { x with out := some 5 })) (fun _ x => x.out = some 5) &&
    chainOf (exec (.ledFrameSend 6 900) (lit 0 [] fun x => { x with freeAt := 901 })) (fun _ x => x.out.isNone) &&
    chainOf (exec (.ledFrameSend 6 900) (lit 0 [(F.LED_CTL_STATE 3 0, 0), (ledLevel 6 0 0, 1024)] fun x => { x with dark := true })) (fun _ x => x.out.isSome && !x.dark &&
      x.sent.all (fun e => e.2.1 = 0)) &&
    chainOf (exec (.ledFrameSend 6 900) (lit 1 [(ledLevel 6 0 0, 1024), (ledPhase 6 0 0, 255)] fun x => { x with scale := 512 })) (fun _ x => x.sent.head? = some (0, 512, 255))) = true := by
  decide +kernel

/-- Status words of the seven devices before device 5, of device 5 and after it: 25 °C, and then 71 °C. -/
def statuses : List Word := List.replicate 5 0x4E0041 ++ [0x36006F, 0x4E0041, 0x4E0041]

theorem test_statusCrc : (crc8 [0x41, 0], crc8 [0x6F, 0]) = (0x4E, 0x36) := by decide +kernel

set_option maxRecDepth 10000 in
theorem test_ledReturnFrame : (chainOf (exec (.ledReturnFrame 6 statuses 900) (lit 0 [] fun x => { x with out := some 5 })) (fun t x => tget x.factors 5 0 = 702 && tget x.factors 0 0 = 1024 &&
      raised t 3 0x1404 && x.freeAt = 11900 && t.rd (F.LED_STAT_SEEN 3 0) = 8 && t.rd (F.LED_STAT_BREAK 3 0) = 0) &&
    chainOf (exec (.ledReturnFrame 6 [0] 900) (lit 0 [(F.LED_CTL_DEVS 3 0, 0)] fun x => { x with out := some 5 })) (fun t x => x.factors = [(0, 1024)] && t.rd (F.LED_CNT_RERR 3 0) = 0) &&
    chainOf (exec (.ledReturnFrame 6 [1] 900) (lit 0 [(F.LED_CTL_DEVS 3 0, 0)] fun x => { x with out := some 5 })) (fun t x => x.factors = [] && t.rd (F.LED_CNT_RERR 3 0) = 1) &&
    chainOf (exec (.ledReturnFrame 6 [] 900) (lit 0 [] fun x => { x with out := some 5 })) (fun t _ => t.rd (F.LED_STAT_BREAK 3 0) = 1 && raised t 3 0x1402) &&
    chainOf (exec (.ledReturnFrame 6 [] 900) (lit 0 [] id)) (fun t _ => t.rd (F.LED_STAT_BREAK 3 0) = 0) &&
    chainOf (exec (.ledReturnTimeout 6 20005) (lit 0 [] fun x => { x with out := some 5 })) (fun t x => x.out.isNone && t.rd (F.LED_CNT_BREAKS 3 0) = 1 && t.irq.causes = [807]) &&
    chainOf (exec (.ledReturnTimeout 6 20004) (lit 0 [] fun x => { x with out := some 5 })) (fun _ x => x.out.isSome) &&
    chainOf (exec (.ledStatusStale 6 7 200000000) (lit 0 [] id)) (fun _ x => x.factor 7 = 512) &&
    chainOf (exec (.ledStatusStale 6 8 200000000) (lit 0 [] id)) (fun _ x => x.stale = [])) = true := by decide +kernel

/-- The camera of D3 was triggered at 10,000 with FLASH_DLY 50.0 and FLASH_W 2.0 microseconds. -/
def flashing (f : Chain → Chain) : State :=
  ((lit 2 [(F.CAM_FLASH_FLASH_DLY 3, 500), (F.CAM_FLASH_FLASH_W 3, 20)] f).atTime 10000).followGate 6

set_option maxRecDepth 10000 in
theorem test_ledGate : (chainOf (exec (.ledGateRise 6 19800) (flashing id)) (fun t x => x.gate && x.gateAt = some (19800, 20400) && t.rd (F.LED_CNT_CUTS 3 0) = 0) &&
    chainOf (exec (.ledGateRise 6 19800) (flashing fun x => { x with sentAt := 9000, out := some 12000 })) (fun t x => x.gate && x.again && x.out.isNone && t.rd (F.LED_CNT_CUTS 3 0) = 1) &&
    chainOf (exec (.ledGateRise 6 19798) (flashing id)) (fun _ x => !x.gate) &&
    chainOf (exec (.ledGateRise 6 19800) (lit 2 [] id)) (fun _ x => !x.gate) &&
    chainOf (exec (.ledGateFall 6 20400) (flashing fun x => { x with gate := true })) (fun _ x => !x.gate && x.freeAt = 31400 && x.gateAt.isNone) &&
    chainOf (exec (.ledGateFall 6 20400) (flashing id)) (fun _ x => x.freeAt = 0) &&
    chainOf (exec (.ledFrameSend 6 15000) (flashing fun x => { x with again := true })) (fun _ x => x.out.isNone) &&
    chainOf (exec (.ledFrameSend 6 31400) (lit 2 [] fun x => { x with again := true, freeAt := 31400 })) (fun _ x => x.out.isSome) &&
    chainOf (exec (.ledUvUpdate 6 200000) (lit 1 [] fun x => { x with scale := 9 })) (fun _ x => x.scale = 0 && x.scaledAt = 200000) &&
    chainOf (exec (.ledUvUpdate 6 199999) (lit 1 [] fun x => { x with scale := 9 })) (fun _ x => x.scale = 9) &&
    chainOf (exec (.ledUvUpdate 6 200000) (lit 0 [] fun x => { x with scale := 9 })) (fun _ x => x.scale = 9)) = true := by decide +kernel

/-- LED_SEL of D3 selects channel 2 of device 63 of its second chain. -/
def selected : State := up [(F.LED_SEL_CHAIN 3, 1), (F.LED_SEL_DEV 3, 63), (F.LED_SEL_CH 3, 2), (F.EPOCH_CTL_VIEW, 1), (ledLevel 7 63 2, 0x1234)]

set_option maxRecDepth 4000 in
theorem test_ledData : (gives (exec (.ledDataAccess 3 (some 0x07ABCD)) selected) (fun t => t.stagedValue (ledLevel 7 63 2) = 0xABCD && t.stagedValue (ledPhase 7 63 2) = 7 && t.rd (F.LED_SEL_DEV 3) = 0 &&
      t.rd (F.LED_SEL_CH 3) = 0) &&
    gives (exec (.ledDataAccess 3 none) selected) (fun t => t.host.readData = [0xFE1234] && t.rd (F.LED_SEL_DEV 3) = 0)) = true := by decide +kernel

/-- The display scans frames of MODE 0. -/
def scanned (l : List (Fld × Nat)) (f : Disp → Disp) : State := (up ([(F.DISP_CTL_STATE, 2), (F.DISP_STAT_LINK, 2)] ++ l)).onDisp f

/-- The display after a command. -/
def dispOf (o : Host.Outcome State Fault Refusal) (p : State → Disp → Bool) : Bool := gives o (fun t => p t t.disp)

/-- The active lines of a frame have been scanned. -/
def blanked (f : Disp → Disp) : State := scanned [] fun d => { f d with scanned := true }

/-- Commit 5 changes the display's background among its parts. -/
def committed (f : Disp → Disp) : State :=
  (blanked f).onEpoch fun e => { e with commits := [⟨5, 0, false, false, .host, [], 0, 0, false, false, [(.bar 0, true), (.block 0 0x1C, false)], [(.block 0 0x1C, false)], 0, false, false, 0⟩] }

set_option maxRecDepth 10000 in
theorem test_dispVblank : (dispOf (exec (.dispVblank 10049) (blanked fun d => { d with arrived := [(5, false, 50, false)] })) (fun _ d => d.arrived = [(5, false, 50, true)]) &&
    dispOf (exec (.dispVblank 10050) (blanked fun d => { d with arrived := [(5, false, 50, true)] })) (fun t d => d.arrived = [] && t.rd F.DISP_ERR_LATE = 1 && raised t 0 0x1502 &&
      t.irq.causes = [40]) &&
    dispOf (exec (.dispVblank 10050) (committed fun d => { d with arrived := [(5, false, 50, false)] })) (fun t d => d.arrived = [] && (t.commit? 5).map Commit.remaining = some [] && d.changed) &&
    dispOf (exec (.dispVblank 10050) (blanked id)) (fun t d => t.rcd.raised.isEmpty && !d.scanned && d.frameAt = 10050 + dispBlank 0) &&
    dispOf (exec (.dispVblank 10050) (scanned [] fun d => { d with arrived := [(5, false, 50, false)] })) (fun _ d => d.arrived.length = 1) &&
    dispOf (exec (.dispVblank 10050) (scanned [(F.DISP_STAT_LINK, 3)] fun d => { d with arrived := [(5, false, 50, false)] })) (fun _ d => d.arrived.length = 1)) = true := by decide +kernel

/-- A check rectangle of one pixel outside the indication, on a black background; its CRC is expected, or not. -/
def checked (exp : Nat) : State := scanned [(F.DISP_RCTL_EN 1, 1), (F.DISP_RPOS_Y 1, 300), (F.DISP_RSIZE_W 1, 1), (F.DISP_RSIZE_H 1, 1), (F.DISP_REXP_LO_EXP 1, exp % 2 ^ 24),
  (F.DISP_REXP_HI_EXP 1, exp / 2 ^ 24)] id

set_option maxRecDepth 10000 in
theorem test_dispFrameEnd : (dispOf (exec (.dispFrameEnd (some 7) [] 3200000) (scanned [] fun d => { d with replaced := [(3, 5, false)] })) (fun t d => t.rd F.DISP_FRAME_FRAME = 1 && t.rd F.DISP_STAT_IND_SHOWN = 1 &&
      t.meter.reports = [(0, 7)] && t.win.postings = [.release 3 0 0] && d.replaced = [] && d.still = 1) &&
    dispOf (exec (.dispFrameEnd (some 7) [] (dispActive 0 - 1)) (scanned [] id)) (fun t d => t.rd F.DISP_FRAME_FRAME = 0 && !d.scanned) &&
    dispOf (exec (.dispFrameEnd none [] (dispActive 0)) ((scanned [] id).onMeter fun m => { m with iseq := 4, crcs := [(4, 9)] })) (fun t d => t.meter.reports = [(4, 9)] && d.scanned) &&
    dispOf (exec (.dispFrameEnd none [1, 2] 3200000) ((scanned [] id).onMeter fun m => { m with params := { m.params with indX := 961 } })) (fun t _ => t.rd F.DISP_ERR_UNDERFLOW = 2 &&
      raised t 0 0x1506 && t.meter.reports = [] && t.rcd.windows.any (fun w => w.code = 0x1504)) &&
    dispOf (exec (.dispFrameEnd (some 7) [] 3200000) (scanned [] fun d => { d with psr := true, still := 1 })) (fun t _ => t.rd F.DISP_STAT_LINK = 3) &&
    dispOf (exec (.dispFrameEnd (some 7) [] 3200000) ((scanned [] fun d => { d with held := [(2, 9)] }).setBuf 9 { (State.reset.buf 9) with st := .reclaiming })) (fun t d => d.held = [] &&
      t.rd (F.DISP_LSTAT_LOST 2) = 1 && raised t 0 0x1503 && t.irq.causes = [40]) &&
    dispOf (exec (.dispFrameEnd (some 7) [] 3200000) ((committed fun d => { d with replaced := [(3, 5, false)] }).onDisp fun d => { d with scanned := false })) (fun t d =>
      t.win.postings = [] && d.replaced = [(3, 5, true)]) &&
    dispOf (exec (.dispFrameEnd (some 7) [] 3200000) (scanned [(F.DISP_STAT_LINK, 1)] id)) (fun t _ => t.rd F.DISP_FRAME_FRAME = 0)) = true := by decide +kernel

set_option maxRecDepth 10000 in
theorem test_dispCheck : (dispOf (exec (.dispFrameEnd (some 7) [] 3200000) (checked 0xFF41D912)) (fun t _ => t.rd (F.DISP_RCNT_COUNT 1) = 0 && t.rd (F.DISP_RCRC_LO_CRC 1) = 0x41D912 && t.rd (F.DISP_RCRC_HI_CRC 1) = 0xFF) &&
    dispOf (exec (.dispFrameEnd (some 7) [] 3200000) (checked 0xFF41D913)) (fun t _ => t.rd (F.DISP_RCNT_COUNT 1) = 1 && t.rd (F.DISP_RCTL_MISMATCH 1) = 1 && raised t 0 0x1505)) = true := by decide +kernel

set_option maxRecDepth 10000 in
theorem test_dispHold : (dispOf (exec (.dispPsrExit 900) (scanned [(F.DISP_STAT_LINK, 3)] fun d => { d with changed := true, still := 4 })) (fun t d => t.rd F.DISP_STAT_LINK = 2 && d.still = 0) &&
    dispOf (exec (.dispPsrExit 900) (scanned [(F.DISP_STAT_LINK, 3)] fun d => { d with still := 4 })) (fun t d => t.rd F.DISP_STAT_LINK = 3 && d.still = 4) &&
    dispOf (exec (.dispPsrReport 20000000) (scanned [(F.DISP_STAT_LINK, 3)] fun d => { d with iseq := 6 })) (fun t d => t.meter.psr = some 6 && d.heldAt = 20000000) &&
    dispOf (exec (.dispPsrReport 19999999) (scanned [(F.DISP_STAT_LINK, 3)] fun d => { d with iseq := 6 })) (fun t _ => t.meter.psr.isNone) &&
    dispOf (exec (.dispPsrReport 900) (scanned [] fun d => { d with iseq := 6 })) (fun t _ => t.meter.psr.isNone) &&
    dispOf (exec (.dispLinkLost [2, 2] 900) (scanned [] fun d => { d with lanesMax := 2, rateMax := 2 })) (fun t _ => t.rd F.DISP_STAT_LINK = 2 && t.rd F.DISP_STAT_LANES = 2 && raised t 0 0x1501) &&
    dispOf (exec (.dispLinkLost [] 900) (scanned [] id)) (fun t _ => t.rd F.DISP_STAT_LINK = 0 && raised t 0 0x1501) &&
    dispOf (exec (.dispLinkLost [] 900) (up [])) (fun t _ => t.rcd.raised.isEmpty)) = true := by decide +kernel

/-! Monitors (chapter 22). -/

/-- D3 with its limits at 100 and 110 °C, group 2 firing, an axis that has found its reference, and a chain ON. -/
def monitored (l : List (Fld × Nat)) (f : Mon → Mon) : State :=
  (up ([(F.LNP_GRP_STATE 3 2, 1), (F.LNP_GRP_STATE 3 4, 3), (F.MOT_STAT_REFD 3 1, 1), (F.LED_CTL_STATE 3 1, 2), (ledLevel 7 0 0, 500), (F.LAN_GSTAT_IDV 3 2, 1)] ++ l)).onMon f

/-- The seven rails at their nominal voltages. -/
def nominal : List Nat := [750, 750, 1100, 900, 1200, 1800, 3300]

/-- The monitors after a command. -/
def monOf (o : Host.Outcome State Fault Refusal) (p : State → Mon → Bool) : Bool := gives o (fun t => p t t.mon)

set_option maxRecDepth 10000 in
theorem test_monConversion : (monOf (exec (.monConversion 3 [500, 999, -50, 10] nominal 900) (monitored [] id)) (fun t m => t.rd (F.MON_T_TEMP 3 2) = 4046 && t.rd (F.MON_V_MV 3 6) = 3300 && m.hottest = [] &&
      t.rd (F.MON_SEQ_SEQ 3) = 1 && t.rd (F.MON_TMAX_TEMP 3) = 999 && t.rcd.raised.isEmpty && t.rd (F.MON_STAT_VDEV 3) = 0) &&
    monOf (exec (.monConversion 3 [500, 1000, 1001, 10] nominal 900) (monitored [] id)) (fun t m => t.rd (F.MON_STAT_WARN 3) = 1 && m.hottest = [(3, 1001)] &&
      t.rcd.raised.map (fun e => (e.code, e.payload)) = [(0x1601, [3, 1, 1000])] && t.irq.causes = [806]) &&
    monOf (exec (.monConversion 3 [949, 900, 1, 10] nominal 900) (monitored [(F.MON_STAT_WARN 3, 1)] fun m => { m with hottest := [(3, 1080)] })) (fun t m => m.hottest = [] &&
      t.rd (F.MON_STAT_WARN 3) = 0 && t.rcd.raised.map (fun e => (e.code, e.payload)) = [(0x1603, [3, 1080])]) &&
    monOf (exec (.monConversion 3 [950, 900, 1, 10] nominal 900) (monitored [(F.MON_STAT_WARN 3, 1)] fun m => { m with hottest := [(3, 1080)] })) (fun t m => m.hottest = [(3, 1080)] && t.rcd.raised.isEmpty) &&
    monOf (exec (.monConversion 3 [500, 999, -50, 10] nominal 900) (monitored [(F.MON_CTL_PERIOD 3, 10)] fun m => { m with ranAt := [(3, 5)] })) (fun t m => t.rd (F.MON_SEQ_SEQ 3) = 0 && m.ranAt = [(3, 5)]) &&
    monOf (exec (.monConversion 3 [500, 999, -50, 10] nominal 2000005) (monitored [(F.MON_CTL_PERIOD 3, 10)] fun m => { m with ranAt := [(3, 5)] })) (fun t m => t.rd (F.MON_SEQ_SEQ 3) = 1 &&
      m.ranAt = [(3, 2000005)]) &&
    monOf (exec (.monConversion 3 [500, 999, -50, 10] nominal 900) (monitored [(F.DIE_STAT_STAGE 3, 1)] id)) (fun t _ => t.rd (F.MON_SEQ_SEQ 3) = 0)) = true := by decide +kernel

set_option maxRecDepth 10000 in
theorem test_hotFence : (monOf (exec (.monConversion 3 [500, 1000, 1100, 10] nominal 900) (monitored [] id)) (fun t m => t.rd (F.MON_STAT_HOT_FENCE 3) = 1 && t.grpState 26 = 2 && t.grpState 28 = 3 && m.fenced = [26] &&
      t.rd (F.MOT_STAT_REFD 3 1) = 0 && (t.chain 7).sent.all (fun e => e.2.1 = 0) && raised t 3 0x1602) &&
    monOf (exec (.monConversion 3 [500, 1000, 1100, 10] nominal 900) (monitored [(F.MON_CTL_AUTO_FENCE 3, 0)] id)) (fun t _ => t.rd (F.MON_STAT_HOT_FENCE 3) = 0 && t.grpState 26 = 1 && raised t 3 0x1602) &&
    monOf (exec (.hotFenceClear 3 []) (monitored [(F.MON_STAT_HOT_FENCE 3, 1), (F.LNP_GRP_STATE 3 2, 2)] fun m => { m with fenced := [26, 7] })) (fun t m => t.rd (F.MON_STAT_HOT_FENCE 3) = 0 &&
      t.grpState 26 = 1 && m.fenced = [7] && raised t 3 0x1605) &&
    monOf (exec (.hotFenceClear 3 [2]) (monitored [(F.MON_STAT_HOT_FENCE 3, 1), (F.LNP_GRP_STATE 3 2, 2)] fun m => { m with fenced := [26] })) (fun t _ => t.grpState 26 = 2 && raised t 3 0x0808) &&
    monOf (exec (.hotFenceClear 3 []) (monitored [(F.MON_STAT_HOT_FENCE 3, 1), (F.MON_T_TEMP 3 0, 1000)] id)) (fun t _ => t.rd (F.MON_STAT_HOT_FENCE 3) = 1)) = true := by decide +kernel

set_option maxRecDepth 10000 in
theorem test_rails : (monOf (exec (.monConversion 3 [1, 1, 1, 1] (nominal.set 2 1044) 900) (monitored [] id)) (fun t _ => t.rd (F.MON_STAT_VDEV 3) = 4 && t.rd (F.MON_CNT_VDEVS 3) = 1 &&
      t.rcd.raised.map (fun e => (e.code, e.payload)) = [(0x1604, [3, 2, 1044])]) &&
    monOf (exec (.monConversion 3 [1, 1, 1, 1] (nominal.set 2 1045) 900) (monitored [] id)) (fun t _ => t.rd (F.MON_STAT_VDEV 3) = 0) &&
    monOf (exec (.monConversion 3 [1, 1, 1, 1] nominal 900) ((monitored [] fun m => { m with calm := [(26, 98)] }).openEpisode 0x1604 26)) (fun t m => t.inEpisode 0x1604 26 && m.calm = [(26, 99)]) &&
    monOf (exec (.monConversion 3 [1, 1, 1, 1] nominal 900) ((monitored [] fun m => { m with calm := [(26, 99)] }).openEpisode 0x1604 26)) (fun t m => !t.inEpisode 0x1604 26 && m.calm = [])) = true := by decide +kernel

/-! The machine as a whole. -/

set_option maxRecDepth 4000 in
theorem test_step : (gives (step { up [] with pending := [.nop 97, .evtFlush] }) (fun t => t.pending = [.evtFlush]) &&
    gives (step (up [])) (fun t => t.clk = 1 && t.time 0 = 5)) = true := by decide +kernel

/-- The invariant holds after reset. -/
theorem test_invariant : Safety.Inv State.reset :=
  ⟨by decide, List.Pairwise.nil, fun _ => by simp [State.stagedCount, State.reset, Epoch.reset], by decide, by decide, by decide, by decide⟩

/-- It holds in a state with memory, staged values, records and a sealed meter. -/
def lived : State := { (State.reset.wr F.TIME_CTL_SRC 2) with
  mem := [(5, 1), (9, 2)]
  meter := { State.reset.meter with sealed := true, sealCount := 0xFFFFFF } }

set_option maxRecDepth 4000 in
theorem test_invariant_lived : Safety.Inv lived :=
  ⟨by decide, by unfold lived Safety.Rising; decide, fun _ => by simp [State.stagedCount, lived, State.wr, State.reset, Epoch.reset], by decide, by decide, by decide, by decide⟩

/-- A length window is open, and the meter is open: a mark changes a parameter and the seal counter. -/
theorem test_meterApart : gives (exec (.mtrMarkEdge true 900) (lenOpen 163840000 4001220 (some 100)))
    (fun t => t.meter.params.lscale = 163794137 && t.meter.sealCount = 12 && t.meter.totals = (lenOpen 163840000 4001220 (some 100)).meter.totals) = true := by
  decide +kernel

end Sys2Proof.Tests
end

section
/-! SUPPORT. What every operation and every command leaves as it is: the queue of commands and the variant; and the clock, which only the
passing of time (`State.pass`, in `State.atTime` and `State.atFire`) moves, and forward. -/

namespace Sys2Proof.Machine

open Sys2Proof

/-- What only the passing of time can change, and only in its last part: the queue, the variant and the clock. -/
def State.kept (s : State) : List Instr × Variant × Nat := (s.pending, s.variant, s.clk)

/-- The queue and the variant of `k` stand in `k'`, and the clock has not gone back. -/
def Later (k k' : List Instr × Variant × Nat) : Prop := k'.1 = k.1 ∧ k'.2.1 = k.2.1 ∧ k.2.2 ≤ k'.2.2

/-- Where an outcome is a next state, the queue and the variant stand in it, and the clock has not gone back. -/
def LeadsOn (s : State) (o : Host.Outcome State Fault Refusal) : Prop := ∀ t, o = .next t → Later s.kept t.kept

@[simp] theorem Later.refl (k : List Instr × Variant × Nat) : Later k k := ⟨rfl, rfl, Nat.le_refl _⟩

@[simp] theorem kept_eta (s : State) : (s.pending, s.variant, s.clk) = s.kept := by rfl

@[simp] theorem State.kept_mk (pending variant clk drawn live staged snap snapImages mem timeBase rate clock epoch ld rcd flash win jobs zip
    press axes sdram meter chains disp boot mon pair cams eye auth eth irq eng host) :
    State.kept ⟨pending, variant, clk, drawn, live, staged, snap, snapImages, mem, timeBase, rate, clock, epoch, ld, rcd, flash, win, jobs,
      zip, press, axes, sdram, meter, chains, disp, boot, mon, pair, cams, eye, auth, eth, irq, eng, host⟩ = (pending, variant, clk) := by
  rfl

@[simp] theorem State.later_atTime (s : State) (t : Nat) : Later s.kept (s.atTime t).kept := ⟨rfl, rfl, Nat.le_add_right _ _⟩

@[simp] theorem State.later_atFire (s : State) (f : Nat) : Later s.kept (s.atFire f).kept := s.later_atTime _

@[simp] theorem leadsOn_next (s t : State) : LeadsOn s (.next t) ↔ Later s.kept t.kept :=
  ⟨fun h => h t rfl, fun h _ e => by cases e; exact h⟩

@[simp] theorem leadsOn_fault (s : State) (r : Fault) : LeadsOn s (.fault r) := fun _ e => by cases e

@[simp] theorem leadsOn_guarded (s : State) (b : Bool) (t : State) : LeadsOn s (guarded b t) ↔ (b = true → Later s.kept t.kept) := by
  cases b <;> simp [guarded, LeadsOn]

@[simp] theorem later_ite (k k₁ k₂ : List Instr × Variant × Nat) (c : Prop) [Decidable c] :
    Later k (if c then k₁ else k₂) ↔ (c → Later k k₁) ∧ (¬c → Later k k₂) := by
  split <;> simp [*]

theorem Later.trans {k₁ k₂ k₃ : List Instr × Variant × Nat} (h : Later k₁ k₂) (h' : Later k₂ k₃) : Later k₁ k₃ :=
  ⟨h'.1.trans h.1, h'.2.1.trans h.2.1, Nat.le_trans h.2.2 h'.2.2⟩

/-- A command that a register access amounts to leads on where the command does. -/
@[simp] theorem State.via_later {k : List Instr × Variant × Nat} {s : State} {o : Host.Outcome State Fault Refusal}
    (h : Later k s.kept) (ho : LeadsOn s o) : Later k (s.via o).kept := by
  unfold State.via
  split
  · exact h.trans (ho _ rfl)
  · exact h

/-! What is kept goes through the forms in which the model puts its operations together. -/

@[simp] theorem kept_ite (c : Prop) [Decidable c] (s t : State) : (if c then s else t).kept = if c then s.kept else t.kept := apply_ite ..

@[simp] theorem kept_foldl {α : Type} {f : State → α → State} (h : ∀ s a, (f s a).kept = s.kept) (l : List α) (s : State) :
    (l.foldl f s).kept = s.kept := by
  induction l generalizing s with
  | nil => rfl
  | cons a r ih => exact (ih _).trans (h s a)

theorem kept_foldl_fst {α β : Type} {f : State × β → α → State × β} (h : ∀ p a, (f p a).1.kept = p.1.kept) (l : List α) (p : State × β) :
    (l.foldl f p).1.kept = p.1.kept := by
  induction l generalizing p with
  | nil => rfl
  | cons a r ih => exact (ih _).trans (h p a)

@[simp] theorem kept_foldr {α : Type} {f : α → State → State} (h : ∀ s a, (f a s).kept = s.kept) (l : List α) (s : State) :
    (l.foldr f s).kept = s.kept := by
  induction l with
  | nil => rfl
  | cons a r ih => exact (h _ a).trans ih

@[simp] theorem kept_forUpTo {f : Nat → State → State} (h : ∀ k s, (f k s).kept = s.kept) (n : Nat) (s : State) :
    (forUpTo n f s).kept = s.kept := by
  induction n with
  | zero => rfl
  | succ k ih => exact (h k _).trans ih

@[simp] theorem later_foldl {α : Type} {f : State → α → State} (h : ∀ s a, Later s.kept (f s a).kept) (l : List α)
    {k : List Instr × Variant × Nat} {s : State} (hs : Later k s.kept) : Later k (l.foldl f s).kept := by
  induction l generalizing s with
  | nil => exact hs
  | cons a r ih => exact ih (hs.trans (h s a))

end Sys2Proof.Machine
end

section
/-! SUPPORT. The operations and the commands, in the order of the model's files: an operation has the `kept` of the state that it is given,
and a command leads on. The accesses to BAR0, which run commands, come last. -/

namespace Sys2Proof.Machine

open Sys2Proof

/-! Ops. -/

@[simp] theorem State.wr_kept (s : State) (f : Fld) (v : Nat) : (s.wr f v).kept = s.kept := by simp [State.wr]

@[simp] theorem State.incBy_kept (s : State) (f : Fld) (n : Nat) : (s.incBy f n).kept = s.kept := by simp [State.incBy]

@[simp] theorem State.inc_kept (s : State) (f : Fld) : (s.inc f).kept = s.kept := by simp [State.inc]

@[simp] theorem State.wrPair_kept (s : State) (lo hi : Fld) (v : Nat) : (s.wrPair lo hi v).kept = s.kept := by simp [State.wrPair]

@[simp] theorem State.onRcd_kept (s : State) (f : Recorder → Recorder) : (s.onRcd f).kept = s.kept := by simp [State.onRcd]

@[simp] theorem State.onIrq_kept (s : State) (f : Irq → Irq) : (s.onIrq f).kept = s.kept := by simp [State.onIrq]

@[simp] theorem State.onHost_kept (s : State) (f : HostPort → HostPort) : (s.onHost f).kept = s.kept := by simp [State.onHost]

@[simp] theorem State.draw_kept (s : State) (w : Nat) : (s.draw w).2.kept = s.kept := by simp [State.draw]

@[simp] theorem State.onWin_kept (s : State) (f : Win → Win) : (s.onWin f).kept = s.kept := by simp [State.onWin]

@[simp] theorem State.post_kept (s : State) (ring kind : Nat) (body : List Nat) :
    (s.post ring kind body).kept = s.kept := by simp [State.post]

@[simp] theorem State.release_kept (s : State) (idx bytes tag : Nat) : (s.release idx bytes tag).kept = s.kept := by simp [State.release]

@[simp] theorem State.onFlash_kept (s : State) (f : Flash → Flash) : (s.onFlash f).kept = s.kept := by simp [State.onFlash]

@[simp] theorem State.event_kept (s : State) (die code : Nat) (payload : List Nat) :
    (s.event die code payload).kept = s.kept := by simp [State.event]

@[simp] theorem State.cause_kept (s : State) (src : Nat) : (s.cause src).kept = s.kept := by simp [State.cause]

@[simp] theorem State.causeAt_kept (s : State) (die loc : Nat) : (s.causeAt die loc).kept = s.kept := by simp [State.causeAt]

@[simp] theorem State.life_kept (s : State) (die n add : Nat) : (s.life die n add).kept = s.kept := by simp [State.life]

@[simp] theorem State.histo_kept (s : State) (die n bin : Nat) : (s.histo die n bin).kept = s.kept := by simp [State.histo]

@[simp] theorem State.windowed_kept (s : State) (die code key : Nat) (payload : List Nat) (counted : Bool) (src : Option Nat) :
    (s.windowed die code key payload counted src).kept = s.kept := by simp [State.windowed]

@[simp] theorem State.openEpisode_kept (s : State) (code key : Nat) : (s.openEpisode code key).kept = s.kept := by simp [State.openEpisode]

@[simp] theorem State.endEpisode_kept (s : State) (code key : Nat) : (s.endEpisode code key).kept = s.kept := by simp [State.endEpisode]

@[simp] theorem State.eventOnce_kept (s : State) (die code key : Nat) (payload : List Nat) :
    (s.eventOnce die code key payload).kept = s.kept := by simp [State.eventOnce]

/-! Access. -/

@[simp] theorem State.onEpoch_kept (s : State) (f : Epoch → Epoch) : (s.onEpoch f).kept = s.kept := by simp [State.onEpoch]

@[simp] theorem State.stageOn_kept (s : State) (d key v : Nat) : (s.stageOn d key v).kept = s.kept := by simp [State.stageOn]

/-! Service. -/

@[simp] theorem State.tooEarly_kept (s : State) (a : Nat) : (s.tooEarly a).kept = s.kept := by unfold State.tooEarly; split <;> simp

@[simp] theorem State.served_kept (s : State) (a : Nat) (t : State) :
    (s.served a t).kept = if s.inService a then t.kept else s.kept := by simp [State.served]

@[simp] theorem State.servedRead_kept (s : State) (a : Nat) (blank : List Nat) (t : State) :
    (s.servedRead a blank t).kept = if s.inService a then t.kept else s.kept := by simp [State.servedRead]

/-! Memory. -/

@[simp] theorem State.onMem_kept (s : State) (f : List Host.Cell → List Host.Cell) : (s.onMem f).kept = s.kept := by simp [State.onMem]

@[simp] theorem State.storeWords_kept (s : State) (a : Nat) (ws : List Nat) :
    (s.storeWords a ws).kept = s.kept := by simp [State.storeWords]

@[simp] theorem State.memAccess_kept (s : State) (d a : Nat) : (s.memAccess d a).kept = s.kept := by simp [State.memAccess]

@[simp] theorem State.closeRows_kept (s : State) (f : Nat → Bool) : (s.closeRows f).kept = s.kept := by simp [State.closeRows]

@[simp] theorem State.memTouch_kept (s : State) (a n : Nat) : (s.memTouch a n).kept = s.kept := by simp [State.memTouch]

@[simp] theorem State.storeBytes_kept (s : State) (a : Nat) (bs : List Nat) :
    (s.storeBytes a bs).kept = s.kept := by simp [State.storeBytes]

/-! WindowOps. -/

@[simp] theorem State.setBuf_kept (s : State) (i : Nat) (b : Buf) : (s.setBuf i b).kept = s.kept := by simp [State.setBuf]

@[simp] theorem State.hold_kept (s : State) (i : Nat) : (s.hold i).kept = s.kept := by simp [State.hold]

@[simp] theorem State.letGo_kept (s : State) (i : Nat) : (s.letGo i).kept = s.kept := by simp [State.letGo]

@[simp] theorem State.winResult_kept (s : State) (i op status : Nat) : (s.winResult i op status).kept = s.kept := by simp [State.winResult]

@[simp] theorem State.setRing_kept (s : State) (q : Nat) (r : Ring) : (s.setRing q r).kept = s.kept := by simp [State.setRing]

@[simp] theorem State.ringStarted_kept (s : State) (q : Nat) : (s.ringStarted q).kept = s.kept := by simp [State.ringStarted]

@[simp] theorem State.ringSource_kept (s : State) (q : Nat) : (s.ringSource q).kept = s.kept := by simp [State.ringSource]

@[simp] theorem State.dbErr_kept (s : State) (q v : Nat) : (s.dbErr q v).kept = s.kept := by simp [State.dbErr]

@[simp] theorem State.baseErr_kept (s : State) (q : Nat) : (s.baseErr q).kept = s.kept := by simp [State.baseErr]

@[simp] theorem State.ringLost_kept (s : State) (q : Nat) : (s.ringLost q).kept = s.kept := by simp [State.ringLost]

@[simp] theorem State.putEntry_kept (s : State) (q kind : Nat) (body : List Nat) :
    (s.putEntry q kind body).kept = s.kept := by simp [State.putEntry]

@[simp] theorem State.ringPost_kept (s : State) (q kind : Nat) (body : List Nat) :
    (s.ringPost q kind body).kept = s.kept := by simp [State.ringPost]

@[simp] theorem State.drainRing_kept (s : State) (q fuel : Nat) : (s.drainRing q fuel).kept = s.kept := by
  induction fuel generalizing s with
  | zero => rfl
  | succ n ih => simp only [State.drainRing]; (repeat' split) <;> simp [ih]

@[simp] theorem State.answer_kept (s : State) (e : Entry) (status : Nat) (extra : List Nat) :
    (s.answer e status extra).kept = s.kept := by simp [State.answer]

@[simp] theorem State.badEntry_kept (s : State) (e : Entry) (status : Nat) : (s.badEntry e status).kept = s.kept := by simp [State.badEntry]

@[simp] theorem State.beginEntry_kept (s : State) (e : Entry) : (s.beginEntry e).kept = s.kept := by simp [State.beginEntry]

/-! AuthOps. -/

@[simp] theorem State.onAuth_kept (s : State) (f : Auth → Auth) : (s.onAuth f).kept = s.kept := by simp [State.onAuth]

@[simp] theorem State.onEth_kept (s : State) (f : Eth → Eth) : (s.onEth f).kept = s.kept := by simp [State.onEth]

@[simp] theorem State.ethReply_kept (s : State) (r : EthReply) : (s.ethReply r).kept = s.kept := by simp [State.ethReply]

@[simp] theorem State.mgmtReply_kept (s : State) (head : List Nat) (status : Nat) (ws : List Nat) :
    (s.mgmtReply head status ws).kept = s.kept := by simp [State.mgmtReply]

@[simp] theorem State.authResult_kept (s : State) (op slot counter status detail : Nat) (eth : Option (List Nat)) :
    (s.authResult op slot counter status detail eth).kept = s.kept := by simp only [State.authResult]; split <;> simp

@[simp] theorem State.cmdResult_kept (s : State) (c : AuthCmd) (status detail : Nat) :
    (s.cmdResult c status detail).kept = s.kept := by simp [State.cmdResult]

@[simp] theorem State.newNonce_kept (s : State) : s.newNonce.kept = s.kept := by simp [State.newNonce]

@[simp] theorem State.tagFailed_kept (s : State) : s.tagFailed.kept = s.kept := by simp [State.tagFailed]

@[simp] theorem State.envRefused_kept (s : State) (st : Nat) : (s.envRefused st).kept = s.kept := by simp [State.envRefused]

@[simp] theorem State.envAccepted_kept (s : State) (c : AuthCmd) : (s.envAccepted c).kept = s.kept := by simp [State.envAccepted]

@[simp] theorem State.submitEnv_kept (s : State) (env : List Nat) (eth : Option (List Nat)) :
    (s.submitEnv env eth).kept = s.kept := by simp [State.submitEnv]

@[simp] theorem State.authTaken_kept (s : State) : s.authTaken.kept = s.kept := by simp [State.authTaken]

/-! AuthCmds. -/

@[simp] theorem execAuthSubmit_leadsOn (t : Nat) (s : State) : LeadsOn s (execAuthSubmit t s) := by simp [execAuthSubmit]

@[simp] theorem execAuthLockEnd_leadsOn (s : State) : LeadsOn s (execAuthLockEnd s) := by simp [execAuthLockEnd]

@[simp] theorem execAuthHwmWritten_leadsOn (s : State) : LeadsOn s (execAuthHwmWritten s) := by unfold execAuthHwmWritten; split <;> simp

@[simp] theorem execKeyRotate_leadsOn (s : State) : LeadsOn s (execKeyRotate s) := by simp only [execKeyRotate]; (repeat' split) <;> simp

@[simp] theorem State.keyBurned_kept (s : State) (k : Nat) (key : List Nat) : (s.keyBurned k key).kept = s.kept := by simp [State.keyBurned]

@[simp] theorem execKeyBurnDone_leadsOn (ok : Bool) (s : State) :
    LeadsOn s (execKeyBurnDone ok s) := by unfold execKeyBurnDone; split <;> simp

@[simp] theorem execMarkSet_leadsOn (written : Bool) (s : State) :
    LeadsOn s (execMarkSet written s) := by unfold execMarkSet; split <;> simp

/-! CommitOps. -/

@[simp] theorem State.reportCommit_kept (s : State) (c : Commit) (status : Nat) :
    (s.reportCommit c status).kept = s.kept := by simp [State.reportCommit]

@[simp] theorem State.armSnap_kept (s : State) (line : Nat) (timed : Bool) : (s.armSnap line timed).kept = s.kept := by simp [State.armSnap]

@[simp] theorem State.onPair_kept (s : State) (f : Pair → Pair) : (s.onPair f).kept = s.kept := by simp [State.onPair]

@[simp] theorem State.pairSend_kept (s : State) (type line : Nat) (body : List Nat) :
    (s.pairSend type line body).kept = s.kept := by simp [State.pairSend]

@[simp] theorem State.pairControl_kept (s : State) (code h : Nat) : (s.pairControl code h).kept = s.kept := by simp [State.pairControl]

@[simp] theorem State.sendCommit_kept (s : State) (origin : Origin) (id line status : Nat) (fs : List (Nat × Nat)) :
    (s.sendCommit origin id line status fs).kept = s.kept := by simp [State.sendCommit]

@[simp] theorem State.capture_kept (s : State) (safe snap : Bool) (origin : Origin) (fs : List (Nat × Nat)) (parts : List
    (Consumer × Bool)) (a : Nat) (stageFull bufferBad : Bool) :
    (s.capture safe snap origin fs parts a stageFull bufferBad).1.kept = s.kept := by simp only [State.capture]; split <;> simp

@[simp] theorem State.waitCapture_kept (s : State) (c : PairCapture) : (s.waitCapture c).kept = s.kept := by simp [State.waitCapture]

@[simp] theorem State.setCommit_kept (s : State) (id : Nat) (f : Commit → Commit) :
    (s.setCommit id f).kept = s.kept := by simp [State.setCommit]

@[simp] theorem State.dropCommit_kept (s : State) (id : Nat) : (s.dropCommit id).kept = s.kept := by simp [State.dropCommit]

/-! JobOps. -/

@[simp] theorem State.onJobs_kept (s : State) (f : Jobs → Jobs) : (s.onJobs f).kept = s.kept := by simp [State.onJobs]

@[simp] theorem State.setCtx_kept (s : State) (j : Nat) (c : Ctx) : (s.setCtx j c).kept = s.kept := by simp [State.setCtx]

@[simp] theorem State.setStream_kept (s : State) (j bar : Nat) (x : Stream) :
    (s.setStream j bar x).kept = s.kept := by simp [State.setStream]

@[simp] theorem State.answerPage_kept (s : State) (j : Nat) (d : PDesc) (status pages replaced code : Nat) :
    (s.answerPage j d status pages replaced code).kept = s.kept := by unfold State.answerPage; split <;> simp

@[simp] theorem State.countReplaced_kept (s : State) (j bar k : Nat) :
    (s.countReplaced j bar k).kept = s.kept := by simp [State.countReplaced]

@[simp] theorem State.underrun_kept (s : State) (j bar p k i : Nat) : (s.underrun j bar p k i).kept = s.kept := by simp [State.underrun]

@[simp] theorem State.sourceOf_kept (s : State) (bar p l : Nat) (standby : Bool) :
    (s.sourceOf bar p l standby).2.2.kept = s.kept := by simp only [State.sourceOf]; (repeat' split) <;> simp

/-! MapOps. -/

@[simp] theorem State.wrKey_kept (s : State) (key v : Nat) : (s.wrKey key v).kept = s.kept := by simp [State.wrKey]

@[simp] theorem State.writeAll_kept (s : State) (fs : List (Nat × Nat)) : (s.writeAll fs).kept = s.kept := by simp [State.writeAll]

@[simp] theorem State.noteStaged_kept (s : State) (fs : List (Nat × Nat)) : (s.noteStaged fs).kept = s.kept := by
  simp only [State.noteStaged]
  exact kept_foldl (fun s f => by split <;> simp) _ _

@[simp] theorem State.onPress_kept (s : State) (f : Press → Press) : (s.onPress f).kept = s.kept := by simp [State.onPress]

@[simp] theorem State.setRaster_kept (s : State) (p : Nat) (r : Raster) : (s.setRaster p r).kept = s.kept := by simp [State.setRaster]

@[simp] theorem State.resetHeadNozzles_kept (s : State) (m : Image) (h line : Nat) :
    (s.resetHeadNozzles m h line).kept = s.kept := by simp [State.resetHeadNozzles]

@[simp] theorem State.maxDelay_kept (s : State) (p : Nat) : (s.maxDelay p).kept = s.kept := by simp [State.maxDelay]

@[simp] theorem State.judgeClamp_kept (s : State) (p : Nat) :
    (s.judgeClamp p).kept = s.kept := by simp only [State.judgeClamp]; split <;> simp

@[simp] theorem State.judgeSkips_kept (s : State) (p : Nat) (before : Tab Nat) :
    (s.judgeSkips p before).kept = s.kept := by simp [State.judgeSkips]

/-! RasterOps. -/

@[simp] theorem State.onEye_kept (s : State) (f : Eye → Eye) : (s.onEye f).kept = s.kept := by simp [State.onEye]

@[simp] theorem State.storeRec_kept (s : State) (p : Nat) (x : LineRec) : (s.storeRec p x).kept = s.kept := by simp [State.storeRec]

@[simp] theorem State.countLost_kept (s : State) (p : Nat) (page : Option (Nat × Nat)) (lost : Nat) (last : Bool) :
    (s.countLost p page lost last).kept = s.kept := by simp [State.countLost]

/-! Rings. -/

@[simp] theorem State.doorbell_kept (s : State) (q v : Nat) : (s.doorbell q v).kept = s.kept := by simp [State.doorbell]

@[simp] theorem execDoorbell_leadsOn (q v : Nat) (s : State) : LeadsOn s (execDoorbell q v s) := by simp [execDoorbell]

@[simp] theorem State.takeEntry_kept (s : State) (q : Nat) : (s.takeEntry q).1.kept = s.kept := by simp [State.takeEntry]

@[simp] theorem execRingEntryRead_leadsOn (q : Nat) (s : State) :
    LeadsOn s (execRingEntryRead q s) := by simp only [execRingEntryRead]; (repeat' split) <;> simp

@[simp] theorem execNop_leadsOn (q : Nat) (s : State) : LeadsOn s (execNop q s) := by unfold execNop; split <;> simp

@[simp] theorem execRecordPost_leadsOn (s : State) : LeadsOn s (execRecordPost s) := by unfold execRecordPost; split <;> simp

@[simp] theorem State.flushRing_kept (s : State) (q fuel : Nat) : (s.flushRing q fuel).kept = s.kept := by
  induction fuel generalizing s with
  | zero => rfl
  | succ n ih => simp [State.flushRing, ih]

@[simp] theorem State.ringStopping_kept (s : State) (q : Nat) : (s.ringStopping q).kept = s.kept := by simp [State.ringStopping]

@[simp] theorem State.ringStopped_kept (s : State) (q : Nat) : (s.ringStopped q).kept = s.kept := by simp [State.ringStopped]

/-! JobRows. -/

@[simp] theorem State.answerCtx_kept (s : State) (e : Entry) (status detail id line : Nat) :
    (s.answerCtx e status detail id line).kept = s.kept := by simp [State.answerCtx]

@[simp] theorem State.rejectCtx_kept (s : State) (e : Entry) (status detail : Nat) :
    (s.rejectCtx e status detail).kept = s.kept := by simp [State.rejectCtx]

@[simp] theorem execCtxLoad_leadsOn (q : Nat) (s : State) :
    LeadsOn s (execCtxLoad q s) := by simp only [execCtxLoad]; (repeat' split) <;> simp

@[simp] theorem execCtxValidated_leadsOn (j : Nat) (noMem : Option Nat) (s : State) :
    LeadsOn s (execCtxValidated j noMem s) := by simp only [execCtxValidated]; (repeat' split) <;> simp

@[simp] theorem State.addEnd_kept (s : State) (j line id : Nat) : (s.addEnd j line id).kept = s.kept := by simp [State.addEnd]

@[simp] theorem State.sendCtx_kept (s : State) (j line id : Nat) (stop : Bool) :
    (s.sendCtx j line id stop).kept = s.kept := by simp [State.sendCtx]

@[simp] theorem State.ctxArmed_kept (s : State) (j line id : Nat) :
    (s.ctxArmed j line id).kept = s.kept := by simp only [State.ctxArmed]; split <;> simp

@[simp] theorem State.captureFailed_kept (s : State) (e : Entry) (id : Nat) :
    (s.captureFailed e id).kept = s.kept := by simp [State.captureFailed]

@[simp] theorem execCtxUnload_leadsOn (q : Nat) (s : State) : LeadsOn s (execCtxUnload q s) := by unfold execCtxUnload; split <;> simp

@[simp] theorem State.dropDesc_kept (s : State) (j bar : Nat) (d : PDesc) : (s.dropDesc j bar d).kept = s.kept := by simp [State.dropDesc]

@[simp] theorem State.finishDesc_kept (s : State) (j bar : Nat) (b : CtxBlock) (d : PDesc) :
    (s.finishDesc j bar b d).kept = s.kept := by simp [State.finishDesc]

@[simp] theorem State.stopUnit_kept (s : State) (d : PDesc) : (s.stopUnit d).kept = s.kept := by simp [State.stopUnit]

@[simp] theorem State.cutDesc_kept (s : State) (j bar : Nat) (d : PDesc) : (s.cutDesc j bar d).kept = s.kept := by simp [State.cutDesc]

@[simp] theorem execPageDescriptor_leadsOn (q : Nat) (s : State) :
    LeadsOn s (execPageDescriptor q s) := by unfold execPageDescriptor; split <;> simp

@[simp] theorem execPageDone_leadsOn (q : Nat) (s : State) :
    LeadsOn s (execPageDone q s) := by simp only [execPageDone]; (repeat' split) <;> simp

@[simp] theorem execJobRetired_leadsOn (j : Nat) (s : State) :
    LeadsOn s (execJobRetired j s) := by simp only [execJobRetired]; split <;> simp

@[simp] theorem State.settleEnds_kept (s : State) (id : Nat) : (s.settleEnds id).kept = s.kept := by
  simp only [State.settleEnds]
  exact kept_foldl (fun s e => by (repeat' split) <;> simp) _ _

@[simp] theorem State.jobApplied_kept (s : State) (c : Commit) :
    (s.jobApplied c).kept = s.kept := by unfold State.jobApplied; split <;> simp

@[simp] theorem State.jobCancelled_kept (s : State) (c : Commit) :
    (s.jobCancelled c).kept = s.kept := by unfold State.jobCancelled; split <;> simp

/-! EnOps. -/

@[simp] theorem State.setBlockState_kept (s : State) (b : Block) (v : Nat) :
    (s.setBlockState b v).kept = s.kept := by simp [State.setBlockState]

@[simp] theorem State.failStart_kept (s : State) (b : Block) : (s.failStart b).kept = s.kept := by simp [State.failStart]

/-! PressOps. -/

@[simp] theorem State.setInput_kept (s : State) (f : Nat) (x : Input) : (s.setInput f x).kept = s.kept := by simp [State.setInput]

@[simp] theorem State.noteFilters_kept (s old : State) : (s.noteFilters old).kept = s.kept := by simp [State.noteFilters]

@[simp] theorem State.setEmu_kept (s : State) (x : Nat) (e : Emu) : (s.setEmu x e).kept = s.kept := by simp [State.setEmu]

@[simp] theorem State.emuCount_kept (s : State) (x : Nat) (back : Bool) : (s.emuCount x back).kept = s.kept := by simp [State.emuCount]

@[simp] theorem State.emuFollow_kept (s : State) (d src : Nat) (back : Bool) :
    (s.emuFollow d src back).kept = s.kept := by simp [State.emuFollow]

@[simp] theorem State.setWeb_kept (s : State) (d : Nat) (w : Web) : (s.setWeb d w).kept = s.kept := by simp [State.setWeb]

@[simp] theorem State.crossRound_kept (s : State) (d : Nat) (was : Int) : (s.crossRound d was).kept = s.kept := by simp [State.crossRound]

@[simp] theorem State.setPacer_kept (s : State) (p : Nat) (x : Pacer) : (s.setPacer p x).kept = s.kept := by simp [State.setPacer]

@[simp] theorem State.setGroup_kept (s : State) (g : Nat) (x : Group) : (s.setGroup g x).kept = s.kept := by simp [State.setGroup]

@[simp] theorem State.onGroups_kept (s : State) (d : Nat) (f : Nat → Group → Group) :
    (s.onGroups d f).kept = s.kept := by simp [State.onGroups]

@[simp] theorem State.enterBand_kept (s : State) (p b q : Nat) : (s.enterBand p b q).kept = s.kept := by simp [State.enterBand]

@[simp] theorem State.omitLines_kept (s : State) (p n : Nat) : (s.omitLines p n).kept = s.kept := by simp [State.omitLines]

@[simp] theorem State.bandStep_kept (s : State) (p f : Nat) :
    (s.bandStep p f).kept = s.kept := by simp only [State.bandStep]; (repeat' split) <;> simp

@[simp] theorem State.reject_kept (s : State) (first last src : Nat) : (s.reject first last src).kept = s.kept := by simp [State.reject]

@[simp] theorem State.rejectPage_kept (s : State) (p : Nat) (l : Int) (src : Nat) (always : Bool) :
    (s.rejectPage p l src always).kept = s.kept := by simp only [State.rejectPage]; (repeat' split) <;> simp

@[simp] theorem State.judgeVolt_kept (s : State) (h : Nat) : (s.judgeVolt h).kept = s.kept := by simp only [State.judgeVolt]; split <;> simp

@[simp] theorem State.countDrops_kept (s : State) (g : Nat) (drops : List (Nat × Nat)) (tickle : Bool) :
    (s.countDrops g drops tickle).kept = s.kept := by simp [State.countDrops]

@[simp] theorem State.judgeAdv_kept (s : State) (p : Nat) (l : Int) (committed : Bool) :
    (s.judgeAdv p l committed).kept = s.kept := by simp [State.judgeAdv]

@[simp] theorem State.placePending_kept (s : State) (g : Nat) : (s.placePending g).kept = s.kept := by simp [State.placePending]

@[simp] theorem State.triggersFrom_kept (s : State) (g f : Nat) : (s.triggersFrom g f).kept = s.kept := by simp [State.triggersFrom]

@[simp] theorem State.withdrawStrobes_kept (s : State) (d : Nat) : (s.withdrawStrobes d).kept = s.kept := by simp [State.withdrawStrobes]

@[simp] theorem State.advanceLine_kept (s : State) (d : Nat) : (s.advanceLine d).kept = s.kept := by simp [State.advanceLine]

@[simp] theorem State.setSpw_kept (s : State) (d : Nat) (x : Spw) : (s.setSpw d x).kept = s.kept := by simp [State.setSpw]

@[simp] theorem State.spwRatchet_kept (s : State) (d : Nat) : (s.spwRatchet d).kept = s.kept := by simp [State.spwRatchet]

@[simp] theorem State.ratchet_kept (s : State) (d : Nat) : (s.ratchet d).kept = s.kept := by simp [State.ratchet]

@[simp] theorem State.webForward_kept (s : State) (d stamp : Nat) : (s.webForward d stamp).kept = s.kept := by simp [State.webForward]

@[simp] theorem State.webBackward_kept (s : State) (d : Nat) : (s.webBackward d).kept = s.kept := by simp [State.webBackward]

@[simp] theorem State.breakStamps_kept (s : State) (d : Nat) : (s.breakStamps d).kept = s.kept := by simp [State.breakStamps]

/-! CameraOps. -/

@[simp] theorem State.setCam_kept (s : State) (d : Nat) (c : Camera) : (s.setCam d c).kept = s.kept := by simp [State.setCam]

@[simp] theorem State.onCam_kept (s : State) (d : Nat) (f : Camera → Camera) : (s.onCam d f).kept = s.kept := by simp [State.onCam]

@[simp] theorem State.setChain_kept (s : State) (c : Nat) (x : Chain) : (s.setChain c x).kept = s.kept := by simp [State.setChain]

@[simp] theorem State.followGate_kept (s : State) (c : Nat) : (s.followGate c).kept = s.kept := by simp [State.followGate]

@[simp] theorem State.camApplied_kept (s : State) (d : Nat) (ids : List Nat) :
    (s.camApplied d ids).kept = s.kept := by simp [State.camApplied]

@[simp] theorem State.govern_kept (s : State) (d : Nat) (x : CciSet) : (s.govern d x).kept = s.kept := by simp [State.govern]

@[simp] theorem State.cciSend_kept (s : State) (d : Nat) (ops : List CciOp) : (s.cciSend d ops).kept = s.kept := by simp [State.cciSend]

@[simp] theorem State.startCci_kept (s : State) (d : Nat) : (s.startCci d).kept = s.kept := by unfold State.startCci; split <;> simp

@[simp] theorem State.queueSet_kept (s : State) (d id : Nat) (fs : List (Nat × Nat)) :
    (s.queueSet d id fs).kept = s.kept := by simp [State.queueSet]

@[simp] theorem State.joinSet_kept (s : State) (d id : Nat) (fs : List (Nat × Nat)) :
    (s.joinSet d id fs).kept = s.kept := by simp [State.joinSet]

@[simp] theorem State.commitPort_kept (s : State) (d : Nat) (fs : List (Nat × Nat)) :
    (s.commitPort d fs).kept = s.kept := by simp [State.commitPort]

@[simp] theorem State.applyCam_kept (s : State) (d id : Nat) (fs : List (Nat × Nat)) :
    (s.applyCam d id fs).kept = s.kept := by simp [State.applyCam]

@[simp] theorem State.governSets_kept (s : State) (d now n : Nat) : (s.governSets d now n).kept = s.kept := by simp [State.governSets]

@[simp] theorem State.cciNack_kept (s : State) (d addr id : Nat) : (s.cciNack d addr id).kept = s.kept := by simp [State.cciNack]

@[simp] theorem State.nextCci_kept (s : State) (d : Nat) (done : Option CciWork) :
    (s.nextCci d done).kept = s.kept := by simp only [State.nextCci]; split <;> simp

@[simp] theorem State.camStart_kept (s : State) (d : Nat) : (s.camStart d).kept = s.kept := by simp [State.camStart]

@[simp] theorem State.camStarted_kept (s : State) (d : Nat) : (s.camStarted d).kept = s.kept := by simp [State.camStarted]

@[simp] theorem State.frameMissing_kept (s : State) (d : Nat) :
    (s.frameMissing d).kept = s.kept := by unfold State.frameMissing; split <;> simp

@[simp] theorem State.camStopped_kept (s : State) (d : Nat) : (s.camStopped d).kept = s.kept := by
  simp only [State.camStopped]
  rw [kept_foldl (by simp)]
  simp

@[simp] theorem State.skipTriggers_kept (s : State) (d n : Nat) : (s.skipTriggers d n).kept = s.kept := by simp [State.skipTriggers]

@[simp] theorem State.issueTrigger_kept (s : State) (d f : Nat) : (s.issueTrigger d f).kept = s.kept := by simp [State.issueTrigger]

@[simp] theorem State.meanOf_kept (s : State) (ps : List Pixel) (f : Pixel → Nat) :
    (s.meanOf ps f).2.kept = s.kept := by unfold State.meanOf; split <;> simp

@[simp] theorem State.previewShown_kept (s : State) (d : Nat) : (s.previewShown d).kept = s.kept := by simp [State.previewShown]

@[simp] theorem State.closeFrame_kept (s : State) (d : Nat) (cut : Bool) :
    (s.closeFrame d cut).kept = s.kept := by unfold State.closeFrame; split <;> simp

@[simp] theorem State.csiError_kept (s : State) (d kind : Nat) : (s.csiError d kind).kept = s.kept := by simp [State.csiError]

/-! MeterOps. -/

@[simp] theorem State.onMeter_kept (s : State) (f : Meter → Meter) : (s.onMeter f).kept = s.kept := by simp [State.onMeter]

@[simp] theorem State.mtrEvent_kept (s : State) (code : Nat) (payload : List Nat) :
    (s.mtrEvent code payload).kept = s.kept := by simp [State.mtrEvent]

@[simp] theorem State.mtrSnap_kept (s : State) (why time : Nat) : (s.mtrSnap why time).kept = s.kept := by simp [State.mtrSnap]

@[simp] theorem State.mtrAudit_kept (s : State) (type op index old new counter : Nat) :
    (s.mtrAudit type op index old new counter).kept = s.kept := by simp [State.mtrAudit]

@[simp] theorem State.mtrResult_kept (s : State) (c : AuthCmd) (status detail : Nat) :
    (s.mtrResult c status detail).kept = s.kept := by simp [State.mtrResult]

@[simp] theorem State.saveTotals_kept (s : State) (brown : Bool) : (s.saveTotals brown).kept = s.kept := by simp [State.saveTotals]

@[simp] theorem State.mtrTagFailed_kept (s : State) : s.mtrTagFailed.kept = s.kept := by simp [State.mtrTagFailed]

@[simp] theorem State.mtrAccept_kept (s : State) (c : AuthCmd) : (s.mtrAccept c).kept = s.kept := by simp [State.mtrAccept]

@[simp] theorem State.mtrSubmit_kept (s : State) (env : List Nat) : (s.mtrSubmit env).kept = s.kept := by simp [State.mtrSubmit]

@[simp] theorem State.mtrDo_kept {f : State → State} (h : ∀ s, (f s).kept = s.kept) (s : State) (c : AuthCmd) (needs : Option Bool)
    (bad : Nat) (audits written : Bool) : (s.mtrDo c needs bad audits written f).kept = s.kept := by simp [State.mtrDo, h]

@[simp] theorem State.onParams_kept (s : State) (f : MtrParams → MtrParams) : (s.onParams f).kept = s.kept := by simp [State.onParams]

@[simp] theorem State.mtrCount_kept (s : State) (src group rank : Nat) (n : List Nat) :
    (s.mtrCount src group rank n).kept = s.kept := by simp only [State.mtrCount]; (repeat' split) <;> simp

@[simp] theorem State.tapPut_kept (s : State) (d : Nat) (body : TapBody) : (s.tapPut d body).kept = s.kept := by simp [State.tapPut]

@[simp] theorem State.snapMark_kept (s : State) : s.snapMark.kept = s.kept := by simp [State.snapMark]

theorem State.tapTake_kept {s t : State} {d : Nat} {r : TapRec} (h : s.tapTake d = some (r, t)) : t.kept = s.kept := by
  unfold State.tapTake at h
  split at h
  · cases h
  · cases h; simp

@[simp] theorem State.tapGood_kept (s : State) (d seq : Nat) : (s.tapGood d seq).kept = s.kept := by unfold State.tapGood; split <;> simp

/-! DispOps. -/

@[simp] theorem State.onDisp_kept (s : State) (f : Disp → Disp) : (s.onDisp f).kept = s.kept := by simp [State.onDisp]

@[simp] theorem State.dispEvent_kept (s : State) (code : Nat) (payload : List Nat) :
    (s.dispEvent code payload).kept = s.kept := by simp [State.dispEvent]

@[simp] theorem State.judgeRect_kept (s : State) (late : List Nat) (r : Nat) :
    (s.judgeRect late r).kept = s.kept := by simp only [State.judgeRect]; (repeat' split) <;> simp

@[simp] theorem State.layerRelease_kept (s : State) (b : Nat) : (s.layerRelease b).kept = s.kept := by simp [State.layerRelease]

@[simp] theorem State.releaseReplaced_kept (s : State) (id : Nat) : (s.releaseReplaced id).kept = s.kept := by simp [State.releaseReplaced]

@[simp] theorem State.releaseShown_kept (s : State) : s.releaseShown.kept = s.kept := by simp [State.releaseShown]

@[simp] theorem State.layerBuffer_kept (s : State) (k id : Nat) :
    (s.layerBuffer k id).kept = s.kept := by simp only [State.layerBuffer]; (repeat' split) <;> simp

@[simp] theorem State.layerLost_kept (s : State) (k : Nat) : (s.layerLost k).kept = s.kept := by unfold State.layerLost; split <;> simp

@[simp] theorem State.layerShown_kept (s : State) (k : Nat) : (s.layerShown k).kept = s.kept := by simp [State.layerShown]

@[simp] theorem State.dispStarting_kept (s : State) : s.dispStarting.kept = s.kept := by simp [State.dispStarting]

@[simp] theorem State.dispUp_kept (s : State) (found : List Nat) : (s.dispUp found).kept = s.kept := by simp [State.dispUp]

@[simp] theorem State.dispDown_kept (s : State) : s.dispDown.kept = s.kept := by simp [State.dispDown]

@[simp] theorem State.dispLinkFail_kept (s : State) : s.dispLinkFail.kept = s.kept := by simp [State.dispLinkFail]

/-! IrqOps. -/

@[simp] theorem State.sendMsix_kept (s : State) (v : Nat) : (s.sendMsix v).kept = s.kept := by simp [State.sendMsix]

@[simp] theorem State.noteFullStack_kept (s : State) (t : Nat) : (s.noteFullStack t).kept = s.kept := by simp [State.noteFullStack]

@[simp] theorem State.deliver_kept (s : State) (t : Nat) : (s.deliver t).kept = s.kept := by simp [State.deliver]

@[simp] theorem State.deliverAll_kept (s : State) : s.deliverAll.kept = s.kept := by simp [State.deliverAll]

@[simp] theorem State.runsFromNow_kept (s : State) (d e : Nat) : (s.runsFromNow d e).kept = s.kept := by simp [State.runsFromNow]

@[simp] theorem State.assignTarget_kept (s : State) (g : Nat) :
    (s.assignTarget g).kept = s.kept := by simp only [State.assignTarget]; (repeat' split) <;> simp

@[simp] theorem State.assignPending_kept (s : State) : s.assignPending.kept = s.kept := by simp [State.assignPending]

@[simp] theorem State.raiseSource_kept (s : State) (g : Nat) : (s.raiseSource g).kept = s.kept := by simp [State.raiseSource]

@[simp] theorem State.countCause_kept (s : State) (g : Nat) : (s.countCause g).kept = s.kept := by simp [State.countCause]

/-! Raster. -/

@[simp] theorem State.notePrinted_kept (s : State) (first page line : Nat) (use : SlotUse) (width : Nat) :
    (s.notePrinted first page line use width).kept = s.kept := by simp [State.notePrinted]

@[simp] theorem State.beginLine_kept (s : State) (p bar l : Nat) :
    (s.beginLine p bar l).kept = s.kept := by simp only [State.beginLine]; (repeat' split) <;> simp

@[simp] theorem execRasLineBegin_leadsOn (p t : Nat) (s : State) :
    LeadsOn s (execRasLineBegin p t s) := by simp only [execRasLineBegin]; split <;> simp

@[simp] theorem State.nextNozzle_kept (s : State) (d : Nat) : (s.nextNozzle d).kept = s.kept := by simp [State.nextNozzle]

@[simp] theorem State.writeNozzle_kept (s : State) (d w : Nat) : (s.writeNozzle d w).kept = s.kept := by simp [State.writeNozzle]

@[simp] theorem execRasNzDataAccess_leadsOn (d : Nat) (data : Option Word) (s : State) :
    LeadsOn s (execRasNzDataAccess d data s) := by unfold execRasNzDataAccess; split <;> simp

/-! CameraRows. -/

@[simp] theorem execCamTrigger_leadsOn (d t : Nat) (s : State) : LeadsOn s (execCamTrigger d t s) := by simp [execCamTrigger]

@[simp] theorem execCamFlashPulse_leadsOn (d t : Nat) (s : State) :
    LeadsOn s (execCamFlashPulse d t s) := by simp only [execCamFlashPulse]; split <;> simp

@[simp] theorem execFrameStart_leadsOn (d vc t : Nat) (s : State) : LeadsOn s (execFrameStart d vc t s) := by simp [execFrameStart]

@[simp] theorem execCsiPacket_leadsOn (d vc dt : Nat) (hdrBad crcBad : Bool) (pixels : List Nat) (s : State) :
    LeadsOn s (execCsiPacket d vc dt hdrBad crcBad pixels s) := by simp only [execCsiPacket]; (repeat' split) <;> simp

@[simp] theorem execFrameEnd_leadsOn (d vc t : Nat) (s : State) : LeadsOn s (execFrameEnd d vc t s) := by simp [execFrameEnd]

@[simp] theorem execCciTransferDone_leadsOn (d : Nat) (nack : Option Nat) (data : Byte) (t : Nat) (s : State) :
    LeadsOn s (execCciTransferDone d nack data t s) := by simp only [execCciTransferDone]; (repeat' split) <;> simp

@[simp] theorem State.rawGo_kept (s : State) (d : Nat) : (s.rawGo d).kept = s.kept := by simp [State.rawGo]

@[simp] theorem execCamRawGo_leadsOn (d : Nat) (rd : Bool) (s : State) : LeadsOn s (execCamRawGo d rd s) := by simp [execCamRawGo]

@[simp] theorem execCamArchReq_leadsOn (d : Nat) (s : State) : LeadsOn s (execCamArchReq d s) := by simp [execCamArchReq]

@[simp] theorem State.archWrite_kept (s : State) (d buf gen : Nat) : (s.archWrite d buf gen).kept = s.kept := by simp [State.archWrite]

@[simp] theorem execCamArchQWrite_leadsOn (d buf gen : Nat) (s : State) :
    LeadsOn s (execCamArchQWrite d buf gen s) := by simp [execCamArchQWrite]

@[simp] theorem State.nextTable_kept (s : State) (d : Nat) : (s.nextTable d).kept = s.kept := by simp [State.nextTable]

@[simp] theorem execCamTblDataRead_leadsOn (d : Nat) (s : State) : LeadsOn s (execCamTblDataRead d s) := by simp [execCamTblDataRead]

@[simp] theorem State.nextInit_kept (s : State) (d : Nat) : (s.nextInit d).kept = s.kept := by simp [State.nextInit]

@[simp] theorem State.writeInit_kept (s : State) (d w : Nat) : (s.writeInit d w).kept = s.kept := by simp [State.writeInit]

@[simp] theorem execCamInitDataAccess_leadsOn (d : Nat) (data : Option Word) (s : State) :
    LeadsOn s (execCamInitDataAccess d data s) := by unfold execCamInitDataAccess; split <;> simp

@[simp] theorem execCamStopFrameTimeout_leadsOn (d t : Nat) (s : State) :
    LeadsOn s (execCamStopFrameTimeout d t s) := by simp [execCamStopFrameTimeout]

/-! LedOps. -/

@[simp] theorem State.ledSend_kept (s : State) (c : Nat) (dark : Bool) : (s.ledSend c dark).kept = s.kept := by simp [State.ledSend]

@[simp] theorem State.ledDark_kept (s : State) (c : Nat) : (s.ledDark c).kept = s.kept := by simp [State.ledDark]

@[simp] theorem State.ledStatus_kept (s : State) (c dev st : Nat) : (s.ledStatus c dev st).kept = s.kept := by simp [State.ledStatus]

@[simp] theorem State.ledBreak_kept (s : State) (c : Nat) : (s.ledBreak c).kept = s.kept := by simp [State.ledBreak]

@[simp] theorem State.ledStarted_kept (s : State) (c : Nat) : (s.ledStarted c).kept = s.kept := by simp [State.ledStarted]

@[simp] theorem State.ledPinShort_kept (s : State) (c b1 b2 : Nat) : (s.ledPinShort c b1 b2).kept = s.kept := by simp [State.ledPinShort]

@[simp] theorem State.ledStopping_kept (s : State) (c : Nat) : (s.ledStopping c).kept = s.kept := by simp [State.ledStopping]

@[simp] theorem State.ledDarken_kept (s : State) (d : Nat) : (s.ledDarken d).kept = s.kept := by simp [State.ledDarken]

@[simp] theorem State.nextLed_kept (s : State) (d : Nat) : (s.nextLed d).kept = s.kept := by simp [State.nextLed]

@[simp] theorem State.writeLed_kept (s : State) (d w : Nat) : (s.writeLed d w).kept = s.kept := by simp [State.writeLed]

/-! LinkOps. -/

@[simp] theorem State.setAdapter_kept (s : State) (g : Nat) (a : Adapter) : (s.setAdapter g a).kept = s.kept := by simp [State.setAdapter]

@[simp] theorem State.lanEvent_kept (s : State) (g code : Nat) (payload : List Nat) :
    (s.lanEvent g code payload).kept = s.kept := by simp [State.lanEvent]

@[simp] theorem State.setGrpState_kept (s : State) (g v : Nat) : (s.setGrpState g v).kept = s.kept := by simp [State.setGrpState]

@[simp] theorem State.judgeGroup_kept (s : State) (g : Nat) : (s.judgeGroup g).kept = s.kept := by unfold State.judgeGroup; split <;> simp

@[simp] theorem State.settleGroup_kept (s : State) (g : Nat) : (s.settleGroup g).kept = s.kept := by simp [State.settleGroup]

@[simp] theorem State.headPeriodField_kept (s : State) (g : Nat) : (s.headPeriodField g).kept = s.kept := by simp [State.headPeriodField]

@[simp] theorem State.setLink_kept (s : State) (g v : Nat) : (s.setLink g v).kept = s.kept := by simp [State.setLink]

@[simp] theorem State.retryLink_kept (s : State) (g : Nat) : (s.retryLink g).kept = s.kept := by simp [State.retryLink]

@[simp] theorem State.noteFollow_kept (s : State) : s.noteFollow.kept = s.kept := by simp [State.noteFollow]

@[simp] theorem State.linkDown_kept (s : State) (g cause : Nat) :
    (s.linkDown g cause).kept = s.kept := by simp only [State.linkDown]; split <;> simp

@[simp] theorem State.identified_kept (s : State) (g : Nat) (b : List Nat) : (s.identified g b).kept = s.kept := by simp [State.identified]

@[simp] theorem State.quiesce_kept (s : State) (g : Nat) (on : Bool) : (s.quiesce g on).kept = s.kept := by simp [State.quiesce]

@[simp] theorem State.fenceGroup_kept (s : State) (g code : Nat) (payload : List Nat) :
    (s.fenceGroup g code payload).kept = s.kept := by simp [State.fenceGroup]

@[simp] theorem State.clearFault_kept (s : State) (g : Nat) (high : Bool) :
    (s.clearFault g high).kept = s.kept := by simp [State.clearFault]

/-! MotionOps. -/

@[simp] theorem State.setAxis_kept (s : State) (a : Nat) (x : Axis) : (s.setAxis a x).kept = s.kept := by simp [State.setAxis]

@[simp] theorem State.axisStarted_kept (s : State) (a : Nat) : (s.axisStarted a).kept = s.kept := by simp [State.axisStarted]

@[simp] theorem State.axisHalt_kept (s : State) (a : Nat) : (s.axisHalt a).kept = s.kept := by simp [State.axisHalt]

@[simp] theorem State.axisCommitted_kept (s : State) (a : Nat) (wrote : Fld → Bool) :
    (s.axisCommitted a wrote).kept = s.kept := by simp [State.axisCommitted]

@[simp] theorem State.releaseMoves_kept (s : State) (d : Nat) : (s.releaseMoves d).kept = s.kept := by simp [State.releaseMoves]

@[simp] theorem State.axesFollow_kept (s : State) (d i : Nat) (back : Bool) :
    (s.axesFollow d i back).kept = s.kept := by simp [State.axesFollow]

@[simp] theorem State.axisEmit_kept (s : State) (a t knew : Nat) (x : Axis) :
    (s.axisEmit a t knew x).kept = s.kept := by simp [State.axisEmit]

@[simp] theorem State.axisEvent_kept (s : State) (a code : Nat) (more : List Nat) (irq : Bool) :
    (s.axisEvent a code more irq).kept = s.kept := by simp [State.axisEvent]

@[simp] theorem State.axisSetpos_kept (s : State) (a : Nat) : (s.axisSetpos a).kept = s.kept := by simp [State.axisSetpos]

@[simp] theorem State.axisStall_kept (s : State) (a : Nat) : (s.axisStall a).kept = s.kept := by simp [State.axisStall]

@[simp] theorem State.axisTakeDec_kept (s : State) (a : Nat) (finite : Bool) :
    (s.axisTakeDec a finite).kept = s.kept := by simp [State.axisTakeDec]

@[simp] theorem State.axisTravel_kept (s : State) (a : Nat) :
    (s.axisTravel a).kept = s.kept := by simp only [State.axisTravel]; split <;> simp

@[simp] theorem State.axisBrake_kept (s : State) (a : Nat) : (s.axisBrake a).kept = s.kept := by simp [State.axisBrake]

@[simp] theorem State.axisTo_kept (s : State) (a : Nat) (r : Int) : (s.axisTo a r).kept = s.kept := by simp [State.axisTo]

@[simp] theorem State.axisRatio_kept (s : State) (a : Nat) :
    (s.axisRatio a).kept = s.kept := by simp only [State.axisRatio]; (repeat' split) <;> simp

@[simp] theorem State.axisLag_kept (s : State) (a : Nat) : (s.axisLag a).kept = s.kept := by simp [State.axisLag]

@[simp] theorem State.axisFollow_kept (s : State) (a : Nat) : (s.axisFollow a).kept = s.kept := by simp [State.axisFollow]

@[simp] theorem State.axisMode_kept (s : State) (a : Nat) :
    (s.axisMode a).1.kept = s.kept := by simp only [State.axisMode]; (repeat' split) <;> simp

@[simp] theorem State.axisTargets_kept (s : State) (a : Nat) : (s.axisTargets a).kept = s.kept := by simp [State.axisTargets]

@[simp] theorem State.axisTick_kept (s : State) (a t : Nat) : (s.axisTick a t).kept = s.kept := by simp [State.axisTick]

/-! TimeOps. -/

@[simp] theorem State.onClock_kept (s : State) (f : Clock → Clock) : (s.onClock f).kept = s.kept := by simp [State.onClock]

@[simp] theorem State.setRate_kept (s : State) (r : Int) : (s.setRate r).kept = s.kept := by simp [State.setRate]

@[simp] theorem State.timeEvent_kept (s : State) (code : Nat) (payload : List Nat) :
    (s.timeEvent code payload).kept = s.kept := by simp [State.timeEvent]

@[simp] theorem State.decideStep_kept (s : State) (diff : Int) (why : Nat) :
    (s.decideStep diff why).kept = s.kept := by simp [State.decideStep]

@[simp] theorem State.servo_kept (s : State) : s.servo.kept = s.kept := by simp [State.servo]

@[simp] theorem State.takeOffset_kept (s : State) (o : Int) : (s.takeOffset o).kept = s.kept := by simp [State.takeOffset]

@[simp] theorem State.ptpLost_kept (s : State) : s.ptpLost.kept = s.kept := by simp [State.ptpLost]

@[simp] theorem State.setTimeSrc_kept (s : State) (v : Nat) : (s.setTimeSrc v).kept = s.kept := by simp [State.setTimeSrc]

@[simp] theorem State.setAdj_kept (s : State) (v : Nat) : (s.setAdj v).kept = s.kept := by simp [State.setAdj]

@[simp] theorem State.setTime_kept (s : State) (v : Nat) : (s.setTime v).kept = s.kept := by simp [State.setTime]

@[simp] theorem State.trgFires_kept (s : State) (k : Nat) : (s.trgFires k).kept = s.kept := by simp only [State.trgFires]; split <;> simp

@[simp] theorem State.trgOnce_kept (s : State) (k : Nat) : (s.trgOnce k).kept = s.kept := by simp [State.trgOnce]

@[simp] theorem State.trgCheck_kept (s : State) (k : Nat) (stepped : Bool) :
    (s.trgCheck k stepped).kept = s.kept := by simp [State.trgCheck]

@[simp] theorem State.trgStarted_kept (s : State) (k : Nat) : (s.trgStarted k).kept = s.kept := by simp [State.trgStarted]

@[simp] theorem State.makeStep_kept (s : State) (x : TimeStep) : (s.makeStep x).kept = s.kept := by simp [State.makeStep]

/-! EyeOps. -/

@[simp] theorem State.judgeHead_kept (s : State) (h : Nat) : (s.judgeHead h).kept = s.kept := by simp [State.judgeHead]

@[simp] theorem State.onHist_kept (s : State) (a : Nat) (f : NzHist → NzHist) : (s.onHist a f).kept = s.kept := by simp [State.onHist]

@[simp] theorem State.decodeLadder_kept (s : State) (d : Nat) (now : VisionPlane) (before : Option VisionPlane) (x : Printed)
    (bar : Nat) (lk : SlotLook) :
    (s.decodeLadder d now before x bar lk).kept = s.kept := by simp [State.decodeLadder]

@[simp] theorem State.setEbOut_kept (s : State) (a : Nat) (out : Bool) (line : Nat) :
    (s.setEbOut a out line).kept = s.kept := by simp [State.setEbOut]

@[simp] theorem State.onVerdict_kept (s : State) (v : Verdict) :
    (s.onVerdict v).kept = s.kept := by simp only [State.onVerdict]; (repeat' split) <;> simp

@[simp] theorem State.clearNozzles_kept (s : State) (which : Nat → Bool) (die word : Nat) (heads : List Nat) :
    (s.clearNozzles which die word heads).kept = s.kept := by simp [State.clearNozzles]

@[simp] theorem State.nextHist_kept (s : State) : s.nextHist.kept = s.kept := by simp [State.nextHist]

/-! CalOps. -/

@[simp] theorem State.onRun_kept (s : State) (r : Nat) (f : CalRun → CalRun) : (s.onRun r f).kept = s.kept := by simp [State.onRun]

@[simp] theorem State.endRun_kept (s : State) (r result cause : Nat) : (s.endRun r result cause).kept = s.kept := by simp [State.endRun]

@[simp] theorem State.failRun_kept (s : State) (r cause : Nat) : (s.failRun r cause).kept = s.kept := by simp [State.failRun]

@[simp] theorem State.cancelRun_kept (s : State) (r : Nat) : (s.cancelRun r).kept = s.kept := by simp [State.cancelRun]

@[simp] theorem State.cancelRuns_kept (s : State) : s.cancelRuns.kept = s.kept := by simp [State.cancelRuns]

@[simp] theorem State.assignSlots_kept (s : State) : s.assignSlots.kept = s.kept := by
  simp only [State.assignSlots]
  refine kept_foldl_fst (fun p r => ?_) _ _
  split <;> simp

@[simp] theorem State.startRun_kept (s : State) (r : Nat) : (s.startRun r).kept = s.kept := by simp [State.startRun]

@[simp] theorem State.slotLost_kept (s : State) (r code : Nat) (c : Claim) :
    (s.slotLost r code c).kept = s.kept := by simp only [State.slotLost]; split <;> simp

@[simp] theorem State.writeShade_kept (s : State) (v : CalValues) : (s.writeShade v).kept = s.kept := by simp [State.writeShade]

@[simp] theorem State.sendBulk_kept (s : State) (ws : List Nat) : (s.sendBulk ws).kept = s.kept := by simp [State.sendBulk]

@[simp] theorem State.captureCal_kept (s : State) (v : CalValues) (origin : Origin) :
    (s.captureCal v origin).1.kept = s.kept := by simp [State.captureCal]

@[simp] theorem State.finishRun_kept (s : State) (r : Nat) (cause : Nat) (v : CalValues) :
    (s.finishRun r cause v).kept = s.kept := by unfold State.finishRun; split <;> simp

@[simp] theorem State.calCompleted_kept (s : State) (id : Nat) :
    (s.calCompleted id).kept = s.kept := by simp only [State.calCompleted]; (repeat' split) <;> simp

@[simp] theorem State.calCancelled_kept (s : State) (id : Nat) :
    (s.calCancelled id).kept = s.kept := by unfold State.calCancelled; split <;> simp

@[simp] theorem State.tempMoved_kept (s : State) (g : Nat) :
    (s.tempMoved g).kept = s.kept := by simp only [State.tempMoved]; (repeat' split) <;> simp

@[simp] theorem State.camTempMoved_kept (s : State) (d : Nat) :
    (s.camTempMoved d).kept = s.kept := by unfold State.camTempMoved; split <;> simp

@[simp] theorem State.measureStrip_kept (s : State) (d : Nat) (now : VisionPlane) (before : Option VisionPlane) (r code : Nat) (c : Claim) :
    (s.measureStrip d now before r code c).kept = s.kept := by simp only [State.measureStrip]; (repeat' split) <;> simp

@[simp] theorem State.measureWhite_kept (s : State) (d : Nat) (now : VisionPlane) (c : Claim) :
    (s.measureWhite d now c).kept = s.kept := by simp [State.measureWhite]

@[simp] theorem State.judgeWhite_kept (s : State) (d : Nat) :
    (s.judgeWhite d).kept = s.kept := by simp only [State.judgeWhite]; split <;> simp

@[simp] theorem State.takeDark_kept (s : State) (d : Nat) (now : VisionPlane) : (s.takeDark d now).kept = s.kept := by simp [State.takeDark]

@[simp] theorem State.measureFrame_kept (s : State) (d : Nat) (now : VisionPlane) (before : Option VisionPlane) :
    (s.measureFrame d now before).kept = s.kept := by
  simp only [State.measureFrame]
  rw [kept_foldl]
  · (repeat' split) <;> simp
  · intro s e
    (repeat' split) <;> simp

@[simp] theorem State.endXfer_kept (s : State) (status : Nat) : (s.endXfer status).kept = s.kept := by simp [State.endXfer]

@[simp] theorem State.endImport_kept (s : State) (status : Nat) : (s.endImport status).kept = s.kept := by simp [State.endImport]

@[simp] theorem State.refuseImport_kept (s : State) (status offset : Nat) :
    (s.refuseImport status offset).kept = s.kept := by simp [State.refuseImport]

@[simp] theorem State.applyImport_kept (s : State) (v : CalValues) : (s.applyImport v).kept = s.kept := by simp [State.applyImport]

/-! ZipOps. -/

@[simp] theorem State.onZip_kept (s : State) (f : Zip → Zip) : (s.onZip f).kept = s.kept := by simp [State.onZip]

@[simp] theorem State.setDUnit_kept (s : State) (d u : Nat) (x : DUnit) : (s.setDUnit d u x).kept = s.kept := by simp [State.setDUnit]

@[simp] theorem State.zipError_kept (s : State) (d unit code tag bar : Nat) (comp : Bool) :
    (s.zipError d unit code tag bar comp).kept = s.kept := by simp [State.zipError]

@[simp] theorem State.answerWork_kept (s : State) (ring seq status code bytes crc : Nat) :
    (s.answerWork ring seq status code bytes crc).kept = s.kept := by unfold State.answerWork; split <;> simp

@[simp] theorem State.idleDUnit_kept (s : State) (d u : Nat) : (s.idleDUnit d u).kept = s.kept := by simp [State.idleDUnit]

@[simp] theorem State.abortUnit_kept (s : State) (d u code : Nat) : (s.abortUnit d u code).kept = s.kept := by simp [State.abortUnit]

@[simp] theorem State.stage_kept (s : State) (d u dec n : Nat) : (s.stage d u dec n).kept = s.kept := by simp [State.stage]

@[simp] theorem State.pageProduced_kept (s : State) (j bar ring seq : Nat) :
    (s.pageProduced j bar ring seq).kept = s.kept := by simp only [State.pageProduced]; split <;> simp

@[simp] theorem State.finishUnit_kept (s : State) (d u : Nat) : (s.finishUnit d u).kept = s.kept := by simp [State.finishUnit]

@[simp] theorem State.runUnit_kept (s : State) (d u : Nat) (x : DUnit) (a : Nat) :
    (s.runUnit d u x a).kept = s.kept := by simp [State.runUnit]

@[simp] theorem State.setCUnit_kept (s : State) (d u : Nat) (x : CUnit) : (s.setCUnit d u x).kept = s.kept := by simp [State.setCUnit]

@[simp] theorem State.writeChain_kept (s : State) (chain : List (Nat × Nat)) (bs : List Nat) : (s.writeChain chain bs).kept = s.kept := by
  induction chain generalizing s bs with
  | nil => rfl
  | cons e r ih => simp [State.writeChain, ih]

@[simp] theorem State.releaseChain_kept (s : State) (j : CJob) (n : Nat) :
    (s.releaseChain j n).kept = s.kept := by unfold State.releaseChain; split <;> simp

@[simp] theorem State.dumpEnd_kept (s : State) (status : Nat) : (s.dumpEnd status).kept = s.kept := by simp [State.dumpEnd]

@[simp] theorem State.tellOwner_kept (s : State) (j : CJob) (code bytes : Nat) :
    (s.tellOwner j code bytes).kept = s.kept := by unfold State.tellOwner; split <;> simp

@[simp] theorem State.endComp_kept (s : State) (d u code n : Nat) :
    (s.endComp d u code n).kept = s.kept := by simp only [State.endComp]; split <;> simp

@[simp] theorem State.abortComp_kept (s : State) (d u code : Nat) : (s.abortComp d u code).kept = s.kept := by simp [State.abortComp]

@[simp] theorem State.cutComp_kept (s : State) (d u code : Nat) : (s.cutComp d u code).kept = s.kept := by simp [State.cutComp]

@[simp] theorem State.pumpComp_kept (s : State) (d u : Nat) :
    (s.pumpComp d u).kept = s.kept := by simp only [State.pumpComp]; split <;> simp

@[simp] theorem State.startComp_kept (s : State) (d u : Nat) (j : CJob) : (s.startComp d u j).kept = s.kept := by simp [State.startComp]

@[simp] theorem State.dropWork_kept (s : State) (e : Entry) : (s.dropWork e).kept = s.kept := by simp [State.dropWork]

@[simp] theorem State.returnWork_kept (s : State) (q : Nat) : (s.returnWork q).kept = s.kept := by unfold State.returnWork; split <;> simp

@[simp] theorem State.zipStopping_kept (s : State) (d : Nat) : (s.zipStopping d).kept = s.kept := by simp [State.zipStopping]

/-! EnRun. -/

@[simp] theorem State.onBoot_kept (s : State) (f : Boot → Boot) : (s.onBoot f).kept = s.kept := by simp [State.onBoot]

@[simp] theorem State.foundEvent_kept (s : State) (b : Block) (found : List Nat) :
    (s.foundEvent b found).kept = s.kept := by unfold State.foundEvent; split <;> simp

@[simp] theorem State.groupDown_kept (s : State) (g : Nat) (down : Bool) : (s.groupDown g down).kept = s.kept := by simp [State.groupDown]

@[simp] theorem State.abandonStart_kept (s : State) (b : Block) :
    (s.abandonStart b).kept = s.kept := by unfold State.abandonStart; split <;> simp

@[simp] theorem State.startBegins_kept (s : State) (b : Block) :
    (s.startBegins b).kept = s.kept := by unfold State.startBegins; split <;> simp

@[simp] theorem State.beginStart_kept (s : State) (b : Block) : (s.beginStart b).kept = s.kept := by simp [State.beginStart]

@[simp] theorem State.rasStarted_kept (s : State) (p : Nat) : (s.rasStarted p).kept = s.kept := by simp [State.rasStarted]

@[simp] theorem State.webLost_kept (s : State) (p : Nat) : (s.webLost p).kept = s.kept := by simp [State.webLost]

@[simp] theorem State.loseAtStart_kept (s : State) (p : Nat) : (s.loseAtStart p).kept = s.kept := by simp [State.loseAtStart]

@[simp] theorem State.pacerStarted_kept (s : State) (p : Nat) : (s.pacerStarted p).kept = s.kept := by simp [State.pacerStarted]

@[simp] theorem State.pacerStopping_kept (s : State) (p : Nat) : (s.pacerStopping p).kept = s.kept := by
  simp only [State.pacerStopping]
  exact kept_foldl (fun s i => by (repeat' split) <;> simp) _ _

@[simp] theorem State.lanStopping_kept (s : State) (g : Nat) :
    (s.lanStopping g).kept = s.kept := by simp only [State.lanStopping]; split <;> simp

@[simp] theorem State.inputStarted_kept (s : State) (f : Nat) (single : Bool) :
    (s.inputStarted f single).kept = s.kept := by simp [State.inputStarted]

@[simp] theorem State.inputStopping_kept (s : State) (f : Nat) : (s.inputStopping f).kept = s.kept := by simp [State.inputStopping]

@[simp] theorem State.startDone_kept (s : State) (b : Block) (found : List Nat) :
    (s.startDone b found).kept = s.kept := by unfold State.startDone; split <;> simp

@[simp] theorem State.stopBegins_kept (s : State) (b : Block) : (s.stopBegins b).kept = s.kept := by unfold State.stopBegins; split <;> simp

@[simp] theorem State.stopDone_kept (s : State) (b : Block) : (s.stopDone b).kept = s.kept := by unfold State.stopDone; split <;> simp

@[simp] theorem State.stopDiscards_kept (s : State) (b : Block) :
    (s.stopDiscards b).kept = s.kept := by unfold State.stopDiscards; split <;> simp

@[simp] theorem State.enWrite_kept (s : State) (b : Block) (en : Bool) :
    (s.enWrite b en).kept = s.kept := by simp only [State.enWrite]; (repeat' split) <;> simp

@[simp] theorem State.completeStart_kept (s : State) (b : Block) (found : List Nat) :
    (s.completeStart b found).kept = s.kept := by simp [State.completeStart]

@[simp] theorem State.afterStop_kept (s : State) (b : Block) : (s.afterStop b).kept = s.kept := by simp [State.afterStop]

@[simp] theorem State.completeStop_kept (s : State) (b : Block) : (s.completeStop b).kept = s.kept := by simp [State.completeStop]

@[simp] theorem State.stopTimeout_kept (s : State) (b : Block) : (s.stopTimeout b).kept = s.kept := by simp [State.stopTimeout]

/-! LoaderOps. -/

@[simp] theorem State.onLd_kept (s : State) (f : Loader → Loader) : (s.onLd f).kept = s.kept := by simp [State.onLd]

@[simp] theorem State.setLoader_kept (s : State) (v : Nat) : (s.setLoader v).kept = s.kept := by simp [State.setLoader]

@[simp] theorem State.loaderRest_kept (s : State) : s.loaderRest.kept = s.kept := by simp [State.loaderRest]

@[simp] theorem State.packStage_kept (s : State) : s.packStage.kept = s.kept := by simp [State.packStage]

@[simp] theorem State.setStage_kept (s : State) (d n : Nat) : (s.setStage d n).kept = s.kept := by simp [State.setStage]

@[simp] theorem State.setStages_kept (s : State) (n : Nat) : (s.setStages n).kept = s.kept := by simp [State.setStages]

@[simp] theorem State.setFailed_kept (s : State) (rows : List Nat) : (s.setFailed rows).kept = s.kept := by simp [State.setFailed]

@[simp] theorem State.bootFail_kept (s : State) (row : Nat) : (s.bootFail row).kept = s.kept := by simp [State.bootFail]

@[simp] theorem State.noteReject_kept (s : State) (err sec word : Nat) :
    (s.noteReject err sec word).kept = s.kept := by simp [State.noteReject]

@[simp] theorem State.releaseSource_kept (s : State) : s.releaseSource.kept = s.kept := by simp [State.releaseSource]

@[simp] theorem State.setSlot_kept (s : State) (n : Nat) (ws : Option (List Nat)) :
    (s.setSlot n ws).kept = s.kept := by simp [State.setSlot]

@[simp] theorem State.openLoad_kept (s : State) (c : LoadCmd) : (s.openLoad c).kept = s.kept := by simp [State.openLoad]

@[simp] theorem State.autoTry_kept (s : State) (slots : List Nat) : (s.autoTry slots).kept = s.kept := by
  induction slots generalizing s with
  | nil => simp [State.autoTry]
  | cons src r ih => simp only [State.autoTry]; split <;> simp [ih]

@[simp] theorem State.rejectLoad_kept (s : State) (err sec word : Nat) :
    (s.rejectLoad err sec word).kept = s.kept := by simp [State.rejectLoad]

@[simp] theorem State.closeSection_kept (s : State) :
    s.closeSection.kept = s.kept := by simp only [State.closeSection]; (repeat' split) <;> simp

@[simp] theorem State.received_kept (s : State) : s.received.kept = s.kept := by simp only [State.received]; (repeat' split) <;> simp

@[simp] theorem State.imageWord_kept (s : State) (w : Nat) : (s.imageWord w).kept = s.kept := by simp only [State.imageWord]; split <;> simp

@[simp] theorem State.clearSI_kept (s : State) : s.clearSI.kept = s.kept := by simp [State.clearSI]

@[simp] theorem State.groupFields_kept (s : State) (m : Image) (g : Nat) : (s.groupFields m g).kept = s.kept := by simp [State.groupFields]

@[simp] theorem State.widthField_kept (s : State) (m : Image) (p : Nat) : (s.widthField m p).kept = s.kept := by simp [State.widthField]

@[simp] theorem State.setSI_kept (s : State) (m : Image) : (s.setSI m).kept = s.kept := by simp [State.setSI]

@[simp] theorem State.judgeGeometry_kept (s : State) (m : Image) : (s.judgeGeometry m).kept = s.kept := by simp [State.judgeGeometry]

@[simp] theorem State.setEnSI_kept (s : State) (m : Image) : (s.setEnSI m).kept = s.kept := by simp [State.setEnSI]

@[simp] theorem State.reloadEngines_kept (s : State) : s.reloadEngines.kept = s.kept := by simp [State.reloadEngines]

@[simp] theorem State.reloadGroups_kept (s : State) : s.reloadGroups.kept = s.kept := by simp [State.reloadGroups]

@[simp] theorem State.memStage_kept (s : State) (d : Nat) (trained init : Bool) :
    (s.memStage d trained init).kept = s.kept := by simp [State.memStage]

@[simp] theorem State.startTraining_kept (s : State) (d : Nat) : (s.startTraining d).kept = s.kept := by simp [State.startTraining]

@[simp] theorem State.clearFail_kept (s : State) (row : Nat) : (s.clearFail row).kept = s.kept := by simp [State.clearFail]

@[simp] theorem State.switchBanks_kept (s : State) : s.switchBanks.kept = s.kept := by simp [State.switchBanks]

@[simp] theorem State.overlayCaptured_kept (s : State) (fs : List (Nat × Nat)) (m : Image) (id : Nat) (ok : Bool) :
    (s.overlayCaptured fs m id ok).kept = s.kept := by simp [State.overlayCaptured]

@[simp] theorem State.switchBar_kept (s : State) (p line : Nat) :
    (s.switchBar p line).kept = s.kept := by simp only [State.switchBar]; split <;> simp

@[simp] theorem State.overlayDone_kept (s : State) (id : Nat) : (s.overlayDone id).kept = s.kept := by simp [State.overlayDone]

@[simp] theorem State.overlayCancelled_kept (s : State) : s.overlayCancelled.kept = s.kept := by simp [State.overlayCancelled]

/-! SdramOps. -/

@[simp] theorem State.onSdram_kept (s : State) (f : Sdram → Sdram) : (s.onSdram f).kept = s.kept := by simp [State.onSdram]

@[simp] theorem State.memEvent_kept (s : State) (d code : Nat) (payload : List Nat) :
    (s.memEvent d code payload).kept = s.kept := by simp [State.memEvent]

@[simp] theorem State.askSetpoint_kept (s : State) (d sp : Nat) : (s.askSetpoint d sp).kept = s.kept := by simp [State.askSetpoint]

@[simp] theorem State.retire_kept (s : State) (d r : Nat) (ue : Option Nat) :
    (s.retire d r ue).kept = s.kept := by simp only [State.retire]; (repeat' split) <;> simp

@[simp] theorem State.takeSpare_kept (s : State) (d r sp : Nat) : (s.takeSpare d r sp).kept = s.kept := by simp [State.takeSpare]

/-! ApplyOps. -/

@[simp] theorem State.partApplied_kept (s : State) (c : Commit) (k : Consumer) (print : Bool) :
    (s.partApplied c k print).kept = s.kept := by simp [State.partApplied]

@[simp] theorem State.delaysChanged_kept (s before : State) (p : Nat) (adv : Bool) :
    (s.delaysChanged before p adv).kept = s.kept := by simp [State.delaysChanged]

@[simp] theorem State.barApplied_kept (s : State) (p : Nat) (fs : List (Nat × Nat)) (before : State) :
    (s.barApplied p fs before).kept = s.kept := by simp only [State.barApplied]; (repeat' split) <;> simp

@[simp] theorem State.blockApplied_kept (s : State) (d blk : Nat) (fs : List (Nat × Nat)) (before : State) :
    (s.blockApplied d blk fs before).kept = s.kept := by unfold State.blockApplied; split <;> simp

@[simp] theorem State.requestAll_kept (s : State) (fs : List (Nat × Nat)) : (s.requestAll fs).kept = s.kept := by
  simp only [State.requestAll]
  exact kept_foldl (fun s f => by split <;> simp) _ _

@[simp] theorem State.dispApplied_kept (s : State) (id : Nat) (fs : List (Nat × Nat)) :
    (s.dispApplied id fs).kept = s.kept := by simp [State.dispApplied]

@[simp] theorem State.applyPart_kept (s : State) (c : Commit) (k : Consumer) (print : Bool) :
    (s.applyPart c k print).kept = s.kept := by unfold State.applyPart; split <;> simp

@[simp] theorem State.completeCommit_kept (s : State) (c : Commit) : (s.completeCommit c).kept = s.kept := by simp [State.completeCommit]

@[simp] theorem State.dropParts_kept (s : State) (c : Commit) : (s.dropParts c).kept = s.kept := by simp [State.dropParts]

@[simp] theorem State.cancelCommit_kept (s : State) (c : Commit) : (s.cancelCommit c).kept = s.kept := by simp [State.cancelCommit]

/-! EpochOps. -/

@[simp] theorem State.cancelSnap_kept (s : State) : s.cancelSnap.kept = s.kept := by simp [State.cancelSnap]

@[simp] theorem State.zeroDie_kept (s : State) (d : Nat) : (s.zeroDie d).kept = s.kept := by
  simp only [State.zeroDie]
  split <;> simp

@[simp] theorem State.zeroLines_kept (s : State) : s.zeroLines.kept = s.kept := by simp [State.zeroLines]

@[simp] theorem State.largeDivergence_kept (s : State) (d : Nat) : (s.largeDivergence d).kept = s.kept := by simp [State.largeDivergence]

@[simp] theorem State.correctCount_kept (s : State) (d : Nat) (diff : Int) :
    (s.correctCount d diff).kept = s.kept := by simp [State.correctCount]

@[simp] theorem State.judgeRound_kept (s : State) (r : EncRound) : (s.judgeRound r).kept = s.kept := by simp [State.judgeRound]

@[simp] theorem State.missedRound_kept (s : State) (d : Nat) : (s.missedRound d).kept = s.kept := by simp [State.missedRound]

/-! PairOps. -/

@[simp] theorem State.pairEvent_kept (s : State) (code : Nat) (payload : List Nat) :
    (s.pairEvent code payload).kept = s.kept := by simp [State.pairEvent]

@[simp] theorem State.sendStatus_kept (s : State) : s.sendStatus.kept = s.kept := by simp [State.sendStatus]

@[simp] theorem State.takeEpoch_kept (s : State) (e : Nat) : (s.takeEpoch e).kept = s.kept := by simp [State.takeEpoch]

@[simp] theorem State.setRole_kept (s : State) (r : Nat) : (s.setRole r).kept = s.kept := by simp [State.setRole]

@[simp] theorem State.dropHandover_kept (s : State) : s.dropHandover.kept = s.kept := by simp [State.dropHandover]

@[simp] theorem State.partnerGone_kept (s : State) : s.partnerGone.kept = s.kept := by simp [State.partnerGone]

@[simp] theorem State.fence_kept (s : State) (cause : Nat) : (s.fence cause).kept = s.kept := by simp [State.fence]

@[simp] theorem State.leadAlone_kept (s : State) : s.leadAlone.kept = s.kept := by simp [State.leadAlone]

@[simp] theorem State.captured_kept (s : State) (c : PairCapture) (id line : Nat) (ok : Bool) :
    (s.captured c id line ok).kept = s.kept := by simp only [State.captured]; (repeat' split) <;> simp

@[simp] theorem State.matchCommit_kept (s : State) (c : PairCapture) (id line status : Nat) :
    (s.matchCommit c id line status).kept = s.kept := by simp [State.matchCommit]

@[simp] theorem State.releaseCaptures_kept (s : State) : s.releaseCaptures.kept = s.kept := by
  simp only [State.releaseCaptures]
  rw [kept_foldl (by simp), kept_foldl]
  · simp
  · intro s m
    split <;> simp

@[simp] theorem State.leaveStep_kept (s : State) : s.leaveStep.kept = s.kept := by simp [State.leaveStep]

@[simp] theorem State.commitMismatch_kept (s : State) (id cause : Nat) :
    (s.commitMismatch id cause).kept = s.kept := by simp [State.commitMismatch]

@[simp] theorem State.matchOne_kept (s : State) (c : PairCapture) (m : PairDue) : (s.matchOne c m).kept = s.kept := by simp [State.matchOne]

@[simp] theorem State.matchAll_kept (s : State) (fuel : Nat) : (s.matchAll fuel).kept = s.kept := by
  induction fuel generalizing s with
  | zero => rfl
  | succ n ih => simp only [State.matchAll]; (repeat' split) <;> simp [ih]

@[simp] theorem State.pairMissing_kept (s : State) : s.pairMissing.kept = s.kept := by unfold State.pairMissing; split <;> simp

@[simp] theorem State.standbyCapture_kept (s : State) (c : PairCapture) :
    (s.standbyCapture c).kept = s.kept := by simp [State.standbyCapture]

@[simp] theorem State.takeover_kept (s : State) (cause lr : Nat) :
    (s.takeover cause lr).kept = s.kept := by simp only [State.takeover]; split <;> simp

@[simp] theorem State.sendLineSync_kept (s : State) : s.sendLineSync.kept = s.kept := by simp [State.sendLineSync]

@[simp] theorem State.alignDie_kept (s : State) (d : Nat) (shift : Int) (line : Nat) :
    (s.alignDie d shift line).kept = s.kept := by simp [State.alignDie]

@[simp] theorem State.alignLines_kept (s : State) (line : Nat) (count : Int) :
    (s.alignLines line count).kept = s.kept := by simp [State.alignLines]

@[simp] theorem State.shiftZero_kept (s : State) (diff : Int) : (s.shiftZero diff).kept = s.kept := by simp [State.shiftZero]

@[simp] theorem State.decideMode_kept (s : State) : s.decideMode.kept = s.kept := by simp [State.decideMode]

@[simp] theorem State.catchUp_kept (s : State) : s.catchUp.kept = s.kept := by
  simp only [State.catchUp]
  rw [kept_foldl (by simp), kept_foldl]
  · simp
  · intro s e
    (repeat' split) <;> simp

@[simp] theorem State.takeHealth_kept (s : State) (d : Nat) (body : List Nat) :
    (s.takeHealth d body).kept = s.kept := by simp [State.takeHealth]

@[simp] theorem State.takeBulk_kept (s : State) : s.takeBulk.kept = s.kept := by unfold State.takeBulk; split <;> simp

@[simp] theorem State.judgeReady_kept (s : State) : s.judgeReady.kept = s.kept := by unfold State.judgeReady; split <;> simp

@[simp] theorem State.adoptCtx_kept (s : State) (j line id : Nat) (stop : Bool) :
    (s.adoptCtx j line id stop).kept = s.kept := by simp only [State.adoptCtx]; (repeat' split) <;> simp

@[simp] theorem State.caughtUp_kept (s : State) (part : Nat) : (s.caughtUp part).kept = s.kept := by simp [State.caughtUp]

@[simp] theorem State.classFrom_kept (s : State) (old : Nat) : (s.classFrom old).kept = s.kept := by simp [State.classFrom]

/-! MonOps. -/

@[simp] theorem State.onMon_kept (s : State) (f : Mon → Mon) : (s.onMon f).kept = s.kept := by simp [State.onMon]

@[simp] theorem State.monEvent_kept (s : State) (d code : Nat) (payload : List Nat) :
    (s.monEvent d code payload).kept = s.kept := by simp [State.monEvent]

@[simp] theorem State.monWarn_kept (s : State) (d : Nat) (temps : List Int) :
    (s.monWarn d temps).kept = s.kept := by simp only [State.monWarn]; (repeat' split) <;> simp

@[simp] theorem State.hotFence_kept (s : State) (d : Nat) : (s.hotFence d).kept = s.kept := by simp [State.hotFence]

@[simp] theorem State.monCrit_kept (s : State) (d : Nat) (temps : List Int) :
    (s.monCrit d temps).kept = s.kept := by unfold State.monCrit; split <;> simp

@[simp] theorem State.monRails_kept (s : State) (d : Nat) (mv : List Nat) : (s.monRails d mv).kept = s.kept := by simp [State.monRails]

/-! RecorderOps. -/

@[simp] theorem State.postRec_kept (s : State) (r : Rec) : (s.postRec r).kept = s.kept := by simp [State.postRec]

@[simp] theorem State.loseRec_kept (s : State) (r : Rec) : (s.loseRec r).kept = s.kept := by simp [State.loseRec]

@[simp] theorem State.enqueueRec_kept (s : State) (r : Rec) : (s.enqueueRec r).kept = s.kept := by simp [State.enqueueRec]

@[simp] theorem State.closeRec_kept (s : State) : s.closeRec.kept = s.kept := by unfold State.closeRec; split <;> simp

@[simp] theorem State.eventArrives_kept (s : State) (e : Raised) :
    (s.eventArrives e).kept = s.kept := by unfold State.eventArrives; split <;> simp

@[simp] theorem State.reportLost_kept (s : State) : s.reportLost.kept = s.kept := by unfold State.reportLost; split <;> simp

@[simp] theorem State.closeWindow_kept (s : State) (w : Window) :
    (s.closeWindow w).kept = s.kept := by simp only [State.closeWindow]; split <;> simp

@[simp] theorem State.scanRing_kept (s : State) : s.scanRing.kept = s.kept := by simp [State.scanRing]

@[simp] theorem State.slotWritten_kept (s : State) (verified : Bool) (r : Rec) :
    (s.slotWritten verified r).kept = s.kept := by simp [State.slotWritten]

/-! ReadOps. -/

@[simp] theorem State.clearRC_kept (s : State) (a : Nat) : (s.clearRC a).kept = s.kept := by simp [State.clearRC]

@[simp] theorem State.measure_kept (s : State) (a : Nat) : (s.measure a).kept = s.kept := by simp [State.measure]

@[simp] theorem State.readSlot_kept (s : State) (a : Nat) :
    (s.readSlot a).2.kept = s.kept := by simp only [State.readSlot]; (repeat' split) <;> simp

@[simp] theorem State.latchSnap_kept (s : State) (d : Nat) : (s.latchSnap d).kept = s.kept := by unfold State.latchSnap; split <;> simp

/-! Epoch. -/

@[simp] theorem State.requestZero_kept (s : State) : s.requestZero.kept = s.kept := by simp [State.requestZero]

@[simp] theorem execEpochZero_leadsOn (key : Word) (s : State) : LeadsOn s (execEpochZero key s) := by simp [execEpochZero]

@[simp] theorem State.commitStaged_kept (s : State) (safe snap : Bool) (lead : Option Nat) :
    (s.commitStaged safe snap lead).kept = s.kept := by simp [State.commitStaged]

@[simp] theorem State.commitWaiting_kept (s : State) (safe snap : Bool) :
    (s.commitWaiting safe snap).kept = s.kept := by simp [State.commitWaiting]

@[simp] theorem execEpochCommit_leadsOn (safe snap : Bool) (s : State) :
    LeadsOn s (execEpochCommit safe snap s) := by simp [execEpochCommit]

@[simp] theorem execCommitApply_leadsOn (id : Nat) (k : Consumer) (print : Bool) (t : Nat) (s : State) :
    LeadsOn s (execCommitApply id k print t s) := by simp only [execCommitApply]; split <;> simp

@[simp] theorem execCommitComplete_leadsOn (id t : Nat) (s : State) :
    LeadsOn s (execCommitComplete id t s) := by simp only [execCommitComplete]; split <;> simp

@[simp] theorem State.cancelById_kept (s : State) (id : Nat) : (s.cancelById id).kept = s.kept := by unfold State.cancelById; split <;> simp

@[simp] theorem execEpochCancel_leadsOn (id : Nat) (s : State) : LeadsOn s (execEpochCancel id s) := by simp [execEpochCancel]

@[simp] theorem State.requestSnap_kept (s : State) (now : Bool) : (s.requestSnap now).kept = s.kept := by simp [State.requestSnap]

@[simp] theorem execSnapReq_leadsOn (now : Bool) (s : State) : LeadsOn s (execSnapReq now s) := by simp [execSnapReq]

@[simp] theorem execSnapshotLatch_leadsOn (d t : Nat) (s : State) :
    LeadsOn s (execSnapshotLatch d t s) := by simp only [execSnapshotLatch]; split <;> simp

@[simp] theorem execSnapshotTimed_leadsOn (t : Nat) (s : State) :
    LeadsOn s (execSnapshotTimed t s) := by simp only [execSnapshotTimed]; split <;> simp

@[simp] theorem State.openRound_kept (s : State) : s.openRound.kept = s.kept := by simp [State.openRound]

@[simp] theorem execEncRoundOpen_leadsOn (t : Nat) (s : State) : LeadsOn s (execEncRoundOpen t s) := by simp [execEncRoundOpen]

@[simp] theorem execEncRoundLatch_leadsOn (silent : List Nat) (t : Nat) (s : State) :
    LeadsOn s (execEncRoundLatch silent t s) := by simp [execEncRoundLatch]

@[simp] theorem execEncRoundJudge_leadsOn (t : Nat) (s : State) :
    LeadsOn s (execEncRoundJudge t s) := by simp only [execEncRoundJudge]; split <;> simp

@[simp] theorem execEncRoundDeadline_leadsOn (t : Nat) (s : State) :
    LeadsOn s (execEncRoundDeadline t s) := by simp only [execEncRoundDeadline]; split <;> simp

/-! Loader. -/

@[simp] theorem execStructLoad_leadsOn (s : State) : LeadsOn s (execStructLoad s) := by unfold execStructLoad; split <;> simp

@[simp] theorem execStructFifoWrite_leadsOn (w : Word) (s : State) : LeadsOn s (execStructFifoWrite w s) := by simp [execStructFifoWrite]

@[simp] theorem execImageWordReceived_leadsOn (t : Nat) (s : State) :
    LeadsOn s (execImageWordReceived t s) := by simp only [execImageWordReceived]; (repeat' split) <;> simp

@[simp] theorem State.captureOverlay_kept (s : State) : s.captureOverlay.kept = s.kept := by simp [State.captureOverlay]

@[simp] theorem execStructVerifyDone_leadsOn (t : Nat) (s : State) :
    LeadsOn s (execStructVerifyDone t s) := by simp only [execStructVerifyDone]; (repeat' split) <;> simp

@[simp] theorem execStructBanksSwitched_leadsOn (t : Nat) (s : State) :
    LeadsOn s (execStructBanksSwitched t s) := by simp [execStructBanksSwitched]

@[simp] theorem execStructStoreDone_leadsOn (written : Bool) (t : Nat) (s : State) :
    LeadsOn s (execStructStoreDone written t s) := by simp [execStructStoreDone]

@[simp] theorem execStructFifoTimeout_leadsOn (t : Nat) (s : State) :
    LeadsOn s (execStructFifoTimeout t s) := by simp [execStructFifoTimeout]

/-! Pacing. -/

@[simp] theorem State.judgeReads_kept (s : State) (p f : Nat) (reads : List LineRec) (bad : List Nat) :
    (s.judgeReads p f reads bad).kept = s.kept := by simp [State.judgeReads]

@[simp] theorem State.webRestore_kept (s : State) (p : Nat) (boundary : Bool) :
    (s.webRestore p boundary).kept = s.kept := by simp [State.webRestore]

@[simp] theorem State.jobSpeed_kept (s : State) (p : Nat) (l : Int) : (s.jobSpeed p l).kept = s.kept := by simp [State.jobSpeed]

@[simp] theorem State.judgeMissing_kept (s : State) (p : Nat) (lines : List Nat) :
    (s.judgeMissing p lines).kept = s.kept := by simp [State.judgeMissing]

@[simp] theorem State.markFired_kept (s : State) (p : Nat) (l : Int) : (s.markFired p l).kept = s.kept := by simp [State.markFired]

@[simp] theorem execLineTrigger_leadsOn (g f sof : Nat) (bad : List Nat) (s : State) :
    LeadsOn s (execLineTrigger g f sof bad s) := by simp [execLineTrigger]

@[simp] theorem execStrobeFire_leadsOn (g f : Nat) (s : State) :
    LeadsOn s (execStrobeFire g f s) := by simp only [execStrobeFire]; split <;> simp

@[simp] theorem execStrobeWithdraw_leadsOn (g f : Nat) (s : State) : LeadsOn s (execStrobeWithdraw g f s) := by simp [execStrobeWithdraw]

@[simp] theorem execRejectSpanStart_leadsOn (s : State) : LeadsOn s (execRejectSpanStart s) := by simp [execRejectSpanStart]

@[simp] theorem execRejectSpanEnd_leadsOn (s : State) : LeadsOn s (execRejectSpanEnd s) := by simp [execRejectSpanEnd]

@[simp] theorem execStrobeCut_leadsOn (g width : Nat) (s : State) : LeadsOn s (execStrobeCut g width s) := by simp [execStrobeCut]

@[simp] theorem execStrobeStuck_leadsOn (g : Nat) (s : State) : LeadsOn s (execStrobeStuck g s) := by simp [execStrobeStuck]

@[simp] theorem execPeriodGuard_leadsOn (g interval : Nat) (s : State) :
    LeadsOn s (execPeriodGuard g interval s) := by simp [execPeriodGuard]

@[simp] theorem execGroupFaultClear_leadsOn (g : Nat) (high : Bool) (s : State) :
    LeadsOn s (execGroupFaultClear g high s) := by simp [execGroupFaultClear]

@[simp] theorem State.tickleStrobe_kept (s : State) (g f pw line : Nat) (lanes : List (Nat × Nat)) :
    (s.tickleStrobe g f pw line lanes).kept = s.kept := by simp [State.tickleStrobe]

@[simp] theorem execPacerTickle_leadsOn (g f : Nat) (s : State) : LeadsOn s (execPacerTickle g f s) := by simp [execPacerTickle]

/-! Pair. -/

@[simp] theorem State.loadPairCfg_kept (s : State) (w : List Nat) : (s.loadPairCfg w).kept = s.kept := by simp [State.loadPairCfg]

@[simp] theorem State.rejoin_kept (s : State) : s.rejoin.kept = s.kept := by simp [State.rejoin]

@[simp] theorem State.pairConfigured_kept (s : State) : s.pairConfigured.kept = s.kept := by simp [State.pairConfigured]

@[simp] theorem execPairConfig_leadsOn (written : Bool) (s : State) :
    LeadsOn s (execPairConfig written s) := by unfold execPairConfig; split <;> simp

@[simp] theorem execPairTakeoverHandover_leadsOn (s : State) :
    LeadsOn s (execPairTakeoverHandover s) := by unfold execPairTakeoverHandover; split <;> simp

@[simp] theorem execPairTakeoverForce_leadsOn (t : Nat) (s : State) :
    LeadsOn s (execPairTakeoverForce t s) := by unfold execPairTakeoverForce; split <;> simp

@[simp] theorem State.pairDown_kept (s : State) (cause : Nat) : (s.pairDown cause).kept = s.kept := by simp [State.pairDown]

@[simp] theorem execPairLinkUp_leadsOn (latency aligned t : Nat) (s : State) :
    LeadsOn s (execPairLinkUp latency aligned t s) := by simp [execPairLinkUp]

@[simp] theorem execPairLinkDown_leadsOn (lanes : Bool) (replays t : Nat) (s : State) :
    LeadsOn s (execPairLinkDown lanes replays t s) := by simp [execPairLinkDown]

@[simp] theorem execPairLinkRetry_leadsOn (t : Nat) (s : State) : LeadsOn s (execPairLinkRetry t s) := by simp [execPairLinkRetry]

@[simp] theorem execPairLaneFail_leadsOn (lane t : Nat) (s : State) : LeadsOn s (execPairLaneFail lane t s) := by simp [execPairLaneFail]

@[simp] theorem State.renew_kept (s : State) : s.renew.kept = s.kept := by simp [State.renew]

@[simp] theorem execRenewSend_leadsOn (t : Nat) (s : State) : LeadsOn s (execRenewSend t s) := by simp [execRenewSend]

@[simp] theorem execRenewReceived_leadsOn (line epoch number t : Nat) (s : State) :
    LeadsOn s (execRenewReceived line epoch number t s) := by simp [execRenewReceived]

@[simp] theorem execAckReceived_leadsOn (epoch number t : Nat) (s : State) :
    LeadsOn s (execAckReceived epoch number t s) := by simp only [execAckReceived]; split <;> simp

@[simp] theorem execLeaseFence_leadsOn (t : Nat) (s : State) : LeadsOn s (execLeaseFence t s) := by simp [execLeaseFence]

@[simp] theorem execLeaseExpiry_leadsOn (t : Nat) (s : State) : LeadsOn s (execLeaseExpiry t s) := by simp [execLeaseExpiry]

@[simp] theorem execPairStatusReceived_leadsOn (dclass image role : Nat) (ready detached prefer : Bool) (seen t : Nat) (s : State) :
    LeadsOn s (execPairStatusReceived dclass image role ready detached prefer seen t s) := by simp [execPairStatusReceived]

@[simp] theorem execControlReady_leadsOn (t : Nat) (s : State) : LeadsOn s (execControlReady t s) := by simp [execControlReady]

@[simp] theorem State.leaseEnds_kept (s : State) : s.leaseEnds.kept = s.kept := by simp [State.leaseEnds]

@[simp] theorem execControlUnready_leadsOn (t : Nat) (s : State) : LeadsOn s (execControlUnready t s) := by simp [execControlUnready]

@[simp] theorem execControlLeave_leadsOn (t : Nat) (s : State) : LeadsOn s (execControlLeave t s) := by simp [execControlLeave]

@[simp] theorem execControlDrop_leadsOn (t : Nat) (s : State) : LeadsOn s (execControlDrop t s) := by simp [execControlDrop]

@[simp] theorem execControlFence_leadsOn (t : Nat) (s : State) : LeadsOn s (execControlFence t s) := by simp [execControlFence]

@[simp] theorem execControlHandover_leadsOn (h t : Nat) (s : State) : LeadsOn s (execControlHandover h t s) := by simp [execControlHandover]

@[simp] theorem execHandoverComplete_leadsOn (t : Nat) (s : State) :
    LeadsOn s (execHandoverComplete t s) := by simp only [execHandoverComplete]; split <;> simp

@[simp] theorem execJoinWaitExpire_leadsOn (t : Nat) (s : State) : LeadsOn s (execJoinWaitExpire t s) := by simp [execJoinWaitExpire]

@[simp] theorem execFollowFenceTimer_leadsOn (t : Nat) (s : State) : LeadsOn s (execFollowFenceTimer t s) := by simp [execFollowFenceTimer]

@[simp] theorem execRetakeTimer_leadsOn (t : Nat) (s : State) : LeadsOn s (execRetakeTimer t s) := by simp [execRetakeTimer]

@[simp] theorem execCatchUpSend_leadsOn (t : Nat) (s : State) : LeadsOn s (execCatchUpSend t s) := by simp [execCatchUpSend]

@[simp] theorem execCatchUpRetry_leadsOn (t : Nat) (s : State) : LeadsOn s (execCatchUpRetry t s) := by simp [execCatchUpRetry]

@[simp] theorem execLineSyncReceived_leadsOn (line count t : Nat) (s : State) :
    LeadsOn s (execLineSyncReceived line count t s) := by simp [execLineSyncReceived]

@[simp] theorem State.selfCommit_kept (s : State) (m : PairDue) : (s.selfCommit m).kept = s.kept := by simp [State.selfCommit]

@[simp] theorem execPairCommitReceived_leadsOn (part line id status : Nat) (self : Bool) (crc count t : Nat) (s : State) :
    LeadsOn s (execPairCommitReceived part line id status self crc count t s) := by
  simp only [execPairCommitReceived]; (repeat' split) <;> simp

@[simp] theorem execPairCancelReceived_leadsOn (id : Nat) (s : State) :
    LeadsOn s (execPairCancelReceived id s) := by simp only [execPairCancelReceived]; (repeat' split) <;> simp

@[simp] theorem execPairCtxReceived_leadsOn (part line id ctx : Nat) (stop : Bool) (crc t : Nat) (s : State) :
    LeadsOn s (execPairCtxReceived part line id ctx stop crc t s) := by simp [execPairCtxReceived]

@[simp] theorem execPairUnderReceived_leadsOn (line bar page : Nat) (s : State) :
    LeadsOn s (execPairUnderReceived line bar page s) := by simp only [execPairUnderReceived]; (repeat' split) <;> simp

@[simp] theorem execPairVerdictReceived_leadsOn (nozzle bar : Nat) (fail : Bool) (page : Nat) (s : State) :
    LeadsOn s (execPairVerdictReceived nozzle bar fail page s) := by simp [execPairVerdictReceived]

@[simp] theorem execPairDecisionReceived_leadsOn (line nozzle : Nat) (out : Bool) (s : State) :
    LeadsOn s (execPairDecisionReceived line nozzle out s) := by simp only [execPairDecisionReceived]; (repeat' split) <;> simp

@[simp] theorem execPairRegReceived_leadsOn (bar along across : Nat) (s : State) :
    LeadsOn s (execPairRegReceived bar along across s) := by simp [execPairRegReceived]

@[simp] theorem execPairBulkReceived_leadsOn (part : Nat) (words : List Word) (t : Nat) (s : State) :
    LeadsOn s (execPairBulkReceived part words t s) := by simp [execPairBulkReceived]

/-! Recorder. -/

@[simp] theorem execEventArrival_leadsOn (d t : Nat) (s : State) :
    LeadsOn s (execEventArrival d t s) := by simp only [execEventArrival]; split <;> simp

@[simp] theorem execRecordAgeClose_leadsOn (t : Nat) (s : State) : LeadsOn s (execRecordAgeClose t s) := by simp [execRecordAgeClose]

@[simp] theorem execEvtFlush_leadsOn (s : State) : LeadsOn s (execEvtFlush s) := by simp [execEvtFlush]

@[simp] theorem execRecordWritten_leadsOn (verified : Bool) (s : State) :
    LeadsOn s (execRecordWritten verified s) := by unfold execRecordWritten; split <;> simp

@[simp] theorem execSectorEraseDone_leadsOn (s : State) : LeadsOn s (execSectorEraseDone s) := by unfold execSectorEraseDone; split <;> simp

@[simp] theorem execEventFlashReturn_leadsOn (s : State) : LeadsOn s (execEventFlashReturn s) := by simp [execEventFlashReturn]

@[simp] theorem State.saveLife_kept (s : State) : s.saveLife.kept = s.kept := by simp [State.saveLife]

@[simp] theorem State.saveFires_kept (s : State) : s.saveFires.kept = s.kept := by simp [State.saveFires]

@[simp] theorem execLifetimeSave_leadsOn (s : State) : LeadsOn s (execLifetimeSave s) := by simp [execLifetimeSave]

@[simp] theorem execFireCountSave_leadsOn (s : State) : LeadsOn s (execFireCountSave s) := by simp [execFireCountSave]

@[simp] theorem execEvtPersistSave_leadsOn (s : State) : LeadsOn s (execEvtPersistSave s) := by simp [execEvtPersistSave]

@[simp] theorem State.persistBusy_kept (s : State) : s.persistBusy.kept = s.kept := by simp [State.persistBusy]

@[simp] theorem execPersistDone_leadsOn (fires : Bool) (s : State) :
    LeadsOn s (execPersistDone fires s) := by simp only [execPersistDone]; (repeat' split) <;> simp

@[simp] theorem execEvtRdSelWrite_leadsOn (slot : Nat) (s : State) : LeadsOn s (execEvtRdSelWrite slot s) := by simp [execEvtRdSelWrite]

@[simp] theorem execRateWindowEnd_leadsOn (code : Nat) (key : Timed Nat) (s : State) :
    LeadsOn s (execRateWindowEnd code key s) := by simp only [execRateWindowEnd]; split <;> simp

@[simp] theorem execEpisodeQuietEnd_leadsOn (code : Nat) (key : Timed Nat) (s : State) :
    LeadsOn s (execEpisodeQuietEnd code key s) := by simp [execEpisodeQuietEnd]

/-! BootOps. -/

@[simp] theorem State.resetDies_kept (s : State) : s.resetDies.kept = s.kept := by simp [State.resetDies]

@[simp] theorem State.trainPort_kept (s : State) (failed : List Nat) (d p : Nat) :
    (s.trainPort failed d p).kept = s.kept := by unfold State.trainPort; split <;> simp

@[simp] theorem State.useBootBlock_kept (s : State) (ws : List Nat) (src : Nat) :
    (s.useBootBlock ws src).kept = s.kept := by simp [State.useBootBlock]

@[simp] theorem State.failCopies_kept (s : State) (bad : List Nat) : (s.failCopies bad).kept = s.kept := by simp [State.failCopies]

@[simp] theorem State.readBootBlock_kept (s : State) :
    s.readBootBlock.kept = s.kept := by simp only [State.readBootBlock]; (repeat' split) <;> simp

@[simp] theorem State.readMarks_kept (s : State) : s.readMarks.kept = s.kept := by unfold State.readMarks; split <;> simp

@[simp] theorem State.readLife_kept (s : State) : s.readLife.kept = s.kept := by unfold State.readLife; split <;> simp

@[simp] theorem State.readRing_kept (s : State) : s.readRing.kept = s.kept := by simp [State.readRing]

@[simp] theorem State.readPairCfg_kept (s : State) : s.readPairCfg.kept = s.kept := by unfold State.readPairCfg; split <;> simp

@[simp] theorem State.autoLoad_kept (s : State) : s.autoLoad.kept = s.kept := by simp [State.autoLoad]

@[simp] theorem State.spwTickle_kept (s : State) (g f : Nat) : (s.spwTickle g f).kept = s.kept := by simp [State.spwTickle]

@[simp] theorem State.spwLine_kept (s : State) (g f line lineNo : Nat) (fire : Bool) :
    (s.spwLine g f line lineNo fire).kept = s.kept := by simp [State.spwLine]

@[simp] theorem State.rankFailed_kept (s : State) (d row r : Nat) :
    (s.rankFailed d row r).kept = s.kept := by simp only [State.rankFailed]; (repeat' split) <;> simp

@[simp] theorem State.trained_kept (s : State) (d set : Nat) (stale : List Nat) :
    (s.trained d set stale).kept = s.kept := by simp [State.trained]

@[simp] theorem State.startNow_kept (s : State) (b : Block) : (s.startNow b).kept = s.kept := by simp [State.startNow]

@[simp] theorem State.startBlocks_kept (s : State) : s.startBlocks.kept = s.kept := by simp [State.startBlocks]

@[simp] theorem State.arriveAll_kept (s : State) : s.arriveAll.kept = s.kept := by simp [State.arriveAll]

@[simp] theorem State.flushRecorder_kept (s : State) : s.flushRecorder.kept = s.kept := by simp [State.flushRecorder]

@[simp] theorem State.abandonLoad_kept (s : State) : s.abandonLoad.kept = s.kept := by simp [State.abandonLoad]

@[simp] theorem State.flashSteps_kept (s : State) : s.flashSteps.kept = s.kept := by simp only [State.flashSteps]; (repeat' split) <;> simp

@[simp] theorem State.powerSteps_kept (s : State) : s.powerSteps.kept = s.kept := by simp [State.powerSteps]

/-! Boot. -/

@[simp] theorem execResetAssert_leadsOn (t : Nat) (s : State) : LeadsOn s (execResetAssert t s) := by simp [execResetAssert]

@[simp] theorem execRailFault_leadsOn (t : Nat) (s : State) : LeadsOn s (execRailFault t s) := by simp [execRailFault]

@[simp] theorem State.releaseReset_kept (s : State) : s.releaseReset.kept = s.kept := by simp [State.releaseReset]

@[simp] theorem execResetRelease_leadsOn (t : Nat) (s : State) : LeadsOn s (execResetRelease t s) := by simp [execResetRelease]

@[simp] theorem execDieCensusDone_leadsOn (failed : List Nat) (t : Nat) (s : State) :
    LeadsOn s (execDieCensusDone failed t s) := by simp [execDieCensusDone]

@[simp] theorem execBootFlashReadDone_leadsOn (bad : List Nat) (t : Nat) (s : State) :
    LeadsOn s (execBootFlashReadDone bad t s) := by simp [execBootFlashReadDone]

@[simp] theorem execSpeedwellEntry_leadsOn (t : Nat) (s : State) : LeadsOn s (execSpeedwellEntry t s) := by simp [execSpeedwellEntry]

@[simp] theorem execSdramTrainingDone_leadsOn (d trained : Nat) (failed stale : List Nat) (t : Nat) (s : State) :
    LeadsOn s (execSdramTrainingDone d trained failed stale t s) := by simp [execSdramTrainingDone]

@[simp] theorem execEccInitDone_leadsOn (d : Nat) (bad : List Nat) (t : Nat) (s : State) :
    LeadsOn s (execEccInitDone d bad t s) := by simp [execEccInitDone]

@[simp] theorem execFireCountRestoreDone_leadsOn (ok : Bool) (t : Nat) (s : State) :
    LeadsOn s (execFireCountRestoreDone ok t s) := by simp only [execFireCountRestoreDone]; (repeat' split) <;> simp

@[simp] theorem execBootAgreeRetry_leadsOn (t : Nat) (s : State) : LeadsOn s (execBootAgreeRetry t s) := by simp [execBootAgreeRetry]

@[simp] theorem execFullService_leadsOn (t : Nat) (s : State) : LeadsOn s (execFullService t s) := by simp [execFullService]

@[simp] theorem execBootRetry_leadsOn (s : State) : LeadsOn s (execBootRetry s) := by simp only [execBootRetry]; (repeat' split) <;> simp

@[simp] theorem execBootBbSave_leadsOn (s : State) : LeadsOn s (execBootBbSave s) := by simp [execBootBbSave]

@[simp] theorem execBootBbSaveDone_leadsOn (t : Nat) (s : State) :
    LeadsOn s (execBootBbSaveDone t s) := by simp only [execBootBbSaveDone]; split <;> simp

@[simp] theorem execTickleBurst_leadsOn (d f : Nat) (s : State) : LeadsOn s (execTickleBurst d f s) := by simp [execTickleBurst]

@[simp] theorem execSpeedwellLine_leadsOn (d f : Nat) (s : State) : LeadsOn s (execSpeedwellLine d f s) := by simp [execSpeedwellLine]

@[simp] theorem execSpwDataAccess_leadsOn (write : Bool) (w : Word) (s : State) :
    LeadsOn s (execSpwDataAccess write w s) := by simp [execSpwDataAccess]

@[simp] theorem execPwrWarnAssert_leadsOn (t : Nat) (s : State) : LeadsOn s (execPwrWarnAssert t s) := by simp [execPwrWarnAssert]

@[simp] theorem execPowerDown_leadsOn (t : Nat) (s : State) : LeadsOn s (execPowerDown t s) := by simp [execPowerDown]

@[simp] theorem execPwrWarnDeassert_leadsOn (t : Nat) (s : State) : LeadsOn s (execPwrWarnDeassert t s) := by simp [execPwrWarnDeassert]

@[simp] theorem execBootResume_leadsOn (s : State) : LeadsOn s (execBootResume s) := by simp [execBootResume]

@[simp] theorem State.beginReset_kept (s : State) : s.beginReset.kept = s.kept := by simp [State.beginReset]

@[simp] theorem execBootReset_leadsOn (w : Word) (s : State) : LeadsOn s (execBootReset w s) := by simp [execBootReset]

@[simp] theorem execFactoryReset_leadsOn (s : State) : LeadsOn s (execFactoryReset s) := by unfold execFactoryReset; split <;> simp

@[simp] theorem execPcieReset_leadsOn (s : State) : LeadsOn s (execPcieReset s) := by simp [execPcieReset]

@[simp] theorem execHeadLimits_leadsOn (written : Bool) (s : State) :
    LeadsOn s (execHeadLimits written s) := by unfold execHeadLimits; split <;> simp

/-! Counting. -/

@[simp] theorem State.secondAtDie_kept (s : State) (d : Nat) :
    (s.secondAtDie d).kept = s.kept := by simp only [State.secondAtDie]; split <;> simp

@[simp] theorem execOpsecTick_leadsOn (t : Nat) (s : State) : LeadsOn s (execOpsecTick t s) := by simp [execOpsecTick]

@[simp] theorem State.startDump_kept (s : State) (content : List Nat) : (s.startDump content).kept = s.kept := by simp [State.startDump]

@[simp] theorem execDumpRecords_leadsOn (s : State) : LeadsOn s (execDumpRecords s) := by simp [execDumpRecords]

@[simp] theorem execDumpLifetime_leadsOn (s : State) : LeadsOn s (execDumpLifetime s) := by simp [execDumpLifetime]

@[simp] theorem execDumpFireCounts_leadsOn (s : State) : LeadsOn s (execDumpFireCounts s) := by simp [execDumpFireCounts]

/-! En. -/

@[simp] theorem execEnWrite_leadsOn (b : Block) (en : Bool) (s : State) : LeadsOn s (execEnWrite b en s) := by simp [execEnWrite]

@[simp] theorem execStartComplete_leadsOn (b : Block) (found : List Nat) (t : Nat) (s : State) :
    LeadsOn s (execStartComplete b found t s) := by simp [execStartComplete]

@[simp] theorem execStartBoundExceeded_leadsOn (b : Block) (t : Nat) (s : State) :
    LeadsOn s (execStartBoundExceeded b t s) := by simp [execStartBoundExceeded]

@[simp] theorem execShutdownComplete_leadsOn (b : Block) (t : Nat) (s : State) :
    LeadsOn s (execShutdownComplete b t s) := by simp [execShutdownComplete]

@[simp] theorem execStopBoundExceeded_leadsOn (b : Block) (t : Nat) (s : State) :
    LeadsOn s (execStopBoundExceeded b t s) := by simp [execStopBoundExceeded]

/-! Ether. -/

@[simp] theorem execEthLinkDown_leadsOn (t : Nat) (s : State) : LeadsOn s (execEthLinkDown t s) := by simp [execEthLinkDown]

@[simp] theorem execEthLinkUp_leadsOn (t : Nat) (s : State) : LeadsOn s (execEthLinkUp t s) := by simp [execEthLinkUp]

@[simp] theorem State.ethDrop_kept (s : State) : s.ethDrop.kept = s.kept := by simp [State.ethDrop]

@[simp] theorem State.mgmtTake_kept (s : State) : s.mgmtTake.2.kept = s.kept := by simp only [State.mgmtTake]; (repeat' split) <;> simp

@[simp] theorem State.readSlots_kept (s : State) (a n : Nat) : (s.readSlots a n).2.kept = s.kept := by
  induction n generalizing s a with
  | zero => rfl
  | succ k ih => simp [State.readSlots, ih]

@[simp] theorem State.mgmtRead_kept (s : State) (head : List Nat) (off count : Nat) :
    (s.mgmtRead head off count).kept = s.kept := by simp [State.mgmtRead]

@[simp] theorem State.mgmtEnvelope_kept (s : State) (head : List Nat) (slots : List Nat) :
    (s.mgmtEnvelope head slots).kept = s.kept := by simp [State.mgmtEnvelope]

@[simp] theorem State.mgmtServe_kept {f : State → State} (h : ∀ s, (f s).kept = s.kept) (s : State) (head : List Nat) :
    (s.mgmtServe head f).kept = s.kept := by simp [State.mgmtServe, h]

@[simp] theorem State.mgmtDatagram_kept (s : State) (p : List Nat) : (s.mgmtDatagram p).kept = s.kept := by simp [State.mgmtDatagram]

@[simp] theorem execMgmtRead_leadsOn (seq off count : Nat) (s : State) : LeadsOn s (execMgmtRead seq off count s) := by simp [execMgmtRead]

@[simp] theorem execMgmtEnvelope_leadsOn (seq : Nat) (slots : List Nat) (s : State) :
    LeadsOn s (execMgmtEnvelope seq slots s) := by simp [execMgmtEnvelope]

@[simp] theorem execEthFrameReceived_leadsOn (good : Bool) (frame : List Byte) (s : State) :
    LeadsOn s (execEthFrameReceived good frame s) := by simp only [execEthFrameReceived]; (repeat' split) <;> simp

/-! EyeRows. -/

@[simp] theorem execFrameDecode_leadsOn (d t : Nat) (s : State) : LeadsOn s (execFrameDecode d t s) := by
  simp only [execFrameDecode, leadsOn_guarded]
  intro _
  (repeat' split) <;> simp
  rw [kept_foldl fun s x => by split <;> simp]
  simp

@[simp] theorem execNozzleVerdict_leadsOn (s : State) : LeadsOn s (execNozzleVerdict s) := by unfold execNozzleVerdict; split <;> simp

@[simp] theorem execHlthClearNozzle_leadsOn (s : State) : LeadsOn s (execHlthClearNozzle s) := by simp [execHlthClearNozzle]

@[simp] theorem State.clearHead_kept (s : State) (h : Nat) : (s.clearHead h).kept = s.kept := by simp [State.clearHead]

@[simp] theorem execHlthClearHead_leadsOn (s : State) : LeadsOn s (execHlthClearHead s) := by simp [execHlthClearHead]

@[simp] theorem State.clearAllNozzles_kept (s : State) : s.clearAllNozzles.kept = s.kept := by simp [State.clearAllNozzles]

@[simp] theorem execHlthClearAll_leadsOn (s : State) : LeadsOn s (execHlthClearAll s) := by simp [execHlthClearAll]

@[simp] theorem execHlthNzDataRead_leadsOn (s : State) : LeadsOn s (execHlthNzDataRead s) := by simp [execHlthNzDataRead]

@[simp] theorem State.requestRuns_kept (s : State) (bars cams : Nat) :
    (s.requestRuns bars cams).kept = s.kept := by simp [State.requestRuns]

@[simp] theorem execCalReq_leadsOn (bars cams : Nat) (s : State) : LeadsOn s (execCalReq bars cams s) := by simp [execCalReq]

@[simp] theorem State.beginXfer_kept {f : State → State} (h : ∀ s, (f s).kept = s.kept) (s : State) :
    (s.beginXfer f).kept = s.kept := by simp [State.beginXfer, h]

@[simp] theorem State.exportCal_kept (s : State) : s.exportCal.kept = s.kept := by simp [State.exportCal]

@[simp] theorem execCalExport_leadsOn (s : State) : LeadsOn s (execCalExport s) := by simp [execCalExport]

@[simp] theorem State.importCal_kept (s : State) : s.importCal.kept = s.kept := by simp [State.importCal]

@[simp] theorem execCalImport_leadsOn (s : State) : LeadsOn s (execCalImport s) := by simp [execCalImport]

@[simp] theorem execCalImportValidated_leadsOn (s : State) :
    LeadsOn s (execCalImportValidated s) := by simp only [execCalImportValidated]; (repeat' split) <;> simp

/-! Interrupts. -/

@[simp] theorem State.spareEngine_kept (s : State) (d e : Nat) : (s.spareEngine d e).kept = s.kept := by simp [State.spareEngine]

@[simp] theorem State.restartEngine_kept (s : State) (d e : Nat) : (s.restartEngine d e).kept = s.kept := by simp [State.restartEngine]

@[simp] theorem State.engineFault_kept (s : State) (d e cause pc : Nat) :
    (s.engineFault d e cause pc).kept = s.kept := by simp [State.engineFault]

@[simp] theorem execEngineFault_leadsOn (d e cause pc t : Nat) (s : State) :
    LeadsOn s (execEngineFault d e cause pc t s) := by simp [execEngineFault]

@[simp] theorem execEngineWatchdogExpire_leadsOn (d e pc t : Nat) (s : State) :
    LeadsOn s (execEngineWatchdogExpire d e pc t s) := by simp [execEngineWatchdogExpire]

@[simp] theorem execIrqCause_leadsOn (sig : Option Nat) (s : State) :
    LeadsOn s (execIrqCause sig s) := by simp only [execIrqCause]; (repeat' split) <;> simp

@[simp] theorem execIrqCoalTimeout_leadsOn (g : Timed Nat) (s : State) : LeadsOn s (execIrqCoalTimeout g s) := by simp [execIrqCoalTimeout]

@[simp] theorem State.raiseArrives_kept (s : State) (g : Nat) :
    (s.raiseArrives g).kept = s.kept := by simp only [State.raiseArrives]; (repeat' split) <;> simp

@[simp] theorem execIrqRaiseArrival_leadsOn (d : Nat) (s : State) :
    LeadsOn s (execIrqRaiseArrival d s) := by unfold execIrqRaiseArrival; split <;> simp

@[simp] theorem execIrqSet_leadsOn (d src : Nat) (s : State) : LeadsOn s (execIrqSet d src s) := by simp [execIrqSet]

@[simp] theorem State.msgSeen_kept (s : State) (t : Nat) : (s.msgSeen t).kept = s.kept := by simp [State.msgSeen]

@[simp] theorem State.latchClaimTime_kept (s : State) (t : Nat) : (s.latchClaimTime t).kept = s.kept := by simp [State.latchClaimTime]

@[simp] theorem State.pushClaim_kept (s : State) (t g : Nat) : (s.pushClaim t g).kept = s.kept := by simp [State.pushClaim]

@[simp] theorem State.answerRead_kept (s : State) (ws : List Nat) : (s.answerRead ws).kept = s.kept := by simp [State.answerRead]

@[simp] theorem execIrqhClaim_leadsOn (t : Nat) (s : State) : LeadsOn s (execIrqhClaim t s) := by simp only [execIrqhClaim]; split <;> simp

@[simp] theorem execIrqhDone_leadsOn (t src : Nat) (s : State) : LeadsOn s (execIrqhDone t src s) := by simp [execIrqhDone]

@[simp] theorem execIrqhMaskSet_leadsOn (src : Nat) (s : State) : LeadsOn s (execIrqhMaskSet src s) := by simp [execIrqhMaskSet]

@[simp] theorem execIrqhMaskClr_leadsOn (src : Nat) (s : State) : LeadsOn s (execIrqhMaskClr src s) := by simp [execIrqhMaskClr]

@[simp] theorem execIrqhFlush_leadsOn (t : Nat) (s : State) : LeadsOn s (execIrqhFlush t s) := by simp [execIrqhFlush]

@[simp] theorem execIrqhAccept_leadsOn (t : Nat) (accept : Bool) (s : State) :
    LeadsOn s (execIrqhAccept t accept s) := by simp [execIrqhAccept]

@[simp] theorem State.msixRelease_kept (s : State) : s.msixRelease.kept = s.kept := by simp [State.msixRelease]

@[simp] theorem State.pcieRequest_kept (offset : Nat) (q : PcieRequest) (s : State) :
    (State.pcieRequest offset q s).kept = s.kept := by unfold State.pcieRequest; split <;> simp

@[simp] theorem execMsixMaskWrite_leadsOn (offset : Nat) (q : PcieRequest) (s : State) :
    LeadsOn s (execMsixMaskWrite offset q s) := by simp [execMsixMaskWrite]

/-! Led. -/

@[simp] theorem execLedFrameSend_leadsOn (c t : Nat) (s : State) : LeadsOn s (execLedFrameSend c t s) := by simp [execLedFrameSend]

@[simp] theorem execLedReturnFrame_leadsOn (c : Nat) (words : List Word) (t : Nat) (s : State) :
    LeadsOn s (execLedReturnFrame c words t s) := by simp [execLedReturnFrame]

@[simp] theorem execLedReturnTimeout_leadsOn (c t : Nat) (s : State) :
    LeadsOn s (execLedReturnTimeout c t s) := by simp only [execLedReturnTimeout]; split <;> simp

@[simp] theorem execLedStatusStale_leadsOn (c dev t : Nat) (s : State) :
    LeadsOn s (execLedStatusStale c dev t s) := by simp [execLedStatusStale]

@[simp] theorem execLedUvUpdate_leadsOn (c t : Nat) (s : State) : LeadsOn s (execLedUvUpdate c t s) := by simp [execLedUvUpdate]

@[simp] theorem execLedGateRise_leadsOn (c t : Nat) (s : State) : LeadsOn s (execLedGateRise c t s) := by simp [execLedGateRise]

@[simp] theorem execLedGateFall_leadsOn (c t : Nat) (s : State) : LeadsOn s (execLedGateFall c t s) := by simp [execLedGateFall]

@[simp] theorem execLedDataAccess_leadsOn (d : Nat) (data : Option Word) (s : State) :
    LeadsOn s (execLedDataAccess d data s) := by unfold execLedDataAccess; split <;> simp

/-! Link. -/

@[simp] theorem State.readIdent_kept (s : State) (g : Nat) : (s.readIdent g).kept = s.kept := by simp [State.readIdent]

@[simp] theorem execLinkRetryTimer_leadsOn (g t : Nat) (s : State) : LeadsOn s (execLinkRetryTimer g t s) := by simp [execLinkRetryTimer]

@[simp] theorem execClockSettled_leadsOn (g t : Nat) (s : State) : LeadsOn s (execClockSettled g t s) := by simp [execClockSettled]

@[simp] theorem execTrainedReceived_leadsOn (g aligned rate t : Nat) (s : State) :
    LeadsOn s (execTrainedReceived g aligned rate t s) := by simp [execTrainedReceived]

@[simp] theorem execTrainTimeout_leadsOn (g t : Nat) (s : State) : LeadsOn s (execTrainTimeout g t s) := by simp [execTrainTimeout]

@[simp] theorem State.storeMrd_kept (s : State) (d : Nat) (b : List Nat) : (s.storeMrd d b).kept = s.kept := by simp [State.storeMrd]

@[simp] theorem execMemdataReceived_leadsOn (g addr : Nat) (data : List Byte) (t : Nat) (s : State) :
    LeadsOn s (execMemdataReceived g addr data t s) := by simp only [execMemdataReceived]; (repeat' split) <;> simp

@[simp] theorem execIdentTimeout_leadsOn (g t : Nat) (s : State) : LeadsOn s (execIdentTimeout g t s) := by simp [execIdentTimeout]

@[simp] theorem execIdentReread_leadsOn (g t : Nat) (s : State) : LeadsOn s (execIdentReread g t s) := by simp [execIdentReread]

@[simp] theorem State.frameErrors_kept (s : State) (g : Nat) (lcrc : List Nat) :
    (s.frameErrors g lcrc).kept = s.kept := by simp [State.frameErrors]

@[simp] theorem State.followCheck_kept (s : State) (g epoch : Nat) :
    (s.followCheck g epoch).kept = s.kept := by simp only [State.followCheck]; (repeat' split) <;> simp

@[simp] theorem execStatusReceived_leadsOn (g st flags : Nat) (headT adaptT : Int) (epoch : Nat) (lcrc : List Nat) (t : Nat) (s : State) :
    LeadsOn s (execStatusReceived g st flags headT adaptT epoch lcrc t s) := by simp [execStatusReceived]

@[simp] theorem execStatusTimeout_leadsOn (g t : Nat) (s : State) : LeadsOn s (execStatusTimeout g t s) := by simp [execStatusTimeout]

@[simp] theorem execReturnCodeViolations_leadsOn (g : Nat) (n : Timed Nat) (s : State) :
    LeadsOn s (execReturnCodeViolations g n s) := by simp [execReturnCodeViolations]

@[simp] theorem execReturnPacketBad_leadsOn (g : Nat) (s : State) : LeadsOn s (execReturnPacketBad g s) := by simp [execReturnPacketBad]

@[simp] theorem execActiveSend_leadsOn (g t : Nat) (s : State) : LeadsOn s (execActiveSend g t s) := by simp [execActiveSend]

@[simp] theorem State.startMrd_kept (s : State) (d count : Nat) : (s.startMrd d count).kept = s.kept := by simp [State.startMrd]

@[simp] theorem execMemRead_leadsOn (d count : Nat) (s : State) : LeadsOn s (execMemRead d count s) := by simp [execMemRead]

@[simp] theorem execMemReadRetry_leadsOn (d t : Nat) (s : State) :
    LeadsOn s (execMemReadRetry d t s) := by simp only [execMemReadRetry]; split <;> simp

@[simp] theorem execAdapterLineFrame_leadsOn (g : Nat) (inB : Bool) (phys : Nat) (violation : Bool) (chars : List Nat) (s : State) :
    LeadsOn s (execAdapterLineFrame g inB phys violation chars s) := by unfold execAdapterLineFrame; split <;> simp

@[simp] theorem execAdapterNofireFrame_leadsOn (g : Nat) (inB : Bool) (x : LaneSet) (s : State) :
    LeadsOn s (execAdapterNofireFrame g inB x s) := by simp [execAdapterNofireFrame]

@[simp] theorem execAdapterStrobe_leadsOn (g : Nat) (inB : Bool) (s : State) :
    LeadsOn s (execAdapterStrobe g inB s) := by simp [execAdapterStrobe]

@[simp] theorem execAdapterActive_leadsOn (g : Nat) (inB : Bool) (first : Nat) (chars : List Nat) (t : Nat) (s : State) :
    LeadsOn s (execAdapterActive g inB first chars t s) := by unfold execAdapterActive; split <;> simp

@[simp] theorem execAdapterInputLapse_leadsOn (g : Nat) (inB : Bool) (t : Nat) (s : State) :
    LeadsOn s (execAdapterInputLapse g inB t s) := by simp [execAdapterInputLapse]

@[simp] theorem execAdapterRead_leadsOn (g first : Nat) (chars : List Nat) (s : State) :
    LeadsOn s (execAdapterRead g first chars s) := by simp only [execAdapterRead]; split <;> simp

@[simp] theorem execAdapterTrain_leadsOn (g aligned : Nat) (s : State) :
    LeadsOn s (execAdapterTrain g aligned s) := by simp [execAdapterTrain]

@[simp] theorem execAdapterFaultEntry_leadsOn (g flags : Nat) (s : State) :
    LeadsOn s (execAdapterFaultEntry g flags s) := by simp [execAdapterFaultEntry]

@[simp] theorem execAdapterFaultCleared_leadsOn (g : Nat) (s : State) :
    LeadsOn s (execAdapterFaultCleared g s) := by simp [execAdapterFaultCleared]

@[simp] theorem execAdapterKAbsent_leadsOn (g : Nat) (s : State) : LeadsOn s (execAdapterKAbsent g s) := by simp [execAdapterKAbsent]

/-! Meter. -/

@[simp] theorem execMeterPowerUp_leadsOn (t : Nat) (s : State) : LeadsOn s (execMeterPowerUp t s) := by simp [execMeterPowerUp]

@[simp] theorem execMeterBootDone_leadsOn (selfTest : Bool) (bad totals : List Nat) (patch : Bool) (t : Nat) (s : State) :
    LeadsOn s (execMeterBootDone selfTest bad totals patch t s) := by simp [execMeterBootDone]

@[simp] theorem execMeterSupplyFall_leadsOn (written : Bool) (t : Nat) (s : State) :
    LeadsOn s (execMeterSupplyFall written t s) := by simp [execMeterSupplyFall]

@[simp] theorem execMeterTotalsWrite_leadsOn (t : Nat) (s : State) : LeadsOn s (execMeterTotalsWrite t s) := by simp [execMeterTotalsWrite]

@[simp] theorem execMeterHourlySnapshot_leadsOn (t : Nat) (s : State) :
    LeadsOn s (execMeterHourlySnapshot t s) := by simp [execMeterHourlySnapshot]

@[simp] theorem execMeterEdge_leadsOn (a b : Bool) (t : Nat) (s : State) :
    LeadsOn s (execMeterEdge a b t s) := by simp only [execMeterEdge]; (repeat' split) <;> simp

@[simp] theorem State.lenCalClose_kept (s : State) (w : LenWin) (k : Int) (written : Bool) :
    (s.lenCalClose w k written).kept = s.kept := by simp [State.lenCalClose]

@[simp] theorem execMtrMarkEdge_leadsOn (written : Bool) (t : Nat) (s : State) :
    LeadsOn s (execMtrMarkEdge written t s) := by simp only [execMtrMarkEdge]; (repeat' split) <;> simp

@[simp] theorem execTapSend_leadsOn (d t : Nat) (s : State) : LeadsOn s (execTapSend d t s) := by simp [execTapSend]

@[simp] theorem execTapCountRecord_leadsOn (d t : Nat) (s : State) : LeadsOn s (execTapCountRecord d t s) := by
  simp only [execTapCountRecord, leadsOn_guarded]
  intro _
  split
  · rename_i h
    simp [State.tapTake_kept h]
  · simp

@[simp] theorem execTapSnapRecord_leadsOn (t : Nat) (s : State) : LeadsOn s (execTapSnapRecord t s) := by
  simp only [execTapSnapRecord, leadsOn_next]
  split
  · rename_i h
    simp [State.tapTake_kept h]
  · simp

@[simp] theorem execTapTimeRecord_leadsOn (t : Nat) (s : State) : LeadsOn s (execTapTimeRecord t s) := by
  simp only [execTapTimeRecord, leadsOn_next]
  split
  · rename_i h
    simp [State.tapTake_kept h]
  · simp

@[simp] theorem execTapIdleRecord_leadsOn (d t : Nat) (s : State) : LeadsOn s (execTapIdleRecord d t s) := by
  simp only [execTapIdleRecord, leadsOn_guarded]
  intro _
  split
  · rename_i h
    simp [State.tapTake_kept h]
  · simp

@[simp] theorem execTapBadRecord_leadsOn (d t : Nat) (s : State) : LeadsOn s (execTapBadRecord d t s) := by
  simp only [execTapBadRecord, leadsOn_guarded]
  intro _
  split
  · rename_i h
    simp [State.tapTake_kept h]
  · simp

@[simp] theorem execTapDown_leadsOn (d t : Nat) (s : State) : LeadsOn s (execTapDown d t s) := by simp only [execTapDown]; split <;> simp

@[simp] theorem execMtrSubmit_leadsOn (t : Nat) (s : State) : LeadsOn s (execMtrSubmit t s) := by simp [execMtrSubmit]

@[simp] theorem execMtrLockEnd_leadsOn (s : State) : LeadsOn s (execMtrLockEnd s) := by simp [execMtrLockEnd]

@[simp] theorem State.mtrAuditFree_kept (s : State) (type op index counter : Nat) :
    (s.mtrAuditFree type op index counter).kept = s.kept := by simp [State.mtrAuditFree]

@[simp] theorem execSealBreak_leadsOn (written : Bool) (s : State) :
    LeadsOn s (execSealBreak written s) := by unfold execSealBreak; split <;> simp

@[simp] theorem execSealMeter_leadsOn (written : Bool) (s : State) :
    LeadsOn s (execSealMeter written s) := by unfold execSealMeter; split <;> simp

@[simp] theorem execSetChannel_leadsOn (written : Bool) (s : State) :
    LeadsOn s (execSetChannel written s) := by unfold execSetChannel; split <;> simp

@[simp] theorem execSetMass_leadsOn (written : Bool) (s : State) :
    LeadsOn s (execSetMass written s) := by unfold execSetMass; split <;> simp

@[simp] theorem execSetParam_leadsOn (written : Bool) (s : State) :
    LeadsOn s (execSetParam written s) := by unfold execSetParam; split <;> simp

@[simp] theorem execLenCalOpen_leadsOn (s : State) : LeadsOn s (execLenCalOpen s) := by unfold execLenCalOpen; split <;> simp

@[simp] theorem execLenCalAbort_leadsOn (s : State) : LeadsOn s (execLenCalAbort s) := by unfold execLenCalAbort; split <;> simp

@[simp] theorem execLenCalTimeout_leadsOn (t : Nat) (s : State) :
    LeadsOn s (execLenCalTimeout t s) := by simp only [execLenCalTimeout]; split <;> simp

@[simp] theorem execMassCalOpen_leadsOn (s : State) : LeadsOn s (execMassCalOpen s) := by unfold execMassCalOpen; split <;> simp

@[simp] theorem execMassCalClose_leadsOn (written : Bool) (s : State) :
    LeadsOn s (execMassCalClose written s) := by unfold execMassCalClose; split <;> simp

@[simp] theorem execMassCalAbort_leadsOn (s : State) : LeadsOn s (execMassCalAbort s) := by unfold execMassCalAbort; split <;> simp

@[simp] theorem execPatchBegin_leadsOn (s : State) : LeadsOn s (execPatchBegin s) := by unfold execPatchBegin; split <;> simp

@[simp] theorem execPatchData_leadsOn (s : State) : LeadsOn s (execPatchData s) := by simp only [execPatchData]; (repeat' split) <;> simp

@[simp] theorem execPatchEnd_leadsOn (written : Bool) (s : State) :
    LeadsOn s (execPatchEnd written s) := by simp only [execPatchEnd]; (repeat' split) <;> simp

@[simp] theorem execPatchRemove_leadsOn (written : Bool) (s : State) :
    LeadsOn s (execPatchRemove written s) := by unfold execPatchRemove; split <;> simp

@[simp] theorem execMtrKeyRotate_leadsOn (written : Bool) (s : State) :
    LeadsOn s (execMtrKeyRotate written s) := by unfold execMtrKeyRotate; split <;> simp

@[simp] theorem execMtrMarkSet_leadsOn (written : Bool) (s : State) :
    LeadsOn s (execMtrMarkSet written s) := by unfold execMtrMarkSet; split <;> simp

@[simp] theorem execTrailClear_leadsOn (written : Bool) (s : State) :
    LeadsOn s (execTrailClear written s) := by unfold execTrailClear; split <;> simp

@[simp] theorem execIndRedraw_leadsOn (t : Nat) (s : State) : LeadsOn s (execIndRedraw t s) := by simp [execIndRedraw]

@[simp] theorem execIndReport_leadsOn (t : Nat) (s : State) : LeadsOn s (execIndReport t s) := by simp only [execIndReport]; split <;> simp

@[simp] theorem execIndStaleTimeout_leadsOn (t : Nat) (s : State) : LeadsOn s (execIndStaleTimeout t s) := by simp [execIndStaleTimeout]

/-! Monitor. -/

@[simp] theorem execMonConversion_leadsOn (d : Nat) (temps : List Int) (mv : List Nat) (t : Nat) (s : State) :
    LeadsOn s (execMonConversion d temps mv t s) := by simp [execMonConversion]

@[simp] theorem execHotFenceClear_leadsOn (d : Nat) (stuck : List Nat) (s : State) :
    LeadsOn s (execHotFenceClear d stuck s) := by simp [execHotFenceClear]

/-! Motion. -/

@[simp] theorem execMotionTick_leadsOn (a t : Nat) (s : State) : LeadsOn s (execMotionTick a t s) := by simp [execMotionTick]

@[simp] theorem execStallClear_leadsOn (a : Nat) (s : State) : LeadsOn s (execStallClear a s) := by simp [execStallClear]

@[simp] theorem execFollowLagClear_leadsOn (a : Nat) (s : State) : LeadsOn s (execFollowLagClear a s) := by simp [execFollowLagClear]

/-! Sdram. -/

@[simp] theorem execMemRefresh_leadsOn (d r b : Nat) (busy : Bool) (s : State) :
    LeadsOn s (execMemRefresh d r b busy s) := by simp [execMemRefresh]

@[simp] theorem State.measureMem_kept (s : State) (d : Nat) (x : MemLoad) : (s.measureMem d x).kept = s.kept := by simp [State.measureMem]

@[simp] theorem execMr4Poll_leadsOn (d : Nat) (codes temps : List Nat) (load : Timed MemLoad) (s : State) :
    LeadsOn s (execMr4Poll d codes temps load s) := by simp only [execMr4Poll]; (repeat' split) <;> simp

@[simp] theorem execFreqSwitch_leadsOn (d t : Nat) (s : State) :
    LeadsOn s (execFreqSwitch d t s) := by simp only [execFreqSwitch]; split <;> simp

@[simp] theorem execScrubHour_leadsOn (d r corrected : Nat) (s : State) :
    LeadsOn s (execScrubHour d r corrected s) := by simp [execScrubHour]

@[simp] theorem execSdramUncorrectable_leadsOn (d r : Nat) (a : UncRead) (s : State) :
    LeadsOn s (execSdramUncorrectable d r a s) := by unfold execSdramUncorrectable; split <;> simp

@[simp] theorem execMemCmdRetire_leadsOn (d r : Nat) (s : State) : LeadsOn s (execMemCmdRetire d r s) := by simp [execMemCmdRetire]

@[simp] theorem execMigrateDone_leadsOn (d poison : Nat) (s : State) :
    LeadsOn s (execMigrateDone d poison s) := by unfold execMigrateDone; split <;> simp

/-! Time. -/

@[simp] theorem execDieTimeSync_leadsOn (d : Nat) (off : Int) (t : Nat) (s : State) :
    LeadsOn s (execDieTimeSync d off t s) := by simp [execDieTimeSync]

@[simp] theorem execPtpSync_leadsOn (m : PtpSync) (t : Nat) (s : State) :
    LeadsOn s (execPtpSync m t s) := by simp only [execPtpSync]; (repeat' split) <;> simp

@[simp] theorem execPtpSyncTimeout_leadsOn (t : Nat) (s : State) : LeadsOn s (execPtpSyncTimeout t s) := by simp [execPtpSyncTimeout]

@[simp] theorem execTimeSet_leadsOn (v t : Nat) (s : State) : LeadsOn s (execTimeSet v t s) := by simp [execTimeSet]

@[simp] theorem execTimeAdj_leadsOn (v t : Nat) (s : State) : LeadsOn s (execTimeAdj v t s) := by simp [execTimeAdj]

@[simp] theorem execTimeSrcWrite_leadsOn (v t : Nat) (s : State) : LeadsOn s (execTimeSrcWrite v t s) := by simp [execTimeSrcWrite]

@[simp] theorem execTimeStepApply_leadsOn (t : Nat) (s : State) :
    LeadsOn s (execTimeStepApply t s) := by simp only [execTimeStepApply]; split <;> simp

@[simp] theorem execTrgFire_leadsOn (k t : Nat) (s : State) : LeadsOn s (execTrgFire k t s) := by simp [execTrgFire]

@[simp] theorem State.selectMaster_kept (s : State) (m : PtpAnnounce) : (s.selectMaster m).kept = s.kept := by simp [State.selectMaster]

@[simp] theorem execPtpAnnounce_leadsOn (m : Timed PtpAnnounce) (s : State) :
    LeadsOn s (execPtpAnnounce m s) := by simp only [execPtpAnnounce]; (repeat' split) <;> simp

@[simp] theorem execPtpDelayResp_leadsOn (m : PtpDelay) (s : State) : LeadsOn s (execPtpDelayResp m s) := by simp [execPtpDelayResp]

/-! Window. -/

@[simp] theorem State.hostWrite_kept (s : State) (a : Nat) (data : List (Option Byte)) : (s.hostWrite a data).kept = s.kept := by
  induction data generalizing s a with
  | nil => rfl
  | cons b r ih => cases b <;> simp [State.hostWrite, ih]

@[simp] theorem execBar2Write_leadsOn (addr : Nat) (data : List (Option Byte)) (s : State) :
    LeadsOn s (execBar2Write addr data s) := by unfold execBar2Write; split <;> simp

@[simp] theorem execBar2Read_leadsOn (addr len : Nat) (poisoned : Bool) (s : State) :
    LeadsOn s (execBar2Read addr len poisoned s) := by unfold execBar2Read; split <;> simp

@[simp] theorem execWinDefine_leadsOn (i : Nat) (s : State) : LeadsOn s (execWinDefine i s) := by simp [execWinDefine]

@[simp] theorem execWinGive_leadsOn (i gen : Nat) (s : State) : LeadsOn s (execWinGive i gen s) := by unfold execWinGive; split <;> simp

@[simp] theorem State.reclaimPages_kept (s : State) (i gen : Nat) : (s.reclaimPages i gen).kept = s.kept := by simp [State.reclaimPages]

@[simp] theorem execWinReclaim_leadsOn (i gen : Nat) (s : State) :
    LeadsOn s (execWinReclaim i gen s) := by unfold execWinReclaim; split <;> simp

@[simp] theorem execWinUndefine_leadsOn (i gen : Nat) (s : State) :
    LeadsOn s (execWinUndefine i gen s) := by unfold execWinUndefine; split <;> simp

@[simp] theorem execWinBadOp_leadsOn (i op : Nat) (s : State) : LeadsOn s (execWinBadOp i op s) := by simp [execWinBadOp]

@[simp] theorem execGiveEffective_leadsOn (i : Nat) (s : State) : LeadsOn s (execGiveEffective i s) := by simp [execGiveEffective]

@[simp] theorem execBufferRelease_leadsOn (s : State) : LeadsOn s (execBufferRelease s) := by unfold execBufferRelease; split <;> simp

@[simp] theorem execReleaseScan_leadsOn (s : State) : LeadsOn s (execReleaseScan s) := by simp [execReleaseScan]

/-! Bus. -/

@[simp] theorem State.busDiscard_kept (s : State) (a : Nat) : (s.busDiscard a).kept = s.kept := by simp [State.busDiscard]

@[simp] theorem State.stageField_kept (s : State) (a w : Nat) (f : FDesc) : (s.stageField a w f).kept = s.kept := by simp [State.stageField]

@[simp] theorem State.writeField_kept (s : State) (a w : Nat) (f : FDesc) :
    (s.writeField a w f).kept = s.kept := by simp only [State.writeField]; (repeat' split) <;> simp

@[simp] theorem State.writeEn_kept (s : State) (a w : Nat) :
    (s.writeEn a w).kept = s.kept := by simp only [State.writeEn]; (repeat' split) <;> simp

@[simp] theorem State.judgeLeads_kept (s old : State) : (s.judgeLeads old).kept = s.kept := by simp [State.judgeLeads]

/-! Contexts. -/

@[simp] theorem execCtxArm_leadsOn (q : Nat) (s : State) : LeadsOn s (execCtxArm q s) := by simp only [execCtxArm]; (repeat' split) <;> simp

@[simp] theorem execCtxStop_leadsOn (q : Nat) (s : State) : LeadsOn s (execCtxStop q s) := by unfold execCtxStop; split <;> simp

/-! Disp. -/

@[simp] theorem State.applyArrived_kept (s : State) (id : Nat) (print late : Bool) :
    (s.applyArrived id print late).kept = s.kept := by simp only [State.applyArrived]; split <;> simp

@[simp] theorem execDispVblank_leadsOn (t : Nat) (s : State) : LeadsOn s (execDispVblank t s) := by simp [execDispVblank]

@[simp] theorem State.reportIndication_kept (s : State) (crc : Option Nat) :
    (s.reportIndication crc).kept = s.kept := by simp [State.reportIndication]

@[simp] theorem State.judgeStill_kept (s : State) : s.judgeStill.kept = s.kept := by simp [State.judgeStill]

@[simp] theorem execDispFrameEnd_leadsOn (indCrc : Option Nat) (late : List Nat) (t : Nat) (s : State) :
    LeadsOn s (execDispFrameEnd indCrc late t s) := by simp [execDispFrameEnd]

@[simp] theorem execDispPsrExit_leadsOn (t : Nat) (s : State) : LeadsOn s (execDispPsrExit t s) := by simp [execDispPsrExit]

@[simp] theorem execDispPsrReport_leadsOn (t : Nat) (s : State) : LeadsOn s (execDispPsrReport t s) := by simp [execDispPsrReport]

@[simp] theorem execDispLinkLost_leadsOn (found : List Nat) (t : Nat) (s : State) :
    LeadsOn s (execDispLinkLost found t s) := by simp [execDispLinkLost]

/-! Fabric. -/

@[simp] theorem execFireClockLost_leadsOn (d t : Nat) (s : State) : LeadsOn s (execFireClockLost d t s) := by simp [execFireClockLost]

@[simp] theorem execIareodLaneFail_leadsOn (d p lane replays t : Nat) (s : State) :
    LeadsOn s (execIareodLaneFail d p lane replays t s) := by simp [execIareodLaneFail]

/-! Feedback. -/

@[simp] theorem State.countEdge_kept (s : State) (f : Nat) (back : Bool) (t stamp : Nat) :
    (s.countEdge f back t stamp).kept = s.kept := by simp [State.countEdge]

@[simp] theorem State.illegalEdge_kept (s : State) (f : Nat) : (s.illegalEdge f).kept = s.kept := by simp [State.illegalEdge]

@[simp] theorem execFbkEdge_leadsOn (f : Nat) (a b : Bool) (t stamp : Nat) (s : State) :
    LeadsOn s (execFbkEdge f a b t stamp s) := by simp only [execFbkEdge]; (repeat' split) <;> simp

@[simp] theorem execZEdge_leadsOn (f : Nat) (t : Accepted) (s : State) : LeadsOn s (execZEdge f t s) := by simp [execZEdge]

@[simp] theorem execStandstillTimeout_leadsOn (f t : Nat) (s : State) :
    LeadsOn s (execStandstillTimeout f t s) := by simp [execStandstillTimeout]

@[simp] theorem State.loseWeb_kept (s : State) (d : Nat) : (s.loseWeb d).kept = s.kept := by simp [State.loseWeb]

@[simp] theorem execLosSet_leadsOn (f t : Nat) (s : State) : LeadsOn s (execLosSet f t s) := by simp [execLosSet]

@[simp] theorem execLosClear_leadsOn (f t : Nat) (s : State) : LeadsOn s (execLosClear f t s) := by simp [execLosClear]

@[simp] theorem execEmuEmit_leadsOn (x t : Nat) (s : State) : LeadsOn s (execEmuEmit x t s) := by simp [execEmuEmit]

/-! Zip. -/

@[simp] theorem execPageStreamStart_leadsOn (q : Nat) (s : State) :
    LeadsOn s (execPageStreamStart q s) := by simp only [execPageStreamStart]; (repeat' split) <;> simp

@[simp] theorem execWorkStreamStart_leadsOn (d : Nat) (s : State) :
    LeadsOn s (execWorkStreamStart d s) := by unfold execWorkStreamStart; split <;> simp

@[simp] theorem execStagingWritten_leadsOn (d u dec n : Nat) (s : State) :
    LeadsOn s (execStagingWritten d u dec n s) := by simp [execStagingWritten]

@[simp] theorem execStagingSpace_leadsOn (d u : Nat) (s : State) : LeadsOn s (execStagingSpace d u s) := by simp [execStagingSpace]

@[simp] theorem execDecompStreamError_leadsOn (d u : Nat) (ecc : Bool) (s : State) :
    LeadsOn s (execDecompStreamError d u ecc s) := by simp [execDecompStreamError]

@[simp] theorem execDecompStreamEnd_leadsOn (d u : Nat) (s : State) : LeadsOn s (execDecompStreamEnd d u s) := by simp [execDecompStreamEnd]

@[simp] theorem execWorkDecomp_leadsOn (q : Nat) (s : State) : LeadsOn s (execWorkDecomp q s) := by unfold execWorkDecomp; split <;> simp

@[simp] theorem execWorkComp_leadsOn (q : Nat) (s : State) : LeadsOn s (execWorkComp q s) := by unfold execWorkComp; split <;> simp

@[simp] theorem execWorkCompMore_leadsOn (q : Nat) (s : State) :
    LeadsOn s (execWorkCompMore q s) := by simp only [execWorkCompMore]; (repeat' split) <;> simp

@[simp] theorem execProducerCompressStart_leadsOn (d u : Nat) (s : State) : LeadsOn s (execProducerCompressStart d u s) := by
  simp only [execProducerCompressStart, leadsOn_guarded]
  intro _
  (repeat' split) <;> simp [-List.foldl_append]

@[simp] theorem execCompOutputSpace_leadsOn (d u : Nat) (s : State) :
    LeadsOn s (execCompOutputSpace d u s) := by simp only [execCompOutputSpace]; (repeat' split) <;> simp

@[simp] theorem execCompStallTimeout_leadsOn (d : Nat) (u : Stall) (s : State) :
    LeadsOn s (execCompStallTimeout d u s) := by simp [execCompStallTimeout]

@[simp] theorem execCompClose_leadsOn (d u : Nat) (s : State) :
    LeadsOn s (execCompClose d u s) := by simp only [execCompClose]; split <;> simp

/-! Accesses to BAR0. -/

section
variable {k : List Instr × Variant × Nat} {s : State}

@[simp] theorem State.winCommand_later (h : Later k s.kept) (w : Nat) : Later k (s.winCommand w).kept := by
  simp only [State.winCommand]; split <;> simp [h]

@[simp] theorem State.bootCommand_later (h : Later k s.kept) (off w : Nat) : Later k (s.bootCommand off w).kept := by
  simp only [State.bootCommand]; split <;> simp [h]

@[simp] theorem State.irqhCommand_later (h : Later k s.kept) (off w : Nat) : Later k (s.irqhCommand off w).kept := by
  simp only [State.irqhCommand]; (repeat' split) <;> simp [h]

@[simp] theorem State.evtCommand_later (h : Later k s.kept) (off w : Nat) : Later k (s.evtCommand off w).kept := by
  simp only [State.evtCommand]; (repeat' split) <;> simp [h]

@[simp] theorem State.packCommand_later (h : Later k s.kept) (a slot : Nat) : Later k (s.packCommand a slot).kept := by
  simp only [State.packCommand]; (repeat' split) <;> simp [h]

@[simp] theorem State.dieCommand_later (h : Later k s.kept) (d a w : Nat) : Later k (s.dieCommand d a w).kept := by
  simp only [State.dieCommand]; (repeat' split) <;> simp [h]

@[simp] theorem State.writeReg_later (h : Later k s.kept) (a slot : Nat) : Later k (s.writeReg a slot).kept := by
  simp only [State.writeReg]; (repeat' split) <;> simp [h]

end

@[simp] theorem State.writePair_later (s : State) (a slot : Nat) : Later s.kept (s.writePair a slot).kept := by
  simp only [State.writePair]; (repeat' split) <;> simp
  exact State.writeReg_later (later_foldl (fun s e => by simp) _ (by simp)) _ _

@[simp] theorem State.busWrite_later (s : State) (a slot : Nat) (whole : Bool) : Later s.kept (s.busWrite a slot whole).kept := by
  simp [State.busWrite]

@[simp] theorem execRegisterWrite_leadsOn (a : Nat) (whole : Bool) (slot : Word32) (s : State) :
    LeadsOn s (execRegisterWrite a whole slot s) := by simp [execRegisterWrite]

@[simp] theorem execStagedWrite_leadsOn (a : Nat) (w : Word) (s : State) : LeadsOn s (execStagedWrite a w s) := by
  simp [execStagedWrite]

theorem State.portRead_later (s : State) (a : Nat) : ∀ t ∈ s.portRead a, Later s.kept t.kept := by
  simp only [State.portRead]; (repeat' split) <;> simp

@[simp] theorem State.busRead_later (s : State) (a : Nat) : Later s.kept (s.busRead a).2.kept := by
  simp only [State.busRead]
  split
  · simp
  · split
    · rename_i h
      exact s.portRead_later a _ h
    · simp

@[simp] theorem State.busReads_later (s : State) (a n : Nat) : Later s.kept (s.busReads a n).2.kept := by
  induction n generalizing s a with
  | zero => exact .refl _
  | succ n ih => exact (s.busRead_later a).trans (ih _ _)

@[simp] theorem State.hostReads_later (s : State) (a n : Nat) : Later s.kept (s.hostReads a n).kept := by
  simp [State.hostReads]

@[simp] theorem execPairLowRead_leadsOn (a : Nat) (s : State) : LeadsOn s (execPairLowRead a s) := by
  simp [execPairLowRead]

@[simp] theorem execRcRead_leadsOn (a len : Nat) (s : State) : LeadsOn s (execRcRead a len s) := by
  simp [execRcRead]

/-- Every command leads on. -/
theorem exec_leadsOn (c : Instr) (s : State) : LeadsOn s (exec c s) := by
  cases c <;> simp [exec]

end Sys2Proof.Machine
end

section

open Sys2Proof Sys2Proof.Machine Sys2Proof.Safety

/-- Settles O57: no operation changes the queue or the variant, and the clock moves only as time passes (`exec_leadsOn`). -/
theorem queueAndVariantStay : Obligations.QueueAndVariantStay := by
  intro c s t h
  obtain ⟨hpending, hvariant, hclk⟩ := exec_leadsOn c s t h
  exact ⟨hpending, hvariant, hclk⟩

end

section
/-! SUPPORT. Accesses to BAR0: the addresses of a die view and of a ring's registers, the fields that lie there, and what one write or read
of such a register does. -/

namespace Sys2Proof.Machine

open Sys2Proof Sys2Proof.Safety

/-! What stays. -/

theorem State.onHost_sameBut (s : State) (f : HostPort → HostPort) : SameBut [.host] s (s.onHost f) := by
  intro p h; cases p <;> first | rfl | exact ⟨rfl, rfl⟩ | (simp at h)

theorem sameBut_comp {ps : List Part} {s t u : State} (h : SameBut ps s t) (h' : SameBut ps t u) : SameBut ps s u :=
  fun p hp => h.trans h' p (by simp [hp])

theorem State.dies_le (s : State) : s.dies ≤ 8 := by
  unfold State.dies Variant.dies
  split <;> decide

/-- A write to a listed field changes no other field. -/
theorem State.wr_sameRegs_of_mem {fs : List Fld} {f : Fld} (h : f ∈ fs) (s : State) (v : Nat) : SameRegs (among fs) s (s.wr f v) := by
  intro k hk
  refine s.wr_tget?_other f v k fun e => ?_
  have : among fs k = true := List.any_eq_true.2 ⟨f, h, by simp [e]⟩
  simp [this] at hk

theorem sameRegs_comp {p : Nat → Bool} {s t u : State} (h : SameRegs p s t) (h' : SameRegs p t u) : SameRegs p s u :=
  fun k hk => (h' k hk).trans (h k hk)

/-! The view of a die. -/

section
variable {d o : Nat}

theorem dieAt_ge : ¬ dieAt d o < 0x800000 := by
  simp only [dieAt]
  omega

theorem addrDie_dieAt (h : o < 0x100000) : addrDie (dieAt d o) = some d := by
  have hd : (dieAt d o - 0x800000) / 0x100000 = d := by
    simp only [dieAt]
    omega
  simp [addrDie, dieAt_ge, hd]

theorem addrBlock_dieAt (h : o < 0x100000) : addrBlock (dieAt d o) = o / 0x10000 := by
  have hd : (dieAt d o - 0x800000) % 0x100000 = o := by
    simp only [dieAt]
    omega
  simp [addrBlock, dieAt_ge, hd]

theorem dieAt_mod : dieAt d o % 0x10000 = o % 0x10000 := by
  simp only [dieAt]
  omega

theorem State.absent_dieAt {s : State} (hd : d < s.dies) (h : o < 0xE0000) : s.absent (dieAt d o) = false := by
  simp only [State.absent, addrDie_dieAt (Nat.lt_trans h (by decide : 0xE0000 < 0x100000)),
    addrBlock_dieAt (Nat.lt_trans h (by decide : 0xE0000 < 0x100000))]
  simp
  omega

theorem State.ringless_dieAt (s : State) : s.ringless (dieAt d o) = false := by
  have h : dieAt d o / 0x10000 ≠ 5 := by
    simp only [dieAt]
    omega
  simp [State.ringless, h]

/-- The registers of the DIE block of every die (R34). -/
theorem fieldsAt_die (h : o < 0x10000) : fieldsAt (dieAt d o) = (((regsDie.find? fun r => r.at? o)).map RDesc.fields).getD [] := by
  have hb : o < 0x100000 := by omega
  have h0 : o / 0x10000 = 0 := by omega
  have hm : o % 0x10000 = o := Nat.mod_eq_of_lt h
  simp [fieldsAt, regAt, onlyD0, blockRegs, addrDie_dieAt hb, addrBlock_dieAt hb, h0, dieAt_mod, hm, dieRegs]

theorem pairAt_die (h : o < 0x10000) : pairAt (dieAt d o) = (diePairs 0).findSome? fun p =>
    if p.off ≤ o && (o - p.off) / p.stride < p.count && (o - p.off) % p.stride % 4 = 0 && (o - p.off) % p.stride / 4 < p.words
    then some ((o - p.off) % p.stride / 4, p.words) else none := by
  have hb : o < 0x100000 := by omega
  have h0 : o / 0x10000 = 0 := by omega
  simp [pairAt, addrDie_dieAt hb, addrBlock_dieAt hb, h0, dieAt_mod, Nat.mod_eq_of_lt h]

theorem State.portRead_die (s : State) (h : o < 0x10000) : s.portRead (dieAt d o) = none := by
  have hb : o < 0x100000 := by omega
  have h0 : o / 0x10000 = 0 := by omega
  simp [State.portRead, addrDie_dieAt hb, addrBlock_dieAt hb, h0]

theorem State.measure_die (s : State) (h : o < 0x10000) : s.measure (dieAt d o) = s := by
  have hb : o < 0x100000 := by omega
  have h0 : o / 0x10000 = 0 := by omega
  simp [State.measure, addrBlock_dieAt hb, h0]

end

/-- A read of the word at an offset of a die's own block. -/
theorem State.readWord_die {s : State} {d o : Nat} (hd : d < s.dies) (ho : o < 0x10000) (hs : s.inService (dieAt d o) = true) :
    s.readWord (dieAt d o) = (fieldsAt (dieAt d o)).foldl (fun w f => w + 2 ^ f.lo * s.fieldRead (dieAt d o) f) 0 := by
  simp [State.readWord, State.absent_dieAt hd (by omega : o < 0xE0000), State.ringless_dieAt, hs]

/-- A field that holds what the register file has reads so in the LIVE view. -/
theorem State.fieldRead_of_view {s : State} (hv : s.rd F.EPOCH_CTL_VIEW = 0) {f : FDesc} (a : Nat) (h : f.kind = .ro ∨ f.kind = .rc) :
    s.fieldRead a f = s.rd (f.fld a) := by
  rcases h with h | h <;> simp [State.fieldRead, State.fieldNow, FDesc.isST, hv, h]

/-- One read of the host. -/
theorem State.hostReads_one (s : State) (a : Nat) :
    s.hostReads a 1 = (s.busRead a).2.onHost fun h => { h with readData := [(s.busRead a).1], poisoned := false } := rfl

theorem State.busReads_length (s : State) (a n : Nat) : (s.busReads a n).1.length = n := by
  induction n generalizing s a with
  | zero => rfl
  | succ n ih => simp [State.busReads, ih]

/-- A read in the block of a die is a read of its slot. -/
theorem State.busRead_die {s : State} {d o : Nat} (hd : d < s.dies) (ho : o < 0x10000) : s.busRead (dieAt d o) = s.readSlot (dieAt d o) := by
  simp [State.busRead, State.absent_dieAt hd (by omega : o < 0xE0000), State.portRead_die s ho]

/-- A read of four bytes of a slot. -/
theorem execRcRead_slot {a : Nat} (h : a % 4 = 0) (s : State) : execRcRead a 4 s = .next (s.hostReads a 1) := by
  have h1 : a / 4 * 4 = a := by omega
  have h2 : (a + 4 + 3) / 4 - a / 4 = 1 := by omega
  simp [execRcRead, h1, h2]

theorem dieAt_mod_four {d o : Nat} (h : o % 4 = 0) : dieAt d o % 4 = 0 := by
  simp only [dieAt]
  omega

/-! DIE_ERR (R34). -/

theorem fieldsAt_dieErr (d : Nat) : fieldsAt (dieAt d 0x10) = [⟨0, 12, .rc, 0, .none, false⟩, ⟨12, 12, .rc, 0, .none, false⟩] :=
  fieldsAt_die (by decide)

theorem State.clearRC_dieErr {s : State} {d : Nat} (hd : d < s.dies) (hs : s.inService (dieAt d 0x10) = true)
    (hv : s.rd F.EPOCH_CTL_VIEW = 0) : s.clearRC (dieAt d 0x10) = (s.wr (F.DIE_ERR_STAGE_DROP d) 0).wr (F.DIE_ERR_EARLY d) 0 := by
  simp [State.clearRC, hv, hs, State.absent_dieAt hd (by decide : 0x10 < 0xE0000), fieldsAt_dieErr]
  rfl

theorem State.busRead_dieErr {s : State} {d : Nat} (hd : d < s.dies) (hs : s.inService (dieAt d 0x10) = true)
    (hl : s.host.pairLatch = []) (hv : s.rd F.EPOCH_CTL_VIEW = 0) :
    s.busRead (dieAt d 0x10) = (s.rd (F.DIE_ERR_STAGE_DROP d) + 2 ^ 12 * s.rd (F.DIE_ERR_EARLY d),
      (s.wr (F.DIE_ERR_STAGE_DROP d) 0).wr (F.DIE_ERR_EARLY d) 0) := by
  have hp : pairAt (dieAt d 0x10) = none := pairAt_die (by decide)
  rw [State.busRead_die hd (by decide)]
  simp [State.readSlot, hl, State.measure_die, hp, State.readWord_die hd _ hs, fieldsAt_dieErr, State.fieldRead_of_view hv,
    State.clearRC_dieErr hd hs hv]
  rfl

/-! DIE_LINE_LO and DIE_LINE_HI (R32). -/

theorem State.inService_die (s : State) {d o : Nat} (h : o < 0x10000) : s.inService (dieAt d o) = decide (2 ≤ s.rd (F.DIE_STAT_STAGE d)) := by
  have hb : o < 0x100000 := by omega
  have h0 : o / 0x10000 = 0 := by omega
  simp [State.inService, neededStage, State.stageAt, addrDie_dieAt hb, addrBlock_dieAt hb, h0]

theorem fieldsAt_dieLine (d : Nat) :
    fieldsAt (dieAt d 0x8) = [⟨0, 24, .ro, 0, .none, false⟩] ∧ fieldsAt (dieAt d 0xC) = [⟨0, 24, .ro, 0, .none, false⟩] :=
  ⟨fieldsAt_die (by decide), fieldsAt_die (by decide)⟩

/-- A read of the low word returns it and latches the high word. -/
theorem State.busRead_dieLine {s : State} {d : Nat} (hd : d < s.dies) (hs : s.inService (dieAt d 0x8) = true)
    (hl : s.host.pairLatch = []) (hv : s.rd F.EPOCH_CTL_VIEW = 0) : ∃ f : HostPort → HostPort,
    s.busRead (dieAt d 0x8) = (s.rd (F.DIE_LINE_LO_LINE d), s.onHost f) ∧
      (f s.host).pairLatch = [(dieAt d 0xC, s.rd (F.DIE_LINE_HI_LINE d))] := by
  have hp : pairAt (dieAt d 0x8) = some (0, 2) := pairAt_die (by decide)
  have hs' : s.inService (dieAt d 0xC) = true := by rw [s.inService_die (by decide)] at hs ⊢; exact hs
  obtain ⟨hlo, hhi⟩ := fieldsAt_dieLine d
  have hc : s.clearRC (dieAt d 0x8) = s := by simp [State.clearRC, hlo]
  have lo : s.readWord (dieAt d 0x8) = s.rd (F.DIE_LINE_LO_LINE d) := by
    simp [State.readWord_die hd _ hs, hlo, State.fieldRead_of_view hv]
    rfl
  have hi : s.readWord (dieAt d 0xC) = s.rd (F.DIE_LINE_HI_LINE d) := by
    simp [State.readWord_die hd _ hs', hhi, State.fieldRead_of_view hv]
    rfl
  have ha : dieAt d 0x8 + 4 = dieAt d 0xC := rfl
  rw [State.busRead_die hd (by decide)]
  simp only [State.readSlot, hl, List.find?_nil, State.measure_die s (by decide : 0x8 < 0x10000), hp, hc, lo]
  refine ⟨_, rfl, ?_⟩
  simp [hl, ha, hi]

/-- The read after it returns the word latched. -/
theorem State.busRead_latched {s : State} {d v : Nat} (hd : d < s.dies) (hl : s.host.pairLatch = [(dieAt d 0xC, v)]) :
    (s.busRead (dieAt d 0xC)).1 = v := by
  rw [State.busRead_die hd (by decide)]
  simp [State.readSlot, hl]

/-! Discarded and early writes (R133, R155). -/

theorem State.inc_sameRegs_of_mem {fs : List Fld} {f : Fld} (h : f ∈ fs) (s : State) : SameRegs (among fs) s (s.inc f) :=
  s.wr_sameRegs_of_mem h _

theorem State.busDiscard_discards (s : State) (a : Nat) :
    (s.busDiscard a).rd F.WIN_BAR0_DISCARD_COUNT = min (s.rd F.WIN_BAR0_DISCARD_COUNT + 1) (2 ^ 24 - 1) ∧
      SameBut [.rcd] s (s.busDiscard a) ∧ SameRegs (among [F.WIN_BAR0_DISCARD_COUNT]) s (s.busDiscard a) :=
  ⟨s.inc_rd F.WIN_BAR0_DISCARD_COUNT, (s.wr_sameBut _ _).trans (State.windowed_sameBut _ _ _ _ _ _ _), s.inc_sameRegs_of_mem (by simp)⟩

theorem State.tooEarly_counts {s : State} {a d : Nat} (h : addrDie a = some d) :
    SameBut [] s (s.tooEarly a) ∧ (s.tooEarly a).rd F.BOOT_EARLY_VALUE = min (s.rd F.BOOT_EARLY_VALUE + 1) (2 ^ 24 - 1) ∧
      (s.tooEarly a).rd (F.DIE_ERR_EARLY d) = min (s.rd (F.DIE_ERR_EARLY d) + 1) 0xFFF ∧
      SameRegs (among [F.BOOT_EARLY_VALUE, F.DIE_ERR_EARLY d]) s (s.tooEarly a) := by
  have ht : s.tooEarly a = (s.inc F.BOOT_EARLY_VALUE).inc (F.DIE_ERR_EARLY d) := by simp [State.tooEarly, h]
  have hk : F.BOOT_EARLY_VALUE.key ≠ (F.DIE_ERR_EARLY d).key := by
    simp only [Fld.key, F.BOOT_EARLY_VALUE, F.DIE_ERR_EARLY]
    omega
  rw [ht]
  refine ⟨(s.wr_sameBut _ _).trans (State.wr_sameBut _ _ _), ?_, ?_,
    sameRegs_comp (s.inc_sameRegs_of_mem (by simp)) (State.inc_sameRegs_of_mem (by simp) _)⟩
  · rw [State.inc, State.incBy_rd_other _ _ _ _ hk, State.inc_rd]
    rfl
  · rw [State.inc_rd, State.inc, State.incBy_rd_other _ _ _ _ hk.symm]
    rfl

/-- Fields of one register that begin at different bits are apart. -/
theorem State.rd_wr_apart (s : State) (a : Nat) {lo lo' w w' r r' : Nat} (v : Nat) (h : lo' ≠ lo) :
    (s.wr ⟨a, lo, w, r⟩ v).rd ⟨a, lo', w', r'⟩ = s.rd ⟨a, lo', w', r'⟩ :=
  s.rd_wr_other _ _ v (by simp [Fld.key, h])

/-! PKG_SCRATCH. -/

theorem State.writePair_scratch (s : State) (slot : Nat) :
    s.writePair 0x10 slot = s.wr F.PKG_SCRATCH_VALUE (slot % 2 ^ 24) := by
  have hp : pairAt 0x10 = none := by decide
  have hf : fieldsAt 0x10 = [⟨0, 24, .rw, 0, .none, false⟩] := by decide
  have hd : addrDie 0x10 = none := rfl
  have hm : F.EPOCH_MIN_LEAD_LEAD.addr ≠ 0x10 := by decide
  have hc : commandField 0x10 0 = false := by decide
  simp [State.writePair, hp, State.writeReg, State.ringless, hf, State.writeEn, hm.symm, hd, State.packCommand, State.writeField, hc,
    FDesc.isST, State.ringHolds, FDesc.from, Clamp.cut, bits]
  rfl

/-- A search for one value finds it where it is listed. -/
theorem find?_eq_of_mem {α : Type} [DecidableEq α] {a : α} {l : List α} (h : a ∈ l) : l.find? (fun b => decide (b = a)) = some a := by
  cases hf : l.find? fun b => decide (b = a) with
  | none => simpa using List.find?_eq_none.1 hf a h
  | some b =>
    have : b = a := by simpa using List.find?_some hf
    rw [this]

/-- EN is not requested of a block that is OFF. -/
theorem State.enWrite_off {s : State} {b : Block} (ha : alwaysOn b = false) (h : s.blockState b = 0) :
    s.enWrite b false = s.wr (blockFld b 0 1) 0 := by
  have : (s.wr (blockFld b 0 1) 0).blockState b = 0 := (s.rd_wr_apart _ 0 (by decide)).trans h
  simp [State.enWrite, ha, nat, this]

/-! QUE_CTL (R177, R201). -/

/-- The address of QUE_CTL of a ring. -/
def queCtl (q : Nat) : Nat := 0x50000 + 4 * q

section
variable {q : Nat} (hq : q < 256)
include hq

theorem queCtl_block : queCtl q / 0x10000 = 5 ∧ queCtl q % 0x10000 = 4 * q := by
  simp only [queCtl]
  omega

theorem addrDie_queCtl : addrDie (queCtl q) = none := by
  have : queCtl q < 0x800000 := by
    simp only [queCtl]
    omega
  simp [addrDie, this]

theorem ringOf_queCtl : ringOf (queCtl q) = q := by
  simp only [ringOf, queCtl]
  omega

theorem fieldsAt_queCtl : fieldsAt (queCtl q) = [⟨0, 1, .en, 0, .none, false⟩, ⟨1, 1, .ro, 0, .none, false⟩, ⟨2, 1, .ro, 0, .none, false⟩,
    ⟨4, 2, .ro, 0, .none, false⟩, ⟨6, 1, .w1c, 0, .none, false⟩, ⟨7, 1, .w1c, 0, .none, false⟩, ⟨9, 3, .ro, 0, .none, true⟩,
    ⟨12, 5, .rw, 0, .between 4 16, true⟩] := by
  obtain ⟨hb, ho⟩ := queCtl_block hq
  have h1 : onlyD0 (queCtl q) = false := by
    have : ¬ 0x900000 ≤ queCtl q := by
      simp only [queCtl]
      omega
    simp [onlyD0, this]
  simp [fieldsAt, regAt, h1, blockRegs, addrDie_queCtl hq, hb, ho, pkgRegs, regsQue, regsQue0, RDesc.at?, hq]

theorem blockCtl_eq_queCtl (b : Block) : blockCtl b = queCtl q ↔ b = .ring q := by
  cases b <;> simp [blockCtl, blockInfo, queCtl, dieAt] <;> omega

theorem blockAt_queCtl : blockAt (queCtl q) = some (.ring q) := by
  have hmem : Block.ring q ∈ packBlocks := by
    unfold packBlocks
    simp only [List.mem_append, List.mem_map, List.mem_range]
    exact .inl (.inl (.inr ⟨q, hq, rfl⟩))
  have hp : (fun b => decide (blockCtl b = queCtl q)) = fun b => decide (b = Block.ring q) := by
    simp only [blockCtl_eq_queCtl hq]
  unfold blockAt
  rw [hp]
  exact find?_eq_of_mem (List.mem_append_right _ hmem)

theorem commandField_queCtl (lo : Nat) : commandField (queCtl q) lo = false := by
  have h1 : queCtl q ≠ F.TIME_CTL_SRC.addr := by
    simp only [queCtl, F.TIME_CTL_SRC]
    omega
  have h2 : queCtl q ≠ F.TIME_ADJ_RATE.addr := by
    simp only [queCtl, F.TIME_ADJ_RATE]
    omega
  simp [commandField, addrDie_queCtl hq, h1, h2, (queCtl_block hq).1]

theorem State.absent_queCtl (s : State) : s.absent (queCtl q) = false := by
  simp [State.absent, addrDie_queCtl hq, (queCtl_block hq).1]

theorem State.inService_queCtl (s : State) : s.inService (queCtl q) = s.inService 0x50000 := by
  have h : addrDie 0x50000 = none := rfl
  simp [State.inService, neededStage, State.stageAt, addrDie_queCtl hq, (queCtl_block hq).1, h]

theorem State.ringless_queCtl {s : State} (hd : q < 32 * s.dies) : s.ringless (queCtl q) = false := by
  simp [State.ringless, ringOf_queCtl hq, hd]

/-- QUE_CTL after a write of `w` to its fields beside EN, with the ring OFF. -/
def State.queCtlWritten (s : State) (q w : Nat) : State :=
  ((s.wr (F.QUE_CTL_START_FAIL q) (s.rd (F.QUE_CTL_START_FAIL q) - (s.rd (F.QUE_CTL_START_FAIL q) &&& bits w 6 1))).wr
    (F.QUE_CTL_STOP_TIMEOUT q) (s.rd (F.QUE_CTL_STOP_TIMEOUT q) - (s.rd (F.QUE_CTL_STOP_TIMEOUT q) &&& bits w 7 1))).wr
    (F.QUE_CTL_DEPTH q) (min 16 (max 4 (bits w 12 5)))

theorem State.queCtlWritten_fields {s : State} (h0 : s.blockState (.ring q) = 0) (w : Nat) :
    (fieldsAt (queCtl q)).foldl (fun s f => s.writeField (queCtl q) w f) s = s.queCtlWritten q w := by
  have hF : F.QUE_CTL_STATE q = ⟨queCtl q, 4, 2, 0⟩ := rfl
  have hst : s.rd ⟨queCtl q, 4, 2, 0⟩ = 0 := h0
  simp [fieldsAt_queCtl hq, State.writeField, commandField_queCtl hq, FDesc.isST, FDesc.fld, State.ringHolds, ringOf_queCtl hq, hF,
    State.rd_wr_apart, hst, FDesc.from, Clamp.cut]
  rfl

/-- What a write of a slot to QUE_CTL of a ring that is OFF comes to when EN is not requested. -/
theorem State.writePair_queCtl {s : State} (hd : q < 32 * s.dies) (h0 : s.blockState (.ring q) = 0) {slot : Nat}
    (hen : slot.testBit 0 = false) :
    s.writePair (queCtl q) slot = (s.queCtlWritten q (slot % 2 ^ 24)).wr (blockFld (.ring q) 0 1) 0 := by
  obtain ⟨hb, ho⟩ := queCtl_block hq
  have hp : pairAt (queCtl q) = none := by simp [pairAt, addrDie_queCtl hq, hb, packPairs]
  have hm : queCtl q ≠ F.EPOCH_MIN_LEAD_LEAD.addr := by
    simp only [queCtl, F.EPOCH_MIN_LEAD_LEAD]
    omega
  have hbit : bit (slot % 2 ^ 24) 0 = false := by
    have : slot % 2 ^ 24 % 2 = slot % 2 := by omega
    simp [Nat.testBit_zero] at hen
    simp [bit, hen]
  have hany : (fieldsAt (queCtl q)).any (fun f => decide (f.kind = .en)) = true := by simp [fieldsAt_queCtl hq]
  have hst : (s.queCtlWritten q (slot % 2 ^ 24)).blockState (.ring q) = 0 := by
    refine Eq.trans ?_ h0
    simp only [State.queCtlWritten, State.blockState, blockFld]
    exact (State.rd_wr_apart _ _ _ (by decide)).trans ((State.rd_wr_apart _ _ _ (by decide)).trans (State.rd_wr_apart _ _ _ (by decide)))
  have h1 : ¬ 0x800 ≤ 4 * q := by omega
  have h2 : ¬ 0x400 ≤ 4 * q := by omega
  simp only [State.writePair, hp, State.writeReg, State.ringless_queCtl hq hd, Bool.false_eq_true, if_false, State.queCtlWritten_fields hq h0,
    State.writeEn, hany, if_true, blockAt_queCtl hq, hbit, State.enWrite_off rfl hst, if_neg hm, addrDie_queCtl hq]
  simp [State.packCommand, hb, ho, h1, h2]

end

section
variable (s : State) (q : Nat) {slot : Nat}

/-- START_FAIL is cleared by a one written to it, and DEPTH takes its bits within 4 to 16. -/
theorem State.queCtlWritten_reads (h6 : slot.testBit 6 = true) :
    (s.queCtlWritten q (slot % 2 ^ 24)).rd (F.QUE_CTL_START_FAIL q) = 0 ∧
      (s.queCtlWritten q (slot % 2 ^ 24)).rd (F.QUE_CTL_DEPTH q) = min 16 (max 4 (slot / 2 ^ 12 % 32)) := by
  have hone : bits (slot % 2 ^ 24) 6 1 = 1 := by
    rw [Nat.testBit_eq_decide_div_mod_eq, decide_eq_true_eq] at h6
    simp only [bits]
    omega
  have hdepth : bits (slot % 2 ^ 24) 12 5 = slot / 2 ^ 12 % 32 := by
    simp only [bits]
    omega
  rw [State.queCtlWritten, hone, hdepth]
  constructor
  · refine (State.rd_wr_apart _ _ _ (by decide)).trans ((State.rd_wr_apart _ _ _ (by decide)).trans ((State.rd_wr_same _ _ _).trans ?_))
    rw [Nat.and_one_is_mod]
    simp only [F.QUE_CTL_START_FAIL]
    omega
  · refine (State.rd_wr_same _ _ _).trans (Nat.mod_eq_of_lt ?_)
    simp only [F.QUE_CTL_DEPTH]
    omega

theorem State.queCtlWritten_sameRegs {fs : List Fld} (w : Nat) (hf : F.QUE_CTL_START_FAIL q ∈ fs) (ht : F.QUE_CTL_STOP_TIMEOUT q ∈ fs)
    (hd : F.QUE_CTL_DEPTH q ∈ fs) : SameRegs (among fs) s (s.queCtlWritten q w) :=
  sameRegs_comp (sameRegs_comp (s.wr_sameRegs_of_mem hf _) (State.wr_sameRegs_of_mem ht _ _)) (State.wr_sameRegs_of_mem hd _ _)

end

end Sys2Proof.Machine
end

section

open Sys2Proof Sys2Proof.Machine Sys2Proof.Safety

/-- Settles O3, clause by clause: what a write comes to, one read of a slot, and the registers that the clauses name. -/
theorem registerAccessesAct : Obligations.RegisterAccessesAct := by
  refine ⟨fun a whole slot s => ?_, fun a s => ?_, fun a len s => ?_, fun slot s hs => ?_, fun q slot s hd hs h6 h0 hen => ?_,
    fun a whole slot s h => ?_, fun a d slot s habs ha hs hd => ?_, fun d s hd hs hl hv => ?_, fun d s hd hs hl hv => ?_⟩
  · rfl
  · exact ⟨_, rfl, rfl, State.onHost_sameBut _ _, rfl⟩
  · exact ⟨_, rfl, State.busReads_length _ _ _, rfl⟩
  · have hw : execRegisterWrite 0x10 true slot s = .next (s.busWrite 0x10 slot.toNat true) := rfl
    have habs : s.absent 0x10 = false := rfl
    simp [exec, hw, State.busWrite, habs, State.served_in hs, State.writePair_scratch]
  · have hq : q < 256 := by
      have := s.dies_le
      omega
    have hw : exec (.registerWrite (queCtl q) true slot) s = .next (s.busWrite (queCtl q) slot.toNat true) := rfl
    have ha : queCtl q % 4 = 0 := by
      simp only [queCtl]
      omega
    have hs' : s.inService (queCtl q) = true := (s.inService_queCtl hq).trans hs
    obtain ⟨hfail, hdepth⟩ := s.queCtlWritten_reads q h6
    refine ⟨_, hw, ?_⟩
    simp only [State.busWrite, s.absent_queCtl hq, ha, State.served_in hs', State.writePair_queCtl hq hd h0 hen]
    exact ⟨(State.rd_wr_apart _ _ _ (by decide)).trans hfail, (State.rd_wr_apart _ _ _ (by decide)).trans hdepth,
      sameRegs_comp (s.queCtlWritten_sameRegs q _ (by simp) (by simp) (by simp)) (State.wr_sameRegs_of_mem (by simp) _ _)⟩
  · exact ⟨_, by simp only [exec, execRegisterWrite, State.busWrite, h, if_true], s.busDiscard_discards a⟩
  · refine ⟨s.tooEarly a, ?_, State.tooEarly_counts hd⟩
    simp [exec, execRegisterWrite, State.busWrite, habs, ha, State.served_early hs]
  · have hr : exec (.rcRead (dieAt d 0x10) 4) s = .next (s.hostReads (dieAt d 0x10) 1) := execRcRead_slot (dieAt_mod_four rfl) s
    have hb := State.busRead_dieErr hd hs hl hv
    refine ⟨_, hr, ?_, ?_, ?_, ?_, ?_⟩ <;> rw [State.hostReads_one, hb]
    · rfl
    · exact (State.rd_wr_apart _ _ _ (by decide)).trans (State.rd_wr_same _ _ _)
    · exact State.rd_wr_same _ _ _
    · exact ((s.wr_sameBut _ _).trans (State.wr_sameBut _ _ _)).trans (State.onHost_sameBut _ _)
    · exact sameRegs_comp (s.wr_sameRegs_of_mem (by simp) _) (State.wr_sameRegs_of_mem (by simp) _ _)
  · have hr : exec (.pairLowRead (dieAt d 0x8)) s = .next (s.hostReads (dieAt d 0x8) 1) := by
      have ha : dieAt d 0x8 / 4 * 4 = dieAt d 0x8 := by
        have := dieAt_mod_four (d := d) (o := 0x8) rfl
        omega
      simp [exec, execPairLowRead, ha]
    obtain ⟨f, hb, hlatch⟩ := State.busRead_dieLine hd hs hl hv
    rw [State.hostReads_one, hb] at hr
    refine ⟨_, _, hr, rfl, ?_, rfl, execRcRead_slot (dieAt_mod_four rfl) _, ?_⟩
    · exact sameBut_comp (s.onHost_sameBut f) (State.onHost_sameBut _ _)
    · exact congrArg (fun v => [v]) (State.busRead_latched hd hlatch)

end

section
/-! SUPPORT. Spots, verdicts and the histories of nozzles. -/

namespace Sys2Proof.Machine

open Sys2Proof Sys2Proof.Safety

/-! A spot (R403). -/

/-- A pixel that is not seen: it is missing, or at 4,095. -/
def Blind (o : Option Nat) : Prop := ∀ p, o = some p → 4095 ≤ p

theorem allSeen_cons (o : Option Nat) (l : List (Option Nat)) :
    allSeen (o :: l) = match o, allSeen l with
      | some v, some vs => if v < 4095 then some (v :: vs) else none
      | _, _ => none := rfl

theorem allSeen_blind {o : Option Nat} {l : List (Option Nat)} (ho : Blind o) (h : o ∈ l) : allSeen l = none := by
  induction l with
  | nil => simp at h
  | cons x r ih =>
    rw [allSeen_cons]
    rcases List.mem_cons.1 h with rfl | h
    · cases o with
      | none => rfl
      | some v =>
        have : ¬ v < 4095 := Nat.not_lt.2 (ho v rfl)
        cases allSeen r <;> simp [this]
    · rw [ih h]
      cases x <;> rfl

theorem allSeen_replicate {p : Nat} (h : p < 4095) (n : Nat) : allSeen (List.replicate n (some p)) = some (List.replicate n p) := by
  induction n with
  | zero => rfl
  | succ n ih => rw [List.replicate_succ, allSeen_cons, ih]; simp [h, List.replicate_succ]

section
variable {look : Int → Int → Option Nat} {inv : Bool} {line col : Int}

theorem viewSpot_window_blind {dy dx : Int} (hy : -1 ≤ dy ∧ dy ≤ 1) (hx : -1 ≤ dx ∧ dx ≤ 1) (h : Blind (look (line + dy) (col + dx))) :
    viewSpot look inv line col = none := by
  have hmem : look (line + dy) (col + dx) ∈
      [-1, 0, 1].flatMap (fun dy => [-1, 0, 1].map (fun dx => look (line + dy) (col + dx))) :=
    List.mem_flatMap.2 ⟨dy, by simp; omega, List.mem_map.2 ⟨dx, by simp; omega, rfl⟩⟩
  unfold viewSpot
  rw [allSeen_blind h hmem]
  split <;> simp_all

theorem viewSpot_ends_blind (h : Blind (look line (col - 2)) ∨ Blind (look line (col + 2))) : viewSpot look inv line col = none := by
  unfold viewSpot
  split
  · rename_i a b win ha hb _
    have : 4095 ≤ a ∨ 4095 ≤ b := h.imp (fun h => h a ha) (fun h => h b hb)
    simp [this]
  · rfl

theorem viewSpot_even {p : Nat} (hp : p < 4095) (h : ∀ l c, look l c = some p) : ∃ v, viewSpot look inv line col = some v ∧ v.contrast = 0 := by
  have hwin := allSeen_replicate hp 9
  have hlt : ¬ 4095 ≤ p := Nat.not_le.2 hp
  have hp' : p ≤ 4095 := Nat.le_of_lt hp
  simp only [List.replicate] at hwin
  simp only [viewSpot, h, List.flatMap_cons, List.flatMap_nil, List.map_cons, List.map_nil, List.cons_append, List.nil_append, List.append_nil,
    hwin]
  rw [if_neg (by simp [hlt])]
  refine ⟨_, rfl, ?_⟩
  cases inv <;> simp [hp'] <;> omega

end

theorem pass_or_deviated (far : Prop) [Decidable far] :
    (if far then Spot.deviated else .pass) = .pass ∨ (if far then Spot.deviated else .pass) = .deviated := by
  split
  · exact .inr rfl
  · exact .inl rfl

theorem State.judgeSpot_missing {s : State} {v : SpotView} (h : v.contrast < 2 * s.rd F.HLTH_THR_MISS_THR) (c : Nat) (num : Int) (scale : Nat)
    (col : Int) : s.judgeSpot c v num scale col = .missing := by
  simp [State.judgeSpot, h]

theorem State.judgeSpot_seen {s : State} {v : SpotView} (h : 2 * s.rd F.HLTH_THR_MISS_THR ≤ v.contrast) (c : Nat) (num : Int) (scale : Nat)
    (col : Int) : s.judgeSpot c v num scale col = .pass ∨ s.judgeSpot c v num scale col = .deviated := by
  simp only [State.judgeSpot, if_neg (Int.not_lt.2 h)]
  exact pass_or_deviated _

end Sys2Proof.Machine
end

section
/-! SUPPORT. What taking a nozzle out or back, judging its head and clearing nozzles do to registers, histories, events and causes. -/

namespace Sys2Proof.Machine

open Sys2Proof Sys2Proof.Safety

/-- The histories and the verdicts in flight stand, and no event or cause of `s` has gone. -/
structure Upheld (s t : State) : Prop where
  hists : t.eye.hists = s.eye.hists
  verdicts : t.eye.verdicts = s.eye.verdicts
  raised : s.rcd.raised ⊆ t.rcd.raised
  causes : s.irq.causes ⊆ t.irq.causes

theorem Upheld.refl (s : State) : Upheld s s := ⟨rfl, rfl, List.Subset.refl _, List.Subset.refl _⟩

theorem Upheld.trans {s t u : State} (h : Upheld s t) (h' : Upheld t u) : Upheld s u :=
  ⟨h'.hists.trans h.hists, h'.verdicts.trans h.verdicts, List.Subset.trans h.raised h'.raised, List.Subset.trans h.causes h'.causes⟩

theorem Upheld.foldl {α : Type} {f : State → α → State} (h : ∀ s a, Upheld s (f s a)) (l : List α) (s : State) : Upheld s (l.foldl f s) := by
  induction l generalizing s with
  | nil => exact .refl _
  | cons a r ih => exact (h s a).trans (ih _)

theorem live_foldl {α : Type} {f : State → α → State} (h : ∀ s a, (f s a).live = s.live) (l : List α) (s : State) :
    (l.foldl f s).live = s.live := by
  induction l generalizing s with
  | nil => rfl
  | cons a r ih => exact (ih _).trans (h s a)

section
variable (s : State)

theorem State.wr_upheld (f : Fld) (v : Nat) : Upheld s (s.wr f v) := ⟨rfl, rfl, List.Subset.refl _, List.Subset.refl _⟩

theorem State.inc_upheld (f : Fld) : Upheld s (s.inc f) := s.wr_upheld f _

theorem State.event_upheld (d c : Nat) (p : List Nat) : Upheld s (s.event d c p) :=
  ⟨rfl, rfl, List.subset_append_left _ _, List.Subset.refl _⟩

theorem State.cause_upheld (n : Nat) : Upheld s (s.cause n) := ⟨rfl, rfl, List.Subset.refl _, List.subset_append_left _ _⟩

theorem State.life_upheld (d n a : Nat) : Upheld s (s.life d n a) := ⟨rfl, rfl, List.Subset.refl _, List.Subset.refl _⟩

theorem State.onPair_upheld (f : Pair → Pair) : Upheld s (s.onPair f) := ⟨rfl, rfl, List.Subset.refl _, List.Subset.refl _⟩

/-- The heads that have failed are no part of what is upheld. -/
theorem State.degraded_upheld (f : List Nat → List Nat) : Upheld s (s.onEye fun e => { e with degraded := f e.degraded }) :=
  ⟨rfl, rfl, List.Subset.refl _, List.Subset.refl _⟩

theorem State.pairSend_upheld (type line : Nat) (body : List Nat) : Upheld s (s.pairSend type line body) := by
  unfold State.pairSend
  split
  · exact s.onPair_upheld _
  · exact .refl s

@[simp] theorem State.pairSend_live (type line : Nat) (body : List Nat) : (s.pairSend type line body).live = s.live := by
  unfold State.pairSend
  split <;> rfl

/-- A judgement of a head writes no register. -/
@[simp] theorem State.judgeHead_live (h : Nat) : (s.judgeHead h).live = s.live := by
  simp only [State.judgeHead]
  (repeat' split) <;> rfl

theorem State.judgeHead_upheld (h : Nat) : Upheld s (s.judgeHead h) := by
  simp only [State.judgeHead]
  (repeat' split)
  · exact (s.degraded_upheld (·.filter (· != h))).trans (State.event_upheld _ _ _ _)
  · exact .refl s
  · exact ((s.degraded_upheld (· ++ [h])).trans (State.event_upheld _ _ _ _)).trans (State.cause_upheld _ _)
  · exact .refl s

/-- Of the registers, taking a nozzle out or back writes EB_OUT of the nozzle. -/
theorem State.setEbOut_live (a : Nat) (out : Bool) (line : Nat) : (s.setEbOut a out line).live = (s.wr (nozzleEbOut a) (nat out)).live := by
  simp only [State.setEbOut]
  (repeat' split) <;> simp

theorem State.setEbOut_upheld (a : Nat) (out : Bool) (line : Nat) : Upheld s (s.setEbOut a out line) := by
  simp only [State.setEbOut]
  (repeat' split)
  · exact ((s.wr_upheld _ _).trans (State.onPair_upheld _ _)).trans (State.pairSend_upheld _ _ _ _)
  · exact (s.wr_upheld _ _).trans (State.onPair_upheld _ _)
  · exact s.wr_upheld _ _

end

/-! A verdict joins the history of its nozzle (R407). -/

/-- The state once a verdict has joined its nozzle's history. -/
def State.heard (s : State) (v : Verdict) : State :=
  s.onHist v.nozzle fun h =>
    { hist := ((v.spot != .pass) :: h.hist).take (s.rd F.HLTH_KM_M), last := some v.spot, checks := min 255 (h.checks + 1) }

/-- The last verdicts of a nozzle. -/
def State.lastOf (s : State) (a : Nat) : List Bool := (tget s.eye.hists a ⟨[], none, 0⟩).hist

/-- A nozzle changes between in and out of service: its event, its cause and the judgement of its head. -/
def State.toldOf (s : State) (v : Verdict) (code : Nat) (counted : State → State) : State :=
  let t := counted ((s.event (v.nozzle / 131072) code [v.nozzle, v.bar, v.page]).causeAt (v.nozzle / 131072) 34)
  match t.nozzleHead v.nozzle with
  | some h => t.judgeHead h
  | none => t

theorem State.onVerdict_eq (s : State) (v : Verdict) : s.onVerdict v =
    if !(s.heard v).on (F.HLTH_BAR_DECIDE v.bar) then s.heard v
    else if !(s.heard v).on (nozzleEbOut v.nozzle) && decide (s.rd F.HLTH_KM_K ≤ (((s.heard v).lastOf v.nozzle).filter id).length) then
      ((s.heard v).setEbOut v.nozzle true ((s.heard v).outLine v.nozzle)).toldOf v 0x0B01
        fun t => (t.inc F.HLTH_OUT_COUNT).life (v.nozzle / 131072) 16 1
    else if (s.heard v).on (nozzleEbOut v.nozzle) && decide (((s.heard v).lastOf v.nozzle).length = s.rd F.HLTH_KM_M) &&
        decide ((((s.heard v).lastOf v.nozzle).filter id).length = 0) then
      ((s.heard v).setEbOut v.nozzle false ((s.heard v).outLine v.nozzle)).toldOf v 0x0B02 fun t => t.inc F.HLTH_BACK_COUNT
    else s.heard v := by
  simp only [State.onVerdict, State.toldOf, State.heard, State.lastOf]
  rfl

/-- The words of a verdict in a record. -/
def Verdict.words (v : Verdict) : List Nat := [v.nozzle % 2 ^ 24, v.bar % 2 ^ 24, v.page % 2 ^ 24]

section
variable (s : State) (v : Verdict)

theorem State.onEye_sameBut (f : Eye → Eye) : SameBut [.eye] s (s.onEye f) := by
  intro p h; cases p <;> first | rfl | exact ⟨rfl, rfl⟩ | (simp at h)

theorem State.lastOf_heard :
    (s.heard v).lastOf v.nozzle = ((v.spot != .pass) :: (tget s.eye.hists v.nozzle ⟨[], none, 0⟩).hist).take (s.rd F.HLTH_KM_M) := by
  simp [State.lastOf, State.heard, State.onHist]

theorem State.heard_hists_other {a : Nat} (h : a ≠ v.nozzle) : tget? (s.heard v).eye.hists a = tget? s.eye.hists a :=
  tget?_tset_other _ _ _ _ h

theorem State.toldOf_live (code : Nat) (counted : State → State) : (s.toldOf v code counted).live =
    (counted ((s.event (v.nozzle / 131072) code [v.nozzle, v.bar, v.page]).causeAt (v.nozzle / 131072) 34)).live := by
  simp only [State.toldOf]
  split <;> simp

theorem State.toldOf_upheld (code : Nat) {counted : State → State} (h : ∀ t, Upheld t (counted t)) : Upheld s (s.toldOf v code counted) := by
  have hc := ((s.event_upheld (v.nozzle / 131072) code [v.nozzle, v.bar, v.page]).trans
    (State.cause_upheld _ (256 * (v.nozzle / 131072) + 34))).trans (h _)
  simp only [State.toldOf]
  split
  · exact hc.trans (State.judgeHead_upheld _ _)
  · exact hc

/-- The change of a nozzle is recorded and causes the die's interrupt. -/
theorem State.toldOf_tells (code : Nat) {counted : State → State} (h : ∀ t, Upheld t (counted t)) :
    (∃ e ∈ (s.toldOf v code counted).rcd.raised, e.die = v.nozzle / 131072 ∧ e.code = code ∧ e.payload = v.words) ∧
      256 * (v.nozzle / 131072) + 34 ∈ (s.toldOf v code counted).irq.causes := by
  have hc : Upheld ((s.event (v.nozzle / 131072) code [v.nozzle, v.bar, v.page]).causeAt (v.nozzle / 131072) 34)
      (s.toldOf v code counted) := by
    simp only [State.toldOf]
    split
    · exact (h _).trans (State.judgeHead_upheld _ _)
    · exact h _
  exact ⟨⟨_, hc.raised (List.mem_append_right _ (List.mem_singleton.2 rfl)), rfl, rfl, rfl⟩,
    hc.causes (List.mem_append_right _ (List.mem_singleton.2 rfl))⟩

/-- A counter of the block is apart from EB_OUT of every nozzle. -/
theorem State.rd_out_inc {f : Fld} (hf : f.key < 0x20000000) (a : Nat) : (s.inc f).rd (nozzleEbOut a) = s.rd (nozzleEbOut a) := by
  refine s.incBy_rd_other f _ 1 ?_
  simp only [Fld.key, nozzleEbOut] at *
  omega

theorem State.rd_setEbOut (a : Nat) (out : Bool) (line : Nat) : (s.setEbOut a out line).rd (nozzleEbOut a) = nat out := by
  rw [State.rd_congr (s.setEbOut_live a out line), State.rd_wr_same]
  cases out <;> rfl

/-- A nozzle that DECIDE takes out. -/
theorem State.onVerdict_out (hd : s.on (F.HLTH_BAR_DECIDE v.bar) = true) (ho : s.on (nozzleEbOut v.nozzle) = false)
    (hk : s.rd F.HLTH_KM_K ≤ (((s.heard v).lastOf v.nozzle).filter id).length) :
    s.onVerdict v = ((s.heard v).setEbOut v.nozzle true ((s.heard v).outLine v.nozzle)).toldOf v 0x0B01
      fun t => (t.inc F.HLTH_OUT_COUNT).life (v.nozzle / 131072) 16 1 := by
  have hd' : (s.heard v).on (F.HLTH_BAR_DECIDE v.bar) = true := hd
  have ho' : (s.heard v).on (nozzleEbOut v.nozzle) = false := ho
  simp [State.onVerdict_eq, hd', ho', hk]

/-- A nozzle that DECIDE puts back. -/
theorem State.onVerdict_back (hd : s.on (F.HLTH_BAR_DECIDE v.bar) = true) (ho : s.on (nozzleEbOut v.nozzle) = true)
    (hm : ((s.heard v).lastOf v.nozzle).length = s.rd F.HLTH_KM_M) (hf : (((s.heard v).lastOf v.nozzle).filter id).length = 0) :
    s.onVerdict v = ((s.heard v).setEbOut v.nozzle false ((s.heard v).outLine v.nozzle)).toldOf v 0x0B02 fun t => t.inc F.HLTH_BACK_COUNT := by
  have hd' : (s.heard v).on (F.HLTH_BAR_DECIDE v.bar) = true := hd
  have ho' : (s.heard v).on (nozzleEbOut v.nozzle) = true := ho
  rw [State.onVerdict_eq, if_neg (by simp [hd']), if_neg (by simp [ho']), if_pos (by simp only [ho', hm, hf]; rfl)]

/-- A verdict that only joins the history. -/
theorem State.onVerdict_heard (h : s.on (F.HLTH_BAR_DECIDE v.bar) = false ∨
    (s.on (nozzleEbOut v.nozzle) = false ∧ (((s.heard v).lastOf v.nozzle).filter id).length < s.rd F.HLTH_KM_K) ∨
    (s.on (nozzleEbOut v.nozzle) = true ∧ (((s.heard v).lastOf v.nozzle).length ≠ s.rd F.HLTH_KM_M ∨
      (((s.heard v).lastOf v.nozzle).filter id).length ≠ 0))) : s.onVerdict v = s.heard v := by
  have hd (f : Fld) : (s.heard v).on f = s.on f := rfl
  rw [State.onVerdict_eq, hd, hd]
  rcases h with h | ⟨ho, hk⟩ | ⟨ho, h | h⟩
  · simp [h]
  · simp [ho, Nat.not_le.2 hk]
  · simp [ho, h]
  · rw [ho, decide_eq_false h]
    simp

end

end Sys2Proof.Machine
end

section
/-! SUPPORT. What a verdict that arrives does (R407). -/

namespace Sys2Proof.Machine

open Sys2Proof Sys2Proof.Safety

section
variable (s : State) (v : Verdict)

/-- A verdict changes of the histories that of its nozzle alone, and takes nothing that was recorded away. -/
theorem State.onVerdict_upheld : Upheld (s.heard v) (s.onVerdict v) := by
  rw [State.onVerdict_eq]
  split
  · exact .refl _
  split
  · exact (State.setEbOut_upheld _ _ _ _).trans
      (State.toldOf_upheld _ _ _ fun t => (t.inc_upheld _).trans (State.life_upheld _ _ _ _))
  split
  · exact (State.setEbOut_upheld _ _ _ _).trans (State.toldOf_upheld _ _ _ fun t => t.inc_upheld _)
  · exact .refl _

/-- What a verdict's change of its nozzle leaves: EB_OUT, the record and the cause. -/
def State.Told (t : State) (v : Verdict) (code out : Nat) : Prop :=
  t.rd (nozzleEbOut v.nozzle) = out ∧ (∃ e ∈ t.rcd.raised, e.die = v.nozzle / 131072 ∧ e.code = code ∧ e.payload = v.words) ∧
    256 * (v.nozzle / 131072) + 34 ∈ t.irq.causes

/-- A nozzle in service with K of its last M verdicts FAIL is taken out (R407). -/
theorem State.onVerdict_takes_out (hd : s.on (F.HLTH_BAR_DECIDE v.bar) = true) (ho : s.on (nozzleEbOut v.nozzle) = false)
    (hk : s.rd F.HLTH_KM_K ≤ (((s.heard v).lastOf v.nozzle).filter id).length) : (s.onVerdict v).Told v 0x0B01 1 := by
  rw [s.onVerdict_out v hd ho hk]
  refine ⟨?_, State.toldOf_tells _ _ _ fun t => (t.inc_upheld _).trans (State.life_upheld _ _ _ _)⟩
  rw [State.rd_congr (State.toldOf_live _ _ _ _), State.rd_congr (State.life_live _ _ _ _), State.rd_out_inc _ (by decide)]
  exact (State.rd_congr rfl _).trans (State.rd_setEbOut _ _ _ _)

/-- A nozzle that is out and has M verdicts, each PASS, comes back (R407). -/
theorem State.onVerdict_puts_back (hd : s.on (F.HLTH_BAR_DECIDE v.bar) = true) (ho : s.on (nozzleEbOut v.nozzle) = true)
    (hm : ((s.heard v).lastOf v.nozzle).length = s.rd F.HLTH_KM_M) (hf : (((s.heard v).lastOf v.nozzle).filter id).length = 0) :
    (s.onVerdict v).Told v 0x0B02 0 := by
  rw [s.onVerdict_back v hd ho hm hf]
  refine ⟨?_, State.toldOf_tells _ _ _ fun t => t.inc_upheld _⟩
  rw [State.rd_congr (State.toldOf_live _ _ _ _), State.rd_out_inc _ (by decide)]
  exact (State.rd_congr rfl _).trans (State.rd_setEbOut _ _ _ _)

theorem State.heard_sameBut : SameBut [.eye] s (s.heard v) := s.onEye_sameBut _

end

/-- The oldest verdict joins its nozzle's history and is in flight no more. -/
theorem nozzleVerdict_joins {s : State} {v : Verdict} {r : List Verdict} (h : s.eye.verdicts = v :: r) :
    exec .nozzleVerdict s = .next ((s.onEye fun e => { e with verdicts := r }).onVerdict v) := by
  change execNozzleVerdict s = _
  simp only [execNozzleVerdict, h]

theorem nozzleVerdict_none {s : State} (h : s.eye.verdicts = []) : exec .nozzleVerdict s = .next s := by
  change execNozzleVerdict s = _
  simp only [execNozzleVerdict, h]

end Sys2Proof.Machine
end

section
/-! SUPPORT. What the clears of HLTH_NZ_CMD leave of EB_OUT and the histories (R409). -/

namespace Sys2Proof.Machine

open Sys2Proof Sys2Proof.Safety

/-- A table cut down to some numbers lists those it listed before. -/
theorem tget?_filter_key {α : Type} (p : Nat → Bool) (t : Tab α) (k : Nat) :
    tget? (t.filter fun e => p e.1) k = if p k then tget? t k else none := by
  induction t with
  | nil => simp [tget?]
  | cons e r ih =>
    obtain ⟨j, v⟩ := e
    by_cases hj : p j
    · by_cases hk : k = j
      · simp [hj, hk, tget?]
      · simp [hj, hk, tget?, ih]
    · by_cases hk : k = j
      · subst hk
        simpa [hj] using ih
      · simp [hj, hk, tget?, ih]

theorem tget?_eq_none_of_unlisted {α : Type} {t : Tab α} {k : Nat} (h : k ∉ t.map (·.1)) : tget? t k = none := by
  induction t with
  | nil => rfl
  | cons e r ih =>
    obtain ⟨hk, hr⟩ := not_or.1 (mt List.mem_cons.2 h)
    exact (if_neg hk).trans (ih hr)

/-- Taking numbers off a table one by one leaves the others. -/
theorem tget?_foldl_tdel {α : Type} (ks : List Nat) (t : Tab α) (k : Nat) :
    tget? (ks.foldl tdel t) k = if k ∈ ks then none else tget? t k := by
  induction ks generalizing t with
  | nil => rfl
  | cons j r ih =>
    rw [List.foldl_cons, ih, tdel, tget?_filter_key (· != j)]
    by_cases hk : k = j <;> simp [hk]

/-- The listed EB_OUT registers of the nozzles that pass a test. -/
def State.marked (s : State) (which : Nat → Bool) : List Nat :=
  (s.live.filter fun e => e.1 % 32 = 10 && 0x1000000 ≤ e.1 / 32 && e.1 / 32 < 0x1200000 && which (e.1 / 32 - 0x1000000)).map (·.1)

/-- The state once the EB_OUT of those nozzles is cleared, in a pair each from its line (R526). -/
def State.unmark (s : State) (which : Nat → Bool) : State :=
  if s.sequences || s.matched then
    (s.marked which).foldl (fun s k => s.setEbOut (k / 32 - 0x1000000) false (s.outLine (k / 32 - 0x1000000))) s
  else { s with live := (s.marked which).foldl tdel s.live }

/-- The histories of the nozzles that pass a test are taken away. -/
def State.forget (s : State) (which : Nat → Bool) : State :=
  s.onEye fun e => { e with hists := e.hists.filter fun x => !which x.1 }

theorem State.clearNozzles_eq (s : State) (which : Nat → Bool) (die word : Nat) (heads : List Nat) :
    s.clearNozzles which die word heads =
      heads.foldl State.judgeHead (((s.unmark which).forget which).event die 0x0B02 [word] |>.causeAt die 34) := rfl

section
variable (s : State) (which : Nat → Bool)

/-- A marked register is EB_OUT of a nozzle that passes the test. -/
theorem State.key_of_marked {k : Nat} (h : k ∈ s.marked which) :
    (nozzleEbOut (k / 32 - 0x1000000)).key = k ∧ which (k / 32 - 0x1000000) = true := by
  obtain ⟨e, he, rfl⟩ := List.mem_map.1 h
  have := (List.mem_filter.1 he).2
  simp only [Bool.and_eq_true, decide_eq_true_eq] at this
  obtain ⟨⟨⟨h10, hlo⟩, -⟩, hw⟩ := this
  refine ⟨?_, hw⟩
  simp only [Fld.key, nozzleEbOut]
  omega

theorem nozzleEbOut_key_div (b : Nat) : (nozzleEbOut b).key / 32 - 0x1000000 = b := by
  simp only [Fld.key, nozzleEbOut]
  omega

/-- A nozzle that fails the test is not marked. -/
theorem State.not_marked {b : Nat} (h : which b = false) : (nozzleEbOut b).key ∉ s.marked which := fun hm => by
  have := (s.key_of_marked which hm).2
  rw [nozzleEbOut_key_div, h] at this
  exact Bool.false_ne_true this

/-- A nozzle that passes the test is marked, or its EB_OUT is not listed. -/
theorem State.marked_or_unlisted {b : Nat} (hb : b < 0x200000) (h : which b = true) :
    (nozzleEbOut b).key ∈ s.marked which ∨ tget? s.live (nozzleEbOut b).key = none := by
  by_cases hl : (nozzleEbOut b).key ∈ s.live.map (·.1)
  · obtain ⟨e, he, hk⟩ := List.mem_map.1 hl
    refine .inl (List.mem_map.2 ⟨e, List.mem_filter.2 ⟨he, ?_⟩, hk⟩)
    rw [hk, nozzleEbOut_key_div, h]
    simp only [Bool.and_eq_true, decide_eq_true_eq, and_true]
    simp only [Fld.key, nozzleEbOut]
    omega
  · exact .inr (tget?_eq_none_of_unlisted hl)

/-- EB_OUT of a nozzle after the marked ones of a pair are cleared. -/
theorem State.rd_foldl_setEbOut (ks : List Nat) (hks : ∀ k ∈ ks, (nozzleEbOut (k / 32 - 0x1000000)).key = k) (s : State) (b : Nat) :
    (ks.foldl (fun s k => s.setEbOut (k / 32 - 0x1000000) false (s.outLine (k / 32 - 0x1000000))) s).rd (nozzleEbOut b) =
      if (nozzleEbOut b).key ∈ ks then 0 else s.rd (nozzleEbOut b) := by
  induction ks generalizing s with
  | nil => rfl
  | cons k r ih =>
    obtain ⟨hk, hr⟩ := List.forall_mem_cons.1 hks
    rw [List.foldl_cons, ih hr]
    by_cases hb : (nozzleEbOut b).key = k
    · have : k / 32 - 0x1000000 = b := by rw [← hb, nozzleEbOut_key_div]
      simp [hb, this, State.rd_setEbOut, nat]
    · rw [State.rd_congr (State.setEbOut_live _ _ _ _), State.rd_wr_other _ _ _ _ (fun h => hb (h.trans hk))]
      simp [hb]

/-- EB_OUT of a nozzle after the marked ones are cleared. -/
theorem State.rd_unmark (b : Nat) :
    (s.unmark which).rd (nozzleEbOut b) = if (nozzleEbOut b).key ∈ s.marked which then 0 else s.rd (nozzleEbOut b) := by
  unfold State.unmark
  split
  · exact State.rd_foldl_setEbOut _ (fun k hk => (s.key_of_marked which hk).1) s b
  · simp only [State.rd, tget, tget?_foldl_tdel]
    split <;> rfl

theorem State.unmark_upheld : Upheld s (s.unmark which) := by
  unfold State.unmark
  split
  · exact .foldl (fun _ _ => State.setEbOut_upheld _ _ _ _) _ _
  · exact ⟨rfl, rfl, List.Subset.refl _, List.Subset.refl _⟩

variable (die word : Nat) (heads : List Nat)

/-- Of the registers, a clear changes EB_OUT alone. -/
theorem State.clearNozzles_rd (b : Nat) :
    (s.clearNozzles which die word heads).rd (nozzleEbOut b) = (s.unmark which).rd (nozzleEbOut b) := by
  rw [State.clearNozzles_eq, State.rd_congr (live_foldl State.judgeHead_live heads _), State.rd_congr (State.causeAt_live _ _ _),
    State.rd_congr (State.event_live _ _ _ _), State.forget, State.rd_congr (State.onEye_live _ _)]

/-- A nozzle that is cleared is in service. -/
theorem State.clearNozzles_out {b : Nat} (hb : b < 0x200000) (h : which b = true) :
    (s.clearNozzles which die word heads).rd (nozzleEbOut b) = 0 := by
  rw [State.clearNozzles_rd, State.rd_unmark]
  split
  · rfl
  · next hm => simp only [State.rd, tget, (s.marked_or_unlisted which hb h).resolve_left hm]; rfl

/-- EB_OUT of the other nozzles stands. -/
theorem State.clearNozzles_out_other {b : Nat} (h : which b = false) :
    (s.clearNozzles which die word heads).rd (nozzleEbOut b) = s.rd (nozzleEbOut b) := by
  rw [State.clearNozzles_rd, State.rd_unmark, if_neg (s.not_marked which h)]

/-- The histories of the cleared nozzles are empty, the others stand. -/
theorem State.clearNozzles_hists :
    (s.clearNozzles which die word heads).eye.hists = s.eye.hists.filter fun x => !which x.1 := by
  rw [State.clearNozzles_eq, (Upheld.foldl State.judgeHead_upheld heads _).hists]
  exact congrArg (List.filter fun x => !which x.1) (s.unmark_upheld which).hists

theorem State.clearNozzles_hist (b : Nat) :
    tget? (s.clearNozzles which die word heads).eye.hists b = if which b then none else tget? s.eye.hists b := by
  rw [State.clearNozzles_hists, tget?_filter_key (fun x => !which x)]
  cases which b <;> rfl

/-- One record 0x0B02 tells of the clear. -/
theorem State.clearNozzles_tells :
    ∃ e ∈ (s.clearNozzles which die word heads).rcd.raised, e.code = 0x0B02 ∧ e.payload = [word % 2 ^ 24] := by
  have h := (Upheld.foldl State.judgeHead_upheld heads (((s.unmark which).forget which).event die 0x0B02 [word] |>.causeAt die 34)).raised
  exact ⟨_, h (List.mem_append_right _ (List.mem_singleton.2 rfl)), rfl, rfl⟩

end

/-! The commands of HLTH_NZ_CMD and HLTH_NZ_DATA in service. -/

section
variable {s : State}

theorem hlthClearNozzle_eq (hs : s.inService 0xD0000 = true) : exec .hlthClearNozzle s = .next
    (if s.isNozzle (s.rd F.HLTH_NZ_ADDR_ADDR) then
      s.clearNozzles (fun n => n = s.rd F.HLTH_NZ_ADDR_ADDR) (s.rd F.HLTH_NZ_ADDR_ADDR / 131072) (s.rd F.HLTH_NZ_ADDR_ADDR)
        (s.nozzleHead (s.rd F.HLTH_NZ_ADDR_ADDR)).toList
    else s) := congrArg Host.Outcome.next (State.served_in hs _)

theorem hlthClearHead_eq (hs : s.inService 0xD0000 = true) : exec .hlthClearHead s = .next
    (s.clearNozzles (fun n => decide (s.nozzleHead n = some (s.rd F.HLTH_HEAD_SEL_HEAD)))
      (((s.imageOfHead (s.rd F.HLTH_HEAD_SEL_HEAD)).headPacer (s.rd F.HLTH_HEAD_SEL_HEAD)).getD 0 / 2) 0xFFFFFF
      [s.rd F.HLTH_HEAD_SEL_HEAD]) := congrArg Host.Outcome.next (State.served_in hs _)

theorem hlthClearAll_eq (hs : s.inService 0xD0000 = true) :
    exec .hlthClearAll s = .next (s.clearNozzles (fun _ => true) 0 0xFFFFFF s.eye.degraded) :=
  congrArg Host.Outcome.next (State.served_in hs _)

theorem hlthNzDataRead_eq (hs : s.inService 0xD0000 = true) : exec .hlthNzDataRead s =
    .next (s.onHost fun h => { h with readData := [s.readHist (s.rd F.HLTH_NZ_ADDR_ADDR)] }).nextHist :=
  congrArg Host.Outcome.next (if_pos hs)

/-- The step within a lane of 2,048 slots stays in the 20 bits of HLTH_NZ_ADDR. -/
theorem State.nextHist_rd (s : State) (h : s.rd F.HLTH_NZ_ADDR_ADDR < 2 ^ 20) : s.nextHist.rd F.HLTH_NZ_ADDR_ADDR =
    s.rd F.HLTH_NZ_ADDR_ADDR / 2048 * 2048 + (s.rd F.HLTH_NZ_ADDR_ADDR + 1) % 2048 := by
  refine (State.rd_wr_same _ _ _).trans (Nat.mod_eq_of_lt ?_)
  change _ < 2 ^ 20
  omega

theorem State.nextHist_sameRegs (s : State) : SameRegs (among [F.HLTH_NZ_ADDR_ADDR]) s s.nextHist :=
  s.wr_sameRegs_of_mem (List.mem_singleton.2 rfl) _

end

end Sys2Proof.Machine
end

section
/-! SUPPORT. What the decoders of a camera read and send while they go through the slots of a frame (R404, R405). -/

namespace Sys2Proof.Machine

open Sys2Proof Sys2Proof.Safety

/-- What the decoders of a camera go by, and the verdicts they send. -/
structure Scene where
  cams : Tab Camera
  ld : Loader
  runs : List (Nat × CalRun)
  xres : Nat → Nat
  owned : Nat → Bool
  verdicts : List Verdict

def State.scene (s : State) (d : Nat) : Scene :=
  ⟨s.cams, s.ld, s.eye.runs, fun k => s.xres k, fun p => s.owns d p, s.eye.verdicts⟩

/-- More verdicts in flight. -/
def Scene.sending (c : Scene) (new : List Verdict) : Scene := { c with verdicts := c.verdicts ++ new }

/-- The nozzles of a bar as the decoders find them. -/
def Scene.nozzles (c : Scene) (bar : Nat) : List Nozzle :=
  match c.ld.current.pacerOf bar with
  | none => []
  | some p => (if c.ld.switched.contains (.bar p) then c.ld.overlay else c.ld.current).nozzles (p / 2) bar (c.xres (p / 2))

theorem State.scene_nozzles (s : State) (d bar : Nat) : (s.scene d).nozzles bar = s.barNozzles bar := rfl

section
variable (s : State) (d : Nat)

@[simp] theorem State.event_scene (e c : Nat) (p : List Nat) : (s.event e c p).scene d = s.scene d := rfl

@[simp] theorem State.onHist_scene (a : Nat) (f : NzHist → NzHist) : (s.onHist a f).scene d = s.scene d := rfl

@[simp] theorem State.draw_scene (w : Nat) : (s.draw w).2.scene d = s.scene d := rfl

@[simp] theorem State.pairSend_scene (type line : Nat) (body : List Nat) : (s.pairSend type line body).scene d = s.scene d := by
  unfold State.pairSend
  split <;> rfl

theorem scene_foldl {α : Type} {f : State → α → State} (h : ∀ s a, (f s a).scene d = s.scene d) (l : List α) :
    (l.foldl f s).scene d = s.scene d := by
  induction l generalizing s with
  | nil => rfl
  | cons a r ih => exact (ih _).trans (h s a)

theorem State.send_scene (new : List Verdict) :
    (s.onEye fun e => { e with verdicts := e.verdicts ++ new }).scene d = (s.scene d).sending new := rfl

/-- The registers of HLTH below a die's view, OWN apart, are none that the decoders go by. -/
theorem State.wr_scene {f : Fld} (v : Nat) (hd : d < 8) (hf : f.addr < 0xD0100 ∨ 0xD0140 ≤ f.addr) (ht : f.addr < 0x800000) (hl : f.lo < 32) :
    (s.wr f v).scene d = s.scene d := by
  have hx (k : Nat) : (s.wr f v).xres k = s.xres k := by
    refine s.rd_wr_other f _ v ?_
    simp only [Fld.key, F.RAS_GEOM_XRES]
    omega
  have ho (p : Nat) : (s.wr f v).owns d p = s.owns d p := by
    unfold State.owns
    rw [s.rd_wr_other f (F.HLTH_OWN_LO_POS d) v (by simp only [Fld.key, F.HLTH_OWN_LO_POS]; omega),
      s.rd_wr_other f (F.HLTH_OWN_HI_POS d) v (by simp only [Fld.key, F.HLTH_OWN_HI_POS]; omega)]
  simp only [State.scene, hx, ho]
  rfl

end

/-! A slot with a ladder. -/

/-- The spots that were not seen are counted and recorded, and stay the last of their nozzles (R403). -/
def State.missed (s : State) (d bar : Nat) (found : List (Nat × Spot × Nat)) : State :=
  let unseen := (found.filter (fun f => f.2.1 = .unseen)).length
  let s := s.incBy F.HLTH_UNSEEN_COUNT unseen
  let s := if 0 < unseen then s.event d 0x0B05 [bar, d, unseen] else s
  found.foldl (fun s f => if f.2.1 = .unseen then s.onHist f.1 fun h => { h with last := some .unseen } else s) s

/-- The verdicts that the seen spots of a bar give. -/
def verdictsOf (bar page : Nat) (found : List (Nat × Spot × Nat)) : List Verdict :=
  (found.filter fun f => f.2.1 != .unseen).map fun f => ⟨f.1, bar, page, f.2.1⟩

/-- Those verdicts are in flight, unless the controller follows another (R405). -/
def State.sendVerdicts (s : State) (bar page : Nat) (found : List (Nat × Spot × Nat)) : State :=
  if s.matched then s else s.onEye fun e => { e with verdicts := e.verdicts ++ verdictsOf bar page found }

/-- In a pair the other controller is told of them (R526). -/
def State.shareVerdicts (s : State) (bar page : Nat) (found : List (Nat × Spot × Nat)) : State :=
  if s.sequences then
    (found.filter fun f => f.2.1 != .unseen).foldl (fun s f => s.pairSend 0x20 f.2.2 [f.1, bar + 2 ^ 8 * nat (f.2.1 != .pass), page]) s
  else s

/-- What the decoder of a die does with the spots of a bar. -/
def State.report (s : State) (d bar page : Nat) (found : List (Nat × Spot × Nat)) : State :=
  ((s.missed d bar found).sendVerdicts bar page found).shareVerdicts bar page found

/-- The registration of a bar whose ladder was seen. -/
def State.register (s : State) (d bar : Nat) : State :=
  let s := s.inc F.HLTH_CHECKS_COUNT
  let (along, s) := s.draw 12
  let (across, s) := s.draw 12
  let s := (s.wr (F.HLTH_REG_ALONG bar) along).wr (F.HLTH_REG_ACROSS bar) across
  let s := if s.sequences then s.pairSend 0x22 s.pkgLine [bar, along + 2 ^ 12 * across] else s
  if s.rd F.HLTH_LIMS_REG_LIM < (signed 12 along).natAbs then s.event d 0x0B06 [bar, along, across] else s

section
variable (s : State) {d bar : Nat} (hd : d < 8) (hb : bar < 16)

include hd in
theorem State.incBy_scene {f : Fld} (n : Nat) (hf : f.addr < 0xD0100 ∨ 0xD0140 ≤ f.addr) (ht : f.addr < 0x800000) (hl : f.lo < 32) :
    (s.incBy f n).scene d = s.scene d := s.wr_scene d _ hd hf ht hl

include hd hb in
theorem State.register_scene : (s.register d bar).scene d = s.scene d := by
  have hinc : (s.inc F.HLTH_CHECKS_COUNT).scene d = s.scene d := s.incBy_scene hd 1 (by decide) (by decide) (by decide)
  have halong (t : State) (v : Nat) : (t.wr (F.HLTH_REG_ALONG bar) v).scene d = t.scene d :=
    t.wr_scene d v hd (.inl (by simp only [F.HLTH_REG_ALONG]; omega)) (by simp only [F.HLTH_REG_ALONG]; omega) (show 0 < 32 by decide)
  have hacross (t : State) (v : Nat) : (t.wr (F.HLTH_REG_ACROSS bar) v).scene d = t.scene d :=
    t.wr_scene d v hd (.inl (by simp only [F.HLTH_REG_ACROSS]; omega)) (by simp only [F.HLTH_REG_ACROSS]; omega) (show 12 < 32 by decide)
  simp only [State.register]
  (repeat' split) <;> simp [halong, hacross, hinc]

include hd in
theorem State.missed_scene (found : List (Nat × Spot × Nat)) : (s.missed d bar found).scene d = s.scene d := by
  simp only [State.missed]
  rw [scene_foldl]
  · split <;> simp [State.incBy_scene _ hd _ (f := F.HLTH_UNSEEN_COUNT) (by decide) (by decide) (by decide)]
  · intro s f
    split <;> simp

theorem mem_verdictsOf {page : Nat} {found : List (Nat × Spot × Nat)} {v : Verdict} (h : v ∈ verdictsOf bar page found) :
    v.spot ≠ .unseen ∧ v.bar = bar ∧ v.page = page ∧ v.nozzle ∈ found.map (·.1) := by
  obtain ⟨f, hf, rfl⟩ := List.mem_map.1 h
  obtain ⟨hf, hs⟩ := List.mem_filter.1 hf
  exact ⟨by simpa using hs, rfl, rfl, List.mem_map.2 ⟨f, hf, rfl⟩⟩

@[simp] theorem Scene.sending_nil (c : Scene) : c.sending [] = c := by simp [Scene.sending]

theorem Scene.sending_sending (c : Scene) (l m : List Verdict) : (c.sending l).sending m = c.sending (l ++ m) := by
  simp [Scene.sending]

theorem State.sendVerdicts_scene (page : Nat) (found : List (Nat × Spot × Nat)) :
    ∃ new ⊆ verdictsOf bar page found, (s.sendVerdicts bar page found).scene d = (s.scene d).sending new := by
  unfold State.sendVerdicts
  split
  · exact ⟨[], List.nil_subset _, by simp⟩
  · exact ⟨_, List.Subset.refl _, s.send_scene d _⟩

theorem State.shareVerdicts_scene (page : Nat) (found : List (Nat × Spot × Nat)) :
    (s.shareVerdicts bar page found).scene d = s.scene d := by
  unfold State.shareVerdicts
  split
  · exact scene_foldl _ _ (fun s _ => s.pairSend_scene d _ _ _) _
  · rfl

include hd in
theorem State.report_scene (page : Nat) (found : List (Nat × Spot × Nat)) :
    ∃ new ⊆ verdictsOf bar page found, (s.report d bar page found).scene d = (s.scene d).sending new := by
  obtain ⟨new, hn, he⟩ := (s.missed d bar found).sendVerdicts_scene (d := d) (bar := bar) page found
  exact ⟨new, hn, by rw [State.report, State.shareVerdicts_scene, he, State.missed_scene _ hd]⟩

/-- A ladder's slot: its decoder does nothing, or reports each owned nozzle of the bar. -/
theorem State.decodeLadder_eq (d : Nat) (now : VisionPlane) (before : Option VisionPlane) (x : Printed) (bar : Nat) (lk : SlotLook) :
    ∃ (spot : Nozzle → Spot) (line : Nozzle → Nat),
      let mine := (s.barNozzles bar).filter fun n => s.owns d n.pos
      let found := mine.map fun n => (n.addr, spot n, line n)
      let t := s.report d bar x.page found
      s.decodeLadder d now before x bar lk = if mine.isEmpty then s else
        if (found.filter fun f => f.2.1 = .unseen).length = mine.length then t else t.register d bar :=
  ⟨_, _, rfl⟩

include hd hb in
/-- The decoder of a ladder's slot sends verdicts other than UNSEEN for nozzles of its bar that its die owns. -/
theorem State.decodeLadder_scene (now : VisionPlane) (before : Option VisionPlane) (x : Printed) (lk : SlotLook) :
    ∃ new, (s.decodeLadder d now before x bar lk).scene d = (s.scene d).sending new ∧
      ∀ v ∈ new, v.spot ≠ .unseen ∧ v.bar = bar ∧ v.page = x.page ∧
        ∃ n ∈ s.barNozzles bar, n.addr = v.nozzle ∧ s.owns d n.pos = true := by
  obtain ⟨spot, line, h⟩ := s.decodeLadder_eq d now before x bar lk
  simp only at h
  obtain ⟨new, hn, he⟩ := s.report_scene hd (bar := bar) x.page
    (((s.barNozzles bar).filter fun n => s.owns d n.pos).map fun n => (n.addr, spot n, line n))
  rw [h]
  split
  · exact ⟨[], by simp⟩
  · refine ⟨new, ?_, fun v hv => ?_⟩
    · split
      · exact he
      · rw [State.register_scene _ hd hb, he]
    · obtain ⟨hs, hbar, hp, ha⟩ := mem_verdictsOf (hn hv)
      simp only [List.map_map, List.mem_map, List.mem_filter] at ha
      obtain ⟨n, ⟨hmem, ho⟩, hna⟩ := ha
      exact ⟨hs, hbar, hp, n, hmem, hna, ho⟩

end

/-! The slots of a frame. -/

/-- A printed slot as a frame decodes it: a ladder that the frame shows gives its verdicts. -/
def State.decodeSlot (s : State) (d : Nat) (now : VisionPlane) (before : Option VisionPlane) (x : Printed) : State :=
  match x.use, slotLook now before x.line with
  | .ladder bar, some lk => s.decodeLadder d now before x bar lk
  | _, _ => s

/-- What the verdicts that a frame gives on some slots have in common. -/
def Fresh (c : Scene) (slots : List Printed) (v : Verdict) : Prop :=
  v.spot ≠ .unseen ∧ (∃ x ∈ slots, x.use = .ladder v.bar ∧ x.page = v.page) ∧
    ∃ n ∈ c.nozzles v.bar, n.addr = v.nozzle ∧ c.owned n.pos = true

section
variable {d : Nat} (hd : d < 8) (now : VisionPlane) (before : Option VisionPlane)

include hd in
theorem State.decodeSlot_scene (s : State) (x : Printed) (hx : ∀ b, x.use = .ladder b → b < 16) :
    ∃ new, (s.decodeSlot d now before x).scene d = (s.scene d).sending new ∧ ∀ v ∈ new, Fresh (s.scene d) [x] v := by
  unfold State.decodeSlot
  split
  · next bar lk hu _ =>
    obtain ⟨new, he, hn⟩ := s.decodeLadder_scene hd (hx bar hu) now before x lk
    refine ⟨new, he, fun v hv => ?_⟩
    obtain ⟨hs, rfl, hp, hz⟩ := hn v hv
    exact ⟨hs, ⟨x, List.mem_singleton.2 rfl, hu, hp.symm⟩, hz⟩
  · exact ⟨[], by simp⟩

include hd in
theorem State.decodeSlots_scene (l : List Printed) (hl : ∀ x ∈ l, ∀ b, x.use = .ladder b → b < 16) (s : State) :
    ∃ new, (l.foldl (fun s x => s.decodeSlot d now before x) s).scene d = (s.scene d).sending new ∧ ∀ v ∈ new, Fresh (s.scene d) l v := by
  induction l generalizing s with
  | nil => exact ⟨[], by simp⟩
  | cons x r ih =>
    obtain ⟨hx, hr⟩ := List.forall_mem_cons.1 hl
    obtain ⟨one, he, ho⟩ := s.decodeSlot_scene hd now before x hx
    obtain ⟨more, he', hm⟩ := ih hr (s.decodeSlot d now before x)
    refine ⟨one ++ more, by rw [List.foldl_cons, he', he, Scene.sending_sending], fun v hv => ?_⟩
    rcases List.mem_append.1 hv with hv | hv
    · obtain ⟨hs, ⟨y, hy, hu⟩, hz⟩ := ho v hv
      exact ⟨hs, ⟨y, List.mem_cons.2 (.inl (List.mem_singleton.1 hy)), hu⟩, hz⟩
    · obtain ⟨hs, ⟨y, hy, hu⟩, hz⟩ := hm v hv
      rw [he] at hz
      exact ⟨hs, ⟨y, List.mem_cons_of_mem _ hy, hu⟩, hz⟩

end

/-! A frame without runs under way. -/

/-- With no calibration run, a frame measures nothing. -/
theorem State.measureFrame_idle {s : State} (h : s.eye.runs = []) (d : Nat) (now : VisionPlane) (before : Option VisionPlane) :
    s.measureFrame d now before = s := by
  have hr : s.run? (16 + d) = none := by simp [State.run?, h]
  simp only [State.measureFrame, hr]
  split
  · next h' => exact absurd h' (by simp)
  · simp [h]

/-- With no calibration run, no slot is assigned. -/
theorem State.assignSlots_idle {s : State} (h : s.eye.runs = []) : s.assignSlots = s := by
  simp only [State.assignSlots, h]
  rfl

/-- The slots of a frame are decoded while HLTH is ON. -/
def State.decodeSlots (s : State) (d : Nat) (now : VisionPlane) (before : Option VisionPlane) : State :=
  if !s.hlthOn then s else s.eye.printed.foldl (fun s x => s.decodeSlot d now before x) s

/-- The latest frame of a camera is noted as decoded. -/
def State.noteDecoded (s : State) (d : Nat) (now : VisionPlane) (rest : List VisionPlane) : State :=
  s.onCam d fun c => { c with planes := { now with decoded := true } :: rest }

/-- What a frame comes to: its slots are decoded and, with runs under way, measured. -/
def State.decodeFrame (s : State) (d : Nat) (now : VisionPlane) (rest : List VisionPlane) : State :=
  let before := rest.head?.filter fun b => b.trig.isSome
  (((s.noteDecoded d now rest).decodeSlots d now before).measureFrame d now before).assignSlots

theorem frameDecode_eq {s : State} {d : Nat} (hd : d < s.dies) (now : Nat) : exec (.frameDecode d now) s = .next
    (match ((s.atTime now).cam d).planes with
     | [] => s.atTime now
     | p :: rest => if p.decoded || p.trig.isNone then s.atTime now else (s.atTime now).decodeFrame d p rest) := by
  change guarded (decide (d < s.dies)) _ = _
  rw [decide_eq_true hd]
  rfl

theorem frameDecode_none {s : State} {d now : Nat} (hd : d < s.dies) (h : ((s.atTime now).cam d).planes = []) :
    exec (.frameDecode d now) s = .next (s.atTime now) := by
  rw [frameDecode_eq hd, h]

theorem frameDecode_some {s : State} {d now : Nat} {p : VisionPlane} {rest : List VisionPlane} (hd : d < s.dies)
    (h : ((s.atTime now).cam d).planes = p :: rest) : exec (.frameDecode d now) s = .next
    (if p.decoded || p.trig.isNone then s.atTime now else (s.atTime now).decodeFrame d p rest) := by
  rw [frameDecode_eq hd, h]

section
variable {u : State} {d : Nat} (p : VisionPlane) (rest : List VisionPlane)

/-- While HLTH is not ON, the decoded frame is noted and nothing else. -/
theorem State.decodeFrame_off (hr : u.eye.runs = []) (h : u.hlthOn = false) :
    u.decodeFrame d p rest = u.noteDecoded d p rest := by
  have hoff : (u.noteDecoded d p rest).decodeSlots d p (rest.head?.filter fun b => b.trig.isSome) = u.noteDecoded d p rest := by
    have : (u.noteDecoded d p rest).hlthOn = false := h
    simp [State.decodeSlots, this]
  have hruns : (u.noteDecoded d p rest).eye.runs = [] := hr
  rw [State.decodeFrame, hoff, State.measureFrame_idle hruns, State.assignSlots_idle hruns]

/-- The scene of a decoded frame: its verdicts are in flight, and runs, structure and owned positions stand. -/
theorem State.decodeFrame_scene (hd : d < 8) (hr : u.eye.runs = []) (hb : ∀ x ∈ u.eye.printed, ∀ b, x.use = .ladder b → b < 16) :
    ∃ new, (u.decodeFrame d p rest).scene d = ((u.noteDecoded d p rest).scene d).sending new ∧
      ∀ v ∈ new, Fresh (u.scene d) u.eye.printed v := by
  let w := u.noteDecoded d p rest
  obtain ⟨new, he, hn⟩ : ∃ new, (w.decodeSlots d p (rest.head?.filter fun b => b.trig.isSome)).scene d = (w.scene d).sending new ∧
      ∀ v ∈ new, Fresh (u.scene d) u.eye.printed v := by
    unfold State.decodeSlots
    split
    · exact ⟨[], by simp⟩
    · exact State.decodeSlots_scene hd p _ u.eye.printed hb w
  have hruns : (w.decodeSlots d p (rest.head?.filter fun b => b.trig.isSome)).eye.runs = [] := (congrArg Scene.runs he).trans hr
  refine ⟨new, ?_, hn⟩
  rw [State.decodeFrame, State.measureFrame_idle hruns, State.assignSlots_idle hruns, he]

theorem State.noteDecoded_planes : ((u.noteDecoded d p rest).cam d).planes = { p with decoded := true } :: rest :=
  congrArg Camera.planes (tget_tset_same _ _ _ _)

theorem State.noteDecoded_sameBut : SameBut [.cams] u (u.noteDecoded d p rest) := by
  intro p h; cases p <;> first | rfl | exact ⟨rfl, rfl⟩ | (simp at h)

/-- A camera's frames in the scene. -/
theorem State.planes_of_scene {s t : State} {l : List Verdict} (h : s.scene d = (t.scene d).sending l) : (s.cam d).planes = (t.cam d).planes :=
  congrArg (fun c : Scene => (tget c.cams d Camera.reset).planes) h

end

end Sys2Proof.Machine
end

section
open Sys2Proof Sys2Proof.Machine Sys2Proof.Safety

/-- Settles O37: `State.onVerdict` by its four outcomes, the clears through `State.clearNozzles`, a frame by induction over the printed slots
(`State.decodeFrame_scene`), a spot by the pixels of its window. -/
theorem verdictsFollowKofM : Obligations.VerdictsFollowKofM := by
  refine ⟨fun v r s hv => ?verdict, fun s h => nozzleVerdict_none h, fun s hs => ⟨fun hn => ?_, fun ha hn => ?nozzle, ?head, ?all, ?data⟩,
    fun d now s hd => ⟨frameDecode_none hd, fun p rest hp => ⟨fun h => ?skip, fun hdec htrig hruns hbars => ?frame⟩⟩,
    fun c v num scale col s => ⟨fun h => s.judgeSpot_missing h c num scale col, fun h => s.judgeSpot_seen h c num scale col⟩,
    fun look inv line col => ⟨fun dy dx h1 h2 h3 h4 h => viewSpot_window_blind ⟨h1, h2⟩ ⟨h3, h4⟩ h, viewSpot_ends_blind,
      fun p hp h => viewSpot_even hp h⟩⟩
  case verdict =>
    intro m h fails out decides word
    let u := s.onEye fun e => { e with verdicts := r }
    have hu : Upheld (u.heard v) (u.onVerdict v) := u.onVerdict_upheld v
    have hh : (u.heard v).lastOf v.nozzle = h := u.lastOf_heard v
    have heard (ht : u.onVerdict v = u.heard v) : SameBut [.eye] s (u.onVerdict v) ∧ (u.onVerdict v).live = s.live :=
      ht ▸ ⟨sameBut_comp (s.onEye_sameBut _) (u.heard_sameBut v), rfl⟩
    refine ⟨u.onVerdict v, nozzleVerdict_joins hv, ?_, hu.verdicts, fun a ha => ?_, fun hd => ?_, fun hd ho hk => ?_,
      fun hd ho hm hf => ?_, fun hd hn => ?_⟩
    · exact (congrArg (fun x => (tget x v.nozzle (⟨[], none, 0⟩ : NzHist)).hist) hu.hists).trans hh
    · exact (congrArg (tget? · a) hu.hists).trans (u.heard_hists_other v ha)
    · exact heard (u.onVerdict_heard v (.inl hd))
    · exact u.onVerdict_takes_out v hd ho (hh ▸ hk)
    · exact u.onVerdict_puts_back v hd ho (hh ▸ hm) (hh ▸ hf)
    · exact heard (u.onVerdict_heard v (.inr (hh ▸ hn)))
  · rw [hlthClearNozzle_eq hs, if_neg (by simp [hn])]
  case nozzle =>
    refine ⟨_, (hlthClearNozzle_eq hs).trans (by rw [if_pos hn]), State.clearNozzles_out _ _ _ _ _ (by omega) (by simp),
      (State.clearNozzles_hist _ _ _ _ _ _).trans (by simp), fun b hb => ⟨State.clearNozzles_out_other _ _ _ _ _ (by simp [hb]),
        (State.clearNozzles_hist _ _ _ _ _ _).trans (by simp [hb])⟩, ?_⟩
    obtain ⟨e, he, hc, hp⟩ := s.clearNozzles_tells (fun n => n = s.rd F.HLTH_NZ_ADDR_ADDR) (s.rd F.HLTH_NZ_ADDR_ADDR / 131072)
      (s.rd F.HLTH_NZ_ADDR_ADDR) (s.nozzleHead (s.rd F.HLTH_NZ_ADDR_ADDR)).toList
    exact ⟨e, he, hc, hp.trans (by rw [Nat.mod_eq_of_lt (by omega)])⟩
  case head =>
    exact ⟨_, hlthClearHead_eq hs,
      fun b hb h => ⟨State.clearNozzles_out _ _ _ _ _ (by omega) (by simp [h]), (State.clearNozzles_hist _ _ _ _ _ _).trans (by simp [h])⟩,
      fun b h => ⟨State.clearNozzles_out_other _ _ _ _ _ (by simp [h]), (State.clearNozzles_hist _ _ _ _ _ _).trans (by simp [h])⟩,
      s.clearNozzles_tells _ _ _ _⟩
  case all =>
    exact ⟨_, hlthClearAll_eq hs, (State.clearNozzles_hists _ _ _ _ _).trans (by simp),
      fun b hb => State.clearNozzles_out _ _ _ _ _ (by omega) rfl, s.clearNozzles_tells _ _ _ _⟩
  case data =>
    exact ⟨_, hlthNzDataRead_eq hs, rfl, (s.onHost_sameBut _).trans (State.wr_sameBut _ _ _), State.nextHist_sameRegs _,
      fun ha => State.nextHist_rd _ ha⟩
  case skip =>
    rw [frameDecode_some hd hp, if_pos (by simpa using h)]
  case frame =>
    let u := s.atTime now
    have hd8 : d < 8 := Nat.lt_of_lt_of_le hd s.dies_le
    obtain ⟨new, he, hn⟩ := State.decodeFrame_scene p rest hd8 hruns hbars
    refine ⟨u.decodeFrame d p rest, new, ?_, (State.planes_of_scene he).trans (u.noteDecoded_planes p rest), congrArg Scene.verdicts he,
      hn, fun hoff => ?_⟩
    · rw [frameDecode_some hd hp, if_neg (by simpa [hdec] using htrig)]
    · have ht : u.decodeFrame d p rest = u.noteDecoded d p rest := State.decodeFrame_off p rest hruns hoff
      have hv : u.eye.verdicts = u.eye.verdicts ++ new := congrArg Scene.verdicts (ht ▸ he)
      exact ⟨List.append_right_eq_self.1 hv.symm, ht ▸ (s.atTime_sameBut now).trans (u.noteDecoded_sameBut p rest), ht ▸ rfl⟩

end

section
/-! SUPPORT. Breaches of the rules on one section of an image. -/

namespace Sys2Proof.Machine

open Sys2Proof

@[simp] theorem breach_eq_none {c : Bool} {err word : Nat} : breach c err word = none ↔ c = false := by
  cases c <;> simp [breach]

theorem breach_eq_some {c : Bool} {err word : Nat} {e : Nat × Nat} : breach c err word = some e ↔ c = true ∧ (err, word) = e := by
  cases c <;> simp [breach]

/-- A list of checks finds nothing when each of them does. -/
theorem firstOf_eq_none {l : List (Option (Nat × Nat))} : firstOf l = none ↔ ∀ o ∈ l, o = none := by
  simp [firstOf]

/-- What a list of checks finds is the breach of one of them. -/
theorem mem_of_firstOf {l : List (Option (Nat × Nat))} {e : Nat × Nat} (h : firstOf l = some e) : some e ∈ l := by
  simpa using List.mem_of_head? h

/-- The values that a BOARD section may hold (R646). -/
theorem boardFault_eq_none {dies : Nat} {x : Sec} : boardFault dies x = none ↔
    x.body.length = 6 ∧ x.body.getD 0 0 = dies ∧ x.body.getD 1 0 = 0 ∧ x.body.getD 2 0 < 16 ∧ 1 ≤ x.body.getD 4 0 ∧
      x.body.getD 5 0 < 512 ∧ 1 ≤ x.body.getD 5 0 % 256 := by
  simp only [boardFault, firstOf_eq_none, List.forall_mem_cons, breach_eq_none, bne_eq_false_iff_eq, decide_eq_false_iff_not,
    Bool.or_eq_false_iff, List.not_mem_nil, false_implies, implies_true, and_true]
  omega

/-- Every breach of BOARD has error RANGE. -/
theorem boardFault_range {dies : Nat} {x : Sec} {e : Nat × Nat} (h : boardFault dies x = some e) : e.1 = 11 := by
  have hm := mem_of_firstOf h
  simp only [List.mem_cons, List.not_mem_nil, or_false, eq_comm (a := some e), breach_eq_some] at hm
  obtain ⟨-, rfl⟩ | ⟨-, rfl⟩ | ⟨-, rfl⟩ | ⟨-, rfl⟩ | ⟨-, rfl⟩ | ⟨-, rfl⟩ := hm <;> rfl

theorem sectionFault_board (full : Bool) (dies : Nat) {x : Sec} (h : x.type = 1) : sectionFault full dies x = boardFault dies x := by
  simp [sectionFault, h]

/-- A BOARD section whose mask leaves out a fitted die (R646). -/
theorem State.maskFault_board {s : State} {i m : Nat} (hfull : s.ld.cmd.overlay = false) (h0 : 0 < m) (hm : m < 2 ^ s.dies - 1)
    (hseen : s.ld.seen = []) : s.maskFault i 1 m = some (11, i) := by
  have hd : 2 ^ s.dies ≤ 256 := Nat.pow_le_pow_right (by decide) s.dies_le
  have hmod : m % 256 = m := Nat.mod_eq_of_lt (by omega)
  have hpos : m ≠ 0 := by omega
  have hfits : ¬ 2 ^ s.dies ≤ m := by omega
  have hbyte : ¬ 256 ≤ m := by omega
  have hsome : m + 1 ≠ 2 ^ s.dies := by omega
  simp [State.maskFault, breach, firstOf, hmod, hpos, hfits, hbyte, hsome, hfull, hseen]

/-- A bar flagged as datum that is not BOARD's clashes with it. -/
theorem Image.datumClashes_of_flagged {m : Image} {r : Ents} (xs : List Sec) (hr : r ∈ m.bars) (hflag : bit (r.ws.getD 0 0) 22 = true)
    (hbar : bits (r.ws.getD 0 0) 8 4 ≠ m.board.getD 2 0) : ∃ c ∈ m.datumClashes xs, c.err = 11 :=
  ⟨_, List.mem_map.2 ⟨r, List.mem_filter.2 ⟨hr, by rw [hflag, bne_iff_ne.2 hbar, Bool.and_true]⟩, rfl⟩, rfl⟩

end Sys2Proof.Machine
end

section

open Sys2Proof Sys2Proof.Machine Sys2Proof.Safety

/-- Settles O11: the check of a body is a list of breaches, each with error RANGE, so it passes when none of their conditions holds. -/
theorem boardSectionsAreJudged : Obligations.BoardSectionsAreJudged :=
  ⟨fun _ _ => boardFault_eq_none, fun _ _ _ => boardFault_range, fun dies _ => sectionFault_board true dies,
    fun _ _ _ hfull h0 hm hseen => State.maskFault_board hfull h0 hm hseen, fun _ xs _ => Image.datumClashes_of_flagged xs⟩

end

section
/-! SUPPORT. The operations of the structure loader and of AUTH that a load uses: the parts of the state that each leaves, the registers it
writes, and a rejection (R117, R118). -/

namespace Sys2Proof.Machine

open Sys2Proof Sys2Proof.Safety

/-! Registers that stand. -/

theorem State.rd_of_sameRegs {p : Nat → Bool} {s t : State} {f : Fld} (h : SameRegs p s t) (hf : p f.key = false) : t.rd f = s.rd f := by
  simp only [State.rd, tget, h f.key hf]

theorem sameRegs_of_live {s t : State} (h : t.live = s.live) (p : Nat → Bool) : SameRegs p s t := fun _ _ => by rw [h]

theorem State.onLd_sameBut (s : State) (f : Loader → Loader) : SameBut [.ld] s (s.onLd f) := by
  intro p h; cases p <;> first | rfl | exact ⟨rfl, rfl⟩ | (simp at h)

theorem State.onEth_sameBut (s : State) (f : Eth → Eth) : SameBut [.eth] s (s.onEth f) := by
  intro p h; cases p <;> first | rfl | exact ⟨rfl, rfl⟩ | (simp at h)

theorem among_mono {fs gs : List Fld} (h : fs ⊆ gs) {k : Nat} (hk : among gs k = false) : among fs k = false := by
  simp only [among, List.any_eq_false] at *
  exact fun f hf => hk f (h hf)

theorem sameRegs_among_mono {fs gs : List Fld} {s t : State} (h : SameRegs (among fs) s t) (hs : fs ⊆ gs) : SameRegs (among gs) s t :=
  fun k hk => h k (among_mono hs hk)

theorem sameBut_mono {ps qs : List Part} {s t : State} (h : SameBut ps s t) (hs : ps ⊆ qs) : SameBut qs s t :=
  fun p hp => h p fun hm => hp (hs hm)

/-- An event is raised whatever stands between in the other parts. -/
theorem raises_between {s r t u : State} {die code : Nat} {payload : List Nat} (h : Raises r t die code payload) (hr : r.rcd = s.rcd)
    (hu : u.rcd = t.rcd) (ht : u.timeBase = t.timeBase) : Raises s u die code payload := by
  unfold Raises State.time at *
  rw [hu, ht, h, hr]

theorem State.inc_sameBut (s : State) (f : Fld) : SameBut [] s (s.inc f) := s.wr_sameBut f _

/-! The answer to a command (R193). -/

section
variable (s : State) (op slot counter status detail : Nat) (eth : Option (List Nat))

theorem State.authResult_live : (s.authResult op slot counter status detail eth).live =
    ((s.wr F.AUTH_STAT_STATUS status).wr F.AUTH_STAT_OPCODE op).live := by
  cases eth <;> simp only [State.authResult] <;> split <;> rfl

theorem State.mgmtReply_sameBut (head : List Nat) (status : Nat) (ws : List Nat) :
    SameBut [.drawn, .eth] s (s.mgmtReply head status ws) := (s.draw_sameBut 24).trans (State.onEth_sameBut _ _)

theorem State.authResult_sameBut : SameBut [.win, .irq, .drawn, .eth] s (s.authResult op slot counter status detail eth) := by
  unfold State.authResult
  extract_lets body noted posted caused
  have hnoted : SameBut [] s noted := (s.wr_sameBut _ _).trans (State.wr_sameBut _ _ _)
  have hposted : SameBut [.win] noted posted := by
    simp only [posted]
    split
    · exact noted.post_sameBut _ _ _
    · exact sameBut_mono (.refl _) (by simp)
  have hcaused : SameBut [.win, .irq] s caused := (hnoted.trans hposted).trans (posted.cause_sameBut _)
  cases eth with
  | none => exact sameBut_mono hcaused (by simp)
  | some head => exact hcaused.trans (caused.mgmtReply_sameBut head 0 body)

end

section
variable (s : State) (c : AuthCmd) (status detail : Nat)

theorem State.cmdResult_sameBut : SameBut [.win, .irq, .drawn, .eth] s (s.cmdResult c status detail) :=
  s.authResult_sameBut _ _ _ _ _ _

theorem State.cmdResult_sameRegs : SameRegs (among [F.AUTH_STAT_STATUS, F.AUTH_STAT_OPCODE]) s (s.cmdResult c status detail) :=
  sameRegs_comp (sameRegs_comp (s.wr_sameRegs_of_mem (by simp) _) (State.wr_sameRegs_of_mem (by simp) _ _))
    (sameRegs_of_live (s.authResult_live _ _ _ _ _ _) _)

theorem State.cmdResult_status : (s.cmdResult c status detail).rd F.AUTH_STAT_STATUS = status % 2 ^ 5 := by
  rw [State.cmdResult, State.rd_congr (s.authResult_live _ _ _ _ _ _), State.rd_wr_other _ _ _ _ (by decide), State.rd_wr_same]
  rfl

end

/-! A rejection. -/

/-- The registers of STRUCT that report a rejection (R117). -/
def rejectFields : List Fld :=
  [F.STRUCT_STAT_ERR, F.STRUCT_STAT_ERR_NEW, F.STRUCT_ERR_SEC_VALUE, F.STRUCT_ERR_WORD_VALUE, F.STRUCT_REJECTS_COUNT]

section
variable (s : State) (err sec word : Nat)

theorem State.releaseSource_sameBut : SameBut [.win] s s.releaseSource := by
  unfold State.releaseSource
  split
  · exact s.release_sameBut _ _ _
  · exact sameBut_mono (.refl s) (by simp)

@[simp] theorem State.releaseSource_live : s.releaseSource.live = s.live := by
  unfold State.releaseSource
  split <;> rfl

theorem State.noteReject_sameBut : SameBut [.rcd, .irq] s (s.noteReject err sec word) := by
  unfold State.noteReject
  extract_lets noted
  have hnoted : SameBut [] s noted :=
    (((s.wr_sameBut _ _).trans (State.wr_sameBut _ _ _)).trans (State.wr_sameBut _ _ _)).trans (State.wr_sameBut _ _ _)
  exact ((hnoted.trans (noted.inc_sameBut _)).trans (State.event_sameBut _ _ _ _)).trans (State.cause_sameBut _ _)

theorem State.noteReject_sameRegs : SameRegs (among rejectFields) s (s.noteReject err sec word) := by
  unfold State.noteReject
  extract_lets noted
  have hnoted : SameRegs (among rejectFields) s noted := sameRegs_comp (sameRegs_comp (sameRegs_comp
    (s.wr_sameRegs_of_mem (by simp [rejectFields]) _) (State.wr_sameRegs_of_mem (by simp [rejectFields]) _ _))
    (State.wr_sameRegs_of_mem (by simp [rejectFields]) _ _)) (State.wr_sameRegs_of_mem (by simp [rejectFields]) _ _)
  exact sameRegs_comp (sameRegs_comp hnoted (noted.inc_sameRegs_of_mem (by simp [rejectFields])))
    (sameRegs_of_live ((State.cause_live _ _).trans (State.event_live _ _ _ _)) _)

theorem State.noteReject_reads : (s.noteReject err sec word).rd F.STRUCT_STAT_ERR = err % 2 ^ 5 ∧
    (s.noteReject err sec word).rd F.STRUCT_STAT_ERR_NEW = 1 ∧ (s.noteReject err sec word).rd F.STRUCT_ERR_SEC_VALUE = sec % 2 ^ 24 ∧
    (s.noteReject err sec word).rd F.STRUCT_ERR_WORD_VALUE = word % 2 ^ 24 ∧
    (s.noteReject err sec word).rd F.STRUCT_REJECTS_COUNT = min (s.rd F.STRUCT_REJECTS_COUNT + 1) (2 ^ 24 - 1) := by
  have hr (f : Fld) : (s.noteReject err sec word).rd f = (((((s.wr F.STRUCT_STAT_ERR err).wr F.STRUCT_STAT_ERR_NEW 1).wr
    F.STRUCT_ERR_SEC_VALUE sec).wr F.STRUCT_ERR_WORD_VALUE word).inc F.STRUCT_REJECTS_COUNT).rd f := rfl
  have ho {f : Fld} (t : State) (h : f.key ≠ F.STRUCT_REJECTS_COUNT.key) : (t.inc F.STRUCT_REJECTS_COUNT).rd f = t.rd f :=
    t.incBy_rd_other _ _ _ h
  simp (disch := decide) only [hr, ho, State.inc_rd, State.rd_wr_other, State.rd_wr_same]
  exact ⟨rfl, rfl, rfl, rfl, rfl⟩

theorem State.noteReject_raises :
    Raises s (s.noteReject err sec word) 0 0x0210 [err % 2 ^ 24, sec % 2 ^ 24, word % 2 ^ 24] := rfl

/-- The loader's parts that serve a load, emptied. -/
def Loader.rested (l : Loader) : Loader := { l with words := [], inbox := [], seen := [], share := [], incoming := Image.empty }

theorem State.loaderRest_sameBut : SameBut [.ld] s s.loaderRest := (s.wr_sameBut _ _).trans (State.onLd_sameBut _ _)

theorem State.loaderRest_sameRegs : SameRegs (among [F.STRUCT_STAT_STATE]) s s.loaderRest := s.wr_sameRegs_of_mem (by simp) _

@[simp] theorem State.loaderRest_state : s.loaderRest.loaderState = if s.overlayPending then 3 else 0 := by
  refine (s.rd_wr_same _ _).trans ?_
  split <;> rfl

/-- What a load that is rejected and was not automatic leaves: the loader at rest and the report of R117. -/
structure Rejected (s t : State) (err sec word : Nat) : Prop where
  rests : t.loaderState = if s.overlayPending then 3 else 0
  code : t.rd F.STRUCT_STAT_ERR = err % 2 ^ 5
  loader : t.ld = s.ld.rested
  parts : SameBut [.win, .rcd, .irq, .ld] s t
  regs : SameRegs (among (F.STRUCT_STAT_STATE :: rejectFields)) s t
  raises : Raises s t 0 0x0210 [err % 2 ^ 24, sec % 2 ^ 24, word % 2 ^ 24]

theorem Rejected.words {s t : State} {err sec word : Nat} (h : Rejected s t err sec word) : t.ld.words = [] := congrArg Loader.words h.loader

theorem Rejected.incoming {s t : State} {err sec word : Nat} (h : Rejected s t err sec word) : t.ld.incoming = Image.empty :=
  congrArg Loader.incoming h.loader

theorem Rejected.current {s t : State} {err sec word : Nat} (h : Rejected s t err sec word) : t.ld.current = s.ld.current := by
  rw [h.loader]
  rfl

theorem State.rejectLoad_rejected (h : s.ld.cmd.auto = false) : Rejected s (s.rejectLoad err sec word) err sec word := by
  let r := s.releaseSource
  have he : s.rejectLoad err sec word = (r.noteReject err sec word).loaderRest := by simp [State.rejectLoad, h, r]
  have hw : SameBut [.win] s r := s.releaseSource_sameBut
  have hl : r.live = s.live := s.releaseSource_live
  have hn := r.noteReject_sameRegs err sec word
  have hp : (r.noteReject err sec word).overlayPending = s.overlayPending :=
    congrArg (· != 0) ((State.rd_of_sameRegs hn (by decide)).trans (State.rd_congr hl _))
  have hb : SameBut [.win, .rcd, .irq] s (r.noteReject err sec word) := hw.trans (r.noteReject_sameBut _ _ _)
  rw [he]
  exact {
    rests := by rw [State.loaderRest_state, hp]
    code := (State.rd_of_sameRegs (State.loaderRest_sameRegs _) (by decide)).trans (r.noteReject_reads _ _ _).1
    loader := congrArg Loader.rested (hb .ld (by decide))
    parts := hb.trans (State.loaderRest_sameBut _)
    regs := sameRegs_comp (sameRegs_comp (sameRegs_of_live hl _) (sameRegs_among_mono hn (by simp)))
      (sameRegs_among_mono (State.loaderRest_sameRegs _) (by simp))
    raises := raises_between (r.noteReject_raises _ _ _) (hw .rcd (by decide)) rfl rfl }

/-- A source that can be lost is that of a load that is not automatic. -/
theorem State.not_auto_of_sourceLost {s : State} (h : s.sourceLost = true) : s.ld.cmd.auto = false := by
  simp only [State.sourceLost, Bool.and_eq_true, Bool.not_eq_true'] at h
  exact h.1.2

end

end Sys2Proof.Machine
end

section
/-! SUPPORT. A load opens its source and takes the words of its header (R107 to R110, R116, R118). -/

namespace Sys2Proof.Machine

open Sys2Proof Sys2Proof.Safety

/-! Opening. -/

/-- The errors of a STRUCT_LOAD are codes of R119. -/
theorem State.loadStatus_lt (s : State) (c : LoadCmd) : s.loadStatus c < 32 := by
  unfold State.loadStatus
  (repeat' split) <;> decide

/-- The loader once a source is open. -/
def Loader.opened (l : Loader) (c : LoadCmd) (now : Nat) : Loader :=
  { l with cmd := c, words := [], inbox := [], lastAt := now, sec := 0, secAt := 16, seen := [], share := []
           incoming := if c.overlay then l.current.unplaced else Image.empty }

section
variable (s : State) (c : LoadCmd)

theorem State.openLoad_live : (s.openLoad c).live = ((s.setLoader 1).wr F.STRUCT_RCVD_COUNT 0).live := by
  simp only [State.openLoad]
  split <;> rfl

theorem State.openLoad_ld : (s.openLoad c).ld = s.ld.opened c s.clk := by
  simp only [State.openLoad]
  split <;> rfl

theorem State.openLoad_auth : (s.openLoad c).auth = s.auth := by
  simp only [State.openLoad]
  split <;> rfl

theorem State.openLoad_state : (s.openLoad c).loaderState = 1 :=
  (State.rd_congr (s.openLoad_live c) _).trans ((State.rd_wr_other _ _ _ _ (by decide)).trans (State.rd_wr_same _ _ _))

theorem State.openLoad_received : (s.openLoad c).rd F.STRUCT_RCVD_COUNT = 0 :=
  (State.rd_congr (s.openLoad_live c) _).trans (State.rd_wr_same _ _ _)

end

/-- AUTH acts on a STRUCT_LOAD: it opens the source when every condition holds, and is rejected otherwise. -/
theorem structLoad_eq {s : State} {c : AuthCmd} (h : s.authCmd 1 = some c) : exec .structLoad s = .next
    (if s.loadStatus (loadCmdOf c.payload) != 0 then
      (s.authTaken.noteReject (s.loadStatus (loadCmdOf c.payload)) 0 0).cmdResult c 13 (s.loadStatus (loadCmdOf c.payload))
    else (s.authTaken.openLoad (loadCmdOf c.payload)).cmdResult c 0 0) := by
  change execStructLoad s = _
  simp only [execStructLoad, h]
  rfl

/-! Words. -/

/-- The loader once a word has come. -/
def Loader.taken (l : Loader) (w now : Nat) : Loader := { l with words := w % 2 ^ 24 :: l.words, inbox := l.inbox.drop 1, lastAt := now }

/-- The state once a word has come, before it is judged. -/
def State.takeWord (s : State) (w : Nat) : State :=
  (s.wr F.STRUCT_RCVD_COUNT (s.ld.words.length + 1)).onLd fun l => l.taken w s.clk

section
variable {s : State} {w : Nat}

theorem State.takeWord_sameBut : SameBut [.ld] s (s.takeWord w) := (s.wr_sameBut _ _).trans (State.onLd_sameBut _ _)

theorem State.takeWord_sameRegs : SameRegs (among [F.STRUCT_RCVD_COUNT]) s (s.takeWord w) := s.wr_sameRegs_of_mem (by simp) _

/-- What becomes of a word that breaks no rule at its place: the last of a section closes it, and the last of the image ends RECEIVING. -/
def State.keepWord (s : State) (i : Nat) : State :=
  let t := if 18 ≤ i && i = s.ld.secAt + s.ld.word (s.ld.secAt + 2) + 4 then s.closeSection else s
  if t.loaderState = 1 && 15 ≤ i && i + 1 = t.ld.word 3 then t.received else t

theorem State.imageWord_eq (s : State) (w : Nat) : s.imageWord w =
    ((s.takeWord w).wordFault s.ld.words.length (w % 2 ^ 24)).elim ((s.takeWord w).keepWord s.ld.words.length)
      fun e => (s.takeWord w).rejectLoad e.1 s.ld.sec e.2 := by
  change (match (s.takeWord w).wordFault s.ld.words.length (w % 2 ^ 24) with
    | some (e, a) => (s.takeWord w).rejectLoad e s.ld.sec a
    | none => (s.takeWord w).keepWord s.ld.words.length) = _
  cases (s.takeWord w).wordFault s.ld.words.length (w % 2 ^ 24) <;> rfl

/-- Of the words of the header before its last, MAGIC alone is judged (R92). -/
theorem State.wordFault_header (s : State) {i : Nat} (hi : i < 15) (w : Nat) :
    s.wordFault i w = if i = 0 then breach (w != 0x524E47) 1 0 else none := by
  simp only [State.wordFault, hi, if_true]

theorem State.keepWord_header (s : State) {i : Nat} (hi : i < 15) : s.keepWord i = s := by
  have h18 : ¬ 18 ≤ i := by omega
  have h15 : ¬ 15 ≤ i := by omega
  simp [State.keepWord, h18, h15]

/-- A word of the header before its last is kept when it is no false MAGIC. -/
theorem State.imageWord_header (hi : s.ld.words.length < 15) (hm : s.ld.words = [] → w % 2 ^ 24 = 0x524E47) :
    s.imageWord w = s.takeWord w := by
  have hf : (s.takeWord w).wordFault s.ld.words.length (w % 2 ^ 24) = none := by
    rw [State.wordFault_header _ hi]
    split
    · next h0 => rw [hm (List.length_eq_zero_iff.1 h0)]; rfl
    · rfl
  rw [State.imageWord_eq, hf]
  exact State.keepWord_header _ hi

/-- A first word that is not MAGIC rejects the load (R92). -/
theorem State.imageWord_badMagic (h0 : s.ld.words = []) (hm : w % 2 ^ 24 ≠ 0x524E47) :
    s.imageWord w = (s.takeWord w).rejectLoad 1 s.ld.sec 0 := by
  have hf : (s.takeWord w).wordFault s.ld.words.length (w % 2 ^ 24) = some (1, 0) := by
    rw [h0]
    exact if_pos (bne_iff_ne.2 hm)
  rw [State.imageWord_eq, hf]
  rfl

end

/-! The events and commands of RECEIVING. -/

section
variable {s : State} {now : Nat}

theorem imageWordReceived_lost (h1 : s.loaderState = 1) (hl : (s.atTime now).sourceLost = true) :
    exec (.imageWordReceived now) s = .next ((s.atTime now).rejectLoad 18 s.ld.sec s.ld.words.length) := by
  have h1' : (s.atTime now).loaderState = 1 := h1
  change execImageWordReceived now s = _
  simp only [execImageWordReceived, h1', hl]
  rfl

theorem imageWordReceived_word {w : Nat} (h1 : s.loaderState = 1) (hl : (s.atTime now).sourceLost = false)
    (hw : (s.atTime now).nextWord = some w) : exec (.imageWordReceived now) s = .next ((s.atTime now).imageWord w) := by
  have h1' : (s.atTime now).loaderState = 1 := h1
  change execImageWordReceived now s = _
  simp only [execImageWordReceived, h1', hl, hw]
  rfl

theorem structFifoTimeout_eq (h1 : s.loaderState = 1) (hsrc : s.ld.cmd.src = 0) (ht : s.ld.lastAt + 200000000 ≤ (s.atTime now).clk) :
    exec (.structFifoTimeout now) s = .next ((s.atTime now).rejectLoad 16 s.ld.sec s.ld.words.length) := by
  refine congrArg Host.Outcome.next (if_pos ?_)
  have h1' : (s.atTime now).loaderState = 1 := h1
  have hsrc' : (s.atTime now).ld.cmd.src = 0 := hsrc
  have ht' : (s.atTime now).ld.lastAt + 200000000 ≤ (s.atTime now).clk := ht
  simp [h1', hsrc', ht']

theorem structFifoWrite_taken {w : Word} (hs : s.inService 0x20000 = true) (h1 : s.loaderState = 1) (hsrc : s.ld.cmd.src = 0) :
    exec (.structFifoWrite w) s = .next (s.onLd fun l => { l with inbox := l.inbox ++ [w.toNat] }) := by
  refine congrArg Host.Outcome.next ((State.served_in hs _).trans (if_pos ?_))
  simp [h1, hsrc]

theorem structFifoWrite_discarded {w : Word} (hs : s.inService 0x20000 = true) (h : ¬(s.loaderState = 1 ∧ s.ld.cmd.src = 0)) :
    exec (.structFifoWrite w) s = .next (s.inc F.STRUCT_DISCARD_COUNT) := by
  refine congrArg Host.Outcome.next ((State.served_in hs _).trans (if_neg ?_))
  simpa using h

end

end Sys2Proof.Machine
end

section

open Sys2Proof Sys2Proof.Machine Sys2Proof.Safety

/-- Settles O9, clause by clause: the opening, the rejections through `State.rejectLoad_rejected`, and the words of the header. -/
theorem loaderTakesImages : Obligations.LoaderTakesImages := by
  refine ⟨fun c s hc hst => ?opens, fun c s hc hst => ?refused, fun w s hs h1 hsrc => ?queued, fun w s hs h => ?discarded,
    fun w now s h1 hw hlt hlen hmagic hlost => ?kept, fun w now s h1 hw hlt h0 hmagic hauto hlost => ?badMagic,
    fun now s h1 hlost => ?lost, fun now s h1 hsrc hauto ht => ?silent⟩
  case opens =>
    let u := s.authTaken.openLoad (loadCmdOf c.payload)
    have hregs := u.cmdResult_sameRegs c 0 0
    have hparts := u.cmdResult_sameBut c 0 0
    have hld : (u.cmdResult c 0 0).ld = s.ld.opened (loadCmdOf c.payload) s.clk :=
      (hparts .ld (by decide)).trans (State.openLoad_ld _ _)
    refine ⟨u.cmdResult c 0 0, ?_, (State.rd_of_sameRegs hregs (by decide)).trans (State.openLoad_state _ _),
      (State.rd_of_sameRegs hregs (by decide)).trans (State.openLoad_received _ _), by rw [hld]; rfl, by rw [hld]; rfl,
      by rw [hld]; rfl, ?_, u.cmdResult_status c 0 0⟩
    · rw [structLoad_eq hc, hst]
      rfl
    · exact congrArg Auth.acts ((hparts .auth (by decide)).trans (State.openLoad_auth _ _))
  case refused =>
    let st := s.loadStatus (loadCmdOf c.payload)
    have h32 : st < 32 := s.loadStatus_lt _
    let u := s.authTaken.noteReject st 0 0
    have hregs := u.cmdResult_sameRegs c 13 st
    have hparts := u.cmdResult_sameBut c 13 st
    have hrd {f : Fld} (hf : among [F.AUTH_STAT_STATUS, F.AUTH_STAT_OPCODE] f.key = false) : (u.cmdResult c 13 st).rd f = u.rd f :=
      State.rd_of_sameRegs hregs hf
    have hstate : u.loaderState = s.loaderState := State.rd_of_sameRegs (s.authTaken.noteReject_sameRegs st 0 0) (by decide)
    have hld : u.ld = s.ld := s.authTaken.noteReject_sameBut st 0 0 .ld (by decide)
    obtain ⟨herr, hnew, hsec, hword, hcount⟩ := s.authTaken.noteReject_reads st 0 0
    refine ⟨u.cmdResult c 13 st, ?_, (hrd (by decide)).trans hstate,
      (hparts .ld (by decide)).trans hld, (hrd (by decide)).trans (herr.trans (Nat.mod_eq_of_lt h32)), (hrd (by decide)).trans hnew,
      (hrd (by decide)).trans hsec, (hrd (by decide)).trans hword, (hrd (by decide)).trans hcount, ?_, u.cmdResult_status c 13 st⟩
    · rw [structLoad_eq hc, if_pos (bne_iff_ne.2 hst)]
    · have hr := s.authTaken.noteReject_raises st 0 0
      rw [Nat.mod_eq_of_lt (by omega : st < 2 ^ 24)] at hr
      exact raises_between hr rfl (hparts .rcd (by decide)) (hparts .timeBase (by decide))
  case queued => exact ⟨_, structFifoWrite_taken hs h1 hsrc, rfl, s.onLd_sameBut _, rfl⟩
  case discarded =>
    exact ⟨_, structFifoWrite_discarded hs h, s.inc_rd _, s.wr_sameBut _ _, s.inc_sameRegs_of_mem (by simp)⟩
  case kept =>
    let u := s.atTime now
    have hmod : w % 2 ^ 24 = w := Nat.mod_eq_of_lt hlt
    refine ⟨u.takeWord w, ?_, ?_, ?_, ?_, rfl, (s.atTime_sameBut now).trans State.takeWord_sameBut, State.takeWord_sameRegs⟩
    · rw [imageWordReceived_word h1 hlost hw, State.imageWord_header (s := u) hlen fun h0 => hmod.trans (hmagic h0)]
    · exact (State.rd_of_sameRegs State.takeWord_sameRegs (by decide)).trans h1
    · exact congrArg (· :: s.ld.words) hmod
    · refine (State.rd_wr_same _ _ _).trans (Nat.mod_eq_of_lt (?_ : s.ld.words.length + 1 < 2 ^ 24))
      omega
  case badMagic =>
    let u := s.atTime now
    have hr : Rejected (u.takeWord w) ((u.takeWord w).rejectLoad 1 s.ld.sec 0) 1 s.ld.sec 0 := State.rejectLoad_rejected _ _ _ _ hauto
    have hpend : (u.takeWord w).overlayPending = s.overlayPending :=
      congrArg (· != 0) (State.rd_of_sameRegs State.takeWord_sameRegs (by decide))
    refine ⟨_, ?_, hr.rests.trans (by rw [hpend]), hr.code, hr.words, hr.incoming,
      hr.current, raises_between hr.raises rfl rfl rfl⟩
    rw [imageWordReceived_word h1 hlost hw, State.imageWord_badMagic (s := u) h0 (by rwa [Nat.mod_eq_of_lt hlt])]
    rfl
  case lost =>
    have hr := State.rejectLoad_rejected _ 18 s.ld.sec s.ld.words.length (State.not_auto_of_sourceLost hlost)
    exact ⟨_, imageWordReceived_lost h1 hlost, hr.rests, hr.code, hr.words, hr.incoming,
      hr.current⟩
  case silent =>
    have hr := (s.atTime now).rejectLoad_rejected 16 s.ld.sec s.ld.words.length hauto
    exact ⟨_, structFifoTimeout_eq h1 hsrc ht, hr.rests, hr.code, hr.current⟩

end

section
/-! SUPPORT. What stands when a structure is made active: the registers of STRUCT and PAIR, the loader, the staged writes and the events on
their way. -/

namespace Sys2Proof.Machine

open Sys2Proof Sys2Proof.Safety

/-- A field number of the STRUCT or the PAIR block. -/
def loaderKey (k : Nat) : Bool := decide (k / 0x200000 = 2) || decide (k / 0x200000 = 9)

/-- The registers of STRUCT and PAIR stand, as do the loader and the epoch, and no event of `s` has gone. -/
structure LoaderStands (s t : State) : Prop where
  regs : SameRegs (fun k => !loaderKey k) s t
  ld : t.ld = s.ld
  epoch : t.epoch = s.epoch
  raised : s.rcd.raised ⊆ t.rcd.raised

theorem LoaderStands.rd {s t : State} {f : Fld} (h : LoaderStands s t) (hf : loaderKey f.key = true) : t.rd f = s.rd f :=
  State.rd_of_sameRegs h.regs (by rw [hf]; rfl)

/-- What touches none of these. -/
theorem LoaderStands.beside {s t : State} (hlive : t.live = s.live) (hld : t.ld = s.ld) (hepoch : t.epoch = s.epoch)
    (hraised : t.rcd.raised = s.rcd.raised) : LoaderStands s t :=
  ⟨sameRegs_of_live hlive _, hld, hepoch, hraised ▸ List.Subset.refl _⟩

theorem LoaderStands.refl (s : State) : LoaderStands s s := .beside rfl rfl rfl rfl

theorem LoaderStands.trans {s t u : State} (h : LoaderStands s t) (h' : LoaderStands t u) : LoaderStands s u :=
  ⟨sameRegs_comp h.regs h'.regs, h'.ld.trans h.ld, h'.epoch.trans h.epoch, List.Subset.trans h.raised h'.raised⟩

theorem LoaderStands.foldl {α : Type} {f : State → α → State} {l : List α} (h : ∀ s, ∀ a ∈ l, LoaderStands s (f s a)) (s : State) :
    LoaderStands s (l.foldl f s) := by
  induction l generalizing s with
  | nil => exact .refl s
  | cons a r ih => exact (h s a List.mem_cons_self).trans (ih (fun s b hb => h s b (List.mem_cons_of_mem _ hb)) _)

theorem LoaderStands.forUpTo {f : Nat → State → State} (h : ∀ k s, LoaderStands s (f k s)) (n : Nat) (s : State) :
    LoaderStands s (forUpTo n f s) := by
  induction n with
  | zero => exact .refl s
  | succ k ih => exact ih.trans (h k _)

theorem LoaderStands.ite {s t u : State} {c : Prop} [Decidable c] (ht : LoaderStands s t) (hu : LoaderStands s u) :
    LoaderStands s (if c then t else u) := by
  split
  · exact ht
  · exact hu

/-! The shared operations. -/

section
variable (s : State)

theorem State.wr_stands {f : Fld} (v : Nat) (h : loaderKey f.key = false) : LoaderStands s (s.wr f v) := by
  refine ⟨fun k hk => s.wr_tget?_other f v k ?_, rfl, rfl, List.Subset.refl _⟩
  rintro rfl
  simp [h] at hk

/-- The views of the dies lie above the registers of the package. -/
theorem loaderKey_view {f : Fld} (h : 0x800000 ≤ f.addr) : loaderKey f.key = false := by
  have h2 : ¬ f.key / 0x200000 = 2 := by simp only [Fld.key]; omega
  have h9 : ¬ f.key / 0x200000 = 9 := by simp only [Fld.key]; omega
  simp [loaderKey, h2, h9]

theorem loaderKey_package {f : Fld} (h : f.lo < 32 ∧ f.addr / 0x10000 ≠ 2 ∧ f.addr / 0x10000 ≠ 9) : loaderKey f.key = false := by
  have h2 : ¬ f.key / 0x200000 = 2 := by simp only [Fld.key]; omega
  have h9 : ¬ f.key / 0x200000 = 9 := by simp only [Fld.key]; omega
  simp [loaderKey, h2, h9]

theorem loaderKey_die {f : Fld} {a b : Nat} (h : f.addr = 0x800000 + a + b := by rfl) : loaderKey f.key = false :=
  loaderKey_view (by omega)

theorem loaderKey_dieRow {f : Fld} {a b c : Nat} (h : f.addr = 0x800000 + a + b + c := by rfl) : loaderKey f.key = false :=
  loaderKey_view (by omega)

theorem State.onRcd_stands {f : Recorder → Recorder} (h : s.rcd.raised ⊆ (f s.rcd).raised) : LoaderStands s (s.onRcd f) :=
  ⟨fun _ _ => rfl, rfl, rfl, h⟩

theorem State.event_stands (d c : Nat) (p : List Nat) : LoaderStands s (s.event d c p) :=
  s.onRcd_stands (List.subset_append_left _ _)

theorem State.cause_stands (n : Nat) : LoaderStands s (s.cause n) := .beside rfl rfl rfl rfl

theorem State.life_stands (d n a : Nat) : LoaderStands s (s.life d n a) := .beside rfl rfl rfl rfl

theorem State.causeAt_stands (d n : Nat) : LoaderStands s (s.causeAt d n) := .beside rfl rfl rfl rfl

theorem State.eventOnce_stands (d c k : Nat) (p : List Nat) : LoaderStands s (s.eventOnce d c k p) := by
  refine .ite (.refl s) (.trans ?_ (State.event_stands _ _ _ _))
  exact .ite (.refl s) (.beside rfl rfl rfl rfl)

end

/-! Fields that take effect by their numbers. -/

/-- The entries of the memories lie above the registers. -/
theorem fldOf_memory {k : Nat} (h : ¬ k / 32 < 0x1000000) : 0x800000 ≤ (fldOf k).addr := by
  simp only [fldOf, if_neg h]
  (repeat' split) <;> simp only [nozzleEbOut, nozzleCurve, nozzleWord, trimOf] <;> omega

/-- The field listed under a number of another block is in another block. -/
theorem loaderKey_fldOf {k : Nat} (h : loaderKey k = false) : loaderKey (fldOf k).key = false := by
  by_cases hk : k / 32 < 0x1000000
  · have : (fldOf k).key = k := by simp only [fldOf, if_pos hk]; exact Nat.div_add_mod _ _
    rw [this, h]
  · exact loaderKey_view (fldOf_memory hk)

theorem State.wrKey_stands (s : State) {k : Nat} (v : Nat) (h : loaderKey k = false) : LoaderStands s (s.wrKey k v) := by
  refine .ite (s.wr_stands _ (loaderKey_view ?_)) (s.wr_stands v (loaderKey_fldOf h))
  simp only [nozzleWord]
  omega

theorem State.writeAll_stands (s : State) {fs : List (Nat × Nat)} (h : ∀ f ∈ fs, loaderKey f.1 = false) : LoaderStands s (s.writeAll fs) :=
  .foldl (fun s f hf => s.wrKey_stands f.2 (h f hf)) s

/-! SI fields: none lies in STRUCT or PAIR. -/

/-- A register of a table is described by a row of it. -/
theorem mem_fields_of_fieldsAt {a : Nat} {f : FDesc} (h : f ∈ fieldsAt a) : ∃ r ∈ blockRegs a, f ∈ r.fields := by
  unfold fieldsAt regAt at h
  split at h
  · simp at h
  · cases hr : (blockRegs a).find? fun r => r.at? (a % 0x10000) with
    | none => simp [hr] at h
    | some r => exact ⟨r, List.mem_of_find?_eq_some hr, by simpa [hr] using h⟩

theorem structPair_not_si : ∀ r ∈ regsStruct ++ regsPair, ∀ f ∈ r.fields, f.si = false := by decide

theorem siKey_eq_false (s : State) {k : Nat} (h : loaderKey k = true) : s.siKey k = false := by
  have hb : k / 32 / 0x10000 = 2 ∨ k / 32 / 0x10000 = 9 := by
    simp only [loaderKey, Bool.or_eq_true, decide_eq_true_eq] at h
    omega
  have hregs : blockRegs (k / 32) = pkgRegs (k / 32 / 0x10000) := by
    have : k / 32 < 0x800000 := by omega
    simp [blockRegs, addrDie, this]
  have hsi : ((fieldOf k).map (fun f => f.si && f.kind != FKind.enst)).getD false = false := by
    cases hf : fieldOf k with
    | none => rfl
    | some f =>
      obtain ⟨r, hr, hmem⟩ := mem_fields_of_fieldsAt (List.mem_of_find?_eq_some hf)
      have : r ∈ regsStruct ++ regsPair := by
        rw [hregs] at hr
        rcases hb with hb | hb <;> rw [hb] at hr
        · exact List.mem_append_left _ hr
        · exact List.mem_append_right _ hr
      simp [structPair_not_si r this f hmem]
  simp [State.siKey, hsi]

theorem State.clearSI_stands (s : State) : LoaderStands s s.clearSI := by
  refine ⟨fun k hk => (tget?_filter_key (fun k => !s.siKey k) s.live k).trans ?_, rfl, rfl, List.Subset.refl _⟩
  rw [siKey_eq_false s (by simpa using hk)]
  rfl

end Sys2Proof.Machine
end

section
/-! SUPPORT. The SI fields of a full image (R111). -/

namespace Sys2Proof.Machine

open Sys2Proof Sys2Proof.Safety

theorem Image.bar_lt {m : Image} {r : Nat × Nat × Nat} (h : r ∈ m.barList) : r.1 < 16 := by
  obtain ⟨e, -, rfl⟩ := List.mem_map.1 h
  exact Nat.mod_lt _ (by decide)

theorem Image.cam_lt {m : Image} {r : Nat × Nat} (h : r ∈ m.camList) : r.1 < 8 := by
  obtain ⟨e, -, rfl⟩ := List.mem_map.1 h
  exact Nat.mod_lt _ (by decide)

/-! The numbers of the fields that the sections set. -/

theorem loaderKey_irqFields {e : List Nat} {f : Nat × Nat} (h : f ∈ irqFields e) : loaderKey f.1 = false := by
  simp only [irqFields, List.mem_cons, List.not_mem_nil, or_false] at h
  rcases h with rfl | rfl | rfl
  · exact loaderKey_dieRow
  · exact loaderKey_dieRow
  · exact loaderKey_dieRow

theorem loaderKey_policyFields {d key v : Nat} {f : Nat × Nat} (h : f ∈ policyFields d key v) : loaderKey f.1 = false := by
  dsimp only [policyFields] at h
  split at h
  case h_1 => rw [List.mem_singleton.1 h]; exact loaderKey_die
  case h_2 => rw [List.mem_singleton.1 h]; exact loaderKey_die
  case h_3 =>
    split at h
    · simp at h
    · split at h <;> simp only [List.mem_singleton, List.not_mem_nil] at h <;> rw [h] <;> exact loaderKey_package (by decide)

section
variable (s : State) (m : Image)

theorem State.ringFields_stands {q : Nat} (h : q < 256) (type depth ring en : Nat) : LoaderStands s
    ((((s.wr (F.QUE_CTL_TYPE q) type).wr (F.QUE_CTL_DEPTH q) depth).wr (F.QUE_ANS_RING q) ring).wr (F.QUE_ANS_EN q) en) :=
  (((s.wr_stands _ (loaderKey_package (by simp only [F.QUE_CTL_TYPE]; omega))).trans
    (State.wr_stands _ _ (loaderKey_package (by simp only [F.QUE_CTL_DEPTH]; omega)))).trans
    (State.wr_stands _ _ (loaderKey_package (by simp only [F.QUE_ANS_RING]; omega)))).trans
    (State.wr_stands _ _ (loaderKey_package (by simp only [F.QUE_ANS_EN]; omega)))

theorem State.barDelay_stands {n : Nat} (h : n < 16) (v : Nat) : LoaderStands s (s.wr (F.EPOCH_DELAY_BAR_DELAY n) v) :=
  s.wr_stands _ (loaderKey_package (by simp only [F.EPOCH_DELAY_BAR_DELAY]; omega))

theorem State.camDelay_stands {n : Nat} (h : n < 8) (v : Nat) : LoaderStands s (s.wr (F.EPOCH_DELAY_CAM_DELAY n) v) :=
  s.wr_stands _ (loaderKey_package (by simp only [F.EPOCH_DELAY_CAM_DELAY]; omega))

theorem State.judgeGeometry_stands : LoaderStands s (s.judgeGeometry m) :=
  .foldl (fun s _ _ => .ite (s.wr_stands 1 loaderKey_die) (.refl s)) s

theorem State.groupFields_stands (g : Nat) : LoaderStands s (s.groupFields m g) :=
  (s.wr_stands _ loaderKey_dieRow).trans (State.wr_stands _ _ loaderKey_dieRow)

theorem State.widthField_stands (p : Nat) : LoaderStands s (s.widthField m p) := s.wr_stands _ loaderKey_dieRow

theorem State.setSI_stands : LoaderStands s (s.setSI m) := by
  simp only [State.setSI]
  refine .trans ?_ (.foldl (fun s p _ => s.widthField_stands m p) _)
  refine .trans ?_ (.foldl (fun s g _ => s.groupFields_stands m g) _)
  refine .trans ?_ (State.writeAll_stands _ ?policy)
  refine .trans ?_ (State.writeAll_stands _ ?irq)
  refine .trans ?_ (State.writeAll_stands _ ?eq)
  refine .trans ?_ (.foldl (fun s e _ => s.ringFields_stands (Nat.mod_lt _ (by decide)) _ _ _ _) _)
  refine .trans ?_ (.foldl (fun s r hr => s.camDelay_stands (Image.cam_lt hr) _) _)
  refine .trans ?_ (.foldl (fun s r hr => s.barDelay_stands (Image.bar_lt hr) _) _)
  refine .trans ?_ (.foldl (fun s d _ => (s.wr_stands _ loaderKey_dieRow).trans (State.wr_stands _ _ loaderKey_die)) _)
  refine .trans ?_ ((State.wr_stands _ _ rfl).trans (State.wr_stands _ _ rfl))
  refine .trans ?_ (State.wr_stands _ _ rfl)
  refine s.clearSI_stands.trans (State.writeAll_stands _ ?defaults)
  case policy =>
    intro f hf
    obtain ⟨k, -, hk⟩ := List.mem_flatMap.1 hf
    obtain ⟨d, -, hd⟩ := List.mem_flatMap.1 hk
    exact loaderKey_policyFields hd
  case irq =>
    intro f hf
    obtain ⟨e, -, he⟩ := List.mem_flatMap.1 hf
    exact loaderKey_irqFields he
  case eq =>
    intro f hf
    obtain ⟨i, -, rfl⟩ := List.mem_map.1 hf
    exact loaderKey_dieRow
  case defaults =>
    intro f hf
    cases hk : loaderKey f.1 with
    | false => rfl
    | true => simp [siKey_eq_false _ hk] at hf

end

end Sys2Proof.Machine
end

section
/-! SUPPORT. The units that a full image starts, stops or retrains (R356, R392, R469, R603). -/

namespace Sys2Proof.Machine

open Sys2Proof Sys2Proof.Safety

/-- The blocks whose EN an image sets: cameras, LED chains and engines. -/
inductive ImageBlock : Block → Prop
  | cam (d : Nat) : ImageBlock (.cam d)
  | led (c : Nat) : ImageBlock (.led c)
  | eng (e : Nat) : ImageBlock (.eng e)

/-- Their control registers lie in the view of their die. -/
theorem ImageBlock.view {b : Block} (h : ImageBlock b) : 0x800000 ≤ blockCtl b := by
  cases h <;> simp only [blockCtl, blockInfo, dieAt] <;> omega

section
variable (s : State)

theorem State.onBoot_stands (f : Boot → Boot) : LoaderStands s (s.onBoot f) := .beside rfl rfl rfl rfl

theorem State.onCam_stands (d : Nat) (f : Camera → Camera) : LoaderStands s (s.onCam d f) := .beside rfl rfl rfl rfl

theorem State.nextCci_stands (d : Nat) (done : Option CciWork) : LoaderStands s (s.nextCci d done) := by
  simp only [State.nextCci]
  (repeat' split) <;> exact .beside rfl rfl rfl rfl

theorem State.camStart_stands (d : Nat) : LoaderStands s (s.camStart d) :=
  ((s.wr_stands 0 loaderKey_die).trans (State.onCam_stands _ _ _)).trans (State.nextCci_stands _ _ _)

theorem State.ledStopping_stands (c : Nat) : LoaderStands s (s.ledStopping c) := by
  simp only [State.ledStopping, State.ledDark]
  split <;> exact .beside rfl rfl rfl rfl

end

section
variable {b : Block} (h : ImageBlock b) (s : State)
include h

theorem State.wr_block_stands (lo w v : Nat) : LoaderStands s (s.wr (blockFld b lo w) v) :=
  s.wr_stands v (loaderKey_view (h.view))

theorem State.failStart_stands : LoaderStands s (s.failStart b) :=
  (((s.wr_block_stands h 4 2 0).trans (State.wr_block_stands h _ 6 1 1)).trans (State.wr_block_stands h _ 2 1 0)).trans
    (State.event_stands _ _ _ _)

theorem State.beginStart_stands : LoaderStands s (s.beginStart b) := by
  refine .ite ?fails (.trans (s.wr_block_stands h 4 2 1) ?begins)
  case fails => cases h <;> exact s.failStart_stands (by constructor)
  case begins =>
    cases h with
    | cam d => exact State.camStart_stands _ d
    | led => exact .refl _
    | eng => exact .refl _

theorem State.stopBegins_stands : LoaderStands s (s.stopBegins b) := by
  cases h with
  | cam => exact .beside rfl rfl rfl rfl
  | led c => exact s.ledStopping_stands c
  | eng => exact .refl _

theorem State.enWrite_stands (en : Bool) : LoaderStands s (s.enWrite b en) := by
  simp only [State.enWrite]
  refine .ite (.refl s) (.trans (s.wr_block_stands h 0 1 (nat en)) ?_)
  split
  · exact .ite (State.beginStart_stands h _) (.refl _)
  · exact State.wr_block_stands h _ _ _ _
  · exact .ite (.refl _) ((State.wr_block_stands h _ _ _ _).trans (State.stopBegins_stands h _))
  · exact State.wr_block_stands h _ _ _ _

end

section
variable (s : State)

theorem State.setEnSI_stands (m : Image) : LoaderStands s (s.setEnSI m) := by
  refine .foldl (fun s b hb => ?_) s
  have hb' : ImageBlock b := by
    simp only [List.mem_append, List.mem_map] at hb
    obtain ⟨d, -, rfl⟩ | ⟨c, -, rfl⟩ := hb <;> constructor
  exact .ite (s.enWrite_stands hb' _) (s.wr_block_stands hb' _ _ _)

theorem State.reloadEngines_stands : LoaderStands s s.reloadEngines := by
  refine .trans (t := { s with eng := { s.eng with sparedBy := [] } }) (.beside rfl rfl rfl rfl) (.foldl (fun s e _ => ?_) _)
  have hb := ImageBlock.eng e
  refine .trans ?_ (.ite (State.enWrite_stands hb _ true) (.refl _))
  exact (((s.wr_block_stands hb 0 1 0).trans (State.wr_block_stands hb _ 4 2 0)).trans (State.wr_block_stands hb _ 1 1 0)).trans
    (State.wr_stands _ _ loaderKey_die)

theorem State.setLink_stands (g v : Nat) : LoaderStands s (s.setLink g v) := (s.wr_stands v loaderKey_dieRow).trans (.beside rfl rfl rfl rfl)

theorem State.onPress_stands (f : Press → Press) : LoaderStands s (s.onPress f) := .beside rfl rfl rfl rfl

theorem State.lanStopping_stands (g : Nat) : LoaderStands s (s.lanStopping g) := by
  unfold State.lanStopping
  extract_lets d i down old idle out
  have hdown : LoaderStands s down :=
    ((s.setLink_stands g 0).trans (State.wr_stands _ _ loaderKey_dieRow)).trans (State.wr_stands _ _ loaderKey_dieRow)
  have hidle : LoaderStands s idle := hdown.trans (State.onPress_stands _ _)
  have hout : LoaderStands s out := hidle.trans (.ite (State.wr_stands _ _ loaderKey_dieRow) (.refl _))
  split
  · have hread (v : Nat) : LoaderStands out ((out.wr (F.LAN_MRD_STAT_BUSY d) 0).wr (F.LAN_MRD_STAT_RESULT d) v) :=
      (out.wr_stands 0 loaderKey_die).trans (State.wr_stands _ _ loaderKey_die)
    exact hout.trans (.ite ((hread 2).trans (State.onPress_stands _ _)) (.refl _))
  · exact hout

theorem State.groupDown_stands (g : Nat) (down : Bool) : LoaderStands s (s.groupDown g down) :=
  (s.onBoot_stands _).trans (State.wr_stands _ _ rfl)

theorem State.reloadGroups_stands : LoaderStands s s.reloadGroups := by
  refine .foldl (fun s g _ => ?_) s
  have hw (t : State) (lo w v : Nat) : LoaderStands t (t.wr (blockFld (.lan g) lo w) v) := t.wr_stands v loaderKey_die
  exact (((((s.lanStopping_stands g).trans (hw _ 2 1 0)).trans (hw _ 1 1 0)).trans (hw _ 0 1 _)).trans (hw _ 4 2 _)).trans
    (State.groupDown_stands _ _ _)

end

end Sys2Proof.Machine
end

section
/-! SUPPORT. The rest of a full load: the clamps, the stages of the dies, the interrupt targets (R128, R274, R289, R476); and the switch of the
banks (R95, R111). -/

namespace Sys2Proof.Machine

open Sys2Proof Sys2Proof.Safety

section
variable (s : State)

theorem State.noteFilters_stands (old : State) : LoaderStands s (s.noteFilters old) :=
  .foldl (fun s _ _ => .ite (.refl s) (s.onPress_stands _)) s

theorem State.maxDelay_stands (p : Nat) : LoaderStands s (s.maxDelay p) := s.wr_stands _ loaderKey_dieRow

theorem State.judgeClamp_stands (p : Nat) : LoaderStands s (s.judgeClamp p) := by
  simp only [State.judgeClamp]
  split
  · exact .refl s
  · refine (s.maxDelay_stands p).trans (.foldl (fun s e _ => .ite ?_ (.refl s)) _)
    exact ((s.wr_stands _ loaderKey_die).trans (State.event_stands _ _ _ _)).trans (State.causeAt_stands _ _ _)

/-! Stages. -/

theorem State.memStage_stands (d : Nat) (trained init : Bool) : LoaderStands s (s.memStage d trained init) :=
  (((s.wr_stands _ rfl).trans (State.wr_stands _ _ rfl)).trans (State.wr_stands _ _ loaderKey_die)).trans (State.wr_stands _ _ loaderKey_die)

theorem State.startTraining_stands (d : Nat) : LoaderStands s (s.startTraining d) :=
  ((s.wr_stands 4 loaderKey_die).trans (State.memStage_stands _ d false false)).trans
    (.ite (.foldl (fun s _ _ => s.wr_stands _ loaderKey_dieRow) _) (.refl _))

theorem State.packStage_stands : LoaderStands s s.packStage := s.wr_stands _ rfl

theorem State.clearFail_stands (row : Nat) : LoaderStands s (s.clearFail row) :=
  .ite (((s.onBoot_stands _).trans (State.wr_stands _ _ rfl)).trans (State.wr_stands _ _ rfl)) (.refl s)

/-! Interrupt targets. -/

theorem State.onIrq_stands (f : Irq → Irq) : LoaderStands s (s.onIrq f) := .beside rfl rfl rfl rfl

theorem State.assignTarget_stands (g : Nat) : LoaderStands s (s.assignTarget g) := by
  unfold State.assignTarget
  split
  · exact .refl s
  · split
    · exact (s.onIrq_stands _).trans (State.onRcd_stands _ (List.Subset.refl _))
    · exact .ite (.refl s) ((s.wr_stands _ rfl).trans (State.eventOnce_stands _ _ _ _ _))

theorem State.sendMsix_stands (v : Nat) : LoaderStands s (s.sendMsix v) := .beside rfl rfl rfl rfl

theorem State.deliver_stands (t : Nat) : LoaderStands s (s.deliver t) := by
  have hfull : LoaderStands s (s.noteFullStack t) :=
    .ite (.refl s) (.foldl (fun s g _ => .ite (.refl s) ((s.wr_stands _ rfl).trans (State.eventOnce_stands _ _ _ _ _))) s)
  exact hfull.trans (.ite (.refl _) ((State.onIrq_stands _ _).trans (State.sendMsix_stands _ _)))

theorem State.deliverAll_stands : LoaderStands s s.deliverAll := by
  unfold State.deliverAll
  exact .forUpTo (fun t s => s.deliver_stands t) _ _

theorem State.assignPending_stands : LoaderStands s s.assignPending :=
  .trans (.foldl (fun s g _ => .ite (s.assignTarget_stands g) (.refl s)) s) (State.deliverAll_stands _)

end

/-! The switch. -/

/-- The registers of STRUCT that name the active structure. -/
def activeFields : List Fld :=
  [F.STRUCT_STAT_LOADED, F.STRUCT_CUR_ID_VALUE, F.STRUCT_DCLASS_VALUE, F.STRUCT_FW_CLASS_VALUE, F.STRUCT_TOOL_TOOL]

/-- They name a structure. -/
def State.nameActive (s : State) (m : Image) : State :=
  ((((s.wr F.STRUCT_STAT_LOADED 1).wr F.STRUCT_CUR_ID_VALUE m.id).wr F.STRUCT_DCLASS_VALUE m.dclass).wr F.STRUCT_FW_CLASS_VALUE m.fwClass).wr
    F.STRUCT_TOOL_TOOL m.tool

section
variable (s : State) (m : Image)

theorem State.nameActive_reads : (s.nameActive m).rd F.STRUCT_STAT_LOADED = 1 ∧
    (s.nameActive m).rd F.STRUCT_CUR_ID_VALUE = m.id % 2 ^ 24 ∧ (s.nameActive m).rd F.STRUCT_DCLASS_VALUE = m.dclass % 2 ^ 24 := by
  simp (disch := decide) only [State.nameActive, State.rd_wr_other, State.rd_wr_same]
  exact ⟨rfl, rfl, rfl⟩

theorem State.nameActive_sameRegs : SameRegs (among activeFields) s (s.nameActive m) :=
  sameRegs_comp (sameRegs_comp (sameRegs_comp (sameRegs_comp (s.wr_sameRegs_of_mem (by simp [activeFields]) _)
    (State.wr_sameRegs_of_mem (by simp [activeFields]) _ _)) (State.wr_sameRegs_of_mem (by simp [activeFields]) _ _))
    (State.wr_sameRegs_of_mem (by simp [activeFields]) _ _)) (State.wr_sameRegs_of_mem (by simp [activeFields]) _ _)

end

/-- What the switch to the structure `m` leaves. -/
structure Switched (s t : State) (m : Image) : Prop where
  rests : t.loaderState = if s.overlayPending then 3 else 0
  current : t.ld.current = m
  loaded : t.rd F.STRUCT_STAT_LOADED = 1
  id : t.rd F.STRUCT_CUR_ID_VALUE = m.id % 2 ^ 24
  dclass : t.rd F.STRUCT_DCLASS_VALUE = m.dclass % 2 ^ 24
  stage : t.epoch.stage = []
  role : t.role = s.role
  told : ∃ r ∈ t.rcd.raised, r.code = 0x0201 ∧ r.payload = [m.id % 2 ^ 24, m.dclass % 2 ^ 24]

theorem Switched.stands {s t u : State} {m : Image} (h : Switched s t m) (h' : LoaderStands t u) : Switched s u m where
  rests := (h'.rd (by decide)).trans h.rests
  current := h'.ld ▸ h.current
  loaded := (h'.rd (by decide)).trans h.loaded
  id := (h'.rd (by decide)).trans h.id
  dclass := (h'.rd (by decide)).trans h.dclass
  stage := h'.epoch ▸ h.stage
  role := (h'.rd (by decide)).trans h.role
  told := by
    obtain ⟨r, hr, hcode, hpayload⟩ := h.told
    exact ⟨r, h'.raised hr, hcode, hpayload⟩

/-- The loader rests after its structure has become active. -/
theorem Switched.rest {s u : State} {m : Image} (hp : u.overlayPending = s.overlayPending) (hc : u.ld.current = m)
    (hl : u.rd F.STRUCT_STAT_LOADED = 1) (hi : u.rd F.STRUCT_CUR_ID_VALUE = m.id % 2 ^ 24)
    (hd : u.rd F.STRUCT_DCLASS_VALUE = m.dclass % 2 ^ 24) (hs : u.epoch.stage = []) (hr : u.role = s.role)
    (ht : ∃ r ∈ u.rcd.raised, r.code = 0x0201 ∧ r.payload = [m.id % 2 ^ 24, m.dclass % 2 ^ 24]) : Switched s u.loaderRest m where
  rests := by rw [State.loaderRest_state, hp]
  current := hc
  loaded := (State.rd_of_sameRegs u.loaderRest_sameRegs (by decide)).trans hl
  id := (State.rd_of_sameRegs u.loaderRest_sameRegs (by decide)).trans hi
  dclass := (State.rd_of_sameRegs u.loaderRest_sameRegs (by decide)).trans hd
  stage := hs
  role := (State.rd_of_sameRegs u.loaderRest_sameRegs (by decide)).trans hr
  told := ht

theorem State.switchBanks_switched (s : State) : Switched s s.switchBanks s.ld.incoming := by
  unfold State.switchBanks
  extract_lets before m fields taken emptied named banked told units clamped trained
  have hfields : LoaderStands s fields := (s.judgeGeometry_stands m).trans (State.setSI_stands _ m)
  clear_value fields
  have hnamed : SameRegs (among activeFields) emptied named := emptied.nameActive_sameRegs m
  have hbanked : LoaderStands named banked := .foldl (fun s _ _ => s.wr_stands _ loaderKey_die) named
  have htold : LoaderStands named told :=
    hbanked.trans (((banked.event_stands _ _ _).trans (State.cause_stands _ _)).trans (State.life_stands _ _ _ _))
  have hold {f : Fld} (hf : loaderKey f.key = true) (ha : among activeFields f.key = false)
      (hq : f.key ≠ F.EPOCH_QSTAT_STAGE_OVF.key) : told.rd f = s.rd f :=
    (htold.rd hf).trans ((State.rd_of_sameRegs hnamed ha).trans ((taken.rd_wr_other _ _ _ hq).trans (hfields.rd hf)))
  obtain ⟨hloaded, hid, hdclass⟩ := emptied.nameActive_reads m
  have hrest : Switched s told.loaderRest m := .rest (congrArg (· != 0) (hold (by decide) (by decide) (by decide)))
    (congrArg Loader.current htold.ld) ((htold.rd (by decide)).trans hloaded) ((htold.rd (by decide)).trans hid)
    ((htold.rd (by decide)).trans hdclass) (congrArg Epoch.stage htold.epoch) (hold (by decide) (by decide) (by decide))
    ⟨_, List.mem_append_right _ (List.mem_singleton.2 rfl), rfl, rfl⟩
  have hunits : LoaderStands told.loaderRest units :=
    ((State.setEnSI_stands _ m).trans (State.reloadEngines_stands _)).trans (State.reloadGroups_stands _)
  have hclamped : LoaderStands units clamped := (units.noteFilters_stands before).trans (.foldl (fun s p _ => s.judgeClamp_stands p) _)
  have htrained : LoaderStands clamped trained :=
    .ite (.trans (.foldl (fun s d _ => .ite (s.startTraining_stands d) (.refl s)) _) (State.packStage_stands _)) (.refl _)
  exact hrest.stands (((hunits.trans hclamped).trans htrained).trans ((trained.clearFail_stands 4).trans (State.assignPending_stands _)))

end Sys2Proof.Machine
end

section
/-! SUPPORT. The events that end VERIFYING, APPLYING and STORING (R109 to R111, R118). -/

namespace Sys2Proof.Machine

open Sys2Proof Sys2Proof.Safety

section
variable {s : State} {now : Nat}

theorem structVerifyDone_lost (h2 : s.loaderState = 2) (hl : (s.atTime now).sourceLost = true) :
    exec (.structVerifyDone now) s = .next ((s.atTime now).rejectLoad 18 (s.ld.sec - 1) (s.ld.words.length - 1)) := by
  have h2' : (s.atTime now).loaderState = 2 := h2
  change execStructVerifyDone now s = _
  simp only [execStructVerifyDone, h2', hl]
  rfl

theorem structVerifyDone_badTag (h2 : s.loaderState = 2) (hl : (s.atTime now).sourceLost = false) (ht : s.imageTagOk = false) :
    exec (.structVerifyDone now) s = .next ((s.atTime now).rejectLoad 8 (s.ld.sec - 1) (s.ld.words.length - 8)) := by
  have h2' : (s.atTime now).loaderState = 2 := h2
  have ht' : (s.atTime now).imageTagOk = false := ht
  change execStructVerifyDone now s = _
  simp only [execStructVerifyDone, h2', hl, ht']
  rfl

/-- An image that holds leads to STORING, a commit or APPLYING. -/
theorem structVerifyDone_held (h2 : s.loaderState = 2) (hl : (s.atTime now).sourceLost = false) (ht : s.imageTagOk = true)
    (hf : s.badFirmware = none) : exec (.structVerifyDone now) s = .next
    (let u := (s.atTime now).releaseSource
     if u.ld.cmd.store != 0 then (u.setSlot u.ld.cmd.store none).setLoader 5
     else if u.ld.cmd.overlay then u.captureOverlay else u.setLoader 4) := by
  have h2' : (s.atTime now).loaderState = 2 := h2
  have ht' : (s.atTime now).imageTagOk = true := ht
  have hf' : (s.atTime now).badFirmware = none := hf
  change execStructVerifyDone now s = _
  simp only [execStructVerifyDone, h2', hl, ht', hf']
  rfl

theorem State.verified_sameBut (s : State) (now : Nat) : SameBut [.clk, .timeBase, .win] s (s.atTime now).releaseSource :=
  (s.atTime_sameBut now).trans (State.releaseSource_sameBut _)

/-- On a unit without a partner the switch tells nobody. -/
theorem structBanksSwitched_eq (h4 : s.loaderState = 4) (h0 : s.role = 0) :
    exec (.structBanksSwitched now) s = .next (s.atTime now).switchBanks := by
  have h4' : (s.atTime now).loaderState = 4 := h4
  have h0' : (s.atTime now).switchBanks.role = 0 := (s.atTime now).switchBanks_switched.role.trans h0
  change execStructBanksSwitched now s = _
  simp only [execStructBanksSwitched, h4', if_true, State.classFrom, h0', decide_true, Bool.true_or]

theorem structStoreDone_failed (h5 : s.loaderState = 5) :
    exec (.structStoreDone false now) s = .next ((s.atTime now).rejectLoad 20 (s.ld.sec - 1) (s.ld.words.length - 1)) := by
  have h5' : (s.atTime now).loaderState = 5 := h5
  change execStructStoreDone false now s = _
  simp only [execStructStoreDone, h5']
  rfl

/-- A store that is not to be applied ends in the slot. -/
theorem structStoreDone_stored (h5 : s.loaderState = 5) (hok : s.flash.ok = true) (hn : s.ld.cmd.noApply = true) :
    exec (.structStoreDone true now) s = .next
      (((((s.atTime now).setSlot s.ld.cmd.store (some (slotDesc s.ld.image ++ s.ld.image))).event 0 0x0204
        [s.ld.cmd.store, s.ld.incoming.id]).cause 18).loaderRest) := by
  have h5' : (s.atTime now).loaderState = 5 := h5
  have hok' : (s.atTime now).flash.ok = true := hok
  have hn' : (s.atTime now).ld.cmd.noApply = true := hn
  change execStructStoreDone true now s = _
  simp only [execStructStoreDone, h5', hok', hn']
  rfl

end

end Sys2Proof.Machine
end

section

open Sys2Proof Sys2Proof.Machine Sys2Proof.Safety

/-- Settles O10, clause by clause: the rejections through `State.rejectLoad_rejected`, the switch through `State.switchBanks_switched`. -/
theorem loaderFinishes : Obligations.LoaderFinishes := by
  refine ⟨fun now s h2 hl ht hf hs ho => ?applies, fun now s h2 hl ht hf hs => ?stores, fun now s h2 hl ht hauto => ?badTag,
    fun now s h2 hl => ?lost, fun now s h4 h0 => ?switches, fun now s h5 hok hs hn => ?stored, fun now s h5 hauto => ?failed⟩
  case applies =>
    let u := (s.atTime now).releaseSource
    have hparts := s.verified_sameBut now
    have hld : u.ld = s.ld := hparts .ld (by decide)
    refine ⟨u.setLoader 4, ?_, State.rd_wr_same _ _ _, hld, congrArg Recorder.raised (hparts .rcd (by decide))⟩
    rw [structVerifyDone_held h2 hl ht hf]
    simp only [hld, hs, ho, u]
    rfl
  case stores =>
    let u := (s.atTime now).releaseSource
    have hparts := s.verified_sameBut now
    have hld : u.ld = s.ld := hparts .ld (by decide)
    have hflash : u.flash = s.flash := hparts .flash (by decide)
    refine ⟨(u.setSlot 1 none).setLoader 5, ?_, State.rd_wr_same _ _ _, hld, rfl, ?_⟩
    · rw [structVerifyDone_held h2 hl ht hf]
      simp only [hld, hs, u]
      rfl
    · change u.flash.slotB = s.flash.slotB
      rw [hflash]
  case badTag =>
    have hr := (s.atTime now).rejectLoad_rejected 8 (s.ld.sec - 1) (s.ld.words.length - 8) hauto
    exact ⟨_, structVerifyDone_badTag h2 hl ht, hr.rests, hr.code, hr.current, hr.incoming, State.rd_of_sameRegs hr.regs (by decide)⟩
  case lost =>
    have hr := State.rejectLoad_rejected _ 18 (s.ld.sec - 1) (s.ld.words.length - 1) (State.not_auto_of_sourceLost hl)
    exact ⟨_, structVerifyDone_lost h2 hl, hr.rests, hr.code, hr.current, hr.incoming⟩
  case switches =>
    have h := (s.atTime now).switchBanks_switched
    exact ⟨_, structBanksSwitched_eq h4 h0, h.rests, h.current, h.loaded, h.id, h.dclass, h.stage, h.told⟩
  case stored =>
    refine ⟨_, structStoreDone_stored h5 hok hn, State.loaderRest_state _, ?_, ?_, rfl, rfl, ?_⟩
    · rw [hs]; rfl
    · rw [hs]; rfl
    · rw [hs]
      exact ⟨_, List.mem_append_right _ (List.mem_singleton.2 rfl), rfl, rfl⟩
  case failed =>
    have hr := (s.atTime now).rejectLoad_rejected 20 (s.ld.sec - 1) (s.ld.words.length - 1) hauto
    exact ⟨_, structStoreDone_failed h5, hr.rests, hr.code, hr.parts .flash (by decide), hr.current⟩

end
